-- ==== Sys2Proof/Word.lean ====
section
/-! DEFINITION. The word types of the Akfodun and the number of a shaft. -/

namespace Sys2Proof

/-- One byte. -/
abbrev Byte := BitVec 8

/-- A Cage register word (R39). -/
abbrev Word := BitVec 32

/-- A hewer work register, a directory entry, one eighth of a tub. -/
abbrev DWord := BitVec 64

/-- A shaft number, S0 to S7; also a portal number, P0 to P7, of one shaft. -/
abbrev Shaft := Fin 8

/-- A portal number, P0 to P7, of one shaft. -/
abbrev Portal := Fin 8

end Sys2Proof
end

