-- ==== Sys2Proof/Machine/CageTypes.lean ====
section
/-! DEFINITION. The Cage's frames and replies (R63, R69), the event log's entries (R81), and the waiting operations of the queue
manager (R249, R251, R257). -/

namespace Sys2Proof.Machine

/-- What a command frame carries besides its opcode (R63): TAG, the 40 bits of ADDR with the reserved ones, the 16 bits of LEN with the
reserved ones, ARG, the HCRC received, the nibbles received, and, for an IN opcode, the data words and the DCRC received. -/
structure Frame where
  tag : Byte
  addr : BitVec 40
  len : BitVec 16
  arg : Byte
  hcrc : BitVec 16
  nibbles : Nat
  data : List Word
  dcrc : Word
  deriving DecidableEq, Repr

/-- A reply (R69): the Lamp and the Result of STATUS, ATTN, TAG, OPCODE, LEN, the header's HCRC, the data words and, when there are any, their
CRC-32. -/
structure Reply where
  lamp : BitVec 4
  result : BitVec 4
  attn : BitVec 8
  tag : Byte
  opcode : Byte
  len : BitVec 16
  hcrc : BitVec 16
  data : List Word
  dcrc : Option Word
  deriving DecidableEq, Repr

/-- An entry of the event log (R81); `detail` holds bytes 16 to 27. -/
structure LogEntry where
  time : BitVec 64
  code : BitVec 16
  severity : BitVec 8
  source : BitVec 8
  unit : BitVec 16
  seq : BitVec 16
  detail : BitVec 96
  dropped : BitVec 16
  deriving DecidableEq, Repr

/-- An event raised at most once per second (R138 and others): when the last entry was written, in µs, and what has happened since. -/
structure Limit where
  last : Option Nat
  count : Nat
  deriving DecidableEq, Repr

/-- The Cage: whether it is ready (R76, R469) and since when (R84), whether a command phase has been taken whose reply phase is still
due (R61), the stored reply (R74), the reply to the last command phase, the last host contact, and whether HOST_SILENT has been written since.
Times in µs. -/
structure CageSt where
  ready : Bool
  readyAt : Nat
  replyDue : Bool
  stored : Option Reply
  sent : Option Reply
  contact : Nat
  silent : Bool
  deriving DecidableEq, Repr

end Sys2Proof.Machine
end

