-- ==== Sys2Proof/Machine/Table.lean ====
section
/-! DEFINITION. Sparse tables: a list of numbered values in rising order of their numbers, with no entry equal to the
default, so that equal tables are equal lists. Every array of the State that starts out uniform is one. -/

namespace Sys2Proof.Machine

/-- A sparse table of values numbered by `Nat`; a number not listed has the default the reader passes. -/
abbrev Tbl (V : Type) := List (Nat × V)

/-- The value of number `k`, or the default `d`. -/
def Tbl.get {V : Type} (d : V) : Tbl V → Nat → V
  | [], _ => d
  | (k', v) :: t, k => if k = k' then v else Tbl.get d t k

/-- Take number `k` out. -/
def Tbl.erase {V : Type} (t : Tbl V) (k : Nat) : Tbl V := t.filter (fun e => e.1 != k)

/-- Put `(k, v)` in front of the first greater number. -/
def Tbl.insert {V : Type} (k : Nat) (v : V) : Tbl V → Tbl V
  | [] => [(k, v)]
  | (k', v') :: t => if k < k' then (k, v) :: (k', v') :: t else (k', v') :: Tbl.insert k v t

/-- Write number `k`; writing the default takes the number out. -/
def Tbl.set {V : Type} [DecidableEq V] (d : V) (t : Tbl V) (k : Nat) (v : V) : Tbl V :=
  if v = d then Tbl.erase t k else Tbl.insert k v (Tbl.erase t k)

/-- Apply `f` to number `k`. -/
def Tbl.upd {V : Type} [DecidableEq V] (d : V) (t : Tbl V) (k : Nat) (f : V → V) : Tbl V :=
  Tbl.set d t k (f (Tbl.get d t k))

/-- Keep only the numbers `p` accepts. -/
def Tbl.keep {V : Type} (p : Nat → Bool) (t : Tbl V) : Tbl V := t.filter (fun e => p e.1)

/-- Apply `f` to every listed value, dropping those that become the default. -/
def Tbl.mapAll {V : Type} [DecidableEq V] (d : V) (f : Nat → V → V) (t : Tbl V) : Tbl V :=
  (t.map (fun e => (e.1, f e.1 e.2))).filter (fun e => decide (e.2 ≠ d))

/-- The canonical form: numbers strictly rising, no listed value equal to the default. -/
def Tbl.wf {V : Type} [DecidableEq V] (d : V) : Tbl V → Bool
  | [] => true
  | [(_, v)] => decide (v ≠ d)
  | (k, v) :: (k', v') :: t => decide (v ≠ d) && decide (k < k') && Tbl.wf d ((k', v') :: t)

end Sys2Proof.Machine
end

