-- ==== Sys2Proof/Machine/TubTypes.lean ====
section
/-! DEFINITION. A tub with its sideband (R120, R122), the message header inside it (R124), and the reading and writing of its
bytes. -/

namespace Sys2Proof.Machine

/-- A tub: the sideband fields of R122 and the 64 bytes, byte 0 in bits [7:0]. The CHECK code is not held: a damaged flit is an
operand of the step that meets it. `ans` and `ep` are the model's own marks: of the tub that is its tally's answer (R129), and of the
epoch a REQ opens with when it arrived around a switch of two devices (R394). -/
structure Tub where
  cls : BitVec 4
  tv : Bool
  tally : BitVec 15
  gen : BitVec 8
  line : BitVec 6
  poison : Bool
  unconf : Bool
  wdog : Bool
  seq : BitVec 8
  spc : Bool
  ans : Bool
  ep : Option Bool
  body : BitVec 512
  deriving DecidableEq, Repr

/-- A tub of zeros. -/
def Tub.zero : Tub := ⟨0, false, 0, 0, 0, false, false, false, 0, false, false, none, 0⟩

/-- Tub classes (R120). -/
def Cls.REQ : BitVec 4 := 0x0
def Cls.SNP : BitVec 4 := 0x1
def Cls.RSP : BitVec 4 := 0x2
def Cls.DAT : BitVec 4 := 0x3
def Cls.MEM : BitVec 4 := 0x4
def Cls.MRS : BitVec 4 := 0x5
def Cls.MGT : BitVec 4 := 0x6
def Cls.MRK : BitVec 4 := 0x7
def Cls.TIM : BitVec 4 := 0x8
def Cls.USR : BitVec 4 := 0x9
def Cls.HAU : BitVec 4 := 0xA

/-- Is the class one of 0xB to 0xF (R120)? -/
def Cls.reserved (c : BitVec 4) : Bool := 0xB ≤ c.toNat

/-- Virtual channel of a class (R94). -/
def Cls.vc (c : BitVec 4) : BitVec 2 :=
  if c = Cls.SNP then 1
  else if c = Cls.REQ ∨ c = Cls.MEM ∨ c = Cls.MGT ∨ c = Cls.USR then 0
  else 2

/-- `w` bits of the body from bit `8 * byte + lo`. -/
def Tub.field (t : Tub) (byte lo w : Nat) : BitVec w := t.body.extractLsb' (8 * byte + lo) w

/-- Put `v` at bit `lsb` of `x`. -/
def putBits {n w : Nat} (x : BitVec n) (lsb : Nat) (v : BitVec w) : BitVec n :=
  let m : BitVec n := ((BitVec.allOnes w).setWidth n) <<< lsb
  (x &&& ~~~ m) ||| ((v.setWidth n) <<< lsb)

/-- Write `w` bits of the body at bit `8 * byte + lo`. -/
def Tub.put {w : Nat} (t : Tub) (byte lo : Nat) (v : BitVec w) : Tub := { t with body := putBits t.body (8 * byte + lo) v }

/-- Message header fields (R124). -/
def Tub.opcode (t : Tub) : BitVec 8 := t.field 0 0 8
def Tub.fwd (t : Tub) : Bool := t.body.getLsbD 8
def Tub.haul (t : Tub) : Bool := t.body.getLsbD 9
def Tub.data (t : Tub) : Bool := t.body.getLsbD 10
def Tub.srcAgent (t : Tub) : BitVec 10 := t.field 2 0 10
def Tub.dstAgent (t : Tub) : BitVec 10 := t.field 4 0 10
def Tub.portal (t : Tub) : Portal := ⟨(t.field 6 0 3).toNat, (t.field 6 0 3).isLt⟩
def Tub.lines (t : Tub) : BitVec 7 := t.field 7 0 7
def Tub.addr (t : Tub) : BitVec 64 := t.field 8 0 64
def Tub.ftag (t : Tub) : BitVec 64 := t.field 16 0 64
def Tub.stamp (t : Tub) : BitVec 32 := t.field 24 0 32
def Tub.status (t : Tub) : BitVec 32 := t.field 28 0 32

/-- The sideband bits [52:0] of R122, as RECV reads them (R204). -/
def Tub.sideband (t : Tub) : BitVec 64 :=
  let b (x : Bool) : BitVec 64 := if x then 1 else 0
  (t.cls.setWidth 64) ||| (b t.tv <<< 4) ||| (t.tally.setWidth 64 <<< 5) ||| (t.gen.setWidth 64 <<< 20)
    ||| (t.line.setWidth 64 <<< 28) ||| (b t.poison <<< 34) ||| (b t.unconf <<< 35) ||| (b t.wdog <<< 36)
    ||| (t.seq.setWidth 64 <<< 37) ||| (b t.spc <<< 45)

/-- The 64 bits M0 to M7 of a tub (the hewer's view). -/
def Tub.m (t : Tub) (k : Nat) : BitVec 64 := t.field (8 * k) 0 64

end Sys2Proof.Machine
end

