-- ==== Sys2Proof/Machine/TallyTypes.lean ====
section
/-! DEFINITION. The tally record (R128) with its park record (R191) and speculation record (R233), the hewer thread (R190), the
lock index (R171), the directory entry (R162) and a tub on its way through haulage (R93). -/

namespace Sys2Proof.Machine

/-- STATE of a tally (R128). -/
inductive TState | free | opn | wait | done
  deriving DecidableEq, Repr

/-- SPEC of a tally (R130). -/
inductive Spec | none | pending | confirmed | aborted
  deriving DecidableEq, Repr

/-- KIND of a tally (R128). -/
inductive Kind | line | haulParent | haulLine | forward | recall
  deriving DecidableEq, Repr

/-- What a tally in WAIT waits for: the line lock or a way (PARKED or in the set-wait queue), PENDING at or below a bound,
the same or TIMER (R204), or its line tallies (R134). -/
inductive WaitFor | nothing | lock | way | responses (bound : Nat) | timed (bound : Nat) | lines
  deriving DecidableEq, Repr

/-- Whether the tally's answer is still to be sent, is on its way, or has passed or been discarded at its gate (R129). -/
inductive Answer | unsent | sent | gone
  deriving DecidableEq, Repr

/-- The park record (R191). -/
structure Park where
  resume : BitVec 14
  valid : Bool
  flags : BitVec 5
  taintW : BitVec 4
  taintS : Bool
  w0 : DWord
  w1 : DWord
  w2 : DWord
  w3 : DWord
  deriving DecidableEq, Repr

/-- One entry of a deferral slot (R230). -/
inductive Deferral
  | addsh (agent : BitVec 10)
  | remsh (agent : BitVec 10)
  | setown (agent : BitVec 10)
  | cnt (amount : BitVec 10) (ctr : BitVec 6)
  | push (queue : BitVec 17) (slot : Nat)
  deriving DecidableEq, Repr

/-- The 64 bits of an entry (R230). -/
def Deferral.bits (d : Deferral) : BitVec 64 :=
  match d with
  | .addsh a => 1 ||| (a.setWidth 64 <<< 4)
  | .remsh a => 2 ||| (a.setWidth 64 <<< 4)
  | .setown a => 3 ||| (a.setWidth 64 <<< 4)
  | .cnt x c => 4 ||| (x.setWidth 64 <<< 4) ||| (c.setWidth 64 <<< 14)
  | .push q i => 5 ||| (q.setWidth 64 <<< 20) ||| ((BitVec.ofNat 19 i).setWidth 64 <<< 37)

/-- The entry that 64 bits spell; other values of KIND are never written. -/
def Deferral.ofBits (b : BitVec 64) : Option Deferral :=
  let arg := b.extractLsb' 4 10
  match (b.extractLsb' 0 4).toNat with
  | 1 => some (.addsh arg)
  | 2 => some (.remsh arg)
  | 3 => some (.setown arg)
  | 4 => some (.cnt arg (b.extractLsb' 14 6))
  | 5 => some (.push (b.extractLsb' 20 17) (b.extractLsb' 37 19).toNat)
  | _ => none

/-- A queue popped while PENDING (R232); with it, the model's own note of what its POPPED was before and of the pops that underran, which take effect only
at confirmation (R226). -/
structure PopQ where
  queue : Nat
  popped : Bool
  underran : Nat
  deriving DecidableEq, Repr

/-- The speculation record (R233); the entries of the deferral slot stand in that tub slot; the POPQ entries in the order the queues were first
popped. -/
structure SpecRec where
  transit : BitVec 12
  tickets : Nat
  ticketSeq : BitVec 8
  deferSlot : Option Nat
  deferCount : Nat
  popq : List PopQ
  deriving DecidableEq, Repr

/-- Why a recall opened (R168, R158, R174). -/
inductive RecallFor | victim | sweep | evict
  deriving DecidableEq, Repr

/-- A recall's own data (R176 to R178, R476): its way, the lines it holds (bit `i` for line `i`), the states those lines had when
it took them. -/
structure RecallRec where
  set : Nat
  way : Nat
  tag : BitVec 11
  cause : RecallFor
  held : BitVec 4
  st : BitVec 12
  parkedOn : Option Nat
  deriving DecidableEq, Repr

/-- A tally (R128) with its park and speculation records. `setst` is the state SETST recorded (R168), `prov` the one
recorded while SPEC is PENDING (R231); `rcvd` are the tub slots of matched tubs not yet received,
oldest first (R131); `dats` the tubs of a write's own data (R134); `failed` the mark of END X[0] (R207); `claim` the claim whose
check 1 passed (R150); `expiredAt` the tally clock at expiry (R140); `fwdPortal` the
portal a forwarding tally waits on (R478); `abortAt` the steps its thread had issued when its speculation was aborted (R241); `parentGen` the generation of its parent, so that a line of an earlier use of that number is not taken for one of
its lines. -/
structure Tally where
  st : TState
  spec : Spec
  epoch : Bool
  lock : Bool
  parked : Bool
  expired : Bool
  kind : Kind
  prior : BitVec 3
  trapped : Bool
  gen : BitVec 8
  portal : Portal
  agent : BitVec 10
  pending : Nat
  lineAddr : DWord
  deadline : BitVec 32
  stamp : BitVec 32
  holdTail : Option Nat
  parent : Option Nat
  parentGen : BitVec 8
  lines : BitVec 7
  linesLeft : Nat
  lineFail : BitVec 64
  run : Option (Nat × Nat)
  timer : BitVec 32
  request : BitVec 512
  scratch : DWord
  park : Park
  sp : SpecRec
  waitFor : WaitFor
  setst : Option (BitVec 3)
  prov : Option (BitVec 3)
  ans : Answer
  claim : Option Nat
  rcvd : List Nat
  failed : Bool
  expiredAt : BitVec 32
  recallRec : Option RecallRec
  quota : Nat
  fwdPortal : Portal
  abortAt : Option Nat
  deriving DecidableEq, Repr

/-- A park record of zeros. -/
def Park.zero : Park := ⟨0, false, 0, 0, false, 0, 0, 0, 0⟩

/-- A speculation record as cleared when the tally opens (R233). -/
def SpecRec.zero : SpecRec := ⟨0, 0, 0, none, 0, []⟩

/-- A tally never opened. -/
def Tally.zero : Tally :=
  ⟨.free, .none, false, false, false, false, .line, 0, false, 0, 0, 0, 0, 0, 0, 0, none, none, 0, 0, 0, 0, none, 0, 0, 0,
   Park.zero, SpecRec.zero, .nothing, none, none, .unsent, none, [], false, 0, none, 0, 0, none⟩

/-- Is a tally one of the lines of parent `t` of generation `g` (R134)? -/
def Tally.childOf (y : Tally) (t : Nat) (g : BitVec 8) : Bool := decide (y.parent = some t) && decide (y.parentGen = g)

/-- What a hewer thread is held by besides latency: nothing, TRANSIT of an aborted tally (R238), a full WAIT queue (R257), a free
tub slot for a deferral (R230), or a claim-memory ring operation (R249). -/
inductive Stall | none | transit | push | slot | ring
  deriving DecidableEq, Repr

/-- A hewer thread (R190, "Registers of a thread"). `tally` is TP while the thread runs; `w` holds W0 to W15. -/
structure Thread where
  tally : Option Nat
  pc : BitVec 14
  w : Tbl DWord
  wt : BitVec 16
  m : Tub
  mt : Bool
  z : Bool
  n : Bool
  c : Bool
  v : Bool
  t : Bool
  steps : Nat
  stall : Stall
  deriving DecidableEq, Repr

/-- A thread that runs no tally. -/
def Thread.idle : Thread := ⟨none, 0, [], 0, Tub.zero, false, false, false, false, false, false, 0, .none⟩

/-- Work for a thread (R189): a dispatch or the resume of a parked tally. -/
structure Work where
  tally : Nat
  resume : Bool
  deriving DecidableEq, Repr

/-- A locked line in the lock index (R171, R477): its holder and the tallies parked on it, oldest first. -/
structure LockRec where
  holder : Nat
  queue : List Nat
  deriving DecidableEq, Repr

/-- A directory entry (R162). -/
structure DirEnt where
  tag : BitVec 11
  st0 : BitVec 3
  st1 : BitVec 3
  st2 : BitVec 3
  st3 : BitVec 3
  sharers : BitVec 32
  mode : BitVec 3
  age : BitVec 3
  deriving DecidableEq, Repr

/-- An entry of zeros: free. -/
def DirEnt.zero : DirEnt := ⟨0, 0, 0, 0, 0, 0, 0, 0⟩

/-- A claim command that runs (R154). -/
structure ClaimCmd where
  op : Nat
  claim : Nat
  granule : Nat
  deriving DecidableEq, Repr

/-- A recall waiting for a free tally of the reserve (R168, R175): the allocation of a set, or EVICT of a way. -/
inductive RecallWait | alloc (set : Nat) | evict (set way : Nat)
  deriving DecidableEq, Repr

/-- A layer with stations (R92). -/
inductive Layer | adit | lode | plan
  deriving DecidableEq, Repr

/-- Where a flit is: at a Seam router (0 to 63 Lower, 64 to 127 Upper, as DEST numbers them), at station `v` of a layer, or in
that layer's unit. -/
inductive Pos | router (r : Nat) | station (l : Layer) (v : Nat) | unit (l : Layer)
  deriving DecidableEq, Repr

/-- A queue operation of a stope's haulage port (R294). -/
inductive StopeQop
  | push (tub : Tub)
  | pop
  | mark
  | unmark
  | rewind
  deriving DecidableEq, Repr

/-- A result of a queue operation on its way back to a stope (R294): the entry of a QPOP, and DROPPED, UNDERRUN, REFUSED and
NO_QUEUE. -/
structure QResult where
  tub : Tub
  dropped : Bool
  underrun : Bool
  refused : Bool
  noQueue : Bool
  deriving DecidableEq, Repr

/-- What the unit at the destination does with the tub: push it onto a portal's egress queue, or for an
ingress portal onto another queue, match it to its
tally, admit it through a portal's ingress queue, deliver it to a stope, the Foreman, (HAU tubs) expire the tally it names, carry out a queue
operation of a stope (its stope, its number, the queue), give a stope the result of one (R294), or nothing (a
unit to which the spec gives nothing to do with it). -/
inductive Arrive
  | egress (p : Portal)
  | queue (q : Nat) (p : Portal)
  | ingress (p : Portal)
  | tallyStore
  | stope (k : Nat)
  | foreman
  | hau
  | stopeOp (k i q : Nat) (op : StopeQop)
  | stopeRes (k i : Nat) (r : QResult)
  | sink
  deriving DecidableEq, Repr

/-- A tub in haulage: where it came from, where it is, where it goes (R93) and what happens there; `sender` is the stope element that
injected it, when one did; `via` is the portal from whose ingress it entered its Adit station, when it did (R90). -/
structure Flight where
  tub : Tub
  src : Pos
  pos : Pos
  dest : BitVec 8
  act : Arrive
  sender : Option Nat
  via : Option Portal
  deriving DecidableEq, Repr

end Sys2Proof.Machine
end

