-- ==== Sys2Proof/Machine/SeamTypes.lean ====
section
/-! DEFINITION. What the Seams and the Plan hold besides registers: microcode banks (R197), stopes with their planes, flip-flops
and haulage ports (R270, R294, R307), pacer ramps (R104), swaps (R310) and scrubbers (R318). -/

namespace Sys2Proof.Machine

/-- A microcode bank (R197): CODE, DISPATCH, and the body and control word of each TEMPLATE. One copy stands for the four cluster
stores and the Lode retention copy, which are identical. -/
structure Bank where
  code : Tbl (BitVec 64)
  dispatch : Tbl (BitVec 32)
  body : Tbl (BitVec 512)
  control : Tbl (BitVec 64)
  deriving DecidableEq, Repr

/-- A bank of zeros. -/
def Bank.zero : Bank := ⟨[], [], [], []⟩

/-- A pacer ramp (R104): the source being left, that source's starting setting in sixteenths (so one step is `start / 16`), and the
present period in sixteenths of its unit (taps, or dividers of the tempo clock). -/
structure Ramp where
  locked : Bool
  start : Nat
  now16 : Nat
  deriving DecidableEq, Repr

/-- What a context sets of a cell (R267, R268, R270): its table and mode; whether flip-flops A and B take DA and DB or the cell's outputs; their
FORCE_TO values; which of its 48 sources each of the twelve inputs selects (K0 to K5, DA, DB, EA, EB, FA, FB). -/
structure CellCfg where
  table : BitVec 64
  split : Bool
  direct : BitVec 2
  forceTo : BitVec 2
  select : List Nat
  deriving DecidableEq, Repr, Inhabited

/-- Where the carry chain of a tile takes its carry-in (R271). -/
inductive CarryIn | south | zero | one | k0
  deriving DecidableEq, Repr, Inhabited

/-- What a context sets of a tile (R269, R271, R273): the joiners whose output stands in place of an H, its carry-in, and the source of each outgoing
wire, 24 for each face. -/
structure TileCfg where
  pairs : BitVec 8
  quads : BitVec 4
  carry : CarryIn
  out : List Nat
  deriving DecidableEq, Repr, Inhabited

/-- What a drive point of the overlay drives its segment from (R281): a source of its tile, or another segment through the switch box. -/
inductive DriveFrom | tile (source : Nat) | segment (g : BitVec 16)
  deriving DecidableEq, Repr, Inhabited

/-- An output of hard logic that enters a stope's routing: bit `i` of the read output of port A or B of one of its memories, that memory's collision
output (R290), or a bit of what its haulage port delivers (R294). -/
inductive Pin | read (mem : Nat) (b : Bool) (i : Nat) | collision (mem : Nat) | haul (i : Nat)
  deriving DecidableEq, Repr, Inhabited

/-- A signal of a stope's routing: output W or H of cell `c` of tile `t`, flip-flop A (`false`) or B of it, one of its inputs (0 to 5: K0 to K5, then DA, DB, EA, EB,
FA, FB); a pair or quad joiner; a source of a tile (0 to 63: output `i % 4` of cell `i / 4`, as W, H, QA, QB; from 64 its incoming wires); an outgoing or incoming wire of a
face (0 to 4: north, east, south, west, face to face); an overlay segment. -/
inductive Sig
  | w (t c : Nat)
  | h (t c : Nat)
  | flop (t c : Nat) (b : Bool)
  | input (t c j : Nat)
  | pair (t p : Nat)
  | quad (t q : Nat)
  | source (t i : Nat)
  | out (t f i : Nat)
  | inc (t f i : Nat)
  | seg (g : BitVec 16)
  deriving DecidableEq, Repr

/-- An access of a block-memory port (R288): its write enable, byte enables, address and data. -/
structure BlkReq where
  write : Bool
  enables : BitVec 8
  addr : BitVec 15
  data : BitVec 72
  deriving DecidableEq, Repr

/-- What the design of a stope asks of its haulage port (R294). -/
inductive StopeReq
  | send (cls : BitVec 4) (dest : BitVec 8) (body : BitVec 512)
  | qpush (q : Nat) (cls : BitVec 4) (body : BitVec 512)
  | qpop (q : Nat)
  | qmark (q : Nat)
  | qunmark (q : Nat)
  | qrwnd (q : Nat)
  deriving DecidableEq, Repr

/-- A stope: its active and shadow planes by frame (R302, R307), its 16,384 flip-flops (tile `t` has A in bits [32t+15:32t] and B
in [32t+31:32t+16]), its pacer ramp, and its haulage port: the hold and lineage lists (R242), LAST (R243), the delivery buffers
the queue operations outstanding (R295) and how many it has issued. `swapHold` says that a swap holds it (R311); `testHold` that a self-test does (R447).
* `outs`: its outgoing boundary wires that show 1, by tile, face and wire (R275, R278); `sync`: the synchronisers of its incoming ones, first stage in bit 0;
  `keepers`: what the keepers of the overlay segments took last (R282); `contended`: those the detector has turned off (R284).
* block memories (R286 to R290), ports by 2 × memory + port: `acc` the accesses issued at the last pacer edge, `rd` the read outputs, `kept` the outputs of
  each port's previous read, `coll` the memories whose collision output is 1.
* `waiting`: an injection that waits (R102); `stretched`: the present pacer cycle is stretched; `phase`: the time to the next pacer edge, in femtoseconds
  from the end of the last µs. -/
structure Stope where
  active : Tbl (BitVec 1024)
  shadow : Tbl (BitVec 1024)
  ff : BitVec 16384
  ramp : Option Ramp
  fellBack : Bool
  hold : List Tub
  lineage : List Nat
  last : Option (Nat × BitVec 8)
  buf01 : List Tub
  buf2 : List Tub
  results : List QResult
  outstanding : Nat
  issued : Nat
  swapHold : Bool
  testHold : Bool
  contended : List (BitVec 16)
  outs : Tbl Bool
  sync : Tbl (BitVec 3)
  keepers : Tbl (Option Bool)
  acc : Tbl (Option BlkReq)
  rd : Tbl (BitVec 72)
  kept : Tbl (BitVec 72)
  coll : List Nat
  waiting : Option StopeReq
  stretched : Bool
  phase : Nat
  deriving DecidableEq, Repr

/-- A stope with nothing in it. -/
def Stope.zero : Stope := ⟨[], [], 0, none, false, [], [], none, [], [], [], 0, 0, false, false, [], [], [], [], [], [], [], [], none, false, 0⟩

/-- A swap that has been started or armed (R310): its members by stope element, its gang, and whether an activation started it. -/
structure Swap where
  members : List Nat
  gang : Option Nat
  armed : Bool
  deriving DecidableEq, Repr

/-- An upset of a stope's shadow plane: bits of a frame that flip. -/
structure ShadowUpset where
  stope : Nat
  frame : Nat
  bits : BitVec 1024
  deriving DecidableEq, Repr

/-- The swap, by its place among the shaft's swaps, that reaches its edge, and an upset that check 4 meets there. -/
structure SwapEdge where
  swap : Nat
  upset : Option ShadowUpset
  deriving DecidableEq, Repr

/-- A scrubber's control state (R324): stope and frame pointers, the time its pass began, and how often each bit has been found
wrong at the verify (R321), by frame address and bit; the stopes it has skipped, and whether it has returned to them after its range (R319). -/
structure Scrubber where
  stope : Nat
  frame : Nat
  began : Nat
  wrong : Tbl Nat
  skipped : List Nat
  returned : Bool
  deriving DecidableEq, Repr

/-- A golden recovery that waits for, or is with, the Foreman (R323). -/
structure Recovery where
  frame : Nat
  scrubber : Nat
  deriving DecidableEq, Repr

/-- The flash slot and image part that supplied a Plan slot (R323). -/
structure SlotSource where
  flashB : Bool
  part : Nat
  deriving DecidableEq, Repr

end Sys2Proof.Machine
end

