-- ==== Sys2Proof/Machine/EventTypes.lean ====
section
/-! DEFINITION. The operands of commands and events that are not plain numbers: instruction fields, what a check found, what the
world outside reported. -/

namespace Sys2Proof.Machine

/-- The fields of a hewer instruction besides OP (R200). -/
structure HewFields where
  d : BitVec 4
  a : BitVec 4
  am : Bool
  bi : Bool
  b : BitVec 4
  x : BitVec 10
  imm : BitVec 32
  deriving DecidableEq, Repr

/-- What the check of a stored word found: no error, one corrected, an uncorrectable error with a good second copy, or none (R222,
R322). -/
inductive StoreCheck | good | corrected | refetched | lost
  deriving DecidableEq, Repr

/-- What the checks of one hewer step found: in the fetched code word and in the template it uses (R222), and in the register file (R220, R223). -/
structure StepCheck where
  store : StoreCheck
  template : StoreCheck
  regCorrected : Bool
  regLost : Bool
  deriving DecidableEq, Repr

/-- What the check of a directory read found (R180): for an entry, no error, one corrected, or an uncorrectable one. -/
inductive DirCheck | good | corrected (way : Nat) | lost (way : Nat)
  deriving DecidableEq, Repr

/-- What a router or station found in a flit's check bits (R97). -/
inductive HopCheck | good | corrected | lost
  deriving DecidableEq, Repr

/-- Why a lane stops being qualified (R108). -/
inductive LaneLoss | lockLost | linkDown | rxSleep
  deriving DecidableEq, Repr

/-- The parts of a microcode bank (R197). -/
inductive BankPart | code | dispatch | template
  deriving DecidableEq, Repr

/-- What the design of a stope took from its port's buffers since the last delivery (tubs of VC 0 and 1, tubs of VC 2, queue results),
and its RELEASE output (R295, R296). -/
structure Taken where
  n01 : Nat
  n2 : Nat
  nr : Nat
  release : Bool
  deriving DecidableEq, Repr

/-- An injection with the design's RELEASE output at that moment. -/
structure StopeOut where
  req : StopeReq
  release : Bool
  deriving DecidableEq, Repr

/-- How a scrubber's three copies of its control state compare (R324). -/
inductive Vote | agree | oneDiffers | noneAgree
  deriving DecidableEq, Repr

/-- What a scrubber's visit found (R319, R321, R324): the vote, the check of the golden frame's words, an upset of the active frame as
the bits that differ from what the model holds, and the bits that stay wrong at the verify. -/
structure ScrubCheck where
  vote : Vote
  golden : StoreCheck
  word : Nat
  upset : BitVec 1024
  stays : BitVec 1024
  deriving DecidableEq, Repr

/-- What a completed training step reports of the partner (R335 to R337, R346): its plane identifier, whether its role is
device-to-device, the rate the step ends at, the highest rate it advertises, whether equalization failed, the trained width, what CXL negotiation lacked (0 nothing, 1 Flit mode,
2 the protocol of the orientation), and whether the link is up. -/
structure TrainReport where
  plane : BitVec 8
  d2d : Bool
  rate : Nat
  most : Nat
  eqFailed : Bool
  width : Nat
  lacks : Nat
  up : Bool
  deriving DecidableEq, Repr

/-- Why a training attempt fails (R338). -/
inductive TrainLoss | signal | timeout | notUp | protocol (lacks : Nat)
  deriving DecidableEq, Repr

/-- What asserts POR (R403): a rail, by its place in R402, with where it now stands (0 below its POR threshold, 1 between, 2 in range), or
RESET_N, with the REFSEL strap (R107). -/
inductive PorCause | rail (i level : Nat) | resetN (strap : Bool)
  deriving DecidableEq, Repr

/-- What the governor measures (R406, R408): each shaft's need in mV, whether every shaft's load is at most 90 % of what it carries at a
request 5 mV lower, whether the AVSBus transaction had a Status response, and VCORE_SEAM as measured. -/
structure GovNeeds where
  needs : List Nat
  light : Bool
  answered : Bool
  mon : Nat
  deriving DecidableEq, Repr

/-- Power in mW over the last ms, of the device and of the shaft (R444). -/
structure PowerNow where
  device : Nat
  shaft : Nat
  deriving DecidableEq, Repr

/-- Why the Foreman restarts by itself (R437); a Cage RESET and staging ask for it through the State. -/
inductive ForeCause | asked | lockstep | heartbeat
  deriving DecidableEq, Repr

end Sys2Proof.Machine
end

