-- ==== Sys2Proof/Machine/LinkTypes.lean ====
section
/-! DEFINITION. What a portal holds besides registers (R336 to R362, R439 to R441): its latched settings, its training step, its
flit mover, its tag store, its gate's hold store, the held tubs released and not yet formed (R239), and its guard's buckets. -/

namespace Sys2Proof.Machine

/-- The training steps after DETECT (R336, R337): a Drift portal climbs SYNC, IDENT and one RATE step per rate; a PCIe-mode portal
has the LTSSM of its own specification, whose inside is left out. -/
inductive TrainStep | sync | ident | rate | ltssm
  deriving DecidableEq, Repr

/-- A protocol message of PCIe mode: its channel and MSG_OP (R353), its bits (message bit 0 first) and its line of data. -/
structure Msg where
  channel : BitVec 4
  op : BitVec 6
  bits : BitVec 1024
  data : Option (BitVec 512)
  deriving DecidableEq, Repr

/-- What arrives at a flit mover (R342, R333, R344): a Drift flit as its 512 bytes (byte 0 in bits [7:0]), the messages of a PCIe-mode flit
that passed its link check, a PCIe-mode flit that did not (which that mode's own link layer replays), or the entry of that link layer into
Recovery. -/
inductive RxFlit
  | drift (bits : BitVec 4096)
  | pcie (msgs : List Msg)
  | pcieBad
  | pcieRecovery
  deriving DecidableEq, Repr

/-- What a portal has formed and will put into flits: a tub as it stands with its ANSWER bit and its FTALLY and FGEN (Drift, R342,
R478), or a message (PCIe mode). -/
inductive TxItem
  | tub (t : Tub) (answer : Bool) (ftally : BitVec 15) (fgen : BitVec 4)
  | msg (m : Msg)
  | control (code : BitVec 8) (arg : BitVec 64)
  deriving DecidableEq, Repr

/-- One entry of the tag store (R358). -/
structure TagEnt where
  valid : Bool
  tally : BitVec 15
  gen : BitVec 8
  seq : BitVec 8
  line : BitVec 6
  remain : BitVec 2
  deriving DecidableEq, Repr

/-- A free tag entry. -/
def TagEnt.zero : TagEnt := ⟨false, 0, 0, 0, 0, 0⟩

/-- A former entry (R354) as its 128 bits. -/
abbrev FormEnt := BitVec 128

/-- The settings that take effect when ENABLE goes from 0 to 1 (R347). -/
structure PortalCfg where
  width : Nat
  firstLane : Nat
  role : Nat
  orient : Nat
  drift : Bool
  deriving DecidableEq, Repr

/-- A link reset that LINK_RESETS defers (R441), or none. -/
inductive Deferred | none | retrain | portal
  deriving DecidableEq, Repr

/-- Where the DAT tubs go that follow a message tub at ingress: with it, or nowhere. -/
inductive Follow | go (act : Arrive) | drop
  deriving DecidableEq, Repr

/-- A tub in a gate's hold store, with the tub slot it stays in (R236). -/
structure Held where
  tub : Tub
  slot : Option Nat
  deriving DecidableEq, Repr

/-- A portal. `enabledOnce`: enabled since POR, COLD or SHAFT (R440); `rxWidth`: the width code that still receives (R340); `wakeAt`:
when a wake for the quota began that the partner has not completed (R341); `follow`: the DAT tubs still to follow the last message tub received
(R357, R360); `tagWait`: the egress queue waits for a tag (R358). `lane` holds the deadline lane's answers (R141), `eqHead` the messages that wait for their DAT tubs (R357), `eqGot` and `inGot` entries that a
claim-memory egress or ingress ring has returned (R249), `buckets` the guard's tokens by class and `tokensAt` the time they were filled to
(R440), `mgt` the MGT tokens, `resets` the times of the link resets of the last second (R441). Times are device uptime in µs. -/
structure PortalSt where
  cfg : PortalCfg
  enabledOnce : Bool
  follow : Option (Nat × Follow)
  tagWait : Bool
  step : TrainStep
  stepAt : Nat
  leftDetect : Nat
  heldFor : Nat
  runRaised : Bool
  backoffUntil : Nat
  highRate : Option Nat
  recoveryAt : Nat
  rxWidth : Nat
  wakeAt : Option Nat
  nextFseq : BitVec 12
  expFseq : BitVec 12
  unacked : List (BitVec 12 × BitVec 4096)
  replayAt : Option (BitVec 12)
  replays : Nat
  nakDue : Bool
  credits : List Nat
  creditsDue : List Nat
  eqGot : List Tub
  inGot : List Tub
  creditHold : Bool
  lane : List Tub
  eqHead : List (Msg × Tub)
  txq : List TxItem
  hold : List Held
  released : List Tub
  tags : Tbl TagEnt
  markWait : Bool
  partnerEpoch : Option Bool
  buckets : Tbl Nat
  mgt : Nat
  tokensAt : Nat
  resets : List Nat
  deferred : Deferred
  deriving DecidableEq, Repr

/-- A portal as reset leaves it. -/
def PortalSt.zero : PortalSt where
  cfg := ⟨0, 0, 0, 0, false⟩
  enabledOnce := false
  follow := none
  tagWait := false
  step := .sync
  stepAt := 0
  leftDetect := 0
  heldFor := 0
  runRaised := false
  backoffUntil := 0
  highRate := none
  recoveryAt := 0
  rxWidth := 0
  wakeAt := none
  nextFseq := 0
  expFseq := 0
  unacked := []
  replayAt := none
  replays := 0
  nakDue := false
  credits := [0, 0, 0]
  creditsDue := [0, 0, 0]
  eqGot := []
  inGot := []
  creditHold := false
  lane := []
  eqHead := []
  txq := []
  hold := []
  released := []
  tags := []
  markWait := false
  partnerEpoch := none
  buckets := []
  mgt := 0
  tokensAt := 0
  resets := []
  deferred := .none

end Sys2Proof.Machine
end

