-- ==== Sys2Proof/Machine/Oct.lean ====
section
/-! DEFINITION. Eight like things: the eight shafts of the device, the eight portals of a shaft. -/

namespace Sys2Proof.Machine

/-- Eight values, numbered 0 to 7. -/
structure Oct (α : Type) where
  s0 : α
  s1 : α
  s2 : α
  s3 : α
  s4 : α
  s5 : α
  s6 : α
  s7 : α
  deriving DecidableEq, Repr

/-- Eight times the same. -/
def Oct.all {α : Type} (a : α) : Oct α := ⟨a, a, a, a, a, a, a, a⟩

/-- The value numbered `i`. -/
def Oct.get {α : Type} (o : Oct α) (i : Fin 8) : α :=
  match i with
  | 0 => o.s0
  | 1 => o.s1
  | 2 => o.s2
  | 3 => o.s3
  | 4 => o.s4
  | 5 => o.s5
  | 6 => o.s6
  | 7 => o.s7

/-- Write the value numbered `i`. -/
def Oct.set {α : Type} (o : Oct α) (i : Fin 8) (a : α) : Oct α :=
  match i with
  | 0 => { o with s0 := a }
  | 1 => { o with s1 := a }
  | 2 => { o with s2 := a }
  | 3 => { o with s3 := a }
  | 4 => { o with s4 := a }
  | 5 => { o with s5 := a }
  | 6 => { o with s6 := a }
  | 7 => { o with s7 := a }

/-- Apply `f` to the value numbered `i`. -/
def Oct.upd {α : Type} (o : Oct α) (i : Fin 8) (f : α → α) : Oct α := o.set i (f (o.get i))

/-- Apply `f` to all eight. -/
def Oct.mapAll {α β : Type} (f : Fin 8 → α → β) (o : Oct α) : Oct β :=
  ⟨f 0 o.s0, f 1 o.s1, f 2 o.s2, f 3 o.s3, f 4 o.s4, f 5 o.s5, f 6 o.s6, f 7 o.s7⟩

/-- The eight values in order. -/
def Oct.toList {α : Type} (o : Oct α) : List α := [o.s0, o.s1, o.s2, o.s3, o.s4, o.s5, o.s6, o.s7]

/-- The eight numbers in order. -/
def Oct.indices : List (Fin 8) := [0, 1, 2, 3, 4, 5, 6, 7]

end Sys2Proof.Machine
end

