-- ==== Sys2Proof/Machine/Regs.lean ====
section
/-! DEFINITION. The register fields of the Akfodun: one name per field of the spec's register tables, with the block,
width, level, access, reset value and reset class (KEPT, R49) the table gives it, and the register words built of them. -/

namespace Sys2Proof.Machine

/-- Access types (R12). -/
inductive Access | ro | rw | wo | w1c | w1s | rc
  deriving DecidableEq, Repr

/-- The two control levels (R50). -/
inductive Level | surface | deep
  deriving DecidableEq, Repr

/-- Reset kinds and low-power states, in the order of the KEPT bits of R49. -/
inductive ResetKind | por | cold | shaft | stope | fore | therm | portal | doze | txs | rxs
  deriving DecidableEq, Repr

/-- The register blocks (R41). `sgate` and `dgate` stand for the GATE and GATE_HITS registers every per-shaft and every
device-common block has at the head of its window (R55). -/
inductive Block | SVY | DEV | CGE | EVL | FOR | CAN | PWR | CLK | TIM | IMG | GRD | BST
  | SHF | LNE | PTL | HAU | PCE | CTX | SCB | STP | HWR | CLM | TLY | QMG | BLK | DIR | sgate | dgate
  deriving DecidableEq, Repr

/-- What a register table says of one field. `kept` is the KEPT mask of R49; `live` marks a dash in Kept across. -/
structure FldDesc where
  blk : Block
  width : Nat
  level : Level
  access : Access
  kept : Nat
  live : Bool
  deriving DecidableEq, Repr

/-- Where a field stands in a register word: bit `lsb`, element `mul * e + add` of the field for element `e` of the register. -/
structure Place where
  lsb : Nat
  mul : Nat
  add : Nat
  deriving DecidableEq, Repr

/-- Every register field of the spec's tables, BLOCK_REGISTER_FIELD. -/
inductive Fld
  | SHF_PLANE_ID
  | SHF_ROUTE_TARGET
  | SHF_FWD_STAT_ROUTE_MISS
  | SHF_FWD_STAT2_LATE_ANSWER
  | SHF_CTL_DEEP_OPEN
  | SHF_CTL_KEY
  | DEV_CTL_DEEP_OPEN
  | DEV_CTL_KEY
  | SGATE_EN
  | DGATE_EN
  | SGATE_HALTED
  | DGATE_HALTED
  | SGATE_HITS_HITS
  | DGATE_HITS_HITS
  | CGE_CFG_DDR
  | CGE_CFG_SILENCE_MS
  | CGE_STAT_BAD_HDR
  | CGE_STAT_BAD_DATA
  | CGE_LAST_FAIL_WORD
  | CGE_LAST_FAIL_OUTCOME
  | EVL_STAT_COUNT
  | EVL_STAT_DROPPED
  | HAU_STAT_CORR
  | HAU_STAT_UNCORR
  | HAU_STAT2_LAYER_ABSENT
  | HAU_STAT2_CREDIT_HOLD
  | HAU_VLINK_RETIRED
  | PCE_STOPE_TEMPO
  | PCE_STOPE_SRC
  | PCE_STOPE_DIV
  | PCE_STOPE_AUTO_FB
  | PCE_STOPE_ACTIVE
  | PCE_STOPE_RAMPING
  | PCE_STOPE_FORCED
  | PCE_SLIP_SLIP
  | PCE_SLIP_STRETCH
  | PCE_TPLL_LOCK
  | CLK_CFG_AUTO_RETURN
  | CLK_CFG_RETURN_NOW
  | CLK_CFG_REFSEL
  | CLK_CFG_REF_OK
  | CLK_STATE_SHAFT
  | CLK_QUAL_QUAL
  | CLK_QUAL_LOOP_LANE
  | CLK_STAT_LOSSES
  | TIM_CFG_SOURCE
  | TIM_CFG_SHAFT
  | TIM_CFG_PORT
  | TIM_CFG_PERIOD_US
  | TIM_NOW_LO_NOW_LO
  | TIM_NOW_HI_NOW_HI
  | TIM_ASYM_ASYM_NS
  | TIM_OFFSET_OFFSET
  | TIM_STAT_LOCKED
  | TIM_STAT_STEPS
  | TLY_CFG_DEADLINE_US
  | TLY_CFG_RESERVE
  | TLY_CFG2_DRAIN_US
  | TLY_COUNT_OPEN
  | TLY_COUNT_PEAK
  | TLY_CLOCK_NOW
  | TLY_STAT_EXPIRED
  | TLY_STAT_NO_TALLY
  | TLY_STAT2_STALE
  | TLY_STAT2_LATE
  | TLY_STAT3_ABANDONED
  | TLY_STAT3_BAD_CLASS
  | TLY_STAT3_BAD_HAUL
  | TLY_STAT4_NO_PORTAL
  | TLY_STAT4_OVER_QUOTA
  | TLY_STAT5_NO_SLOT
  | TLY_QUOTA_QUOTA
  | TLY_KILL_TALLY
  | TLY_KILL_GO
  | CLM_ENTRY0_VALID
  | CLM_ENTRY0_CACHEABLE
  | CLM_ENTRY0_SPECULABLE
  | CLM_ENTRY0_PORTAL
  | CLM_ENTRY1_BASE_GIB
  | CLM_ENTRY2_READ
  | CLM_ENTRY3_WRITE
  | CLM_ENTRY4_CACHE
  | CLM_ENTRY5_ENTRIES
  | CLM_ENTRY6_OPEN
  | CLM_ENTRY6_GRANULE
  | CLM_ENTRY6_MAPPED
  | CLM_MAP_CLAIM
  | CLM_MAP_VALID
  | CLM_STAGE0_VALID
  | CLM_STAGE0_CACHEABLE
  | CLM_STAGE0_SPECULABLE
  | CLM_STAGE0_PORTAL
  | CLM_STAGE1_BASE_GIB
  | CLM_STAGE2_READ
  | CLM_STAGE3_WRITE
  | CLM_STAGE4_CACHE
  | CLM_CMD_CLAIM
  | CLM_CMD_GRANULE
  | CLM_CMD_OP
  | CLM_CMD_GO
  | CLM_CMD_STAT_BUSY
  | CLM_CMD_STAT_LOST
  | CLM_CMD_STAT_RESULT
  | CLM_SWEEP_CLAIM
  | CLM_SWEEP_GO
  | CLM_SWEEP_STAT_BUSY
  | CLM_SWEEP_STAT_LOST
  | CLM_SWEEP_STAT_FAILS
  | CLM_SWEEP_CNT_RECALLS
  | CLM_STAT_UNMAPPED
  | CLM_STAT_RIGHTS_DENIED
  | CLM_STAT2_MEM_UNREACHABLE
  | DIR_CFG_RECALL_OP
  | DIR_CFG_BCAST_GROUPS
  | DIR_NEED_NEED
  | DIR_PRESENT_PRESENT
  | DIR_STAT_RECALLS
  | DIR_STAT_RECALL_FAIL
  | DIR_STAT2_SET_STALL
  | DIR_STAT2_CORR
  | DIR_STAT3_UNCORR
  | DIR_STAT3_QUARANTINED
  | HWR_CFG_STEP_LIMIT
  | HWR_EPOCH_CURRENT
  | HWR_EPOCH_LOADED0
  | HWR_EPOCH_LOADED1
  | HWR_EPOCH_ARMED
  | HWR_EPOCH_CNT_COUNT0
  | HWR_EPOCH_CNT_COUNT1
  | HWR_FLIP_GO
  | HWR_FLIP_STAT_RESULT
  | HWR_BANK_CTL_BANK
  | HWR_BANK_CTL_SEAL
  | HWR_BANK_CRC_CRC
  | HWR_BANK_STAT_BUSY
  | HWR_BANK_STAT_RESULT
  | HWR_BANK_STAT_LOST
  | HWR_RETIRE_HEWER
  | HWR_RETIRE_FORCE
  | HWR_RETIRE_GO
  | HWR_RETIRE_STAT_BUSY
  | HWR_RETIRE_STAT_RESULT
  | HWR_STAT_TRAPS
  | HWR_STAT_NO_HANDLER
  | HWR_STAT2_STORE_CORR
  | HWR_STAT2_STORE_REFETCH
  | HWR_STAT3_THREAD_WAIT
  | HWR_TRAP_LOG0_CAUSE
  | HWR_TRAP_LOG0_HEWER
  | HWR_TRAP_LOG0_THREAD
  | HWR_TRAP_LOG0_EPOCH
  | HWR_TRAP_LOG0_PC
  | HWR_TRAP_LOG0_HELD
  | HWR_TRAP_LOG1_TALLY
  | HWR_TRAP_LOG1_KEY
  | HWR_TRAP_LOG2_INSTR_LO
  | HWR_TRAP_LOG3_INSTR_HI
  | HWR_UNIT_ROLE
  | HWR_UNIT_THREADS
  | HWR_UNIT_REG_CORR
  | HWR_UNIT_TRAPS
  | HWR_CTR_COUNT
  | PTL_DL_STAT_STARTED
  | PTL_DL_STAT_CONFIRMED
  | PTL_DL_STAT2_ABORTED
  | PTL_DL_STAT2_DECLINED
  | PTL_DL_STAT3_REWIND_FAIL
  | PTL_DL_STAT3_PORT_ABORT
  | PTL_DL_GATE_OCCUPANCY
  | PTL_DL_GATE_HOLD_FULL
  | PTL_DL_GATE2_HELD
  | PTL_DL_GATE2_DISCARDED
  | STP_SPEC_EXPOSE
  | STP_SPEC_STAINED
  | STP_SPEC_LINEAGE
  | STP_SPEC_STAIN_DROP
  | QMG_CFG_RING_SLOTS
  | QMG_STAGE0_BASE
  | QMG_STAGE0_SIZE
  | QMG_STAGE0_PLACE
  | QMG_STAGE1_HWM
  | QMG_STAGE2_LWM
  | QMG_STAGE3_VALID
  | QMG_STAGE3_MODE
  | QMG_STAGE3_WAIT
  | QMG_STAGE3_PIN
  | QMG_STAGE3_PIN_EN
  | QMG_STAGE3_CR_PORTAL
  | QMG_STAGE3_CR_EN
  | QMG_CMD_QUEUE
  | QMG_CMD_OP
  | QMG_CMD_GO
  | QMG_CMD_STAT_BUSY
  | QMG_CMD_STAT_LOST
  | QMG_CMD_STAT_RESULT
  | QMG_HOST_CMD_QUEUE
  | QMG_HOST_CMD_OP
  | QMG_HOST_CMD_CLASS
  | QMG_HOST_CMD_GO
  | QMG_HOST_STAT_BUSY
  | QMG_HOST_STAT_LOST
  | QMG_HOST_STAT_RESULT
  | QMG_HOST_STAT_CLASS
  | QMG_HOST_TUB_DATA
  | QMG_FC_PINS
  | QMG_STAT_DROPS
  | QMG_STAT_UNDERRUNS
  | QMG_STAT2_MARKS_LOST
  | QMG_STAT2_REWIND_REFUSED
  | QMG_STAT3_PENDING
  | QMG_STAT3_INVALID_Q
  | QMG_STAT4_DEEP_ERR
  | QMG_STAT4_WAITS
  | STP_CFG_SYNC3
  | STP_STAT_COMPAT
  | STP_STAT_PAIRED
  | STP_STAT_PAIR_FAULT
  | STP_STAT_RELEASED
  | STP_STAT_CONTENDED
  | STP_STAT_CONTENTIONS
  | STP_CONT_LOG_SEGMENT
  | STP_CONT_LOG_VALID
  | STP_STAT2_VC2_DROP
  | BLK_PORT_ASPECT_A
  | BLK_PORT_ASPECT_B
  | BLK_PORT_ROW_A
  | BLK_PORT_ROW_B
  | BLK_PORT_USED
  | BLK_STAT_COLL
  | CTX_STOPE_ACTIVE
  | CTX_STOPE_SHADOW
  | CTX_STOPE_SH_STATE
  | CTX_STOPE_GANG
  | CTX_STOPE_GANG_EN
  | CTX_STOPE_BOOT
  | CTX_STOPE_ID
  | CTX_SLOT_STATE
  | CTX_CMD_STOPE
  | CTX_CMD_CONTEXT
  | CTX_CMD_GANG
  | CTX_CMD_OP
  | CTX_CMD_GO
  | CTX_CMD_STAT_BUSY
  | CTX_CMD_STAT_LOST
  | CTX_CMD_STAT_RESULT
  | CTX_LOAD_STAT_RESULT
  | CTX_LOAD_STAT_CAUSE
  | CTX_LOAD_ADDR_FRAME_ADDR
  | CTX_RB_CTL_FRAME_ADDR
  | CTX_RB_CTL_PLANE
  | CTX_RB_CTL_GO
  | CTX_RB_STAT_BUSY
  | CTX_RB_STAT_VALID
  | CTX_RB_STAT_UNCORR
  | CTX_RB_STAT_CHECK_OK
  | CTX_RB_DATA_DATA
  | CTX_RB_CHECK_CHECK
  | CTX_STAT_SWAPS
  | CTX_STAT_REFUSED
  | CTX_STAT2_PRELOADS
  | CTX_STAT2_RELOADS
  | SCB_STAT_STATE0
  | SCB_STAT_STATE1
  | SCB_CTL_RESTART0
  | SCB_CTL_RESTART1
  | SCB_PASS_PASSES
  | SCB_PASS_LAST_US
  | SCB_CNT_CORR
  | SCB_CNT_VOTE_CORR
  | SCB_CNT2_PLAN_CORR
  | SCB_CNT2_PLAN_UNCORR
  | SCB_CNT3_RECOVERED
  | SCB_CNT3_LOST
  | SCB_CNT3_STUCK
  | SCB_LOST_LOG_FRAME_ADDR
  | SCB_LOST_LOG_VALID
  | LNE_CFG_MAX_RATE
  | LNE_CFG_SLEEP_EN
  | LNE_CFG_TX_SWING
  | LNE_CFG_TX_PRE
  | LNE_CFG_TX_POST
  | LNE_STAT_RATE
  | LNE_STAT_CDR_LOCK
  | LNE_STAT_TX_SLEEP
  | LNE_STAT_RX_SLEEP
  | LNE_STAT_SLIP_POS
  | LNE_STAT_SLIP_IGNORED
  | LNE_SLIP_GO
  | LNE_SLIP_DIR
  | LNE_ERR_FEC_CORR
  | LNE_ERR_FEC_UNCORR
  | PTL_CFG_ENABLE
  | PTL_CFG_WIDTH
  | PTL_CFG_FIRST_LANE
  | PTL_CFG_ROLE
  | PTL_CFG_ORIENT
  | PTL_CFG_MODE
  | PTL_CFG_HOLD
  | PTL_CFG_SLEEP_EN
  | PTL_CFG_MIN_WIDTH
  | PTL_SLEEP_IDLE_US
  | PTL_STATE_STATE
  | PTL_STATE_TRAINED
  | PTL_STATE_PRESENT
  | PTL_STATE_RATE
  | PTL_STATE_CFG_ERR
  | PTL_STATE_FAILS
  | PTL_AGENT_BASE
  | PTL_AGENT_COUNT
  | PTL_INQ_QUEUE
  | PTL_EQ_QUEUE
  | PTL_CROUTE_ROUTE
  | PTL_CROUTE_QUEUE
  | PTL_TAGS_IN_USE
  | PTL_TAGS_TAG_WAIT
  | PTL_STAT_BAD_AGENT
  | PTL_STAT_UNKNOWN_MSG
  | PTL_STAT2_STALE_TAG
  | PTL_STAT2_DOWN_DROP
  | PTL_STAT3_REPLAYS
  | PTL_STAT3_RETRAINS
  | PTL_STAT4_COOL_RETRY
  | PTL_STAT4_SNP_UNREACHABLE
  | IMG_CMD_OP
  | IMG_CMD_GO
  | IMG_CMD_STAT_BUSY
  | IMG_CMD_STAT_LOST
  | IMG_CMD_STAT_RESULT
  | IMG_STATE_STATE
  | IMG_FAIL_CAUSE
  | IMG_FAIL_DETAIL
  | IMG_FAIL_PART_PART
  | IMG_STREAM_NEXT
  | IMG_WHEN_LO_WHEN_LO
  | IMG_WHEN_HI_WHEN_HI
  | IMG_SLOTS_ACTIVE
  | IMG_SLOTS_PROBATION
  | IMG_SLOTS_RUNNING
  | IMG_SLOTS_FALLBACK
  | IMG_SLOTS_ROLLED_BACK
  | IMG_SLOTS_PARTIAL_LIVE
  | IMG_SLOTS_CHARTER_PENDING
  | IMG_ID_LO_ID_LO
  | IMG_ID_HI_ID_HI
  | IMG_INFO_SLOT_64K
  | IMG_INFO_KEYS
  | IMG_SETCMD_OP
  | IMG_SETCMD_GO
  | IMG_SETREC0_ADDR_LO
  | IMG_SETREC1_ADDR_HI
  | IMG_SETREC2_VALUE
  | IMG_SETREC3_MASK
  | IMG_SETSTAT_BUSY
  | IMG_SETSTAT_RESULT
  | IMG_SETSTAT_COUNT
  | IMG_SETSTAT_SKIPPED
  | CAN_CFG_FAST_ALL
  | CAN_CTL_SHAFT
  | CAN_CTL_LAYER
  | CAN_CTL_REARM
  | CAN_TEMP_READING
  | CAN_TEMP_ESTIMATE
  | CAN_TEMP_EFFECTIVE
  | CAN_TEMP_SUSPECT
  | CAN_SENSOR_VALUE
  | CAN_SENSOR_BROKEN
  | CAN_SENSOR_CAUSE
  | CAN_SHAFT_CAP
  | CAN_SHAFT_FAST
  | CAN_SHAFT_THERMAL
  | CAN_STAT_TRIPS
  | CAN_STAT_SUSPECTS
  | CAN_STAT_THROTTLE_MS
  | PWR_CFG_GOV_EN
  | PWR_CFG_FIXED_MV
  | PWR_AVS_REQ_MV
  | PWR_AVS_MON_MV
  | PWR_AVS_CAP_MV
  | PWR_AVS_AVS_FAULT
  | PWR_SHAFT_DOZE
  | PWR_SHAFT_STATE
  | PWR_ENERGY_UJ
  | GRD_HIT_SHAFT
  | GRD_RATE_RATE
  | GRD_RATE_BURST
  | GRD_PORT_AGENT_LO
  | GRD_PORT_AGENT_HI
  | GRD_PORT_LINK_RESETS
  | GRD_PORT2_MGT_KTPS
  | GRD_WIN0_BASE_GIB
  | GRD_WIN1_SIZE_GIB
  | GRD_LANE_SWING_CAP
  | GRD_LANE_PRE_CAP
  | GRD_LANE_POST_CAP
  | GRD_DEV_CAP_MV
  | GRD_TPL0_READ
  | GRD_TPL1_WRITE
  | GRD_TPL2_CACHE
  | GRD_STAT_DROPS
  | GRD_STAT_LINK_DEFER
  | GRD_STAT2_CLIPS
  | GRD_STAT2_LAST_CAUSE
  | BST_STAT_STATUS
  | BST_CNT_PASSED
  | BST_CNT_FAILED
  | BST_CNT2_REFUSED
  | BST_CNT2_SPARES
  | SHF_CTL_SLICE
  | SHF_SLICE_STAT_STATE
  | SHF_SLICE_STAT_LAYER
  | SHF_SLICE_STAT_LOST
  | SHF_ATTN_TALLY_ABANDONED
  | SHF_ATTN_DIR_UNCORR
  | SHF_ATTN_SCB_STUCK
  | SHF_ATTN_SCB_FRAME_LOST
  | SHF_ATTN_SENSOR_BROKEN
  | SHF_ATTN_BST_FAIL
  | SHF_ATTN_LODE_UNCORR
  | SHF_RST_SHAFT_RESETS
  | SHF_RST_SLICE_RESETS
  | DEV_ATTN_FORE_UNPLANNED
  | DEV_ATTN_BOOT_FALLBACK
  | DEV_ATTN_PROBATION_ROLLBACK
  | DEV_ATTN_AVS_FAULT
  | DEV_ATTN_SETTING_SKIPPED
  deriving DecidableEq, Repr

/-- Every register of the spec's tables. -/
inductive Reg
  | SHF_PLANE
  | SHF_ROUTE
  | SHF_FWD_STAT
  | SHF_FWD_STAT2
  | SHF_CTL
  | DEV_CTL
  | SGATE
  | DGATE
  | SGATE_HITS
  | DGATE_HITS
  | CGE_CFG
  | CGE_STAT
  | CGE_LAST_FAIL
  | EVL_STAT
  | HAU_STAT
  | HAU_STAT2
  | HAU_VLINK
  | PCE_STOPE
  | PCE_SLIP
  | PCE_TPLL
  | CLK_CFG
  | CLK_STATE
  | CLK_QUAL
  | CLK_STAT
  | TIM_CFG
  | TIM_NOW_LO
  | TIM_NOW_HI
  | TIM_ASYM
  | TIM_OFFSET
  | TIM_STAT
  | TLY_CFG
  | TLY_CFG2
  | TLY_COUNT
  | TLY_CLOCK
  | TLY_STAT
  | TLY_STAT2
  | TLY_STAT3
  | TLY_STAT4
  | TLY_STAT5
  | TLY_QUOTA
  | TLY_KILL
  | CLM_ENTRY0
  | CLM_ENTRY1
  | CLM_ENTRY2
  | CLM_ENTRY3
  | CLM_ENTRY4
  | CLM_ENTRY5
  | CLM_ENTRY6
  | CLM_ENTRY7
  | CLM_MAP
  | CLM_STAGE0
  | CLM_STAGE1
  | CLM_STAGE2
  | CLM_STAGE3
  | CLM_STAGE4
  | CLM_CMD
  | CLM_CMD_STAT
  | CLM_SWEEP
  | CLM_SWEEP_STAT
  | CLM_SWEEP_CNT
  | CLM_STAT
  | CLM_STAT2
  | DIR_CFG
  | DIR_NEED
  | DIR_PRESENT
  | DIR_STAT
  | DIR_STAT2
  | DIR_STAT3
  | HWR_CFG
  | HWR_EPOCH
  | HWR_EPOCH_CNT
  | HWR_FLIP
  | HWR_FLIP_STAT
  | HWR_BANK_CTL
  | HWR_BANK_CRC
  | HWR_BANK_STAT
  | HWR_RETIRE
  | HWR_RETIRE_STAT
  | HWR_STAT
  | HWR_STAT2
  | HWR_STAT3
  | HWR_TRAP_LOG0
  | HWR_TRAP_LOG1
  | HWR_TRAP_LOG2
  | HWR_TRAP_LOG3
  | HWR_UNIT
  | HWR_CTR
  | PTL_DL_STAT
  | PTL_DL_STAT2
  | PTL_DL_STAT3
  | PTL_DL_GATE
  | PTL_DL_GATE2
  | STP_SPEC
  | QMG_CFG
  | QMG_STAGE0
  | QMG_STAGE1
  | QMG_STAGE2
  | QMG_STAGE3
  | QMG_CMD
  | QMG_CMD_STAT
  | QMG_HOST_CMD
  | QMG_HOST_STAT
  | QMG_HOST_TUB
  | QMG_FC
  | QMG_STAT
  | QMG_STAT2
  | QMG_STAT3
  | QMG_STAT4
  | STP_CFG
  | STP_STAT
  | STP_CONT_LOG
  | STP_STAT2
  | BLK_PORT
  | BLK_STAT
  | CTX_STOPE
  | CTX_SLOT
  | CTX_CMD
  | CTX_CMD_STAT
  | CTX_LOAD_STAT
  | CTX_LOAD_ADDR
  | CTX_RB_CTL
  | CTX_RB_STAT
  | CTX_RB_DATA
  | CTX_RB_CHECK
  | CTX_STAT
  | CTX_STAT2
  | SCB_STAT
  | SCB_CTL
  | SCB_PASS
  | SCB_CNT
  | SCB_CNT2
  | SCB_CNT3
  | SCB_LOST_LOG
  | LNE_CFG
  | LNE_STAT
  | LNE_SLIP
  | LNE_ERR
  | PTL_CFG
  | PTL_SLEEP
  | PTL_STATE
  | PTL_AGENT
  | PTL_INQ
  | PTL_EQ
  | PTL_CROUTE
  | PTL_TAGS
  | PTL_STAT
  | PTL_STAT2
  | PTL_STAT3
  | PTL_STAT4
  | IMG_CMD
  | IMG_CMD_STAT
  | IMG_STATE
  | IMG_FAIL
  | IMG_FAIL_PART
  | IMG_STREAM
  | IMG_WHEN_LO
  | IMG_WHEN_HI
  | IMG_SLOTS
  | IMG_ID_LO
  | IMG_ID_HI
  | IMG_INFO
  | IMG_SETCMD
  | IMG_SETREC0
  | IMG_SETREC1
  | IMG_SETREC2
  | IMG_SETREC3
  | IMG_SETSTAT
  | CAN_CFG
  | CAN_CTL
  | CAN_TEMP
  | CAN_SENSOR
  | CAN_SHAFT
  | CAN_STAT
  | PWR_CFG
  | PWR_AVS
  | PWR_SHAFT
  | PWR_ENERGY
  | GRD_HIT
  | GRD_RATE
  | GRD_PORT
  | GRD_PORT2
  | GRD_WIN0
  | GRD_WIN1
  | GRD_LANE
  | GRD_DEV
  | GRD_TPL0
  | GRD_TPL1
  | GRD_TPL2
  | GRD_STAT
  | GRD_STAT2
  | BST_STAT
  | BST_CNT
  | BST_CNT2
  | SHF_SLICE_STAT
  | SHF_ATTN
  | SHF_RST
  | DEV_ATTN
  deriving DecidableEq, Repr

/-- The table row of each field. -/
def Fld.desc : Fld → FldDesc
  | .SHF_PLANE_ID => ⟨.SHF, 8, .deep, .rw, 0x3F8, false⟩
  | .SHF_ROUTE_TARGET => ⟨.SHF, 4, .deep, .rw, 0x3F8, false⟩
  | .SHF_FWD_STAT_ROUTE_MISS => ⟨.SHF, 32, .deep, .rc, 0x3F8, false⟩
  | .SHF_FWD_STAT2_LATE_ANSWER => ⟨.SHF, 32, .deep, .rc, 0x3F8, false⟩
  | .SHF_CTL_DEEP_OPEN => ⟨.SHF, 1, .surface, .rw, 0x3F8, false⟩
  | .SHF_CTL_KEY => ⟨.SHF, 8, .surface, .wo, 0x0, true⟩
  | .DEV_CTL_DEEP_OPEN => ⟨.DEV, 1, .surface, .rw, 0x3FC, false⟩
  | .DEV_CTL_KEY => ⟨.DEV, 8, .surface, .wo, 0x0, true⟩
  | .SGATE_EN => ⟨.sgate, 1, .surface, .rw, 0x3F8, false⟩
  | .DGATE_EN => ⟨.dgate, 1, .surface, .rw, 0x3FC, false⟩
  | .SGATE_HALTED => ⟨.sgate, 1, .surface, .ro, 0x0, true⟩
  | .DGATE_HALTED => ⟨.dgate, 1, .surface, .ro, 0x0, true⟩
  | .SGATE_HITS_HITS => ⟨.sgate, 16, .deep, .rc, 0x3F8, false⟩
  | .DGATE_HITS_HITS => ⟨.dgate, 16, .deep, .rc, 0x3FC, false⟩
  | .CGE_CFG_DDR => ⟨.CGE, 1, .surface, .rw, 0x3FC, false⟩
  | .CGE_CFG_SILENCE_MS => ⟨.CGE, 16, .surface, .rw, 0x3FC, false⟩
  | .CGE_STAT_BAD_HDR => ⟨.CGE, 16, .deep, .rc, 0x3FC, false⟩
  | .CGE_STAT_BAD_DATA => ⟨.CGE, 16, .deep, .rc, 0x3FC, false⟩
  | .CGE_LAST_FAIL_WORD => ⟨.CGE, 11, .surface, .ro, 0x3FC, false⟩
  | .CGE_LAST_FAIL_OUTCOME => ⟨.CGE, 4, .surface, .ro, 0x3FC, false⟩
  | .EVL_STAT_COUNT => ⟨.EVL, 13, .surface, .ro, 0x3FE, false⟩
  | .EVL_STAT_DROPPED => ⟨.EVL, 16, .surface, .rc, 0x3FE, false⟩
  | .HAU_STAT_CORR => ⟨.HAU, 16, .deep, .rc, 0x3F8, false⟩
  | .HAU_STAT_UNCORR => ⟨.HAU, 16, .deep, .rc, 0x3F8, false⟩
  | .HAU_STAT2_LAYER_ABSENT => ⟨.HAU, 16, .deep, .rc, 0x3F8, false⟩
  | .HAU_STAT2_CREDIT_HOLD => ⟨.HAU, 16, .deep, .rc, 0x3F8, false⟩
  | .HAU_VLINK_RETIRED => ⟨.HAU, 16, .surface, .ro, 0x3F8, false⟩
  | .PCE_STOPE_TEMPO => ⟨.PCE, 8, .surface, .rw, 0x3F8, false⟩
  | .PCE_STOPE_SRC => ⟨.PCE, 1, .surface, .rw, 0x3F8, false⟩
  | .PCE_STOPE_DIV => ⟨.PCE, 7, .deep, .rw, 0x3F8, false⟩
  | .PCE_STOPE_AUTO_FB => ⟨.PCE, 1, .deep, .rw, 0x3F8, false⟩
  | .PCE_STOPE_ACTIVE => ⟨.PCE, 1, .surface, .ro, 0x3F8, false⟩
  | .PCE_STOPE_RAMPING => ⟨.PCE, 1, .surface, .ro, 0x0, true⟩
  | .PCE_STOPE_FORCED => ⟨.PCE, 1, .surface, .w1c, 0x3F0, false⟩
  | .PCE_SLIP_SLIP => ⟨.PCE, 16, .deep, .rc, 0x3F8, false⟩
  | .PCE_SLIP_STRETCH => ⟨.PCE, 16, .deep, .rc, 0x3F8, false⟩
  | .PCE_TPLL_LOCK => ⟨.PCE, 1, .surface, .ro, 0x0, true⟩
  | .CLK_CFG_AUTO_RETURN => ⟨.CLK, 1, .deep, .rw, 0x3FC, false⟩
  | .CLK_CFG_RETURN_NOW => ⟨.CLK, 1, .deep, .wo, 0x0, true⟩
  | .CLK_CFG_REFSEL => ⟨.CLK, 1, .surface, .ro, 0x3FC, false⟩
  | .CLK_CFG_REF_OK => ⟨.CLK, 1, .surface, .ro, 0x0, true⟩
  | .CLK_STATE_SHAFT => ⟨.CLK, 3, .surface, .ro, 0x0, true⟩
  | .CLK_QUAL_QUAL => ⟨.CLK, 16, .surface, .ro, 0x0, true⟩
  | .CLK_QUAL_LOOP_LANE => ⟨.CLK, 4, .surface, .ro, 0x0, true⟩
  | .CLK_STAT_LOSSES => ⟨.CLK, 16, .deep, .rc, 0x3FC, false⟩
  | .TIM_CFG_SOURCE => ⟨.TIM, 1, .deep, .rw, 0x3FE, false⟩
  | .TIM_CFG_SHAFT => ⟨.TIM, 3, .deep, .rw, 0x3FE, false⟩
  | .TIM_CFG_PORT => ⟨.TIM, 3, .deep, .rw, 0x3FE, false⟩
  | .TIM_CFG_PERIOD_US => ⟨.TIM, 16, .deep, .rw, 0x3FE, false⟩
  | .TIM_NOW_LO_NOW_LO => ⟨.TIM, 32, .surface, .ro, 0x3FE, false⟩
  | .TIM_NOW_HI_NOW_HI => ⟨.TIM, 32, .surface, .ro, 0x3FE, false⟩
  | .TIM_ASYM_ASYM_NS => ⟨.TIM, 16, .deep, .rw, 0x3FE, false⟩
  | .TIM_OFFSET_OFFSET => ⟨.TIM, 32, .surface, .ro, 0x0, true⟩
  | .TIM_STAT_LOCKED => ⟨.TIM, 1, .surface, .ro, 0x0, true⟩
  | .TIM_STAT_STEPS => ⟨.TIM, 16, .deep, .rc, 0x3FE, false⟩
  | .TLY_CFG_DEADLINE_US => ⟨.TLY, 11, .surface, .rw, 0x3F8, false⟩
  | .TLY_CFG_RESERVE => ⟨.TLY, 13, .deep, .rw, 0x3F8, false⟩
  | .TLY_CFG2_DRAIN_US => ⟨.TLY, 11, .deep, .rw, 0x3F8, false⟩
  | .TLY_COUNT_OPEN => ⟨.TLY, 16, .surface, .ro, 0x0, true⟩
  | .TLY_COUNT_PEAK => ⟨.TLY, 16, .deep, .rc, 0x3F8, false⟩
  | .TLY_CLOCK_NOW => ⟨.TLY, 32, .surface, .ro, 0x3F8, false⟩
  | .TLY_STAT_EXPIRED => ⟨.TLY, 16, .deep, .rc, 0x3F8, false⟩
  | .TLY_STAT_NO_TALLY => ⟨.TLY, 16, .deep, .rc, 0x3F8, false⟩
  | .TLY_STAT2_STALE => ⟨.TLY, 16, .deep, .rc, 0x3F8, false⟩
  | .TLY_STAT2_LATE => ⟨.TLY, 16, .deep, .rc, 0x3F8, false⟩
  | .TLY_STAT3_ABANDONED => ⟨.TLY, 16, .deep, .rc, 0x3F8, false⟩
  | .TLY_STAT3_BAD_CLASS => ⟨.TLY, 8, .deep, .rc, 0x3F8, false⟩
  | .TLY_STAT3_BAD_HAUL => ⟨.TLY, 8, .deep, .rc, 0x3F8, false⟩
  | .TLY_STAT4_NO_PORTAL => ⟨.TLY, 16, .deep, .rc, 0x3F8, false⟩
  | .TLY_STAT4_OVER_QUOTA => ⟨.TLY, 16, .deep, .rc, 0x3F8, false⟩
  | .TLY_STAT5_NO_SLOT => ⟨.TLY, 16, .deep, .rc, 0x3F8, false⟩
  | .TLY_QUOTA_QUOTA => ⟨.TLY, 16, .surface, .ro, 0x0, true⟩
  | .TLY_KILL_TALLY => ⟨.TLY, 15, .deep, .wo, 0x0, true⟩
  | .TLY_KILL_GO => ⟨.TLY, 1, .deep, .wo, 0x0, true⟩
  | .CLM_ENTRY0_VALID => ⟨.CLM, 1, .surface, .ro, 0x3F8, false⟩
  | .CLM_ENTRY0_CACHEABLE => ⟨.CLM, 1, .surface, .ro, 0x3F8, false⟩
  | .CLM_ENTRY0_SPECULABLE => ⟨.CLM, 1, .surface, .ro, 0x3F8, false⟩
  | .CLM_ENTRY0_PORTAL => ⟨.CLM, 3, .surface, .ro, 0x3F8, false⟩
  | .CLM_ENTRY1_BASE_GIB => ⟨.CLM, 22, .surface, .ro, 0x3F8, false⟩
  | .CLM_ENTRY2_READ => ⟨.CLM, 32, .surface, .ro, 0x3F8, false⟩
  | .CLM_ENTRY3_WRITE => ⟨.CLM, 32, .surface, .ro, 0x3F8, false⟩
  | .CLM_ENTRY4_CACHE => ⟨.CLM, 32, .surface, .ro, 0x3F8, false⟩
  | .CLM_ENTRY5_ENTRIES => ⟨.CLM, 23, .surface, .ro, 0x3F8, false⟩
  | .CLM_ENTRY6_OPEN => ⟨.CLM, 16, .surface, .ro, 0x0, true⟩
  | .CLM_ENTRY6_GRANULE => ⟨.CLM, 10, .surface, .ro, 0x3F8, false⟩
  | .CLM_ENTRY6_MAPPED => ⟨.CLM, 1, .surface, .ro, 0x3F8, false⟩
  | .CLM_MAP_CLAIM => ⟨.CLM, 8, .deep, .ro, 0x3F8, false⟩
  | .CLM_MAP_VALID => ⟨.CLM, 1, .deep, .ro, 0x3F8, false⟩
  | .CLM_STAGE0_VALID => ⟨.CLM, 1, .deep, .rw, 0x3F8, false⟩
  | .CLM_STAGE0_CACHEABLE => ⟨.CLM, 1, .deep, .rw, 0x3F8, false⟩
  | .CLM_STAGE0_SPECULABLE => ⟨.CLM, 1, .deep, .rw, 0x3F8, false⟩
  | .CLM_STAGE0_PORTAL => ⟨.CLM, 3, .deep, .rw, 0x3F8, false⟩
  | .CLM_STAGE1_BASE_GIB => ⟨.CLM, 22, .deep, .rw, 0x3F8, false⟩
  | .CLM_STAGE2_READ => ⟨.CLM, 32, .deep, .rw, 0x3F8, false⟩
  | .CLM_STAGE3_WRITE => ⟨.CLM, 32, .deep, .rw, 0x3F8, false⟩
  | .CLM_STAGE4_CACHE => ⟨.CLM, 32, .deep, .rw, 0x3F8, false⟩
  | .CLM_CMD_CLAIM => ⟨.CLM, 8, .deep, .wo, 0x0, true⟩
  | .CLM_CMD_GRANULE => ⟨.CLM, 10, .deep, .wo, 0x0, true⟩
  | .CLM_CMD_OP => ⟨.CLM, 3, .deep, .wo, 0x0, true⟩
  | .CLM_CMD_GO => ⟨.CLM, 1, .deep, .wo, 0x0, true⟩
  | .CLM_CMD_STAT_BUSY => ⟨.CLM, 1, .surface, .ro, 0x0, true⟩
  | .CLM_CMD_STAT_LOST => ⟨.CLM, 1, .surface, .w1c, 0x3F8, false⟩
  | .CLM_CMD_STAT_RESULT => ⟨.CLM, 3, .surface, .ro, 0x3F8, false⟩
  | .CLM_SWEEP_CLAIM => ⟨.CLM, 8, .deep, .wo, 0x0, true⟩
  | .CLM_SWEEP_GO => ⟨.CLM, 1, .deep, .wo, 0x0, true⟩
  | .CLM_SWEEP_STAT_BUSY => ⟨.CLM, 1, .surface, .ro, 0x0, true⟩
  | .CLM_SWEEP_STAT_LOST => ⟨.CLM, 1, .surface, .w1c, 0x3F8, false⟩
  | .CLM_SWEEP_STAT_FAILS => ⟨.CLM, 16, .deep, .rc, 0x3F8, false⟩
  | .CLM_SWEEP_CNT_RECALLS => ⟨.CLM, 32, .deep, .ro, 0x3F8, false⟩
  | .CLM_STAT_UNMAPPED => ⟨.CLM, 16, .deep, .rc, 0x3F8, false⟩
  | .CLM_STAT_RIGHTS_DENIED => ⟨.CLM, 16, .deep, .rc, 0x3F8, false⟩
  | .CLM_STAT2_MEM_UNREACHABLE => ⟨.CLM, 16, .deep, .rc, 0x3F8, false⟩
  | .DIR_CFG_RECALL_OP => ⟨.DIR, 8, .deep, .rw, 0x3F8, false⟩
  | .DIR_CFG_BCAST_GROUPS => ⟨.DIR, 5, .deep, .rw, 0x3F8, false⟩
  | .DIR_NEED_NEED => ⟨.DIR, 3, .deep, .rw, 0x3F8, false⟩
  | .DIR_PRESENT_PRESENT => ⟨.DIR, 32, .deep, .rw, 0x3F8, false⟩
  | .DIR_STAT_RECALLS => ⟨.DIR, 16, .deep, .rc, 0x3F8, false⟩
  | .DIR_STAT_RECALL_FAIL => ⟨.DIR, 16, .deep, .rc, 0x3F8, false⟩
  | .DIR_STAT2_SET_STALL => ⟨.DIR, 16, .deep, .rc, 0x3F8, false⟩
  | .DIR_STAT2_CORR => ⟨.DIR, 16, .deep, .rc, 0x3F8, false⟩
  | .DIR_STAT3_UNCORR => ⟨.DIR, 8, .deep, .rc, 0x3F8, false⟩
  | .DIR_STAT3_QUARANTINED => ⟨.DIR, 16, .surface, .ro, 0x3F8, false⟩
  | .HWR_CFG_STEP_LIMIT => ⟨.HWR, 10, .deep, .rw, 0x3F8, false⟩
  | .HWR_EPOCH_CURRENT => ⟨.HWR, 1, .surface, .ro, 0x3F8, false⟩
  | .HWR_EPOCH_LOADED0 => ⟨.HWR, 1, .surface, .ro, 0x3F8, false⟩
  | .HWR_EPOCH_LOADED1 => ⟨.HWR, 1, .surface, .ro, 0x3F8, false⟩
  | .HWR_EPOCH_ARMED => ⟨.HWR, 1, .surface, .ro, 0x3F8, false⟩
  | .HWR_EPOCH_CNT_COUNT0 => ⟨.HWR, 16, .surface, .ro, 0x3F8, false⟩
  | .HWR_EPOCH_CNT_COUNT1 => ⟨.HWR, 16, .surface, .ro, 0x3F8, false⟩
  | .HWR_FLIP_GO => ⟨.HWR, 1, .deep, .wo, 0x0, true⟩
  | .HWR_FLIP_STAT_RESULT => ⟨.HWR, 3, .surface, .ro, 0x3F8, false⟩
  | .HWR_BANK_CTL_BANK => ⟨.HWR, 1, .deep, .wo, 0x0, true⟩
  | .HWR_BANK_CTL_SEAL => ⟨.HWR, 1, .deep, .wo, 0x0, true⟩
  | .HWR_BANK_CRC_CRC => ⟨.HWR, 32, .deep, .rw, 0x3F8, false⟩
  | .HWR_BANK_STAT_BUSY => ⟨.HWR, 1, .surface, .ro, 0x0, true⟩
  | .HWR_BANK_STAT_RESULT => ⟨.HWR, 2, .surface, .ro, 0x3F8, false⟩
  | .HWR_BANK_STAT_LOST => ⟨.HWR, 1, .surface, .w1c, 0x3F8, false⟩
  | .HWR_RETIRE_HEWER => ⟨.HWR, 6, .deep, .wo, 0x0, true⟩
  | .HWR_RETIRE_FORCE => ⟨.HWR, 1, .deep, .wo, 0x0, true⟩
  | .HWR_RETIRE_GO => ⟨.HWR, 1, .deep, .wo, 0x0, true⟩
  | .HWR_RETIRE_STAT_BUSY => ⟨.HWR, 1, .surface, .ro, 0x0, true⟩
  | .HWR_RETIRE_STAT_RESULT => ⟨.HWR, 3, .surface, .ro, 0x3F8, false⟩
  | .HWR_STAT_TRAPS => ⟨.HWR, 16, .deep, .rc, 0x3F8, false⟩
  | .HWR_STAT_NO_HANDLER => ⟨.HWR, 16, .deep, .rc, 0x3F8, false⟩
  | .HWR_STAT2_STORE_CORR => ⟨.HWR, 16, .deep, .rc, 0x3F8, false⟩
  | .HWR_STAT2_STORE_REFETCH => ⟨.HWR, 16, .deep, .rc, 0x3F8, false⟩
  | .HWR_STAT3_THREAD_WAIT => ⟨.HWR, 16, .deep, .rc, 0x3F8, false⟩
  | .HWR_TRAP_LOG0_CAUSE => ⟨.HWR, 4, .deep, .ro, 0x3F8, false⟩
  | .HWR_TRAP_LOG0_HEWER => ⟨.HWR, 6, .deep, .ro, 0x3F8, false⟩
  | .HWR_TRAP_LOG0_THREAD => ⟨.HWR, 4, .deep, .ro, 0x3F8, false⟩
  | .HWR_TRAP_LOG0_EPOCH => ⟨.HWR, 1, .deep, .ro, 0x3F8, false⟩
  | .HWR_TRAP_LOG0_PC => ⟨.HWR, 14, .deep, .ro, 0x3F8, false⟩
  | .HWR_TRAP_LOG0_HELD => ⟨.HWR, 1, .deep, .w1c, 0x3F8, false⟩
  | .HWR_TRAP_LOG1_TALLY => ⟨.HWR, 15, .deep, .ro, 0x3F8, false⟩
  | .HWR_TRAP_LOG1_KEY => ⟨.HWR, 15, .deep, .ro, 0x3F8, false⟩
  | .HWR_TRAP_LOG2_INSTR_LO => ⟨.HWR, 32, .deep, .ro, 0x3F8, false⟩
  | .HWR_TRAP_LOG3_INSTR_HI => ⟨.HWR, 32, .deep, .ro, 0x3F8, false⟩
  | .HWR_UNIT_ROLE => ⟨.HWR, 3, .surface, .ro, 0x3FC, false⟩
  | .HWR_UNIT_THREADS => ⟨.HWR, 5, .surface, .ro, 0x0, true⟩
  | .HWR_UNIT_REG_CORR => ⟨.HWR, 8, .deep, .rc, 0x3F8, false⟩
  | .HWR_UNIT_TRAPS => ⟨.HWR, 8, .deep, .rc, 0x3F8, false⟩
  | .HWR_CTR_COUNT => ⟨.HWR, 32, .deep, .rc, 0x3F8, false⟩
  | .PTL_DL_STAT_STARTED => ⟨.PTL, 16, .deep, .rc, 0x3F8, false⟩
  | .PTL_DL_STAT_CONFIRMED => ⟨.PTL, 16, .deep, .rc, 0x3F8, false⟩
  | .PTL_DL_STAT2_ABORTED => ⟨.PTL, 16, .deep, .rc, 0x3F8, false⟩
  | .PTL_DL_STAT2_DECLINED => ⟨.PTL, 16, .deep, .rc, 0x3F8, false⟩
  | .PTL_DL_STAT3_REWIND_FAIL => ⟨.PTL, 16, .deep, .rc, 0x3F8, false⟩
  | .PTL_DL_STAT3_PORT_ABORT => ⟨.PTL, 16, .deep, .rc, 0x3F8, false⟩
  | .PTL_DL_GATE_OCCUPANCY => ⟨.PTL, 10, .surface, .ro, 0x0, true⟩
  | .PTL_DL_GATE_HOLD_FULL => ⟨.PTL, 16, .deep, .rc, 0x3F8, false⟩
  | .PTL_DL_GATE2_HELD => ⟨.PTL, 16, .deep, .rc, 0x3F8, false⟩
  | .PTL_DL_GATE2_DISCARDED => ⟨.PTL, 16, .deep, .rc, 0x3F8, false⟩
  | .STP_SPEC_EXPOSE => ⟨.STP, 1, .deep, .rw, 0x3F8, false⟩
  | .STP_SPEC_STAINED => ⟨.STP, 1, .surface, .ro, 0x3F0, false⟩
  | .STP_SPEC_LINEAGE => ⟨.STP, 3, .surface, .ro, 0x0, true⟩
  | .STP_SPEC_STAIN_DROP => ⟨.STP, 16, .deep, .rc, 0x3F0, false⟩
  | .QMG_CFG_RING_SLOTS => ⟨.QMG, 7, .surface, .ro, 0x3F8, false⟩
  | .QMG_STAGE0_BASE => ⟨.QMG, 26, .surface, .rw, 0x3F8, false⟩
  | .QMG_STAGE0_SIZE => ⟨.QMG, 5, .surface, .rw, 0x3F8, false⟩
  | .QMG_STAGE0_PLACE => ⟨.QMG, 1, .deep, .rw, 0x3F8, false⟩
  | .QMG_STAGE1_HWM => ⟨.QMG, 20, .surface, .rw, 0x3F8, false⟩
  | .QMG_STAGE2_LWM => ⟨.QMG, 20, .surface, .rw, 0x3F8, false⟩
  | .QMG_STAGE3_VALID => ⟨.QMG, 1, .surface, .rw, 0x3F8, false⟩
  | .QMG_STAGE3_MODE => ⟨.QMG, 1, .deep, .rw, 0x3F8, false⟩
  | .QMG_STAGE3_WAIT => ⟨.QMG, 1, .surface, .rw, 0x3F8, false⟩
  | .QMG_STAGE3_PIN => ⟨.QMG, 2, .surface, .rw, 0x3F8, false⟩
  | .QMG_STAGE3_PIN_EN => ⟨.QMG, 1, .surface, .rw, 0x3F8, false⟩
  | .QMG_STAGE3_CR_PORTAL => ⟨.QMG, 3, .surface, .rw, 0x3F8, false⟩
  | .QMG_STAGE3_CR_EN => ⟨.QMG, 1, .surface, .rw, 0x3F8, false⟩
  | .QMG_CMD_QUEUE => ⟨.QMG, 17, .surface, .wo, 0x0, true⟩
  | .QMG_CMD_OP => ⟨.QMG, 3, .surface, .wo, 0x0, true⟩
  | .QMG_CMD_GO => ⟨.QMG, 1, .surface, .wo, 0x0, true⟩
  | .QMG_CMD_STAT_BUSY => ⟨.QMG, 1, .surface, .ro, 0x0, true⟩
  | .QMG_CMD_STAT_LOST => ⟨.QMG, 1, .surface, .w1c, 0x3F8, false⟩
  | .QMG_CMD_STAT_RESULT => ⟨.QMG, 3, .surface, .ro, 0x3F8, false⟩
  | .QMG_HOST_CMD_QUEUE => ⟨.QMG, 17, .deep, .wo, 0x0, true⟩
  | .QMG_HOST_CMD_OP => ⟨.QMG, 3, .deep, .wo, 0x0, true⟩
  | .QMG_HOST_CMD_CLASS => ⟨.QMG, 4, .deep, .wo, 0x0, true⟩
  | .QMG_HOST_CMD_GO => ⟨.QMG, 1, .deep, .wo, 0x0, true⟩
  | .QMG_HOST_STAT_BUSY => ⟨.QMG, 1, .surface, .ro, 0x0, true⟩
  | .QMG_HOST_STAT_LOST => ⟨.QMG, 1, .surface, .w1c, 0x3F8, false⟩
  | .QMG_HOST_STAT_RESULT => ⟨.QMG, 3, .surface, .ro, 0x3F8, false⟩
  | .QMG_HOST_STAT_CLASS => ⟨.QMG, 4, .surface, .ro, 0x3F8, false⟩
  | .QMG_HOST_TUB_DATA => ⟨.QMG, 32, .deep, .rw, 0x3F8, false⟩
  | .QMG_FC_PINS => ⟨.QMG, 4, .surface, .ro, 0x0, true⟩
  | .QMG_STAT_DROPS => ⟨.QMG, 16, .deep, .rc, 0x3F8, false⟩
  | .QMG_STAT_UNDERRUNS => ⟨.QMG, 16, .deep, .rc, 0x3F8, false⟩
  | .QMG_STAT2_MARKS_LOST => ⟨.QMG, 16, .deep, .rc, 0x3F8, false⟩
  | .QMG_STAT2_REWIND_REFUSED => ⟨.QMG, 16, .deep, .rc, 0x3F8, false⟩
  | .QMG_STAT3_PENDING => ⟨.QMG, 16, .deep, .rc, 0x3F8, false⟩
  | .QMG_STAT3_INVALID_Q => ⟨.QMG, 16, .deep, .rc, 0x3F8, false⟩
  | .QMG_STAT4_DEEP_ERR => ⟨.QMG, 16, .deep, .rc, 0x3F8, false⟩
  | .QMG_STAT4_WAITS => ⟨.QMG, 16, .deep, .rc, 0x3F8, false⟩
  | .STP_CFG_SYNC3 => ⟨.STP, 1, .deep, .rw, 0x3F8, false⟩
  | .STP_STAT_COMPAT => ⟨.STP, 1, .surface, .ro, 0x0, true⟩
  | .STP_STAT_PAIRED => ⟨.STP, 1, .surface, .ro, 0x0, true⟩
  | .STP_STAT_PAIR_FAULT => ⟨.STP, 1, .surface, .w1c, 0x3F0, false⟩
  | .STP_STAT_RELEASED => ⟨.STP, 1, .surface, .ro, 0x0, true⟩
  | .STP_STAT_CONTENDED => ⟨.STP, 1, .surface, .w1c, 0x3F0, false⟩
  | .STP_STAT_CONTENTIONS => ⟨.STP, 16, .deep, .rc, 0x3F0, false⟩
  | .STP_CONT_LOG_SEGMENT => ⟨.STP, 16, .deep, .ro, 0x3F0, false⟩
  | .STP_CONT_LOG_VALID => ⟨.STP, 1, .deep, .ro, 0x3F0, false⟩
  | .STP_STAT2_VC2_DROP => ⟨.STP, 16, .deep, .rc, 0x3F8, false⟩
  | .BLK_PORT_ASPECT_A => ⟨.BLK, 4, .surface, .ro, 0x0, true⟩
  | .BLK_PORT_ASPECT_B => ⟨.BLK, 4, .surface, .ro, 0x0, true⟩
  | .BLK_PORT_ROW_A => ⟨.BLK, 2, .surface, .ro, 0x0, true⟩
  | .BLK_PORT_ROW_B => ⟨.BLK, 2, .surface, .ro, 0x0, true⟩
  | .BLK_PORT_USED => ⟨.BLK, 1, .surface, .ro, 0x0, true⟩
  | .BLK_STAT_COLL => ⟨.BLK, 16, .deep, .rc, 0x3F8, false⟩
  | .CTX_STOPE_ACTIVE => ⟨.CTX, 3, .surface, .ro, 0x3F8, false⟩
  | .CTX_STOPE_SHADOW => ⟨.CTX, 3, .surface, .ro, 0x350, false⟩
  | .CTX_STOPE_SH_STATE => ⟨.CTX, 2, .surface, .ro, 0x350, false⟩
  | .CTX_STOPE_GANG => ⟨.CTX, 4, .deep, .rw, 0x3F8, false⟩
  | .CTX_STOPE_GANG_EN => ⟨.CTX, 1, .deep, .rw, 0x3F8, false⟩
  | .CTX_STOPE_BOOT => ⟨.CTX, 3, .surface, .ro, 0x3F8, false⟩
  | .CTX_STOPE_ID => ⟨.CTX, 16, .surface, .ro, 0x3F8, false⟩
  | .CTX_SLOT_STATE => ⟨.CTX, 2, .surface, .ro, 0x3F8, false⟩
  | .CTX_CMD_STOPE => ⟨.CTX, 7, .deep, .wo, 0x0, true⟩
  | .CTX_CMD_CONTEXT => ⟨.CTX, 3, .deep, .wo, 0x0, true⟩
  | .CTX_CMD_GANG => ⟨.CTX, 4, .deep, .wo, 0x0, true⟩
  | .CTX_CMD_OP => ⟨.CTX, 3, .deep, .wo, 0x0, true⟩
  | .CTX_CMD_GO => ⟨.CTX, 1, .deep, .wo, 0x0, true⟩
  | .CTX_CMD_STAT_BUSY => ⟨.CTX, 1, .surface, .ro, 0x0, true⟩
  | .CTX_CMD_STAT_LOST => ⟨.CTX, 1, .surface, .w1c, 0x3F8, false⟩
  | .CTX_CMD_STAT_RESULT => ⟨.CTX, 4, .surface, .ro, 0x3F8, false⟩
  | .CTX_LOAD_STAT_RESULT => ⟨.CTX, 2, .surface, .ro, 0x3F8, false⟩
  | .CTX_LOAD_STAT_CAUSE => ⟨.CTX, 4, .surface, .ro, 0x3F8, false⟩
  | .CTX_LOAD_ADDR_FRAME_ADDR => ⟨.CTX, 20, .surface, .ro, 0x3F8, false⟩
  | .CTX_RB_CTL_FRAME_ADDR => ⟨.CTX, 20, .deep, .wo, 0x0, true⟩
  | .CTX_RB_CTL_PLANE => ⟨.CTX, 2, .deep, .wo, 0x0, true⟩
  | .CTX_RB_CTL_GO => ⟨.CTX, 1, .deep, .wo, 0x0, true⟩
  | .CTX_RB_STAT_BUSY => ⟨.CTX, 1, .surface, .ro, 0x0, true⟩
  | .CTX_RB_STAT_VALID => ⟨.CTX, 1, .surface, .ro, 0x0, true⟩
  | .CTX_RB_STAT_UNCORR => ⟨.CTX, 1, .surface, .ro, 0x0, true⟩
  | .CTX_RB_STAT_CHECK_OK => ⟨.CTX, 1, .surface, .ro, 0x0, true⟩
  | .CTX_RB_DATA_DATA => ⟨.CTX, 32, .deep, .ro, 0x0, true⟩
  | .CTX_RB_CHECK_CHECK => ⟨.CTX, 32, .deep, .ro, 0x0, true⟩
  | .CTX_STAT_SWAPS => ⟨.CTX, 16, .deep, .rc, 0x3F8, false⟩
  | .CTX_STAT_REFUSED => ⟨.CTX, 16, .deep, .rc, 0x3F8, false⟩
  | .CTX_STAT2_PRELOADS => ⟨.CTX, 16, .deep, .rc, 0x3F8, false⟩
  | .CTX_STAT2_RELOADS => ⟨.CTX, 16, .deep, .rc, 0x3F8, false⟩
  | .SCB_STAT_STATE0 => ⟨.SCB, 2, .surface, .ro, 0x3F8, false⟩
  | .SCB_STAT_STATE1 => ⟨.SCB, 2, .surface, .ro, 0x3F8, false⟩
  | .SCB_CTL_RESTART0 => ⟨.SCB, 1, .deep, .wo, 0x0, true⟩
  | .SCB_CTL_RESTART1 => ⟨.SCB, 1, .deep, .wo, 0x0, true⟩
  | .SCB_PASS_PASSES => ⟨.SCB, 16, .deep, .rc, 0x3F8, false⟩
  | .SCB_PASS_LAST_US => ⟨.SCB, 16, .surface, .ro, 0x3F8, false⟩
  | .SCB_CNT_CORR => ⟨.SCB, 16, .deep, .rc, 0x3F8, false⟩
  | .SCB_CNT_VOTE_CORR => ⟨.SCB, 16, .deep, .rc, 0x3F8, false⟩
  | .SCB_CNT2_PLAN_CORR => ⟨.SCB, 16, .deep, .rc, 0x3F8, false⟩
  | .SCB_CNT2_PLAN_UNCORR => ⟨.SCB, 16, .deep, .rc, 0x3F8, false⟩
  | .SCB_CNT3_RECOVERED => ⟨.SCB, 16, .deep, .rc, 0x3F8, false⟩
  | .SCB_CNT3_LOST => ⟨.SCB, 8, .deep, .rc, 0x3F8, false⟩
  | .SCB_CNT3_STUCK => ⟨.SCB, 8, .deep, .rc, 0x3F8, false⟩
  | .SCB_LOST_LOG_FRAME_ADDR => ⟨.SCB, 20, .deep, .ro, 0x3F8, false⟩
  | .SCB_LOST_LOG_VALID => ⟨.SCB, 1, .deep, .ro, 0x3F8, false⟩
  | .LNE_CFG_MAX_RATE => ⟨.LNE, 3, .surface, .rw, 0x3F8, false⟩
  | .LNE_CFG_SLEEP_EN => ⟨.LNE, 1, .surface, .rw, 0x3F8, false⟩
  | .LNE_CFG_TX_SWING => ⟨.LNE, 4, .deep, .rw, 0x3F8, false⟩
  | .LNE_CFG_TX_PRE => ⟨.LNE, 4, .deep, .rw, 0x3F8, false⟩
  | .LNE_CFG_TX_POST => ⟨.LNE, 4, .deep, .rw, 0x3F8, false⟩
  | .LNE_STAT_RATE => ⟨.LNE, 3, .surface, .ro, 0x0, true⟩
  | .LNE_STAT_CDR_LOCK => ⟨.LNE, 1, .surface, .ro, 0x0, true⟩
  | .LNE_STAT_TX_SLEEP => ⟨.LNE, 1, .surface, .ro, 0x0, true⟩
  | .LNE_STAT_RX_SLEEP => ⟨.LNE, 1, .surface, .ro, 0x0, true⟩
  | .LNE_STAT_SLIP_POS => ⟨.LNE, 6, .deep, .ro, 0x0, true⟩
  | .LNE_STAT_SLIP_IGNORED => ⟨.LNE, 1, .deep, .w1c, 0x3B8, false⟩
  | .LNE_SLIP_GO => ⟨.LNE, 1, .deep, .wo, 0x0, true⟩
  | .LNE_SLIP_DIR => ⟨.LNE, 1, .deep, .wo, 0x0, true⟩
  | .LNE_ERR_FEC_CORR => ⟨.LNE, 16, .deep, .rc, 0x3F8, false⟩
  | .LNE_ERR_FEC_UNCORR => ⟨.LNE, 16, .deep, .rc, 0x3F8, false⟩
  | .PTL_CFG_ENABLE => ⟨.PTL, 1, .surface, .rw, 0x3F8, false⟩
  | .PTL_CFG_WIDTH => ⟨.PTL, 3, .deep, .rw, 0x3F8, false⟩
  | .PTL_CFG_FIRST_LANE => ⟨.PTL, 4, .deep, .rw, 0x3F8, false⟩
  | .PTL_CFG_ROLE => ⟨.PTL, 2, .deep, .rw, 0x3F8, false⟩
  | .PTL_CFG_ORIENT => ⟨.PTL, 1, .deep, .rw, 0x3F8, false⟩
  | .PTL_CFG_MODE => ⟨.PTL, 1, .deep, .rw, 0x3F8, false⟩
  | .PTL_CFG_HOLD => ⟨.PTL, 1, .deep, .rw, 0x3B8, false⟩
  | .PTL_CFG_SLEEP_EN => ⟨.PTL, 1, .surface, .rw, 0x3F8, false⟩
  | .PTL_CFG_MIN_WIDTH => ⟨.PTL, 3, .surface, .rw, 0x3F8, false⟩
  | .PTL_SLEEP_IDLE_US => ⟨.PTL, 16, .deep, .rw, 0x3F8, false⟩
  | .PTL_STATE_STATE => ⟨.PTL, 3, .surface, .ro, 0x0, true⟩
  | .PTL_STATE_TRAINED => ⟨.PTL, 3, .surface, .ro, 0x0, true⟩
  | .PTL_STATE_PRESENT => ⟨.PTL, 3, .surface, .ro, 0x0, true⟩
  | .PTL_STATE_RATE => ⟨.PTL, 3, .surface, .ro, 0x0, true⟩
  | .PTL_STATE_CFG_ERR => ⟨.PTL, 3, .surface, .ro, 0x3F8, false⟩
  | .PTL_STATE_FAILS => ⟨.PTL, 4, .surface, .ro, 0x0, true⟩
  | .PTL_AGENT_BASE => ⟨.PTL, 10, .deep, .rw, 0x3F8, false⟩
  | .PTL_AGENT_COUNT => ⟨.PTL, 11, .deep, .rw, 0x3F8, false⟩
  | .PTL_INQ_QUEUE => ⟨.PTL, 17, .deep, .rw, 0x3F8, false⟩
  | .PTL_EQ_QUEUE => ⟨.PTL, 17, .deep, .rw, 0x3F8, false⟩
  | .PTL_CROUTE_ROUTE => ⟨.PTL, 2, .deep, .rw, 0x3F8, false⟩
  | .PTL_CROUTE_QUEUE => ⟨.PTL, 17, .deep, .rw, 0x3F8, false⟩
  | .PTL_TAGS_IN_USE => ⟨.PTL, 13, .surface, .ro, 0x0, true⟩
  | .PTL_TAGS_TAG_WAIT => ⟨.PTL, 16, .deep, .rc, 0x3F8, false⟩
  | .PTL_STAT_BAD_AGENT => ⟨.PTL, 16, .deep, .rc, 0x3F8, false⟩
  | .PTL_STAT_UNKNOWN_MSG => ⟨.PTL, 16, .deep, .rc, 0x3F8, false⟩
  | .PTL_STAT2_STALE_TAG => ⟨.PTL, 16, .deep, .rc, 0x3F8, false⟩
  | .PTL_STAT2_DOWN_DROP => ⟨.PTL, 16, .deep, .rc, 0x3F8, false⟩
  | .PTL_STAT3_REPLAYS => ⟨.PTL, 16, .deep, .rc, 0x3F8, false⟩
  | .PTL_STAT3_RETRAINS => ⟨.PTL, 16, .deep, .rc, 0x3F8, false⟩
  | .PTL_STAT4_COOL_RETRY => ⟨.PTL, 16, .deep, .rc, 0x3F8, false⟩
  | .PTL_STAT4_SNP_UNREACHABLE => ⟨.PTL, 16, .deep, .rc, 0x3F8, false⟩
  | .IMG_CMD_OP => ⟨.IMG, 4, .surface, .wo, 0x0, true⟩
  | .IMG_CMD_GO => ⟨.IMG, 1, .surface, .wo, 0x0, true⟩
  | .IMG_CMD_STAT_BUSY => ⟨.IMG, 1, .surface, .ro, 0x0, true⟩
  | .IMG_CMD_STAT_LOST => ⟨.IMG, 1, .surface, .w1c, 0x3FC, false⟩
  | .IMG_CMD_STAT_RESULT => ⟨.IMG, 2, .surface, .ro, 0x3FC, false⟩
  | .IMG_STATE_STATE => ⟨.IMG, 4, .surface, .ro, 0x3FC, false⟩
  | .IMG_FAIL_CAUSE => ⟨.IMG, 5, .surface, .ro, 0x3FC, false⟩
  | .IMG_FAIL_DETAIL => ⟨.IMG, 16, .surface, .ro, 0x3FC, false⟩
  | .IMG_FAIL_PART_PART => ⟨.IMG, 11, .surface, .ro, 0x3FC, false⟩
  | .IMG_STREAM_NEXT => ⟨.IMG, 32, .surface, .ro, 0x3FC, false⟩
  | .IMG_WHEN_LO_WHEN_LO => ⟨.IMG, 32, .surface, .rw, 0x3FC, false⟩
  | .IMG_WHEN_HI_WHEN_HI => ⟨.IMG, 32, .surface, .rw, 0x3FC, false⟩
  | .IMG_SLOTS_ACTIVE => ⟨.IMG, 1, .surface, .ro, 0x3FC, false⟩
  | .IMG_SLOTS_PROBATION => ⟨.IMG, 1, .surface, .ro, 0x3FC, false⟩
  | .IMG_SLOTS_RUNNING => ⟨.IMG, 1, .surface, .ro, 0x3FC, false⟩
  | .IMG_SLOTS_FALLBACK => ⟨.IMG, 1, .surface, .ro, 0x3FC, false⟩
  | .IMG_SLOTS_ROLLED_BACK => ⟨.IMG, 1, .surface, .ro, 0x3FC, false⟩
  | .IMG_SLOTS_PARTIAL_LIVE => ⟨.IMG, 1, .surface, .ro, 0x3FC, false⟩
  | .IMG_SLOTS_CHARTER_PENDING => ⟨.IMG, 1, .surface, .ro, 0x3FE, false⟩
  | .IMG_ID_LO_ID_LO => ⟨.IMG, 32, .surface, .ro, 0x3FC, false⟩
  | .IMG_ID_HI_ID_HI => ⟨.IMG, 32, .surface, .ro, 0x3FC, false⟩
  | .IMG_INFO_SLOT_64K => ⟨.IMG, 16, .surface, .ro, 0x3FC, false⟩
  | .IMG_INFO_KEYS => ⟨.IMG, 4, .surface, .ro, 0x3FE, false⟩
  | .IMG_SETCMD_OP => ⟨.IMG, 2, .deep, .wo, 0x0, true⟩
  | .IMG_SETCMD_GO => ⟨.IMG, 1, .deep, .wo, 0x0, true⟩
  | .IMG_SETREC0_ADDR_LO => ⟨.IMG, 32, .deep, .rw, 0x3FC, false⟩
  | .IMG_SETREC1_ADDR_HI => ⟨.IMG, 4, .deep, .rw, 0x3FC, false⟩
  | .IMG_SETREC2_VALUE => ⟨.IMG, 32, .deep, .rw, 0x3FC, false⟩
  | .IMG_SETREC3_MASK => ⟨.IMG, 32, .deep, .rw, 0x3FC, false⟩
  | .IMG_SETSTAT_BUSY => ⟨.IMG, 1, .surface, .ro, 0x0, true⟩
  | .IMG_SETSTAT_RESULT => ⟨.IMG, 2, .surface, .ro, 0x3FC, false⟩
  | .IMG_SETSTAT_COUNT => ⟨.IMG, 12, .surface, .ro, 0x3FC, false⟩
  | .IMG_SETSTAT_SKIPPED => ⟨.IMG, 16, .deep, .rc, 0x3FC, false⟩
  | .CAN_CFG_FAST_ALL => ⟨.CAN, 1, .deep, .rw, 0x3FC, false⟩
  | .CAN_CTL_SHAFT => ⟨.CAN, 3, .deep, .wo, 0x0, true⟩
  | .CAN_CTL_LAYER => ⟨.CAN, 3, .deep, .wo, 0x0, true⟩
  | .CAN_CTL_REARM => ⟨.CAN, 1, .deep, .wo, 0x0, true⟩
  | .CAN_TEMP_READING => ⟨.CAN, 8, .surface, .ro, 0x0, true⟩
  | .CAN_TEMP_ESTIMATE => ⟨.CAN, 8, .surface, .ro, 0x0, true⟩
  | .CAN_TEMP_EFFECTIVE => ⟨.CAN, 8, .surface, .ro, 0x0, true⟩
  | .CAN_TEMP_SUSPECT => ⟨.CAN, 1, .surface, .ro, 0x3FE, false⟩
  | .CAN_SENSOR_VALUE => ⟨.CAN, 12, .deep, .ro, 0x0, true⟩
  | .CAN_SENSOR_BROKEN => ⟨.CAN, 1, .surface, .ro, 0x3FE, false⟩
  | .CAN_SENSOR_CAUSE => ⟨.CAN, 2, .surface, .ro, 0x3FE, false⟩
  | .CAN_SHAFT_CAP => ⟨.CAN, 3, .surface, .ro, 0x0, true⟩
  | .CAN_SHAFT_FAST => ⟨.CAN, 1, .surface, .ro, 0x0, true⟩
  | .CAN_SHAFT_THERMAL => ⟨.CAN, 3, .surface, .ro, 0x0, true⟩
  | .CAN_STAT_TRIPS => ⟨.CAN, 8, .deep, .rc, 0x3FE, false⟩
  | .CAN_STAT_SUSPECTS => ⟨.CAN, 8, .deep, .rc, 0x3FE, false⟩
  | .CAN_STAT_THROTTLE_MS => ⟨.CAN, 16, .deep, .rc, 0x3FE, false⟩
  | .PWR_CFG_GOV_EN => ⟨.PWR, 1, .surface, .rw, 0x3FC, false⟩
  | .PWR_CFG_FIXED_MV => ⟨.PWR, 10, .deep, .rw, 0x3FC, false⟩
  | .PWR_AVS_REQ_MV => ⟨.PWR, 10, .surface, .ro, 0x0, true⟩
  | .PWR_AVS_MON_MV => ⟨.PWR, 10, .surface, .ro, 0x0, true⟩
  | .PWR_AVS_CAP_MV => ⟨.PWR, 10, .surface, .ro, 0x3FC, false⟩
  | .PWR_AVS_AVS_FAULT => ⟨.PWR, 1, .surface, .w1c, 0x3FC, false⟩
  | .PWR_SHAFT_DOZE => ⟨.PWR, 1, .surface, .rw, 0x3F8, false⟩
  | .PWR_SHAFT_STATE => ⟨.PWR, 2, .surface, .ro, 0x0, true⟩
  | .PWR_ENERGY_UJ => ⟨.PWR, 32, .deep, .ro, 0x0, true⟩
  | .GRD_HIT_SHAFT => ⟨.GRD, 8, .surface, .w1c, 0x3FC, false⟩
  | .GRD_RATE_RATE => ⟨.GRD, 13, .surface, .ro, 0x3FC, false⟩
  | .GRD_RATE_BURST => ⟨.GRD, 12, .surface, .ro, 0x3FC, false⟩
  | .GRD_PORT_AGENT_LO => ⟨.GRD, 10, .surface, .ro, 0x3FC, false⟩
  | .GRD_PORT_AGENT_HI => ⟨.GRD, 10, .surface, .ro, 0x3FC, false⟩
  | .GRD_PORT_LINK_RESETS => ⟨.GRD, 3, .surface, .ro, 0x3FC, false⟩
  | .GRD_PORT2_MGT_KTPS => ⟨.GRD, 16, .surface, .ro, 0x3FC, false⟩
  | .GRD_WIN0_BASE_GIB => ⟨.GRD, 22, .surface, .ro, 0x3FC, false⟩
  | .GRD_WIN1_SIZE_GIB => ⟨.GRD, 22, .surface, .ro, 0x3FC, false⟩
  | .GRD_LANE_SWING_CAP => ⟨.GRD, 4, .surface, .ro, 0x3FC, false⟩
  | .GRD_LANE_PRE_CAP => ⟨.GRD, 4, .surface, .ro, 0x3FC, false⟩
  | .GRD_LANE_POST_CAP => ⟨.GRD, 4, .surface, .ro, 0x3FC, false⟩
  | .GRD_DEV_CAP_MV => ⟨.GRD, 10, .surface, .ro, 0x3FC, false⟩
  | .GRD_TPL0_READ => ⟨.GRD, 32, .surface, .ro, 0x3FC, false⟩
  | .GRD_TPL1_WRITE => ⟨.GRD, 32, .surface, .ro, 0x3FC, false⟩
  | .GRD_TPL2_CACHE => ⟨.GRD, 32, .surface, .ro, 0x3FC, false⟩
  | .GRD_STAT_DROPS => ⟨.GRD, 16, .deep, .rc, 0x3FC, false⟩
  | .GRD_STAT_LINK_DEFER => ⟨.GRD, 16, .deep, .rc, 0x3FC, false⟩
  | .GRD_STAT2_CLIPS => ⟨.GRD, 16, .deep, .rc, 0x3FC, false⟩
  | .GRD_STAT2_LAST_CAUSE => ⟨.GRD, 4, .deep, .ro, 0x3FC, false⟩
  | .BST_STAT_STATUS => ⟨.BST, 32, .surface, .ro, 0x3FC, false⟩
  | .BST_CNT_PASSED => ⟨.BST, 16, .deep, .rc, 0x3FC, false⟩
  | .BST_CNT_FAILED => ⟨.BST, 16, .deep, .rc, 0x3FC, false⟩
  | .BST_CNT2_REFUSED => ⟨.BST, 16, .deep, .rc, 0x3FC, false⟩
  | .BST_CNT2_SPARES => ⟨.BST, 8, .surface, .ro, 0x3FC, false⟩
  | .SHF_CTL_SLICE => ⟨.SHF, 2, .deep, .wo, 0x0, true⟩
  | .SHF_SLICE_STAT_STATE => ⟨.SHF, 2, .surface, .ro, 0x0, true⟩
  | .SHF_SLICE_STAT_LAYER => ⟨.SHF, 1, .surface, .ro, 0x0, true⟩
  | .SHF_SLICE_STAT_LOST => ⟨.SHF, 1, .surface, .w1c, 0x3F8, false⟩
  | .SHF_ATTN_TALLY_ABANDONED => ⟨.SHF, 1, .surface, .w1c, 0x3F8, false⟩
  | .SHF_ATTN_DIR_UNCORR => ⟨.SHF, 1, .surface, .w1c, 0x3F8, false⟩
  | .SHF_ATTN_SCB_STUCK => ⟨.SHF, 1, .surface, .w1c, 0x3F8, false⟩
  | .SHF_ATTN_SCB_FRAME_LOST => ⟨.SHF, 1, .surface, .w1c, 0x3F8, false⟩
  | .SHF_ATTN_SENSOR_BROKEN => ⟨.SHF, 1, .surface, .w1c, 0x3F8, false⟩
  | .SHF_ATTN_BST_FAIL => ⟨.SHF, 1, .surface, .w1c, 0x3F8, false⟩
  | .SHF_ATTN_LODE_UNCORR => ⟨.SHF, 1, .surface, .w1c, 0x3F8, false⟩
  | .SHF_RST_SHAFT_RESETS => ⟨.SHF, 8, .deep, .rc, 0x3FC, false⟩
  | .SHF_RST_SLICE_RESETS => ⟨.SHF, 8, .deep, .rc, 0x3FC, false⟩
  | .DEV_ATTN_FORE_UNPLANNED => ⟨.DEV, 1, .surface, .w1c, 0x3FC, false⟩
  | .DEV_ATTN_BOOT_FALLBACK => ⟨.DEV, 1, .surface, .w1c, 0x3FC, false⟩
  | .DEV_ATTN_PROBATION_ROLLBACK => ⟨.DEV, 1, .surface, .w1c, 0x3FC, false⟩
  | .DEV_ATTN_AVS_FAULT => ⟨.DEV, 1, .surface, .w1c, 0x3FC, false⟩
  | .DEV_ATTN_SETTING_SKIPPED => ⟨.DEV, 1, .surface, .w1c, 0x3FC, false⟩

/-- Reset value of element `e` of a field in scope `sc` (shaft 0 to 7, or 8 for the device-common window). Fields whose Reset
column names the strap, the fuses, the boot, the image or the charter start at 0 here (DESIGN CHOICE, assumption 2). -/
def Fld.reset (f : Fld) (sc e : Nat) : Nat :=
  match f with
  | .SHF_PLANE_ID => sc
  | .CGE_CFG_SILENCE_MS => 100
  | .EVL_STAT_COUNT => 1
  | .PCE_STOPE_TEMPO => 255
  | .PCE_STOPE_DIV => 64
  | .PCE_STOPE_AUTO_FB => 1
  | .CLK_CFG_AUTO_RETURN => 1
  | .TIM_CFG_PERIOD_US => 1000
  | .TLY_CFG_DEADLINE_US => 1000
  | .TLY_CFG_RESERVE => 256
  | .TLY_CFG2_DRAIN_US => 1000
  | .DIR_CFG_RECALL_OP => 240
  | .DIR_CFG_BCAST_GROUPS => 24
  | .DIR_NEED_NEED => 7
  | .HWR_CFG_STEP_LIMIT => 512
  | .HWR_UNIT_ROLE => if e = 12 ∨ e = 25 ∨ e = 38 ∨ e = 51 then 1 else 0
  | .QMG_CFG_RING_SLOTS => 48
  | .STP_STAT_COMPAT => if e ≤ 7 then 1 else 0
  | .LNE_CFG_MAX_RATE => 5
  | .LNE_CFG_SLEEP_EN => 1
  | .LNE_CFG_TX_SWING => 8
  | .LNE_CFG_TX_PRE => 2
  | .LNE_CFG_TX_POST => 4
  | .PTL_CFG_SLEEP_EN => 1
  | .PTL_SLEEP_IDLE_US => 100
  | .IMG_FAIL_PART_PART => 2047
  | .PWR_CFG_GOV_EN => 1
  | .PWR_CFG_FIXED_MV => 750
  | .PWR_AVS_REQ_MV => 750
  | .BST_CNT2_SPARES => 64
  | _ => 0

/-- The block of each register. -/
def Reg.blk : Reg → Block
  | .SHF_PLANE => .SHF
  | .SHF_ROUTE => .SHF
  | .SHF_FWD_STAT => .SHF
  | .SHF_FWD_STAT2 => .SHF
  | .SHF_CTL => .SHF
  | .DEV_CTL => .DEV
  | .SGATE => .sgate
  | .DGATE => .dgate
  | .SGATE_HITS => .sgate
  | .DGATE_HITS => .dgate
  | .CGE_CFG => .CGE
  | .CGE_STAT => .CGE
  | .CGE_LAST_FAIL => .CGE
  | .EVL_STAT => .EVL
  | .HAU_STAT => .HAU
  | .HAU_STAT2 => .HAU
  | .HAU_VLINK => .HAU
  | .PCE_STOPE => .PCE
  | .PCE_SLIP => .PCE
  | .PCE_TPLL => .PCE
  | .CLK_CFG => .CLK
  | .CLK_STATE => .CLK
  | .CLK_QUAL => .CLK
  | .CLK_STAT => .CLK
  | .TIM_CFG => .TIM
  | .TIM_NOW_LO => .TIM
  | .TIM_NOW_HI => .TIM
  | .TIM_ASYM => .TIM
  | .TIM_OFFSET => .TIM
  | .TIM_STAT => .TIM
  | .TLY_CFG => .TLY
  | .TLY_CFG2 => .TLY
  | .TLY_COUNT => .TLY
  | .TLY_CLOCK => .TLY
  | .TLY_STAT => .TLY
  | .TLY_STAT2 => .TLY
  | .TLY_STAT3 => .TLY
  | .TLY_STAT4 => .TLY
  | .TLY_STAT5 => .TLY
  | .TLY_QUOTA => .TLY
  | .TLY_KILL => .TLY
  | .CLM_ENTRY0 => .CLM
  | .CLM_ENTRY1 => .CLM
  | .CLM_ENTRY2 => .CLM
  | .CLM_ENTRY3 => .CLM
  | .CLM_ENTRY4 => .CLM
  | .CLM_ENTRY5 => .CLM
  | .CLM_ENTRY6 => .CLM
  | .CLM_ENTRY7 => .CLM
  | .CLM_MAP => .CLM
  | .CLM_STAGE0 => .CLM
  | .CLM_STAGE1 => .CLM
  | .CLM_STAGE2 => .CLM
  | .CLM_STAGE3 => .CLM
  | .CLM_STAGE4 => .CLM
  | .CLM_CMD => .CLM
  | .CLM_CMD_STAT => .CLM
  | .CLM_SWEEP => .CLM
  | .CLM_SWEEP_STAT => .CLM
  | .CLM_SWEEP_CNT => .CLM
  | .CLM_STAT => .CLM
  | .CLM_STAT2 => .CLM
  | .DIR_CFG => .DIR
  | .DIR_NEED => .DIR
  | .DIR_PRESENT => .DIR
  | .DIR_STAT => .DIR
  | .DIR_STAT2 => .DIR
  | .DIR_STAT3 => .DIR
  | .HWR_CFG => .HWR
  | .HWR_EPOCH => .HWR
  | .HWR_EPOCH_CNT => .HWR
  | .HWR_FLIP => .HWR
  | .HWR_FLIP_STAT => .HWR
  | .HWR_BANK_CTL => .HWR
  | .HWR_BANK_CRC => .HWR
  | .HWR_BANK_STAT => .HWR
  | .HWR_RETIRE => .HWR
  | .HWR_RETIRE_STAT => .HWR
  | .HWR_STAT => .HWR
  | .HWR_STAT2 => .HWR
  | .HWR_STAT3 => .HWR
  | .HWR_TRAP_LOG0 => .HWR
  | .HWR_TRAP_LOG1 => .HWR
  | .HWR_TRAP_LOG2 => .HWR
  | .HWR_TRAP_LOG3 => .HWR
  | .HWR_UNIT => .HWR
  | .HWR_CTR => .HWR
  | .PTL_DL_STAT => .PTL
  | .PTL_DL_STAT2 => .PTL
  | .PTL_DL_STAT3 => .PTL
  | .PTL_DL_GATE => .PTL
  | .PTL_DL_GATE2 => .PTL
  | .STP_SPEC => .STP
  | .QMG_CFG => .QMG
  | .QMG_STAGE0 => .QMG
  | .QMG_STAGE1 => .QMG
  | .QMG_STAGE2 => .QMG
  | .QMG_STAGE3 => .QMG
  | .QMG_CMD => .QMG
  | .QMG_CMD_STAT => .QMG
  | .QMG_HOST_CMD => .QMG
  | .QMG_HOST_STAT => .QMG
  | .QMG_HOST_TUB => .QMG
  | .QMG_FC => .QMG
  | .QMG_STAT => .QMG
  | .QMG_STAT2 => .QMG
  | .QMG_STAT3 => .QMG
  | .QMG_STAT4 => .QMG
  | .STP_CFG => .STP
  | .STP_STAT => .STP
  | .STP_CONT_LOG => .STP
  | .STP_STAT2 => .STP
  | .BLK_PORT => .BLK
  | .BLK_STAT => .BLK
  | .CTX_STOPE => .CTX
  | .CTX_SLOT => .CTX
  | .CTX_CMD => .CTX
  | .CTX_CMD_STAT => .CTX
  | .CTX_LOAD_STAT => .CTX
  | .CTX_LOAD_ADDR => .CTX
  | .CTX_RB_CTL => .CTX
  | .CTX_RB_STAT => .CTX
  | .CTX_RB_DATA => .CTX
  | .CTX_RB_CHECK => .CTX
  | .CTX_STAT => .CTX
  | .CTX_STAT2 => .CTX
  | .SCB_STAT => .SCB
  | .SCB_CTL => .SCB
  | .SCB_PASS => .SCB
  | .SCB_CNT => .SCB
  | .SCB_CNT2 => .SCB
  | .SCB_CNT3 => .SCB
  | .SCB_LOST_LOG => .SCB
  | .LNE_CFG => .LNE
  | .LNE_STAT => .LNE
  | .LNE_SLIP => .LNE
  | .LNE_ERR => .LNE
  | .PTL_CFG => .PTL
  | .PTL_SLEEP => .PTL
  | .PTL_STATE => .PTL
  | .PTL_AGENT => .PTL
  | .PTL_INQ => .PTL
  | .PTL_EQ => .PTL
  | .PTL_CROUTE => .PTL
  | .PTL_TAGS => .PTL
  | .PTL_STAT => .PTL
  | .PTL_STAT2 => .PTL
  | .PTL_STAT3 => .PTL
  | .PTL_STAT4 => .PTL
  | .IMG_CMD => .IMG
  | .IMG_CMD_STAT => .IMG
  | .IMG_STATE => .IMG
  | .IMG_FAIL => .IMG
  | .IMG_FAIL_PART => .IMG
  | .IMG_STREAM => .IMG
  | .IMG_WHEN_LO => .IMG
  | .IMG_WHEN_HI => .IMG
  | .IMG_SLOTS => .IMG
  | .IMG_ID_LO => .IMG
  | .IMG_ID_HI => .IMG
  | .IMG_INFO => .IMG
  | .IMG_SETCMD => .IMG
  | .IMG_SETREC0 => .IMG
  | .IMG_SETREC1 => .IMG
  | .IMG_SETREC2 => .IMG
  | .IMG_SETREC3 => .IMG
  | .IMG_SETSTAT => .IMG
  | .CAN_CFG => .CAN
  | .CAN_CTL => .CAN
  | .CAN_TEMP => .CAN
  | .CAN_SENSOR => .CAN
  | .CAN_SHAFT => .CAN
  | .CAN_STAT => .CAN
  | .PWR_CFG => .PWR
  | .PWR_AVS => .PWR
  | .PWR_SHAFT => .PWR
  | .PWR_ENERGY => .PWR
  | .GRD_HIT => .GRD
  | .GRD_RATE => .GRD
  | .GRD_PORT => .GRD
  | .GRD_PORT2 => .GRD
  | .GRD_WIN0 => .GRD
  | .GRD_WIN1 => .GRD
  | .GRD_LANE => .GRD
  | .GRD_DEV => .GRD
  | .GRD_TPL0 => .GRD
  | .GRD_TPL1 => .GRD
  | .GRD_TPL2 => .GRD
  | .GRD_STAT => .GRD
  | .GRD_STAT2 => .GRD
  | .BST_STAT => .BST
  | .BST_CNT => .BST
  | .BST_CNT2 => .BST
  | .SHF_SLICE_STAT => .SHF
  | .SHF_ATTN => .SHF
  | .SHF_RST => .SHF
  | .DEV_ATTN => .DEV

/-- How many elements the spec gives each register. The GATE registers are counted by block code. -/
def Reg.count : Reg → Nat
  | .SHF_ROUTE => 1024
  | .SGATE => 31
  | .DGATE => 31
  | .SGATE_HITS => 31
  | .DGATE_HITS => 31
  | .PCE_STOPE => 128
  | .PCE_SLIP => 128
  | .CLK_QUAL => 8
  | .TLY_QUOTA => 8
  | .CLM_ENTRY0 => 256
  | .CLM_ENTRY1 => 256
  | .CLM_ENTRY2 => 256
  | .CLM_ENTRY3 => 256
  | .CLM_ENTRY4 => 256
  | .CLM_ENTRY5 => 256
  | .CLM_ENTRY6 => 256
  | .CLM_ENTRY7 => 256
  | .CLM_MAP => 1024
  | .DIR_NEED => 256
  | .DIR_PRESENT => 32
  | .HWR_UNIT => 52
  | .HWR_CTR => 64
  | .PTL_DL_GATE => 8
  | .PTL_DL_GATE2 => 8
  | .STP_SPEC => 128
  | .QMG_HOST_TUB => 16
  | .STP_CFG => 128
  | .STP_STAT => 128
  | .STP_CONT_LOG => 8
  | .STP_STAT2 => 128
  | .BLK_PORT => 8192
  | .BLK_STAT => 128
  | .CTX_STOPE => 128
  | .CTX_SLOT => 128
  | .CTX_RB_DATA => 32
  | .SCB_PASS => 2
  | .LNE_CFG => 16
  | .LNE_STAT => 16
  | .LNE_SLIP => 16
  | .LNE_ERR => 16
  | .PTL_CFG => 8
  | .PTL_SLEEP => 8
  | .PTL_STATE => 8
  | .PTL_AGENT => 8
  | .PTL_INQ => 8
  | .PTL_EQ => 8
  | .PTL_CROUTE => 128
  | .PTL_TAGS => 8
  | .PTL_STAT => 8
  | .PTL_STAT2 => 8
  | .PTL_STAT3 => 8
  | .PTL_STAT4 => 8
  | .CAN_TEMP => 40
  | .CAN_SENSOR => 240
  | .CAN_SHAFT => 8
  | .PWR_SHAFT => 8
  | .PWR_ENERGY => 40
  | .GRD_RATE => 1024
  | .GRD_PORT => 64
  | .GRD_PORT2 => 64
  | .GRD_WIN0 => 2048
  | .GRD_WIN1 => 2048
  | .GRD_LANE => 128
  | .GRD_TPL0 => 2048
  | .GRD_TPL1 => 2048
  | .GRD_TPL2 => 2048
  | .GRD_STAT => 64
  | .GRD_STAT2 => 64
  | .BST_STAT => 8
  | _ => 1

/-- The fields of each register word and their places; bits no field covers are reserved (R15). -/
def Reg.places : Reg → List (Fld × Place)
  | .SHF_PLANE => [(.SHF_PLANE_ID, ⟨0, 1, 0⟩)]
  | .SHF_ROUTE => [(.SHF_ROUTE_TARGET, ⟨0, 1, 0⟩)]
  | .SHF_FWD_STAT => [(.SHF_FWD_STAT_ROUTE_MISS, ⟨0, 1, 0⟩)]
  | .SHF_FWD_STAT2 => [(.SHF_FWD_STAT2_LATE_ANSWER, ⟨0, 1, 0⟩)]
  | .SHF_CTL => [(.SHF_CTL_DEEP_OPEN, ⟨0, 1, 0⟩), (.SHF_CTL_KEY, ⟨8, 1, 0⟩), (.SHF_CTL_SLICE, ⟨16, 1, 0⟩)]
  | .DEV_CTL => [(.DEV_CTL_DEEP_OPEN, ⟨0, 1, 0⟩), (.DEV_CTL_KEY, ⟨8, 1, 0⟩)]
  | .SGATE => [(.SGATE_EN, ⟨0, 1, 0⟩), (.SGATE_HALTED, ⟨1, 1, 0⟩)]
  | .DGATE => [(.DGATE_EN, ⟨0, 1, 0⟩), (.DGATE_HALTED, ⟨1, 1, 0⟩)]
  | .SGATE_HITS => [(.SGATE_HITS_HITS, ⟨0, 1, 0⟩)]
  | .DGATE_HITS => [(.DGATE_HITS_HITS, ⟨0, 1, 0⟩)]
  | .CGE_CFG => [(.CGE_CFG_DDR, ⟨0, 1, 0⟩), (.CGE_CFG_SILENCE_MS, ⟨16, 1, 0⟩)]
  | .CGE_STAT => [(.CGE_STAT_BAD_HDR, ⟨0, 1, 0⟩), (.CGE_STAT_BAD_DATA, ⟨16, 1, 0⟩)]
  | .CGE_LAST_FAIL => [(.CGE_LAST_FAIL_WORD, ⟨0, 1, 0⟩), (.CGE_LAST_FAIL_OUTCOME, ⟨12, 1, 0⟩)]
  | .EVL_STAT => [(.EVL_STAT_COUNT, ⟨0, 1, 0⟩), (.EVL_STAT_DROPPED, ⟨16, 1, 0⟩)]
  | .HAU_STAT => [(.HAU_STAT_CORR, ⟨0, 1, 0⟩), (.HAU_STAT_UNCORR, ⟨16, 1, 0⟩)]
  | .HAU_STAT2 => [(.HAU_STAT2_LAYER_ABSENT, ⟨0, 1, 0⟩), (.HAU_STAT2_CREDIT_HOLD, ⟨16, 1, 0⟩)]
  | .HAU_VLINK => [(.HAU_VLINK_RETIRED, ⟨0, 1, 0⟩)]
  | .PCE_STOPE => [(.PCE_STOPE_TEMPO, ⟨0, 1, 0⟩), (.PCE_STOPE_SRC, ⟨8, 1, 0⟩), (.PCE_STOPE_DIV, ⟨9, 1, 0⟩), (.PCE_STOPE_AUTO_FB, ⟨16, 1, 0⟩), (.PCE_STOPE_ACTIVE, ⟨24, 1, 0⟩), (.PCE_STOPE_RAMPING, ⟨25, 1, 0⟩), (.PCE_STOPE_FORCED, ⟨26, 1, 0⟩)]
  | .PCE_SLIP => [(.PCE_SLIP_SLIP, ⟨0, 1, 0⟩), (.PCE_SLIP_STRETCH, ⟨16, 1, 0⟩)]
  | .PCE_TPLL => [(.PCE_TPLL_LOCK, ⟨0, 1, 0⟩)]
  | .CLK_CFG => [(.CLK_CFG_AUTO_RETURN, ⟨0, 1, 0⟩), (.CLK_CFG_RETURN_NOW, ⟨1, 1, 0⟩), (.CLK_CFG_REFSEL, ⟨2, 1, 0⟩), (.CLK_CFG_REF_OK, ⟨3, 1, 0⟩)]
  | .CLK_STATE => [(.CLK_STATE_SHAFT, ⟨0, 1, 0⟩), (.CLK_STATE_SHAFT, ⟨3, 1, 1⟩), (.CLK_STATE_SHAFT, ⟨6, 1, 2⟩), (.CLK_STATE_SHAFT, ⟨9, 1, 3⟩), (.CLK_STATE_SHAFT, ⟨12, 1, 4⟩), (.CLK_STATE_SHAFT, ⟨15, 1, 5⟩), (.CLK_STATE_SHAFT, ⟨18, 1, 6⟩), (.CLK_STATE_SHAFT, ⟨21, 1, 7⟩)]
  | .CLK_QUAL => [(.CLK_QUAL_QUAL, ⟨0, 1, 0⟩), (.CLK_QUAL_LOOP_LANE, ⟨16, 1, 0⟩)]
  | .CLK_STAT => [(.CLK_STAT_LOSSES, ⟨0, 1, 0⟩)]
  | .TIM_CFG => [(.TIM_CFG_SOURCE, ⟨0, 1, 0⟩), (.TIM_CFG_SHAFT, ⟨4, 1, 0⟩), (.TIM_CFG_PORT, ⟨8, 1, 0⟩), (.TIM_CFG_PERIOD_US, ⟨16, 1, 0⟩)]
  | .TIM_NOW_LO => [(.TIM_NOW_LO_NOW_LO, ⟨0, 1, 0⟩)]
  | .TIM_NOW_HI => [(.TIM_NOW_HI_NOW_HI, ⟨0, 1, 0⟩)]
  | .TIM_ASYM => [(.TIM_ASYM_ASYM_NS, ⟨0, 1, 0⟩)]
  | .TIM_OFFSET => [(.TIM_OFFSET_OFFSET, ⟨0, 1, 0⟩)]
  | .TIM_STAT => [(.TIM_STAT_LOCKED, ⟨0, 1, 0⟩), (.TIM_STAT_STEPS, ⟨16, 1, 0⟩)]
  | .TLY_CFG => [(.TLY_CFG_DEADLINE_US, ⟨0, 1, 0⟩), (.TLY_CFG_RESERVE, ⟨16, 1, 0⟩)]
  | .TLY_CFG2 => [(.TLY_CFG2_DRAIN_US, ⟨0, 1, 0⟩)]
  | .TLY_COUNT => [(.TLY_COUNT_OPEN, ⟨0, 1, 0⟩), (.TLY_COUNT_PEAK, ⟨16, 1, 0⟩)]
  | .TLY_CLOCK => [(.TLY_CLOCK_NOW, ⟨0, 1, 0⟩)]
  | .TLY_STAT => [(.TLY_STAT_EXPIRED, ⟨0, 1, 0⟩), (.TLY_STAT_NO_TALLY, ⟨16, 1, 0⟩)]
  | .TLY_STAT2 => [(.TLY_STAT2_STALE, ⟨0, 1, 0⟩), (.TLY_STAT2_LATE, ⟨16, 1, 0⟩)]
  | .TLY_STAT3 => [(.TLY_STAT3_ABANDONED, ⟨0, 1, 0⟩), (.TLY_STAT3_BAD_CLASS, ⟨16, 1, 0⟩), (.TLY_STAT3_BAD_HAUL, ⟨24, 1, 0⟩)]
  | .TLY_STAT4 => [(.TLY_STAT4_NO_PORTAL, ⟨0, 1, 0⟩), (.TLY_STAT4_OVER_QUOTA, ⟨16, 1, 0⟩)]
  | .TLY_STAT5 => [(.TLY_STAT5_NO_SLOT, ⟨0, 1, 0⟩)]
  | .TLY_QUOTA => [(.TLY_QUOTA_QUOTA, ⟨0, 1, 0⟩)]
  | .TLY_KILL => [(.TLY_KILL_TALLY, ⟨0, 1, 0⟩), (.TLY_KILL_GO, ⟨31, 1, 0⟩)]
  | .CLM_ENTRY0 => [(.CLM_ENTRY0_VALID, ⟨0, 1, 0⟩), (.CLM_ENTRY0_CACHEABLE, ⟨1, 1, 0⟩), (.CLM_ENTRY0_SPECULABLE, ⟨2, 1, 0⟩), (.CLM_ENTRY0_PORTAL, ⟨8, 1, 0⟩)]
  | .CLM_ENTRY1 => [(.CLM_ENTRY1_BASE_GIB, ⟨0, 1, 0⟩)]
  | .CLM_ENTRY2 => [(.CLM_ENTRY2_READ, ⟨0, 1, 0⟩)]
  | .CLM_ENTRY3 => [(.CLM_ENTRY3_WRITE, ⟨0, 1, 0⟩)]
  | .CLM_ENTRY4 => [(.CLM_ENTRY4_CACHE, ⟨0, 1, 0⟩)]
  | .CLM_ENTRY5 => [(.CLM_ENTRY5_ENTRIES, ⟨0, 1, 0⟩)]
  | .CLM_ENTRY6 => [(.CLM_ENTRY6_OPEN, ⟨0, 1, 0⟩), (.CLM_ENTRY6_GRANULE, ⟨16, 1, 0⟩), (.CLM_ENTRY6_MAPPED, ⟨31, 1, 0⟩)]
  | .CLM_ENTRY7 => []
  | .CLM_MAP => [(.CLM_MAP_CLAIM, ⟨0, 1, 0⟩), (.CLM_MAP_VALID, ⟨8, 1, 0⟩)]
  | .CLM_STAGE0 => [(.CLM_STAGE0_VALID, ⟨0, 1, 0⟩), (.CLM_STAGE0_CACHEABLE, ⟨1, 1, 0⟩), (.CLM_STAGE0_SPECULABLE, ⟨2, 1, 0⟩), (.CLM_STAGE0_PORTAL, ⟨8, 1, 0⟩)]
  | .CLM_STAGE1 => [(.CLM_STAGE1_BASE_GIB, ⟨0, 1, 0⟩)]
  | .CLM_STAGE2 => [(.CLM_STAGE2_READ, ⟨0, 1, 0⟩)]
  | .CLM_STAGE3 => [(.CLM_STAGE3_WRITE, ⟨0, 1, 0⟩)]
  | .CLM_STAGE4 => [(.CLM_STAGE4_CACHE, ⟨0, 1, 0⟩)]
  | .CLM_CMD => [(.CLM_CMD_CLAIM, ⟨0, 1, 0⟩), (.CLM_CMD_GRANULE, ⟨8, 1, 0⟩), (.CLM_CMD_OP, ⟨20, 1, 0⟩), (.CLM_CMD_GO, ⟨31, 1, 0⟩)]
  | .CLM_CMD_STAT => [(.CLM_CMD_STAT_BUSY, ⟨0, 1, 0⟩), (.CLM_CMD_STAT_LOST, ⟨1, 1, 0⟩), (.CLM_CMD_STAT_RESULT, ⟨8, 1, 0⟩)]
  | .CLM_SWEEP => [(.CLM_SWEEP_CLAIM, ⟨0, 1, 0⟩), (.CLM_SWEEP_GO, ⟨31, 1, 0⟩)]
  | .CLM_SWEEP_STAT => [(.CLM_SWEEP_STAT_BUSY, ⟨0, 1, 0⟩), (.CLM_SWEEP_STAT_LOST, ⟨1, 1, 0⟩), (.CLM_SWEEP_STAT_FAILS, ⟨16, 1, 0⟩)]
  | .CLM_SWEEP_CNT => [(.CLM_SWEEP_CNT_RECALLS, ⟨0, 1, 0⟩)]
  | .CLM_STAT => [(.CLM_STAT_UNMAPPED, ⟨0, 1, 0⟩), (.CLM_STAT_RIGHTS_DENIED, ⟨16, 1, 0⟩)]
  | .CLM_STAT2 => [(.CLM_STAT2_MEM_UNREACHABLE, ⟨0, 1, 0⟩)]
  | .DIR_CFG => [(.DIR_CFG_RECALL_OP, ⟨0, 1, 0⟩), (.DIR_CFG_BCAST_GROUPS, ⟨8, 1, 0⟩)]
  | .DIR_NEED => [(.DIR_NEED_NEED, ⟨0, 1, 0⟩)]
  | .DIR_PRESENT => [(.DIR_PRESENT_PRESENT, ⟨0, 1, 0⟩)]
  | .DIR_STAT => [(.DIR_STAT_RECALLS, ⟨0, 1, 0⟩), (.DIR_STAT_RECALL_FAIL, ⟨16, 1, 0⟩)]
  | .DIR_STAT2 => [(.DIR_STAT2_SET_STALL, ⟨0, 1, 0⟩), (.DIR_STAT2_CORR, ⟨16, 1, 0⟩)]
  | .DIR_STAT3 => [(.DIR_STAT3_UNCORR, ⟨0, 1, 0⟩), (.DIR_STAT3_QUARANTINED, ⟨8, 1, 0⟩)]
  | .HWR_CFG => [(.HWR_CFG_STEP_LIMIT, ⟨0, 1, 0⟩)]
  | .HWR_EPOCH => [(.HWR_EPOCH_CURRENT, ⟨0, 1, 0⟩), (.HWR_EPOCH_LOADED0, ⟨1, 1, 0⟩), (.HWR_EPOCH_LOADED1, ⟨2, 1, 0⟩), (.HWR_EPOCH_ARMED, ⟨3, 1, 0⟩)]
  | .HWR_EPOCH_CNT => [(.HWR_EPOCH_CNT_COUNT0, ⟨0, 1, 0⟩), (.HWR_EPOCH_CNT_COUNT1, ⟨16, 1, 0⟩)]
  | .HWR_FLIP => [(.HWR_FLIP_GO, ⟨0, 1, 0⟩)]
  | .HWR_FLIP_STAT => [(.HWR_FLIP_STAT_RESULT, ⟨0, 1, 0⟩)]
  | .HWR_BANK_CTL => [(.HWR_BANK_CTL_BANK, ⟨0, 1, 0⟩), (.HWR_BANK_CTL_SEAL, ⟨1, 1, 0⟩)]
  | .HWR_BANK_CRC => [(.HWR_BANK_CRC_CRC, ⟨0, 1, 0⟩)]
  | .HWR_BANK_STAT => [(.HWR_BANK_STAT_BUSY, ⟨0, 1, 0⟩), (.HWR_BANK_STAT_RESULT, ⟨1, 1, 0⟩), (.HWR_BANK_STAT_LOST, ⟨3, 1, 0⟩)]
  | .HWR_RETIRE => [(.HWR_RETIRE_HEWER, ⟨0, 1, 0⟩), (.HWR_RETIRE_FORCE, ⟨30, 1, 0⟩), (.HWR_RETIRE_GO, ⟨31, 1, 0⟩)]
  | .HWR_RETIRE_STAT => [(.HWR_RETIRE_STAT_BUSY, ⟨0, 1, 0⟩), (.HWR_RETIRE_STAT_RESULT, ⟨1, 1, 0⟩)]
  | .HWR_STAT => [(.HWR_STAT_TRAPS, ⟨0, 1, 0⟩), (.HWR_STAT_NO_HANDLER, ⟨16, 1, 0⟩)]
  | .HWR_STAT2 => [(.HWR_STAT2_STORE_CORR, ⟨0, 1, 0⟩), (.HWR_STAT2_STORE_REFETCH, ⟨16, 1, 0⟩)]
  | .HWR_STAT3 => [(.HWR_STAT3_THREAD_WAIT, ⟨0, 1, 0⟩)]
  | .HWR_TRAP_LOG0 => [(.HWR_TRAP_LOG0_CAUSE, ⟨0, 1, 0⟩), (.HWR_TRAP_LOG0_HEWER, ⟨4, 1, 0⟩), (.HWR_TRAP_LOG0_THREAD, ⟨10, 1, 0⟩), (.HWR_TRAP_LOG0_EPOCH, ⟨14, 1, 0⟩), (.HWR_TRAP_LOG0_PC, ⟨16, 1, 0⟩), (.HWR_TRAP_LOG0_HELD, ⟨31, 1, 0⟩)]
  | .HWR_TRAP_LOG1 => [(.HWR_TRAP_LOG1_TALLY, ⟨0, 1, 0⟩), (.HWR_TRAP_LOG1_KEY, ⟨16, 1, 0⟩)]
  | .HWR_TRAP_LOG2 => [(.HWR_TRAP_LOG2_INSTR_LO, ⟨0, 1, 0⟩)]
  | .HWR_TRAP_LOG3 => [(.HWR_TRAP_LOG3_INSTR_HI, ⟨0, 1, 0⟩)]
  | .HWR_UNIT => [(.HWR_UNIT_ROLE, ⟨0, 1, 0⟩), (.HWR_UNIT_THREADS, ⟨3, 1, 0⟩), (.HWR_UNIT_REG_CORR, ⟨8, 1, 0⟩), (.HWR_UNIT_TRAPS, ⟨16, 1, 0⟩)]
  | .HWR_CTR => [(.HWR_CTR_COUNT, ⟨0, 1, 0⟩)]
  | .PTL_DL_STAT => [(.PTL_DL_STAT_STARTED, ⟨0, 1, 0⟩), (.PTL_DL_STAT_CONFIRMED, ⟨16, 1, 0⟩)]
  | .PTL_DL_STAT2 => [(.PTL_DL_STAT2_ABORTED, ⟨0, 1, 0⟩), (.PTL_DL_STAT2_DECLINED, ⟨16, 1, 0⟩)]
  | .PTL_DL_STAT3 => [(.PTL_DL_STAT3_REWIND_FAIL, ⟨0, 1, 0⟩), (.PTL_DL_STAT3_PORT_ABORT, ⟨16, 1, 0⟩)]
  | .PTL_DL_GATE => [(.PTL_DL_GATE_OCCUPANCY, ⟨0, 1, 0⟩), (.PTL_DL_GATE_HOLD_FULL, ⟨16, 1, 0⟩)]
  | .PTL_DL_GATE2 => [(.PTL_DL_GATE2_HELD, ⟨0, 1, 0⟩), (.PTL_DL_GATE2_DISCARDED, ⟨16, 1, 0⟩)]
  | .STP_SPEC => [(.STP_SPEC_EXPOSE, ⟨0, 1, 0⟩), (.STP_SPEC_STAINED, ⟨1, 1, 0⟩), (.STP_SPEC_LINEAGE, ⟨2, 1, 0⟩), (.STP_SPEC_STAIN_DROP, ⟨16, 1, 0⟩)]
  | .QMG_CFG => [(.QMG_CFG_RING_SLOTS, ⟨0, 1, 0⟩)]
  | .QMG_STAGE0 => [(.QMG_STAGE0_BASE, ⟨0, 1, 0⟩), (.QMG_STAGE0_SIZE, ⟨26, 1, 0⟩), (.QMG_STAGE0_PLACE, ⟨31, 1, 0⟩)]
  | .QMG_STAGE1 => [(.QMG_STAGE1_HWM, ⟨0, 1, 0⟩)]
  | .QMG_STAGE2 => [(.QMG_STAGE2_LWM, ⟨0, 1, 0⟩)]
  | .QMG_STAGE3 => [(.QMG_STAGE3_VALID, ⟨0, 1, 0⟩), (.QMG_STAGE3_MODE, ⟨1, 1, 0⟩), (.QMG_STAGE3_WAIT, ⟨2, 1, 0⟩), (.QMG_STAGE3_PIN, ⟨3, 1, 0⟩), (.QMG_STAGE3_PIN_EN, ⟨5, 1, 0⟩), (.QMG_STAGE3_CR_PORTAL, ⟨6, 1, 0⟩), (.QMG_STAGE3_CR_EN, ⟨9, 1, 0⟩)]
  | .QMG_CMD => [(.QMG_CMD_QUEUE, ⟨0, 1, 0⟩), (.QMG_CMD_OP, ⟨20, 1, 0⟩), (.QMG_CMD_GO, ⟨31, 1, 0⟩)]
  | .QMG_CMD_STAT => [(.QMG_CMD_STAT_BUSY, ⟨0, 1, 0⟩), (.QMG_CMD_STAT_LOST, ⟨1, 1, 0⟩), (.QMG_CMD_STAT_RESULT, ⟨8, 1, 0⟩)]
  | .QMG_HOST_CMD => [(.QMG_HOST_CMD_QUEUE, ⟨0, 1, 0⟩), (.QMG_HOST_CMD_OP, ⟨17, 1, 0⟩), (.QMG_HOST_CMD_CLASS, ⟨20, 1, 0⟩), (.QMG_HOST_CMD_GO, ⟨31, 1, 0⟩)]
  | .QMG_HOST_STAT => [(.QMG_HOST_STAT_BUSY, ⟨0, 1, 0⟩), (.QMG_HOST_STAT_LOST, ⟨1, 1, 0⟩), (.QMG_HOST_STAT_RESULT, ⟨2, 1, 0⟩), (.QMG_HOST_STAT_CLASS, ⟨8, 1, 0⟩)]
  | .QMG_HOST_TUB => [(.QMG_HOST_TUB_DATA, ⟨0, 1, 0⟩)]
  | .QMG_FC => [(.QMG_FC_PINS, ⟨0, 1, 0⟩)]
  | .QMG_STAT => [(.QMG_STAT_DROPS, ⟨0, 1, 0⟩), (.QMG_STAT_UNDERRUNS, ⟨16, 1, 0⟩)]
  | .QMG_STAT2 => [(.QMG_STAT2_MARKS_LOST, ⟨0, 1, 0⟩), (.QMG_STAT2_REWIND_REFUSED, ⟨16, 1, 0⟩)]
  | .QMG_STAT3 => [(.QMG_STAT3_PENDING, ⟨0, 1, 0⟩), (.QMG_STAT3_INVALID_Q, ⟨16, 1, 0⟩)]
  | .QMG_STAT4 => [(.QMG_STAT4_DEEP_ERR, ⟨0, 1, 0⟩), (.QMG_STAT4_WAITS, ⟨16, 1, 0⟩)]
  | .STP_CFG => [(.STP_CFG_SYNC3, ⟨0, 1, 0⟩)]
  | .STP_STAT => [(.STP_STAT_COMPAT, ⟨0, 1, 0⟩), (.STP_STAT_PAIRED, ⟨1, 1, 0⟩), (.STP_STAT_PAIR_FAULT, ⟨2, 1, 0⟩), (.STP_STAT_RELEASED, ⟨3, 1, 0⟩), (.STP_STAT_CONTENDED, ⟨4, 1, 0⟩), (.STP_STAT_CONTENTIONS, ⟨16, 1, 0⟩)]
  | .STP_CONT_LOG => [(.STP_CONT_LOG_SEGMENT, ⟨0, 1, 0⟩), (.STP_CONT_LOG_VALID, ⟨16, 1, 0⟩)]
  | .STP_STAT2 => [(.STP_STAT2_VC2_DROP, ⟨0, 1, 0⟩)]
  | .BLK_PORT => [(.BLK_PORT_ASPECT_A, ⟨0, 1, 0⟩), (.BLK_PORT_ASPECT_B, ⟨4, 1, 0⟩), (.BLK_PORT_ROW_A, ⟨8, 1, 0⟩), (.BLK_PORT_ROW_B, ⟨10, 1, 0⟩), (.BLK_PORT_USED, ⟨12, 1, 0⟩)]
  | .BLK_STAT => [(.BLK_STAT_COLL, ⟨0, 1, 0⟩)]
  | .CTX_STOPE => [(.CTX_STOPE_ACTIVE, ⟨0, 1, 0⟩), (.CTX_STOPE_SHADOW, ⟨3, 1, 0⟩), (.CTX_STOPE_SH_STATE, ⟨6, 1, 0⟩), (.CTX_STOPE_GANG, ⟨8, 1, 0⟩), (.CTX_STOPE_GANG_EN, ⟨12, 1, 0⟩), (.CTX_STOPE_BOOT, ⟨13, 1, 0⟩), (.CTX_STOPE_ID, ⟨16, 1, 0⟩)]
  | .CTX_SLOT => [(.CTX_SLOT_STATE, ⟨0, 8, 0⟩), (.CTX_SLOT_STATE, ⟨2, 8, 1⟩), (.CTX_SLOT_STATE, ⟨4, 8, 2⟩), (.CTX_SLOT_STATE, ⟨6, 8, 3⟩), (.CTX_SLOT_STATE, ⟨8, 8, 4⟩), (.CTX_SLOT_STATE, ⟨10, 8, 5⟩), (.CTX_SLOT_STATE, ⟨12, 8, 6⟩), (.CTX_SLOT_STATE, ⟨14, 8, 7⟩)]
  | .CTX_CMD => [(.CTX_CMD_STOPE, ⟨0, 1, 0⟩), (.CTX_CMD_CONTEXT, ⟨7, 1, 0⟩), (.CTX_CMD_GANG, ⟨10, 1, 0⟩), (.CTX_CMD_OP, ⟨20, 1, 0⟩), (.CTX_CMD_GO, ⟨31, 1, 0⟩)]
  | .CTX_CMD_STAT => [(.CTX_CMD_STAT_BUSY, ⟨0, 1, 0⟩), (.CTX_CMD_STAT_LOST, ⟨1, 1, 0⟩), (.CTX_CMD_STAT_RESULT, ⟨8, 1, 0⟩)]
  | .CTX_LOAD_STAT => [(.CTX_LOAD_STAT_RESULT, ⟨0, 1, 0⟩), (.CTX_LOAD_STAT_CAUSE, ⟨8, 1, 0⟩)]
  | .CTX_LOAD_ADDR => [(.CTX_LOAD_ADDR_FRAME_ADDR, ⟨0, 1, 0⟩)]
  | .CTX_RB_CTL => [(.CTX_RB_CTL_FRAME_ADDR, ⟨0, 1, 0⟩), (.CTX_RB_CTL_PLANE, ⟨20, 1, 0⟩), (.CTX_RB_CTL_GO, ⟨31, 1, 0⟩)]
  | .CTX_RB_STAT => [(.CTX_RB_STAT_BUSY, ⟨0, 1, 0⟩), (.CTX_RB_STAT_VALID, ⟨1, 1, 0⟩), (.CTX_RB_STAT_UNCORR, ⟨2, 1, 0⟩), (.CTX_RB_STAT_CHECK_OK, ⟨3, 1, 0⟩)]
  | .CTX_RB_DATA => [(.CTX_RB_DATA_DATA, ⟨0, 1, 0⟩)]
  | .CTX_RB_CHECK => [(.CTX_RB_CHECK_CHECK, ⟨0, 1, 0⟩)]
  | .CTX_STAT => [(.CTX_STAT_SWAPS, ⟨0, 1, 0⟩), (.CTX_STAT_REFUSED, ⟨16, 1, 0⟩)]
  | .CTX_STAT2 => [(.CTX_STAT2_PRELOADS, ⟨0, 1, 0⟩), (.CTX_STAT2_RELOADS, ⟨16, 1, 0⟩)]
  | .SCB_STAT => [(.SCB_STAT_STATE0, ⟨0, 1, 0⟩), (.SCB_STAT_STATE1, ⟨2, 1, 0⟩)]
  | .SCB_CTL => [(.SCB_CTL_RESTART0, ⟨0, 1, 0⟩), (.SCB_CTL_RESTART1, ⟨1, 1, 0⟩)]
  | .SCB_PASS => [(.SCB_PASS_PASSES, ⟨0, 1, 0⟩), (.SCB_PASS_LAST_US, ⟨16, 1, 0⟩)]
  | .SCB_CNT => [(.SCB_CNT_CORR, ⟨0, 1, 0⟩), (.SCB_CNT_VOTE_CORR, ⟨16, 1, 0⟩)]
  | .SCB_CNT2 => [(.SCB_CNT2_PLAN_CORR, ⟨0, 1, 0⟩), (.SCB_CNT2_PLAN_UNCORR, ⟨16, 1, 0⟩)]
  | .SCB_CNT3 => [(.SCB_CNT3_RECOVERED, ⟨0, 1, 0⟩), (.SCB_CNT3_LOST, ⟨16, 1, 0⟩), (.SCB_CNT3_STUCK, ⟨24, 1, 0⟩)]
  | .SCB_LOST_LOG => [(.SCB_LOST_LOG_FRAME_ADDR, ⟨0, 1, 0⟩), (.SCB_LOST_LOG_VALID, ⟨20, 1, 0⟩)]
  | .LNE_CFG => [(.LNE_CFG_MAX_RATE, ⟨0, 1, 0⟩), (.LNE_CFG_SLEEP_EN, ⟨3, 1, 0⟩), (.LNE_CFG_TX_SWING, ⟨8, 1, 0⟩), (.LNE_CFG_TX_PRE, ⟨12, 1, 0⟩), (.LNE_CFG_TX_POST, ⟨16, 1, 0⟩)]
  | .LNE_STAT => [(.LNE_STAT_RATE, ⟨0, 1, 0⟩), (.LNE_STAT_CDR_LOCK, ⟨3, 1, 0⟩), (.LNE_STAT_TX_SLEEP, ⟨4, 1, 0⟩), (.LNE_STAT_RX_SLEEP, ⟨5, 1, 0⟩), (.LNE_STAT_SLIP_POS, ⟨6, 1, 0⟩), (.LNE_STAT_SLIP_IGNORED, ⟨12, 1, 0⟩)]
  | .LNE_SLIP => [(.LNE_SLIP_GO, ⟨0, 1, 0⟩), (.LNE_SLIP_DIR, ⟨1, 1, 0⟩)]
  | .LNE_ERR => [(.LNE_ERR_FEC_CORR, ⟨0, 1, 0⟩), (.LNE_ERR_FEC_UNCORR, ⟨16, 1, 0⟩)]
  | .PTL_CFG => [(.PTL_CFG_ENABLE, ⟨0, 1, 0⟩), (.PTL_CFG_WIDTH, ⟨1, 1, 0⟩), (.PTL_CFG_FIRST_LANE, ⟨4, 1, 0⟩), (.PTL_CFG_ROLE, ⟨8, 1, 0⟩), (.PTL_CFG_ORIENT, ⟨10, 1, 0⟩), (.PTL_CFG_MODE, ⟨11, 1, 0⟩), (.PTL_CFG_HOLD, ⟨12, 1, 0⟩), (.PTL_CFG_SLEEP_EN, ⟨13, 1, 0⟩), (.PTL_CFG_MIN_WIDTH, ⟨14, 1, 0⟩)]
  | .PTL_SLEEP => [(.PTL_SLEEP_IDLE_US, ⟨0, 1, 0⟩)]
  | .PTL_STATE => [(.PTL_STATE_STATE, ⟨0, 1, 0⟩), (.PTL_STATE_TRAINED, ⟨3, 1, 0⟩), (.PTL_STATE_PRESENT, ⟨6, 1, 0⟩), (.PTL_STATE_RATE, ⟨9, 1, 0⟩), (.PTL_STATE_CFG_ERR, ⟨12, 1, 0⟩), (.PTL_STATE_FAILS, ⟨15, 1, 0⟩)]
  | .PTL_AGENT => [(.PTL_AGENT_BASE, ⟨0, 1, 0⟩), (.PTL_AGENT_COUNT, ⟨10, 1, 0⟩)]
  | .PTL_INQ => [(.PTL_INQ_QUEUE, ⟨0, 1, 0⟩)]
  | .PTL_EQ => [(.PTL_EQ_QUEUE, ⟨0, 1, 0⟩)]
  | .PTL_CROUTE => [(.PTL_CROUTE_ROUTE, ⟨0, 1, 0⟩), (.PTL_CROUTE_QUEUE, ⟨2, 1, 0⟩)]
  | .PTL_TAGS => [(.PTL_TAGS_IN_USE, ⟨0, 1, 0⟩), (.PTL_TAGS_TAG_WAIT, ⟨16, 1, 0⟩)]
  | .PTL_STAT => [(.PTL_STAT_BAD_AGENT, ⟨0, 1, 0⟩), (.PTL_STAT_UNKNOWN_MSG, ⟨16, 1, 0⟩)]
  | .PTL_STAT2 => [(.PTL_STAT2_STALE_TAG, ⟨0, 1, 0⟩), (.PTL_STAT2_DOWN_DROP, ⟨16, 1, 0⟩)]
  | .PTL_STAT3 => [(.PTL_STAT3_REPLAYS, ⟨0, 1, 0⟩), (.PTL_STAT3_RETRAINS, ⟨16, 1, 0⟩)]
  | .PTL_STAT4 => [(.PTL_STAT4_COOL_RETRY, ⟨0, 1, 0⟩), (.PTL_STAT4_SNP_UNREACHABLE, ⟨16, 1, 0⟩)]
  | .IMG_CMD => [(.IMG_CMD_OP, ⟨0, 1, 0⟩), (.IMG_CMD_GO, ⟨31, 1, 0⟩)]
  | .IMG_CMD_STAT => [(.IMG_CMD_STAT_BUSY, ⟨0, 1, 0⟩), (.IMG_CMD_STAT_LOST, ⟨1, 1, 0⟩), (.IMG_CMD_STAT_RESULT, ⟨2, 1, 0⟩)]
  | .IMG_STATE => [(.IMG_STATE_STATE, ⟨0, 1, 0⟩)]
  | .IMG_FAIL => [(.IMG_FAIL_CAUSE, ⟨0, 1, 0⟩), (.IMG_FAIL_DETAIL, ⟨16, 1, 0⟩)]
  | .IMG_FAIL_PART => [(.IMG_FAIL_PART_PART, ⟨0, 1, 0⟩)]
  | .IMG_STREAM => [(.IMG_STREAM_NEXT, ⟨0, 1, 0⟩)]
  | .IMG_WHEN_LO => [(.IMG_WHEN_LO_WHEN_LO, ⟨0, 1, 0⟩)]
  | .IMG_WHEN_HI => [(.IMG_WHEN_HI_WHEN_HI, ⟨0, 1, 0⟩)]
  | .IMG_SLOTS => [(.IMG_SLOTS_ACTIVE, ⟨0, 1, 0⟩), (.IMG_SLOTS_PROBATION, ⟨1, 1, 0⟩), (.IMG_SLOTS_RUNNING, ⟨2, 1, 0⟩), (.IMG_SLOTS_FALLBACK, ⟨3, 1, 0⟩), (.IMG_SLOTS_ROLLED_BACK, ⟨4, 1, 0⟩), (.IMG_SLOTS_PARTIAL_LIVE, ⟨5, 1, 0⟩), (.IMG_SLOTS_CHARTER_PENDING, ⟨6, 1, 0⟩)]
  | .IMG_ID_LO => [(.IMG_ID_LO_ID_LO, ⟨0, 1, 0⟩)]
  | .IMG_ID_HI => [(.IMG_ID_HI_ID_HI, ⟨0, 1, 0⟩)]
  | .IMG_INFO => [(.IMG_INFO_SLOT_64K, ⟨0, 1, 0⟩), (.IMG_INFO_KEYS, ⟨16, 1, 0⟩)]
  | .IMG_SETCMD => [(.IMG_SETCMD_OP, ⟨0, 1, 0⟩), (.IMG_SETCMD_GO, ⟨31, 1, 0⟩)]
  | .IMG_SETREC0 => [(.IMG_SETREC0_ADDR_LO, ⟨0, 1, 0⟩)]
  | .IMG_SETREC1 => [(.IMG_SETREC1_ADDR_HI, ⟨0, 1, 0⟩)]
  | .IMG_SETREC2 => [(.IMG_SETREC2_VALUE, ⟨0, 1, 0⟩)]
  | .IMG_SETREC3 => [(.IMG_SETREC3_MASK, ⟨0, 1, 0⟩)]
  | .IMG_SETSTAT => [(.IMG_SETSTAT_BUSY, ⟨0, 1, 0⟩), (.IMG_SETSTAT_RESULT, ⟨1, 1, 0⟩), (.IMG_SETSTAT_COUNT, ⟨4, 1, 0⟩), (.IMG_SETSTAT_SKIPPED, ⟨16, 1, 0⟩)]
  | .CAN_CFG => [(.CAN_CFG_FAST_ALL, ⟨0, 1, 0⟩)]
  | .CAN_CTL => [(.CAN_CTL_SHAFT, ⟨0, 1, 0⟩), (.CAN_CTL_LAYER, ⟨3, 1, 0⟩), (.CAN_CTL_REARM, ⟨31, 1, 0⟩)]
  | .CAN_TEMP => [(.CAN_TEMP_READING, ⟨0, 1, 0⟩), (.CAN_TEMP_ESTIMATE, ⟨8, 1, 0⟩), (.CAN_TEMP_EFFECTIVE, ⟨16, 1, 0⟩), (.CAN_TEMP_SUSPECT, ⟨24, 1, 0⟩)]
  | .CAN_SENSOR => [(.CAN_SENSOR_VALUE, ⟨0, 1, 0⟩), (.CAN_SENSOR_BROKEN, ⟨12, 1, 0⟩), (.CAN_SENSOR_CAUSE, ⟨13, 1, 0⟩)]
  | .CAN_SHAFT => [(.CAN_SHAFT_CAP, ⟨0, 1, 0⟩), (.CAN_SHAFT_FAST, ⟨3, 1, 0⟩), (.CAN_SHAFT_THERMAL, ⟨4, 1, 0⟩)]
  | .CAN_STAT => [(.CAN_STAT_TRIPS, ⟨0, 1, 0⟩), (.CAN_STAT_SUSPECTS, ⟨8, 1, 0⟩), (.CAN_STAT_THROTTLE_MS, ⟨16, 1, 0⟩)]
  | .PWR_CFG => [(.PWR_CFG_GOV_EN, ⟨0, 1, 0⟩), (.PWR_CFG_FIXED_MV, ⟨16, 1, 0⟩)]
  | .PWR_AVS => [(.PWR_AVS_REQ_MV, ⟨0, 1, 0⟩), (.PWR_AVS_MON_MV, ⟨10, 1, 0⟩), (.PWR_AVS_CAP_MV, ⟨20, 1, 0⟩), (.PWR_AVS_AVS_FAULT, ⟨30, 1, 0⟩)]
  | .PWR_SHAFT => [(.PWR_SHAFT_DOZE, ⟨0, 1, 0⟩), (.PWR_SHAFT_STATE, ⟨1, 1, 0⟩)]
  | .PWR_ENERGY => [(.PWR_ENERGY_UJ, ⟨0, 1, 0⟩)]
  | .GRD_HIT => [(.GRD_HIT_SHAFT, ⟨0, 1, 0⟩)]
  | .GRD_RATE => [(.GRD_RATE_RATE, ⟨0, 1, 0⟩), (.GRD_RATE_BURST, ⟨16, 1, 0⟩)]
  | .GRD_PORT => [(.GRD_PORT_AGENT_LO, ⟨0, 1, 0⟩), (.GRD_PORT_AGENT_HI, ⟨10, 1, 0⟩), (.GRD_PORT_LINK_RESETS, ⟨20, 1, 0⟩)]
  | .GRD_PORT2 => [(.GRD_PORT2_MGT_KTPS, ⟨0, 1, 0⟩)]
  | .GRD_WIN0 => [(.GRD_WIN0_BASE_GIB, ⟨0, 1, 0⟩)]
  | .GRD_WIN1 => [(.GRD_WIN1_SIZE_GIB, ⟨0, 1, 0⟩)]
  | .GRD_LANE => [(.GRD_LANE_SWING_CAP, ⟨0, 1, 0⟩), (.GRD_LANE_PRE_CAP, ⟨4, 1, 0⟩), (.GRD_LANE_POST_CAP, ⟨8, 1, 0⟩)]
  | .GRD_DEV => [(.GRD_DEV_CAP_MV, ⟨0, 1, 0⟩)]
  | .GRD_TPL0 => [(.GRD_TPL0_READ, ⟨0, 1, 0⟩)]
  | .GRD_TPL1 => [(.GRD_TPL1_WRITE, ⟨0, 1, 0⟩)]
  | .GRD_TPL2 => [(.GRD_TPL2_CACHE, ⟨0, 1, 0⟩)]
  | .GRD_STAT => [(.GRD_STAT_DROPS, ⟨0, 1, 0⟩), (.GRD_STAT_LINK_DEFER, ⟨16, 1, 0⟩)]
  | .GRD_STAT2 => [(.GRD_STAT2_CLIPS, ⟨0, 1, 0⟩), (.GRD_STAT2_LAST_CAUSE, ⟨16, 1, 0⟩)]
  | .BST_STAT => [(.BST_STAT_STATUS, ⟨0, 1, 0⟩)]
  | .BST_CNT => [(.BST_CNT_PASSED, ⟨0, 1, 0⟩), (.BST_CNT_FAILED, ⟨16, 1, 0⟩)]
  | .BST_CNT2 => [(.BST_CNT2_REFUSED, ⟨0, 1, 0⟩), (.BST_CNT2_SPARES, ⟨16, 1, 0⟩)]
  | .SHF_SLICE_STAT => [(.SHF_SLICE_STAT_STATE, ⟨0, 1, 0⟩), (.SHF_SLICE_STAT_LAYER, ⟨2, 1, 0⟩), (.SHF_SLICE_STAT_LOST, ⟨3, 1, 0⟩)]
  | .SHF_ATTN => [(.SHF_ATTN_TALLY_ABANDONED, ⟨0, 1, 0⟩), (.SHF_ATTN_DIR_UNCORR, ⟨1, 1, 0⟩), (.SHF_ATTN_SCB_STUCK, ⟨2, 1, 0⟩), (.SHF_ATTN_SCB_FRAME_LOST, ⟨3, 1, 0⟩), (.SHF_ATTN_SENSOR_BROKEN, ⟨4, 1, 0⟩), (.SHF_ATTN_BST_FAIL, ⟨5, 1, 0⟩), (.SHF_ATTN_LODE_UNCORR, ⟨6, 1, 0⟩)]
  | .SHF_RST => [(.SHF_RST_SHAFT_RESETS, ⟨0, 1, 0⟩), (.SHF_RST_SLICE_RESETS, ⟨8, 1, 0⟩)]
  | .DEV_ATTN => [(.DEV_ATTN_FORE_UNPLANNED, ⟨0, 1, 0⟩), (.DEV_ATTN_BOOT_FALLBACK, ⟨1, 1, 0⟩), (.DEV_ATTN_PROBATION_ROLLBACK, ⟨2, 1, 0⟩), (.DEV_ATTN_AVS_FAULT, ⟨3, 1, 0⟩), (.DEV_ATTN_SETTING_SKIPPED, ⟨4, 1, 0⟩)]

end Sys2Proof.Machine
end

