-- ==== Sys2Proof/Syntax.lean ====
section
/-! DEFINITION. The commands and events of the Akfodun: one constructor for each row of the spec's table of operations and events. -/

namespace Sys2Proof

open Sys2Proof.Machine

/-- A command or event: one whole, indivisible step of the part. Operands named `s`, `p`, `k`, `h`, `t`, `l` are a shaft, a portal of
it, a stope element, a hewer, a hewer thread (or a tally), a lane. -/
inductive Instr where
  /-- POLL (R65): Cage POLL command: does nothing and returns status with the Lamp and ATTN. -/
  | poll (f : Frame)
  /-- READ (R42): Cage READ of LEN words from ADDR upward, each word judged by its outcome. -/
  | read (f : Frame)
  /-- WRITE (R42): Cage WRITE of LEN words from ADDR upward, word by word, under the Deep, gate and busy rules. -/
  | write (f : Frame)
  /-- READ_FIX (R65): Cage READ_FIX reads one address LEN times. -/
  | readFix (f : Frame)
  /-- WRITE_FIX (R65): Cage WRITE_FIX writes LEN words to one address. -/
  | writeFix (f : Frame)
  /-- EVENT_READ (R83): Cage EVENT_READ takes up to LEN/8 oldest entries from the event log, or returns EMPTY. -/
  | eventRead (f : Frame)
  /-- TIME_SET (R116): Cage TIME_SET sets fabric time to the value sent, unless TIM.CFG.SOURCE is 1. -/
  | timeSet (f : Frame)
  /-- UPDATE_STREAM (R388): Cage UPDATE_STREAM writes image data into the inactive flash slot at NEXT. -/
  | updateStream (f : Frame)
  /-- RESET_COLD (R67): Cage RESET command of KIND COLD, checked against DEV.CTL.DEEP_OPEN and answered before the reset starts. -/
  | resetCold (f : Frame)
  /-- RESET_SHAFT (R67): Cage RESET command of KIND SHAFT for a named shaft. -/
  | resetShaft (f : Frame)
  /-- RESET_STOPE (R67): Cage RESET command of KIND STOPE for a named stope. -/
  | resetStope (f : Frame)
  /-- RESET_FORE (R67): Cage RESET command of KIND FORE. -/
  | resetFore (f : Frame)
  /-- RESET_PORTAL (R67): Cage RESET command of KIND PORTAL for a named portal. -/
  | resetPortal (f : Frame)
  /-- SELFTEST_LODE_BLOCK (R445): SELFTEST_START of a Lode block, admitted by R444, which copies the block to a spare and tests it. -/
  | selftestLodeBlock (f : Frame) (w : PowerNow)
  /-- SELFTEST_HEWER (R446): SELFTEST_START of a hewer, covered by its cluster spare. -/
  | selftestHewer (f : Frame) (w : PowerNow)
  /-- SELFTEST_STOPE (R447): SELFTEST_START of a stope, which loads a test pattern by swap. -/
  | selftestStope (f : Frame) (w : PowerNow)
  /-- SELFTEST_PLAN_SLOT (R445): SELFTEST_START of an empty Plan slot. -/
  | selftestPlanSlot (f : Frame) (w : PowerNow)
  /-- SELFTEST_LANE (R445): SELFTEST_START of an unused lane in internal loopback. -/
  | selftestLane (f : Frame) (w : PowerNow)
  /-- SELFTEST_ABORT (R448): SELFTEST_START with UNIT ABORT aborts the running test of the shaft and restores its unit. -/
  | selftestAbort (f : Frame)
  /-- SELFTEST_STATUS (R450): Cage SELFTEST_STATUS returns the status words of shaft ARG. -/
  | selftestStatus (f : Frame) (w : PowerNow)
  /-- REPLAY (R74): Cage REPLAY resends the stored last reply unchanged. -/
  | replay (f : Frame)
  /-- REPLY_CUT_SHORT (R74): CAGE_SEL_N rises before the reply ends, so the reply is cut short and stays stored. -/
  | replyCutShort
  /-- HOST_SILENT (R84): No host contact for SILENCE_MS, so HOST_SILENT is written once. -/
  | hostSilent
  /-- CAGE_READY (R469): The Cage becomes ready after POR or COLD and treats the next selection as a command phase. -/
  | cageReady
  /-- REGISTER_WRITE (R42): A Cage write to a register with no behaviour of its own, judged by gate, BUSY, BAD_ADDR, DENIED and OK. -/
  | registerWrite (addr : Nat) (v : Word)
  /-- RC_READ (R12): A read of a read-to-clear field returns its value and then clears it. -/
  | rcRead (addr : Nat)
  /-- TIM_NOW_READ (R115): A read of TIM.NOW_LO latches counter bits 63:32 into NOW_HI. -/
  | timNowRead
  /-- SHF_DEEP_OPEN (R54): A write of SHF.CTL.DEEP_OPEN sets the field with KEY 0xD5, or clears it. -/
  | shfDeepOpen (s : Shaft) (v : Word)
  /-- DEV_DEEP_OPEN (R54): A write of DEV.CTL.DEEP_OPEN sets the field with KEY 0xD5, or clears it. -/
  | devDeepOpen (v : Word)
  /-- LODE_SLICE_RESET (R433): SHF.CTL.SLICE 0b01 starts a Lode slice reset in its DRAINING step. -/
  | lodeSliceReset (s : Shaft) (v : Word)
  /-- ADIT_SLICE_RESET (R434): SHF.CTL.SLICE 0b10 starts an Adit slice reset of the shaft's portals and Adit units. -/
  | aditSliceReset (s : Shaft) (v : Word)
  /-- GATE_ENABLE (R55): Writing 1 to block.GATE.EN asks the block to stop. -/
  | gateEnable (sc : Nat) (b : Block)
  /-- GATE_DISABLE (R57): Writing 0 to GATE.EN cancels a pending gate or restarts a halted block. -/
  | gateDisable (sc : Nat) (b : Block)
  /-- BLOCK_HALT (R57): A gated block meets its halt condition, such as no open tally, and HALTED becomes 1. -/
  | blockHalt (sc : Nat) (b : Block)
  /-- BLOCK_RETURN (R57): A block whose gate was cleared returns to service and HALTED returns to 0. -/
  | blockReturn (sc : Nat) (b : Block)
  /-- FLIT_HOP (R96): A haulage flit crosses one router, F2F, station or vertical-link hop on its fixed path. -/
  | flitHop (s : Shaft) (i : Nat) (u : HopCheck)
  /-- VLINK_RETIRED (R98): A vertical link with a code violation or no acknowledge within 256 cycles is retired and rerouted. -/
  | vlinkRetired (s : Shaft) (v : Nat)
  /-- PCE_STOPE_WRITE (R104): A write that changes a pacer's source, TEMPO or DIV starts or redirects a ramp. -/
  | pceStopeWrite (s : Shaft) (k : Nat) (v : Word)
  /-- PACER_RAMP_STEP (R104): After 64 pacer cycles of a ramp, the period steps by one sixteenth toward the target. -/
  | pacerRampStep (s : Shaft) (k : Nat) (tap : Nat)
  /-- PACER_FORCED (R105): No edge of the source being left arrives within 64 replica ticks, so the pacer forces a switch. -/
  | pacerForced (s : Shaft) (k : Nat)
  /-- TEMPO_PLL_UNLOCK (R106): The tempo PLL loses lock, and pacers with AUTO_FB fall back to self-timed. -/
  | tempoPllUnlock (s : Shaft)
  /-- TEMPO_PLL_RELOCK (R106): The tempo PLL locks again and fallen-back pacers return to locked mode. -/
  | tempoPllRelock (s : Shaft)
  /-- REFCLK_LOST (R109): The clock monitor declares REFCLK lost and shafts enter HOLDOVER or START_HOLD. -/
  | refclkLost (fine : Bool)
  /-- REFCLK_BACK (R109): REFCLK has been free of loss conditions for 10 ms, so it is declared restored. -/
  | refclkBack
  /-- LANE_QUALIFIED (R108): A lane's CDR has held lock for 1 ms, so the lane becomes qualified and may be selected for LOOP. -/
  | laneQualified (s : Shaft) (l : Nat)
  /-- LANE_UNQUALIFIED (R108): A lane loses CDR lock, leaves link-up or sleeps, and its shaft reselects its timing source. -/
  | laneUnqualified (s : Shaft) (l : Nat) (c : LaneLoss)
  /-- ADRIFT (R111): Holdover has lasted 100 ms with no qualified lane, so the shaft takes its portals down. -/
  | adrift (s : Shaft)
  /-- REF_RETURN (R112): Steering at 10 ppm/ms reaches REFCLK and the shaft returns to REF. -/
  | refReturn (s : Shaft)
  /-- RETURN_NOW (R111): CLK.CFG.RETURN_NOW returns every shaft toward REF if REFCLK is restored. -/
  | returnNow
  /-- TIME_EXCHANGE (R117): Every PERIOD_US a follower sends a TIM request stamped t1. -/
  | timeExchange
  /-- TIME_REQUEST_ANSWER (R117): A device answers an arriving time request with t2 and t3 stamps. -/
  | timeRequestAnswer (s : Shaft) (p : Portal) (t1 : BitVec 64) (dwell : Nat)
  /-- TIME_REPLY (R118): A time reply arrives; the follower computes the offset and slews or steps. -/
  | timeReply (t1 : BitVec 64) (t2 : BitVec 64) (t3 : BitVec 64)
  /-- TIME_UNLOCKED (R119): No reply for four periods, so LOCKED clears. -/
  | timeUnlocked
  /-- FLIT_RECEIVE (R342): A flit arrives at a flit mover, is link-checked and its messages are handed to the tub former. -/
  | flitReceive (s : Shaft) (p : Portal) (x : RxFlit)
  /-- FLIT_TRANSMIT (R342): A flit mover builds and sends a flit at a flit boundary, or an idle flit when its buffer is empty. -/
  | flitTransmit (s : Shaft) (p : Portal)
  /-- ADMISSION (R126): The directory engine takes a REQ tub from the ingress queue and admits it by the ordered checks. -/
  | admission (s : Shaft) (p : Portal) (u : DirCheck)
  /-- RESPONSE_MATCH (R131): An RSP, MRS or DAT tub with TV 1 reaches the tally store and is matched by TALLY and GEN. -/
  | responseMatch (s : Shaft) (u : Option Nat)
  /-- LAYER_ABSENT_EXPIRY (R435): A LAYER_ABSENT HAU tub that matches an open tally expires it at once. -/
  | layerAbsentExpiry (s : Shaft)
  /-- TALLY_TIMER (R129): The TIMER of a WAITT wait passes and the tally wakes. -/
  | tallyTimer (s : Shaft) (t : Nat)
  /-- DEADLINE_EXPIRY (R138): The watchdog expires a tally whose deadline passed and sends the timeout completion. -/
  | deadlineExpiry (s : Shaft) (t : Nat)
  /-- TLY_KILL (R138): TLY.KILL with GO expires the named tally now if it is OPEN or WAIT. -/
  | tlyKill (s : Shaft) (t : BitVec 15)
  /-- TALLY_ABANDONED (R140): DRAIN_US passes after expiry with PENDING above 0, so the tally is abandoned and its lock released. -/
  | tallyAbandoned (s : Shaft) (t : Nat)
  /-- DISPATCH (R189): A dispatch is sent to a hewer thread, which starts the handler at START. -/
  | dispatch (s : Shaft) (u : StoreCheck)
  /-- RESUME (R192): A woken tally is resumed on a free thread from its park record. -/
  | resume (s : Shaft)
  /-- ADD (R204): Hewer ADD instruction. -/
  | hewAdd (s : Shaft) (h : Nat) (t : Nat) (i : HewFields) (u : StepCheck)
  /-- SUB (R204): Hewer SUB instruction. -/
  | hewSub (s : Shaft) (h : Nat) (t : Nat) (i : HewFields) (u : StepCheck)
  /-- AND (R204): Hewer AND instruction. -/
  | hewAnd (s : Shaft) (h : Nat) (t : Nat) (i : HewFields) (u : StepCheck)
  /-- OR (R204): Hewer OR instruction. -/
  | hewOr (s : Shaft) (h : Nat) (t : Nat) (i : HewFields) (u : StepCheck)
  /-- XOR (R204): Hewer XOR instruction. -/
  | hewXor (s : Shaft) (h : Nat) (t : Nat) (i : HewFields) (u : StepCheck)
  /-- SHL (R204): Hewer SHL instruction. -/
  | hewShl (s : Shaft) (h : Nat) (t : Nat) (i : HewFields) (u : StepCheck)
  /-- SHR (R204): Hewer SHR instruction. -/
  | hewShr (s : Shaft) (h : Nat) (t : Nat) (i : HewFields) (u : StepCheck)
  /-- SAR (R204): Hewer SAR instruction. -/
  | hewSar (s : Shaft) (h : Nat) (t : Nat) (i : HewFields) (u : StepCheck)
  /-- MOV (R204): Hewer MOV instruction. -/
  | hewMov (s : Shaft) (h : Nat) (t : Nat) (i : HewFields) (u : StepCheck)
  /-- MOVH (R204): Hewer MOVH instruction writes the upper word. -/
  | hewMovh (s : Shaft) (h : Nat) (t : Nat) (i : HewFields) (u : StepCheck)
  /-- CMP (R203): Hewer CMP instruction sets flags and T. -/
  | hewCmp (s : Shaft) (h : Nat) (t : Nat) (i : HewFields) (u : StepCheck)
  /-- SEL (R204): Hewer SEL instruction selects by T. -/
  | hewSel (s : Shaft) (h : Nat) (t : Nat) (i : HewFields) (u : StepCheck)
  /-- POPC (R204): Hewer POPC instruction. -/
  | hewPopc (s : Shaft) (h : Nat) (t : Nat) (i : HewFields) (u : StepCheck)
  /-- FFS (R204): Hewer FFS instruction. -/
  | hewFfs (s : Shaft) (h : Nat) (t : Nat) (i : HewFields) (u : StepCheck)
  /-- EXT (R204): Hewer EXT bit-field extract. -/
  | hewExt (s : Shaft) (h : Nat) (t : Nat) (i : HewFields) (u : StepCheck)
  /-- INS (R204): Hewer INS bit-field insert. -/
  | hewIns (s : Shaft) (h : Nat) (t : Nat) (i : HewFields) (u : StepCheck)
  /-- BR (R203): Hewer conditional branch. -/
  | hewBr (s : Shaft) (h : Nat) (t : Nat) (i : HewFields) (u : StepCheck)
  /-- BLS (R204): Hewer branch on release state of the line. -/
  | hewBls (s : Shaft) (h : Nat) (t : Nat) (i : HewFields) (u : StepCheck)
  /-- BCNT (R204): Hewer branch on PENDING count. -/
  | hewBcnt (s : Shaft) (h : Nat) (t : Nat) (i : HewFields) (u : StepCheck)
  /-- JAL (R204): Hewer jump and link. -/
  | hewJal (s : Shaft) (h : Nat) (t : Nat) (i : HewFields) (u : StepCheck)
  /-- JR (R204): Hewer jump to register. -/
  | hewJr (s : Shaft) (h : Nat) (t : Nat) (i : HewFields) (u : StepCheck)
  /-- TLD (R204): Hewer load from the tally record. -/
  | hewTld (s : Shaft) (h : Nat) (t : Nat) (i : HewFields) (u : StepCheck)
  /-- TST (R204): Hewer store to SCRATCH, TIMER or DEADLINE. -/
  | hewTst (s : Shaft) (h : Nat) (t : Nat) (i : HewFields) (u : StepCheck)
  /-- RECV (R204): Hewer receives the oldest matched tub of the tally into M. -/
  | hewRecv (s : Shaft) (h : Nat) (t : Nat) (i : HewFields) (u : StepCheck)
  /-- MPUT (R204): Hewer writes a word of M. -/
  | hewMput (s : Shaft) (h : Nat) (t : Nat) (i : HewFields) (u : StepCheck)
  /-- LOOKUP (R168): Hewer reads the directory entry of the tally's sector. -/
  | hewLookup (s : Shaft) (h : Nat) (t : Nat) (i : HewFields) (u : StepCheck) (e : DirCheck)
  /-- SETST (R168): Hewer records the line's release state. -/
  | hewSetst (s : Shaft) (h : Nat) (t : Nat) (i : HewFields) (u : StepCheck)
  /-- ADDSH (R168): Hewer adds a sharer to the directory entry. -/
  | hewAddsh (s : Shaft) (h : Nat) (t : Nat) (i : HewFields) (u : StepCheck) (e : DirCheck)
  /-- REMSH (R168): Hewer removes a sharer. -/
  | hewRemsh (s : Shaft) (h : Nat) (t : Nat) (i : HewFields) (u : StepCheck) (e : DirCheck)
  /-- SETOWN (R168): Hewer sets the owner of the line. -/
  | hewSetown (s : Shaft) (h : Nat) (t : Nat) (i : HewFields) (u : StepCheck) (e : DirCheck)
  /-- EVICT (R168): Hewer opens a recall of its own sector. -/
  | hewEvict (s : Shaft) (h : Nat) (t : Nat) (i : HewFields) (u : StepCheck)
  /-- SEND (R205): Hewer builds a tub from a template and sends it. -/
  | hewSend (s : Shaft) (h : Nat) (t : Nat) (i : HewFields) (u : StepCheck)
  /-- SNPX (R206): Hewer sends one snoop to each agent of an expansion set. -/
  | hewSnpx (s : Shaft) (h : Nat) (t : Nat) (i : HewFields) (u : StepCheck)
  /-- FWDD (R204): Hewer forwards M as a tub of the tally. -/
  | hewFwdd (s : Shaft) (h : Nat) (t : Nat) (i : HewFields) (u : StepCheck)
  /-- MRD (R205): Hewer memory read to the backing portal. -/
  | hewMrd (s : Shaft) (h : Nat) (t : Nat) (i : HewFields) (u : StepCheck)
  /-- MRDS (R229): Hewer speculative memory read that starts or extends speculation. -/
  | hewMrds (s : Shaft) (h : Nat) (t : Nat) (i : HewFields) (u : StepCheck)
  /-- MWR (R205): Hewer memory write of a line. -/
  | hewMwr (s : Shaft) (h : Nat) (t : Nat) (i : HewFields) (u : StepCheck)
  /-- WAITR (R204): Hewer waits until PENDING is low enough, or parks. -/
  | hewWaitr (s : Shaft) (h : Nat) (t : Nat) (i : HewFields) (u : StepCheck)
  /-- WAITT (R204): Hewer timed wait on PENDING or TIMER. -/
  | hewWaitt (s : Shaft) (h : Nat) (t : Nat) (i : HewFields) (u : StepCheck)
  /-- SPST (R130): Hewer speculation start. -/
  | hewSpst (s : Shaft) (h : Nat) (t : Nat) (i : HewFields) (u : StepCheck)
  /-- SPCF (R239): Hewer confirms speculation: taint cleared, deferred effects applied, held tubs released. -/
  | hewSpcf (s : Shaft) (h : Nat) (t : Nat) (i : HewFields) (u : StepCheck)
  /-- SPAB (R240): Hewer aborts speculation: held tubs discarded, taint zeroed, queues rewound. -/
  | hewSpab (s : Shaft) (h : Nat) (t : Nat) (i : HewFields) (u : StepCheck)
  /-- QPUSH (R253): Hewer pushes M onto a queue. -/
  | hewQpush (s : Shaft) (h : Nat) (t : Nat) (i : HewFields) (u : StepCheck)
  /-- QPOP (R255): Hewer pops a queue item into M. -/
  | hewQpop (s : Shaft) (h : Nat) (t : Nat) (i : HewFields) (u : StepCheck)
  /-- QMARK (R262): Hewer sets or clears a queue's rewind mark. -/
  | hewQmark (s : Shaft) (h : Nat) (t : Nat) (i : HewFields) (u : StepCheck)
  /-- QRWND (R262): Hewer rewinds a queue to its mark. -/
  | hewQrwnd (s : Shaft) (h : Nat) (t : Nat) (i : HewFields) (u : StepCheck)
  /-- CNT (R204): Hewer raises a personality counter. -/
  | hewCnt (s : Shaft) (h : Nat) (t : Nat) (i : HewFields) (u : StepCheck)
  /-- NOP (R204): Hewer does nothing for one step. -/
  | hewNop (s : Shaft) (h : Nat) (t : Nat) (i : HewFields) (u : StepCheck)
  /-- END (R207): Hewer ends the handler and sends the answer by tally kind. -/
  | hewEnd (s : Shaft) (h : Nat) (t : Nat) (i : HewFields) (u : StepCheck)
  /-- TRANSIT_DRAINED (R238): After an abort, a send or END that waited issues once TRANSIT reaches 0. -/
  | transitDrained (s : Shaft) (h : Nat) (t : Nat)
  /-- TRAP_ERROR_ANSWER (R365): The ERROR answer of a trapped LINE tally proceeds once TRANSIT reaches 0. -/
  | trapErrorAnswer (s : Shaft) (t : Nat)
  /-- STORE_PATROL (R222): The cluster store patrol reads a word, correcting or refetching it. -/
  | storePatrol (s : Shaft) (c : Nat) (b : Bool) (part : BankPart) (i : Nat) (u : StoreCheck)
  /-- BANK_WRITE (R213): A Cage write to an IDLE microcode bank, which clears its LOADED bit. -/
  | bankWrite (s : Shaft) (b : Bool) (part : BankPart) (i : Nat) (hi : Bool) (v : Word)
  /-- SEAL (R213): HWR.BANK_CTL SEAL starts a CRC check of a bank. -/
  | seal (s : Shaft) (b : Bool)
  /-- SEAL_DONE (R213): The seal CRC comparison ends, setting RESULT and LOADED on a match. -/
  | sealDone (s : Shaft)
  /-- FLIP (R214): HWR.FLIP.GO moves new tallies to the other loaded idle bank. -/
  | flip (s : Shaft)
  /-- EPOCH_FREE (R214): The old bank's count reaches 0 after a flip, so it becomes IDLE. -/
  | epochFree (s : Shaft)
  /-- RETIRE (R218): HWR.RETIRE hands a hewer's work to the cluster spare and drains it. -/
  | retire (s : Shaft) (h : BitVec 6) (force : Bool)
  /-- HWR_RETIRED (R218): A draining hewer has no running thread and becomes RETIRED. -/
  | hwrRetired (s : Shaft)
  /-- GATE_DECISION (R235): A tub reaches a portal's Daylight gate and is passed, held or discarded. -/
  | gateDecision (s : Shaft) (p : Portal)
  /-- STOPE_DELIVER (R242): A tub reaches a stope port and is delivered, held or discarded by EXPOSE. -/
  | stopeDeliver (s : Shaft) (k : Nat) (n : Taken)
  /-- STOPE_INJECT (R243): A stope injects a tub or queue operation, which takes TV, TALLY and GEN from the port. -/
  | stopeInject (s : Shaft) (k : Nat) (op : StopeOut)
  /-- CLM_LOAD (R154): CLM.CMD LOAD copies the staged words into a claim entry. -/
  | clmLoad (s : Shaft) (c : BitVec 8)
  /-- CLM_MAP (R154): CLM.CMD MAP joins a granule to a claim. -/
  | clmMap (s : Shaft) (c : BitVec 8) (g : BitVec 10)
  /-- CLM_UNMAP (R154): CLM.CMD UNMAP removes a granule's mapping. -/
  | clmUnmap (s : Shaft) (g : BitVec 10)
  /-- CLM_SWEEP (R158): CLM.SWEEP starts a directory walk recalling a claim's entries. -/
  | clmSweep (s : Shaft) (c : BitVec 8)
  /-- SWEEP_SET_READ (R158): Every 64 cycles the sweep reads one set and opens recalls. -/
  | sweepSetRead (s : Shaft)
  /-- CLM_SWEEP_DONE (R158): The walk has passed every set and its recalls are FREE. -/
  | clmSweepDone (s : Shaft)
  /-- RECALL_OPEN (R176): A recall tally opens from the reserve, possibly after waiting for one. -/
  | recallOpen (s : Shaft)
  /-- DIR_PATROL (R180): The directory patrol reads a set and corrects entries. -/
  | dirPatrol (s : Shaft) (set : Nat) (u : List DirCheck)
  /-- QUEUE_LOAD (R250): QMG.CMD LOAD writes a queue descriptor from the stage. -/
  | queueLoad (s : Shaft) (q : BitVec 17)
  /-- QUEUE_EMPTY (R250): QMG.CMD EMPTY discards a queue's entries. -/
  | queueEmpty (s : Shaft) (q : BitVec 17)
  /-- QUEUE_WM (R250): QMG.CMD WM rewrites watermarks and flow-control settings. -/
  | queueWm (s : Shaft) (q : BitVec 17)
  /-- QUEUE_CLEAR (R250): QMG.CMD CLEAR clears UNDERRUN, GAP and MARK_LOST. -/
  | queueClear (s : Shaft) (q : BitVec 17)
  /-- QUEUE_SLOT (R251): One arbitration slot applies rewind, mark, pop, push, command, settle and watermark to a queue. -/
  | queueSlot (s : Shaft) (q : Nat)
  /-- PUSH_WAIT_END (R257): A producer waiting on a full WAIT queue pushes once room frees. -/
  | pushWaitEnd (s : Shaft) (q : Nat)
  /-- DEEP_RING_REPLY (R249): A claim-memory ring read or write returns, possibly with an error. -/
  | deepRingReply (s : Shaft) (i : Nat) (x : Tub) (err : Bool)
  /-- HOST_PUSH (R264): QMG.HOST_CMD PUSH pushes HOST_TUB onto a queue. -/
  | hostPush (s : Shaft) (q : BitVec 17) (c : BitVec 4)
  /-- HOST_POP (R264): QMG.HOST_CMD POP pops a queue into HOST_TUB. -/
  | hostPop (s : Shaft) (q : BitVec 17)
  /-- HOST_MARK (R264): QMG.HOST_CMD MARK sets a rewind mark. -/
  | hostMark (s : Shaft) (q : BitVec 17)
  /-- HOST_UNMARK (R264): QMG.HOST_CMD UNMARK clears a rewind mark. -/
  | hostUnmark (s : Shaft) (q : BitVec 17)
  /-- HOST_REWIND (R264): QMG.HOST_CMD REWIND rewinds a queue. -/
  | hostRewind (s : Shaft) (q : BitVec 17)
  /-- STOPE_CONTENTION (R284): The contention detector turns off a multiply-driven overlay segment. -/
  | stopeContention (s : Shaft) (k : Nat) (seg : BitVec 16)
  /-- PRELOAD (R308): CTX.CMD PRELOAD loads a slot into a stope's shadow. -/
  | preload (s : Shaft) (k : BitVec 7) (c : BitVec 3)
  /-- PRELOAD_DONE (R308): A preload ends PRELOADED, or ends with PLAN_UNCORR. -/
  | preloadDone (s : Shaft) (k : Nat) (bad : Option Nat)
  /-- DISCARD (R329): CTX.CMD DISCARD empties a stope's shadow. -/
  | discard (s : Shaft) (k : BitVec 7)
  /-- SWAP_STOPE (R310): CTX.CMD SWAP_STOPE checks and holds one stope for a swap. -/
  | swapStope (s : Shaft) (k : BitVec 7)
  /-- SWAP_GANG (R313): CTX.CMD SWAP_GANG checks and holds every member of a gang. -/
  | swapGang (s : Shaft) (g : BitVec 4)
  /-- SWAP_EDGE (R311): All members are held and checked, so the swap edge exchanges planes. -/
  | swapEdge (s : Shaft) (e : SwapEdge)
  /-- READBACK (R327): CTX.RB_CTL reads one frame into RB_DATA. -/
  | readback (s : Shaft) (a : BitVec 20) (plane : BitVec 2) (bad : Bool)
  /-- SCRUB_FRAME (R319): A scrubber compares one active frame with its golden copy and corrects it. -/
  | scrubFrame (s : Shaft) (i : Bool) (u : ScrubCheck)
  /-- SCRUB_PATROL (R322): The Plan patrol reads a storage word, correcting it or marking its frame suspect. -/
  | scrubPatrol (s : Shaft) (i : Bool) (a : Nat) (w : Nat) (u : StoreCheck)
  /-- GOLDEN_RECOVERY_DONE (R323): Recovery ends from flash, from the active plane, or with the frame lost. -/
  | goldenRecoveryDone (s : Shaft) (a : Nat)
  /-- SCRUBBER_RESTART (R325): SCB.CTL RESTART rebuilds a stopped scrubber. -/
  | scrubberRestart (s : Shaft) (r0 : Bool) (r1 : Bool)
  /-- PORTAL_ENABLE (R347): ENABLE 0 to 1 checks portal settings and starts DETECT. -/
  | portalEnable (s : Shaft) (p : Portal)
  /-- PORTAL_DISABLE (R349): ENABLE 1 to 0 takes the portal link-down. -/
  | portalDisable (s : Shaft) (p : Portal)
  /-- TRAINING_STEP (R336): A training step completes and the link climbs its ladder. -/
  | trainingStep (s : Shaft) (p : Portal) (r : TrainReport)
  /-- TRAINING_FAIL (R338): A training attempt times out or loses signal and the portal enters BACKOFF. -/
  | trainingFail (s : Shaft) (p : Portal) (r : TrainLoss)
  /-- BACKOFF_END (R338): The backoff time ends and the portal returns to DETECT. -/
  | backoffEnd (s : Shaft) (p : Portal)
  /-- LANE_SLIP (R339): LNE.SLIP shifts a held lane's deserializer by one UI. -/
  | laneSlip (s : Shaft) (l : Nat) (later : Bool)
  /-- HOLD_RELEASE (R339): Clearing PTL.CFG.HOLD resumes training at the held step. -/
  | holdRelease (s : Shaft) (p : Portal)
  /-- WIDTH_HALVE (R340): Drift egress below 40 % for IDLE_US halves the transmit width. -/
  | widthHalve (s : Shaft) (p : Portal)
  /-- WIDTH_DOUBLE (R340): Drift egress above 80 % for 1 µs doubles the width by WAKE. -/
  | widthDouble (s : Shaft) (p : Portal)
  /-- RECOVERY_TIMEOUT (R344): A recovery or retrain lasting over 1 ms takes the portal link-down. -/
  | recoveryTimeout (s : Shaft) (p : Portal)
  /-- LINK_DOWN (R349): A portal goes link-down and its egress tubs are answered or discarded by class. -/
  | linkDown (s : Shaft) (p : Portal)
  /-- LINK_DEFER_END (R441): A link reset deferred by LINK_RESETS proceeds once the second allows it. -/
  | linkDeferEnd (s : Shaft) (p : Portal)
  /-- OPEN (R387): IMG.CMD OPEN opens the inactive slot for UPDATE_STREAM. -/
  | imgOpen
  /-- ARM (R389): IMG.CMD ARM starts validating the inactive slot. -/
  | arm
  /-- ARM_DONE (R389): Validation ends with ARMED or REFUSED. -/
  | armDone
  /-- ACTIVATE (R390): IMG.CMD ACTIVATE checks and starts staging. -/
  | activate
  /-- CANCEL (R387): IMG.CMD CANCEL returns ARMED to IDLE or reverts staging. -/
  | cancel
  /-- CONFIRM (R397): IMG.CMD CONFIRM ends probation. -/
  | confirm
  /-- STAGING_DONE (R391): Staging finishes, with the Foreman ready, and STATE becomes STAGED. -/
  | stagingDone
  /-- STAGING_LATE (R391): STAGED not reached by WHEN − 100 µs, so the activation reverts with LATE. -/
  | stagingLate
  /-- FOREMAN_START (R391): The Foreman is not ready within 500 ms of restart, so staging reverts. -/
  | foremanStart
  /-- REVERT_DONE (R395): A revert ends and STATE becomes ARMED or REFUSED. -/
  | revertDone
  /-- COMMIT (R392): At IMG.WHEN, or at once, gangs swap, banks flip and portals switch tables. -/
  | commit
  /-- POINTER_BLOCK_WRITE (R371): The Foreman rewrites the pointer block copy not in force. -/
  | pointerBlockWrite
  /-- SETTING_APPEND (R372): IMG.SETCMD APPEND programs one setting record. -/
  | settingAppend
  /-- SETTING_CLEAR (R372): IMG.SETCMD CLEAR erases the setting records. -/
  | settingClear
  /-- BOOT (R382): After POR or COLD the device chooses a slot and loads a FULL image. -/
  | boot
  /-- SHAFT_BOOT (R385): The Foreman boots one shaft from the RUNNING slot after a SHAFT reset. -/
  | shaftBoot (s : Shaft)
  /-- POR (R403): A rail falls below its POR threshold or RESET_N is held, and POR is asserted. -/
  | por (c : PorCause)
  /-- POR_RELEASE (R403): 1 ms after every rail is in range and RESET_N is high, POR is released. -/
  | porRelease (strap : Bool)
  /-- GOVERNOR_UPDATE (R406): Every 10 µs the governor computes needs and requests a VCORE_SEAM voltage. -/
  | governorUpdate (n : GovNeeds)
  /-- DOZE_REQUEST (R409): PWR.SHAFT DOZE=1 puts a shaft into ENTERING. -/
  | dozeRequest (s : Shaft)
  /-- DOZE_ENTER (R409): The dozing shaft holds no open tally, so its Seams are gated. -/
  | dozeEnter (s : Shaft)
  /-- DOZE_EXIT (R410): DOZE=0 powers the Seams and admission resumes. -/
  | dozeExit (s : Shaft)
  /-- CANARY_SAMPLE (R411): The Canary samples a shaft's sensors, estimates layers and decides throttle and trip. -/
  | canarySample (s : Shaft) (r : List Int) (e : List Nat)
  /-- SENSOR_SELF_CHECK (R413): Every 10 s each sensor is compared with an on-die reference. -/
  | sensorSelfCheck (s : Shaft) (off : List Int)
  /-- SENSOR_REARM (R413): CAN.CTL REARM makes a layer's broken sensors count as healthy. -/
  | sensorRearm (s : Shaft) (l : BitVec 3)
  /-- ORDERLY_STOP_END (R419): 800 µs after an orderly trip, remaining tallies are ended and the Seams gated. -/
  | orderlyStopEnd (s : Shaft)
  /-- THERM_RESTART (R423): After 100 ms at or below 85 °C a tripped shaft restarts. -/
  | thermRestart (s : Shaft)
  /-- COLD_HOLD_END (R424): Every layer reaches −5 °C and the held start proceeds. -/
  | coldHoldEnd (s : Shaft)
  /-- COLD_RESET (R427): A COLD reset from RESET_N or the Cage resets the device with VAUX held. -/
  | coldReset (pin : Bool) (strap : Bool)
  /-- SHAFT_RESET (R430): A SHAFT reset takes portals down, discards tallies and clears the shaft. -/
  | shaftReset (s : Shaft)
  /-- STOPE_RESET (R316): A STOPE reset sets flip-flops to INIT and empties the shadow. -/
  | stopeReset (s : Shaft) (k : Nat)
  /-- PORTAL_RESET (R426): A PORTAL reset takes one portal link-down and back to DETECT. -/
  | portalReset (s : Shaft) (p : Portal)
  /-- FORE_RESTART (R437): The Foreman pair restarts by command, lockstep mismatch, missing heartbeat or activation. -/
  | foreRestart (c : ForeCause)
  /-- FOREMAN_READY (R438): The Foreman returns to service and waiting recovery and reloads proceed. -/
  | foremanReady
  /-- SLICE_DRAIN_END (R433): A Lode slice reset's DRAINING ends and RESETTING discards tallies and clears the Lode. -/
  | sliceDrainEnd (s : Shaft)
  /-- LODE_CLEAR_DONE (R433): Lode clearing ends and RELOADING begins. -/
  | lodeClearDone (s : Shaft)
  /-- SLICE_RESET (R433): Reloading ends, tallies are freed and admission resumes. -/
  | sliceReset (s : Shaft)
  /-- ADIT_SLICE_DONE (R434): An Adit slice reset ends and portals enter DETECT. -/
  | aditSliceDone (s : Shaft)
  /-- HEWER_UNDER_TEST (R446): A hewer drained for self-test has no running thread and becomes UNDER_TEST. -/
  | hewerUnderTest (s : Shaft)
  /-- BST_DONE (R449): A self-test ends, passing, failing or aborted, and its unit is restored. -/
  | bstDone (s : Shaft) (faults : Nat) (first : Nat)
  /-- FLASH_PROGRAM_DONE (R388): Image data buffered by UPDATE_STREAM finishes programming, or erasing a sector, in the inactive flash slot; an error sets STATE REFUSED with cause FLASH. -/
  | flashProgramDone (ok : Bool)
  /-- HOLD_SET (R339): Writing 1 to PTL.CFG.HOLD stops a portal's training at its present step and the portal enters HOLD. -/
  | holdSet (s : Shaft) (p : Portal)
  /-- DAMAGED_HEADER_FRAME (R68): A Cage command phase with fewer than 24 nibbles, a wrong HCRC or a reserved OPCODE is answered BAD_CRC or UNKNOWN_OP, and BAD_HDR and LAST_FAIL are updated. -/
  | damagedHeaderFrame (opcode : Byte) (hcrc : BitVec 16) (f : Frame)
  deriving DecidableEq, Repr

end Sys2Proof
end

