-- ==== Sys2Proof/Machine/Crc.lean ====
section
/-! DEFINITION. Byte order (R10) and the CRCs of R64. -/

namespace Sys2Proof.Machine

/-- The `k` low bytes of a value, least significant first. -/
def leBytes {w : Nat} : Nat → BitVec w → List Byte
  | 0, _ => []
  | k + 1, v => v.setWidth 8 :: leBytes k (v >>> 8)

/-- The value of bytes, least significant first. -/
def leNat : List Byte → Nat
  | [] => 0
  | b :: rest => b.toNat + 256 * leNat rest

/-- `k` shifts of the CRC-32 register; the polynomial 0x04C1_1DB7 reflected. -/
def crc32Shift : Nat → Word → Word
  | 0, c => c
  | k + 1, c => crc32Shift k (if c.getLsbD 0 then (c >>> 1) ^^^ 0xEDB88320 else c >>> 1)

/-- R64: CRC-32. -/
def crc32 (l : List Byte) : Word := ~~~ (l.foldl (fun c b => crc32Shift 8 (c ^^^ b.setWidth 32)) (0xFFFFFFFF : Word))

/-- `k` shifts of the CRC-16 register. -/
def crc16Shift : Nat → BitVec 16 → BitVec 16
  | 0, c => c
  | k + 1, c => crc16Shift k (if c.msb then (c <<< 1) ^^^ 0x1021 else c <<< 1)

/-- R64: CRC-16. -/
def crc16 (l : List Byte) : BitVec 16 := l.foldl (fun c b => crc16Shift 8 (c ^^^ ((b.setWidth 16 : BitVec 16) <<< (8 : Nat)))) (0xFFFF : BitVec 16)

/-- `k` shifts of the CRC-64 register. -/
def crc64Shift : Nat → BitVec 64 → BitVec 64
  | 0, c => c
  | k + 1, c => crc64Shift k (if c.msb then (c <<< 1) ^^^ 0x42F0E1EBA9EA3693 else c <<< 1)

/-- R342: the CRC-64 of a Drift flit. -/
def crc64 (l : List Byte) : BitVec 64 :=
  ~~~ (l.foldl (fun c b => crc64Shift 8 (c ^^^ ((b.setWidth 64 : BitVec 64) <<< (56 : Nat)))) (BitVec.allOnes 64))

end Sys2Proof.Machine
end

