-- ==== Sys2Proof/Machine/ImgTypes.lean ====
section
/-! DEFINITION. What the image engine holds besides registers and flash: the pointer block (R371),
headers and manifest entries (R374, R376), former tables (R354), an activation on its way (R391 to R395). -/

namespace Sys2Proof.Machine

/-- A manifest entry (R376). -/
structure ManEnt where
  type : Nat
  shaft : Nat
  cls : Nat
  firstSegment : Nat
  segments : Nat
  offset : Nat
  stored : Nat
  plain : Nat
  hash : List (BitVec 8)
  deriving DecidableEq, Repr

/-- The formers, class routes and answer templates of a shaft (R354, R360, R363): ingress entries by 1,024p + e, egress entries by
4,096p + e, class routes by 16p + c (the low 19 bits of PTL.CROUTE), and template bodies. -/
structure Formers where
  fin : Tbl (BitVec 128)
  feg : Tbl (BitVec 128)
  croute : Tbl (BitVec 19)
  ans : Tbl (BitVec 512)
  deriving DecidableEq, Repr, Inhabited

/-- Empty formers. -/
def Formers.zero : Formers := ⟨[], [], [], []⟩

/-- A copy of the pointer block (R371): its GENERATION, the slots' bases and size, ACTIVE and PROBATION. -/
structure PtrBlk where
  generation : Nat
  slotA : Nat
  slotB : Nat
  size : Nat
  activeB : Bool
  probation : Bool
  deriving DecidableEq, Repr

/-- A rewrite of the pointer block that is due (R382, R392, R397): ACTIVE, PROBATION, and whether CONFIRM asked for it. -/
structure PtrDue where
  slotB : Bool
  probation : Bool
  confirm : Bool
  deriving DecidableEq, Repr

/-- A setting command that runs (R386, R400): the record APPEND programs, or CLEAR. -/
inductive SetJob | append (record : List (BitVec 8)) | clear
  deriving DecidableEq, Repr

/-- An image header (R374). -/
structure ImgHdr where
  kind : Nat
  signer : Nat
  length : Nat
  manOffset : Nat
  manLength : Nat
  manHash : List (BitVec 8)
  nonce : List (BitVec 8)
  wrapped : List (BitVec 8)
  id : Nat
  deriving DecidableEq, Repr

/-- An activation (R390 to R395): the slot, IMAGE_ID and kind of its image, whether it holds a SCHEDULED part, whether it is the full boot
that ends a failed one (R382), its entries; what it has staged so far (Plan slots by shaft, stope and slot; shadows by shaft and
stope; banks by shaft and bank), the members of its swaps, the waiting copies (formers by shaft; the charter and Canary parts; lane
firmware), whether the Foreman runs its new firmware; and, while it reverts, the cause. -/
structure Activation where
  slotB : Bool
  id : Nat
  full : Bool
  scheduled : Bool
  boots : Bool
  ents : List ManEnt
  loading : Bool
  plan : List (Nat × Nat × Nat)
  shadows : List (Nat × Nat)
  banks : List (Nat × Nat)
  swaps : List (Nat × Nat)
  formers : List (Nat × Formers)
  charter : Option (List (BitVec 8))
  canary : Option (List (BitVec 8))
  lane : Bool
  foreman : Bool
  cause : Nat
  detail : Nat
  part : Nat
  refuse : Bool
  deriving DecidableEq, Repr

/-- One piece of image data in the 64 KiB write buffer (R388): its offset in the slot and its bytes. -/
structure StreamChunk where
  offset : Nat
  bytes : List (BitVec 8)
  deriving DecidableEq, Repr

end Sys2Proof.Machine
end

