-- ==== Sys2Proof/Config.lean ====
section
/-! DEFINITION. What the spec leaves to the part, to Clotar or to nobody: opaque constants, of which no proof can know a value. -/

namespace Sys2Proof.Machine

/-- A free value, by its number in `State.freeCtr`. -/
opaque Config.freeValue : Nat → Nat

/-- OPCODE of the queue manager's own MEM tubs for claim-memory rings: a read (false) or a write (true). R249 does not state it. -/
opaque Config.ringOpcode : Bool → BitVec 8

/-- The INIT values of the 16,384 flip-flops that a context's frames give (R302: the device database Clotar ships). -/
opaque Config.ffInit : List (Nat × BitVec 1024) → BitVec 16384

/-- What the frames of a column (R302) set of cell `i` of tile `y` of that column, and of the tile itself. -/
opaque Config.cell : List (Nat × BitVec 1024) → Nat → Nat → CellCfg
opaque Config.tile : List (Nat × BitVec 1024) → Nat → TileCfg

/-- R273: the fixed pattern of 48 sources: for an input of a cell of a tile, and a selection, the number of a source of the tile (0 to 63: its cell outputs;
64 to 183: its incoming wires). -/
opaque Config.pattern : Nat → Nat → Nat → Nat

/-- The carry-out of a cell from its setting, its table inputs and its carry-in (R271 does not state it). -/
opaque Config.carry : CellCfg → BitVec 6 → Bool → Bool

/-- What a signal of a stope shows that depends on itself through no flip-flop, by `State.freeCtr`. -/
opaque Config.loop : Nat → Nat → Sig → Bool

/-- What the keeper of a segment of a stope that nothing has driven yet holds (R282). -/
opaque Config.keeper : Nat → BitVec 16 → Bool

/-- Where hard logic meets a stope's routing: the pin that feeds an incoming wire of a tile (tile, face, wire), if one does; and the tile and the source of it that
a signal of a block-memory port takes (memory, port, signal: 0 enable, 1 write enable, 2 to 9 byte enables, 10 to 24 address, 25 to 96 data). -/
opaque Config.pinAt : Nat → Nat → Nat → Option Pin
opaque Config.portTap : List (Nat × BitVec 1024) → Nat → Bool → Nat → Nat × Nat

/-- What a bit of a haulage port's delivery shows, from the tubs and the result that stand first. -/
opaque Config.haulPin : Nat → Option Tub → Option Tub → Option QResult → Bool

/-- The overlay (R281, R302): the COLUMN frame and the bit that hold the enable of a drive point; what that point drives from; the segment that an input of a
cell reads, if it reads one (tile, cell, input). -/
opaque Config.drivePlace : BitVec 16 → Nat → Nat × Nat
opaque Config.driveFrom : List (Nat × BitVec 1024) → BitVec 16 → Nat → DriveFrom
opaque Config.segmentTap : List (Nat × BitVec 1024) → Nat → Nat → Nat → Option (BitVec 16)

/-- ASPECT_A, ASPECT_B, ROW_A, ROW_B and USED of a block memory, as BLK.PORT shows them, from its 128 bits of a MEMORY frame (R302). -/
opaque Config.blkPort : BitVec 128 → BitVec 13

/-- Where registers stand whose offset the spec does not print (R41, R47), in words of their block's window: the first word of a run of elements
that starts at an element; the words between the elements of an array; the words by which a block's entry goes past its last register. The part's
registers do not overlap. -/
opaque Config.regWord : Reg → Nat → Nat
opaque Config.regGap : Reg → Nat
opaque Config.blockGap : Nat → Nat

/-- The Adit station, modulo 16, that the flit mover of a portal feeds (R90). -/
opaque Config.portalStation : Fin 8 → Nat

/-- The offset of TLY.REC in the TLY window (R146), which the spec does not print. -/
opaque Config.recBase : Nat

/-- What DIR.ENT shows of a quarantined way (R180), by shaft and entry. -/
opaque Config.lostEntry : Nat → Nat → BitVec 64

/-- A byte of flash in a sector whose writing did not end (R463, R388), by a counter and its place in what was being written. -/
opaque Config.lostFlash : Nat → Nat → BitVec 8

/-- The order of the Survey Table's descriptors (0) and entries (1), of so many; the words between its parts and what they hold (R45). -/
opaque Config.surveyOrder : Nat → Nat → List Nat
opaque Config.surveyPad : Nat → Nat
opaque Config.surveyFill : Nat → Nat → BitVec 32

/-- PROGRESS of a self-test under way (R450), by unit code, pattern and elapsed µs. -/
opaque Config.testProgress : Nat → Bool → Nat → Nat

/-- A coefficient of a CANARY part (R416) in units of 2^-12: A, B, C or D (0 to 3) of a layer. Clotar lays the part out. -/
opaque Config.canaryCoef : List (BitVec 8) → Nat → Nat → Int

/-- The bytes the board's flash holds beyond the 4 Gibit it must hold at least (R369). -/
opaque Config.flashMore : Nat

/-- The bytes the board's flash holds (R369). -/
def Config.flashSize : Nat := 2 ^ 29 + Config.flashMore

/-- Where slots A and B lie and their size when no copy of the pointer block is good (R382). -/
opaque Config.lostSlots : Nat × Nat × Nat

/-- R373: is fuse slot `i` programmed, and equal to the SHA-384 hash of these bytes of its key record? -/
opaque Config.keyUsable : Nat → List (BitVec 8) → Bool

/-- ECDSA P-384 with SHA-384 and ML-DSA-65 (R374): key, message, signature. -/
opaque Config.ecdsaVerifies : List (BitVec 8) → List (BitVec 8) → List (BitVec 8) → Bool
opaque Config.mldsaVerifies : List (BitVec 8) → List (BitVec 8) → List (BitVec 8) → Bool

/-- SHA-384. -/
opaque Config.sha384 : List (BitVec 8) → List (BitVec 8)

/-- WRAPPED_KEY unwrapped with the device key in the fuses (R374). -/
opaque Config.unwrapKey : List (BitVec 8) → List (BitVec 8)

/-- HKDF-SHA-384 (R379): input key, salt, info; 32 bytes. -/
opaque Config.hkdf : List (BitVec 8) → List (BitVec 8) → List (BitVec 8) → List (BitVec 8)

/-- AES-256-GCM (R379): key, IV, additional data, ciphertext, tag; the plaintext when the tag verifies. -/
opaque Config.gcmOpen : List (BitVec 8) → List (BitVec 8) → List (BitVec 8) → List (BitVec 8) → List (BitVec 8) → Option (List (BitVec 8))

/-- The formers a FORMER part gives (R377), whose order of tables the spec does not print. -/
opaque Config.formerPart : List (BitVec 8) → Formers

/-- The limit a CHARTER part gives a field of GRD, and whether the part keeps Clotar's own format (R375, R377). -/
opaque Config.charterLimit : List (BitVec 8) → Fld → Nat → Nat
opaque Config.charterForm : List (BitVec 8) → Bool

/-- Does a CANARY part keep its own format (R375)? -/
opaque Config.canaryForm : List (BitVec 8) → Bool

end Sys2Proof.Machine
end

