-- ==== Sys2Proof/Machine/PowerTypes.lean ====
section
/-! DEFINITION. What the Canary, the governor, the resets and the self-test unit hold besides registers (R403, R413 to R424, R433,
R443 to R450). -/

namespace Sys2Proof.Machine

/-- A reset that a Cage RESET has asked for and that starts after its reply (R76). -/
inductive ResetAsk
  | cold
  | shaft (s : Nat)
  | stope (s k : Nat)
  | fore
  | portal (s p : Nat)
  deriving DecidableEq, Repr

/-- The boot of the device or of a shaft (R382, R385): due, done, held by a cold start before step 8 (R424), or failed. -/
inductive BootSt | due | done | coldHeld | failed
  deriving DecidableEq, Repr

/-- One sample of an indication (R418): its time in µs and its value in quarter degrees. -/
structure Sample where
  at_ : Nat
  val : Int
  deriving DecidableEq, Repr

/-- A sensor's record (R413, R418): how many samples in a row have had its last reading, the time of each of them with the energy its layer
took since the one before (newest first, at most 1,000), and its last four samples, newest first. -/
structure SensorRec where
  same : Nat
  energy : List (Nat × Nat)
  last : List Sample
  deriving DecidableEq, Repr

/-- A sensor never read. -/
def SensorRec.zero : SensorRec := ⟨0, [], []⟩

/-- A layer's record (R416, R418): its last estimate and reading in quarter degrees, fast samples in a row with a gap above 6 °C, samples in
a row with a gap of at most 3 °C, its last four estimates, newest first, and which of its sensors have passed a self-check since the group
became SUSPECT. -/
structure LayerRec where
  est : Option Int
  reading : Option Int
  gaps : Nat
  calm : Nat
  last : List Sample
  passed : BitVec 6
  deriving DecidableEq, Repr

/-- A layer never sampled. -/
def LayerRec.zero : LayerRec := ⟨none, none, 0, 0, [], 0⟩

/-- A shaft's thermal record: its layers and sensors; the time of its last sample, of the last reason for fast sampling and of the last rise
of its cap; its trip (time in µs and in fabric ns, layer); since when it has been cool; the WARM condition
(R415); the percent the pacer handle holds pacers to, and the tallies opened in the microsecond `capAt` under a cap (R417). -/
structure Thermal where
  layers : Tbl LayerRec
  sensors : Tbl SensorRec
  sampledAt : Nat
  fastReasonAt : Nat
  capRoseAt : Nat
  tripAt : Nat
  tripTime : BitVec 64
  tripLayer : Nat
  coolSince : Option Nat
  warm : Bool
  pacerPct : Nat
  capAt : Nat
  capTaken : Nat
  deriving DecidableEq, Repr

/-- A shaft's thermal record at power-on. -/
def Thermal.zero : Thermal := ⟨[], [], 0, 0, 0, 0, 0, 0, none, false, 100, 0, 0⟩

/-- R417: the cap of a CAP code, in percent. -/
def capPct (code : Nat) : Nat := [100, 85, 70, 55, 40].getD code 25

/-- State of a self-test of a shaft (R450). -/
inductive BstState | idle | draining | running | passed | failed | aborted | refused
  deriving DecidableEq, Repr

/-- A self-test on its way (R445 to R447): its unit code and target, whether it is extended, whether its hewer still drains, when it began in
µs, and the spare hewer or spare Lode block that serves in its unit's place. -/
structure TestRun where
  unit : Nat
  target : Nat
  ext : Bool
  draining : Bool
  began : Nat
  spare : Option Nat
  deriving DecidableEq, Repr

/-- A shaft's self-test status (R450): STATE, what the last start named, why it was refused, PROGRESS of a test that has ended, the fabric
time of the last start that was admitted, its elapsed µs, the faults found and the first; and the test on its way. -/
structure SelfTest where
  st : BstState
  unit : Nat
  target : Nat
  ext : Bool
  reason : Nat
  progress : Nat
  start : BitVec 64
  elapsed : Nat
  faults : Nat
  first : Nat
  run : Option TestRun
  deriving DecidableEq, Repr

/-- No self-test since reset. -/
def SelfTest.zero : SelfTest := ⟨.idle, 0, 0, false, 0, 0, 0, 0, 0, 0, none⟩

end Sys2Proof.Machine
end

