-- ==== Sys2Proof/Machine/QueueRing.lean ====
section
/-! DEFINITION. The queue descriptor (R246), the gap marker (R254), and the push, pop, mark, settle and watermark rules as functions
of one descriptor (R247, R253 to R263). -/

namespace Sys2Proof.Machine

/-- A queue descriptor (R246). `tail` is the model's own copy of the gap marker at WR − 1, from which it is updated in place. -/
structure QDesc where
  base : BitVec 26
  size : BitVec 5
  place : Bool
  rd : BitVec 21
  wr : BitVec 21
  mark : BitVec 21
  hwm : BitVec 20
  lwm : BitVec 20
  valid : Bool
  underrun : Bool
  gap : Bool
  markValid : Bool
  markLost : Bool
  mode : Bool
  wait : Bool
  tailMrk : Bool
  pend : Bool
  fc : Bool
  popped : Bool
  pin : BitVec 2
  pinEn : Bool
  crPortal : BitVec 3
  crEn : Bool
  pendCount : BitVec 32
  pendFirst : BitVec 32
  pendLast : BitVec 32
  tail : Tub
  deriving DecidableEq, Repr

/-- A queue that does not exist. -/
def QDesc.zero : QDesc :=
  ⟨0, 0, false, 0, 0, 0, 0, 0, false, false, false, false, false, false, false, false, false, false, false, 0, false, 0, false,
   0, 0, 0, Tub.zero⟩

/-- Ring size N (R246). -/
def QDesc.n (q : QDesc) : Nat := 2 ^ q.size.toNat

/-- DEPTH (R247). -/
def QDesc.depth (q : QDesc) : Nat := (q.wr - q.rd).toNat

/-- FILL (R247). -/
def QDesc.fill (q : QDesc) : Nat := if q.markValid && !q.mode then (q.wr - q.mark).toNat else q.depth

/-- The ring slot of entry `e` (R247). -/
def QDesc.slot (q : QDesc) (e : BitVec 21) : Nat := e.toNat % q.n

/-- Count that saturates at its 32 bits (R254). -/
def satInc32 (x : BitVec 32) : BitVec 32 := if x = BitVec.allOnes 32 then x else x + 1

/-- A gap marker (R254); KIND 0x01 GAP or 0x02 MEMERR. -/
def Tub.marker (kind : BitVec 8) (pend : Bool) (q : Nat) (first last : BitVec 64) (count : BitVec 32) : Tub :=
  let flags : BitVec 8 := (if pend then 1 else 0) ||| (if count = BitVec.allOnes 32 then 2 else 0)
  let t : Tub := { Tub.zero with cls := Cls.MRK }
  let t := t.put 0 0 kind
  let t := t.put 1 0 flags
  let t := t.put 4 0 ((BitVec.ofNat 17 q).setWidth 32)
  let t := t.put 8 0 first
  let t := t.put 16 0 last
  t.put 24 0 count

/-- The time a pending gap record's bits [41:10] stand for, at fabric time `now` (R254): the latest value not later than `now`
that matches them, or, where there is none, the bits above from `now`. -/
def pendTime (now : BitVec 64) (stored : BitVec 32) : BitVec 64 :=
  let low : Nat := stored.toNat * 1024
  let span : Nat := 2 ^ 42
  let base : Nat := (now.toNat / span) * span
  if base + low ≤ now.toNat then BitVec.ofNat 64 (base + low)
  else if span ≤ base then BitVec.ofNat 64 (base - span + low)
  else BitVec.ofNat 64 (base + low)

/-- Fabric time bits [41:10] (R246). -/
def timeBits (now : BitVec 64) : BitVec 32 := now.extractLsb' 10 32

/-- What a change of a queue leaves: the descriptor, the ring slots written, and whether the mark was lost (R263). -/
structure QWrite where
  q : QDesc
  writes : List (Nat × Tub)
  markLost : Bool
  deriving DecidableEq, Repr

/-- Write one entry at WR and advance it; in yielding mode a write that reaches the mark loses it (R263). -/
def QDesc.append (q : QDesc) (t : Tub) : QWrite :=
  let w := [(q.slot q.wr, t)]
  let q1 := { q with wr := q.wr + 1 }
  if q1.mode && q1.markValid && decide (q1.n ≤ (q1.wr - q1.mark).toNat) then
    ⟨{ q1 with markLost := true, markValid := false }, w, true⟩
  else ⟨q1, w, false⟩

/-- Outcome of a push (R253). -/
inductive PushOut | accepted | dropped | waits | invalid
  deriving DecidableEq, Repr

/-- A push decided: `opened` says that row 7 opened a pending record. -/
structure PushRes where
  w : QWrite
  out : PushOut
  opened : Bool
  deriving DecidableEq, Repr

/-- R253: the push of item `t` onto queue number `k` at fabric time `now`, by a producer that can or cannot wait. -/
def QDesc.push (q : QDesc) (k : Nat) (t : Tub) (canWait : Bool) (now : BitVec 64) : PushRes :=
  let same : QWrite := ⟨q, [], false⟩
  if !q.valid then ⟨same, .invalid, false⟩
  else if (decide (q.fill + 2 ≤ q.n) && !q.pend)
      || (decide (q.fill + 1 = q.n) && q.tailMrk && decide (1 ≤ q.depth) && !q.pend) then
    ⟨{ q with tailMrk := false }.append t, .accepted, false⟩
  else if q.wait && canWait then ⟨same, .waits, false⟩
  else if q.pend then
    ⟨⟨{ q with gap := true, pendCount := satInc32 q.pendCount, pendLast := timeBits now }, [], false⟩, .dropped, false⟩
  else if q.tailMrk && decide (1 ≤ q.depth) then
    let pend := decide (q.tail.field 1 0 1 = 1)
    let m := Tub.marker 0x01 pend k (q.tail.field 8 0 64) (if pend then now &&& ~~~ 1023 else now) (satInc32 (q.tail.field 24 0 32))
    ⟨⟨{ q with gap := true, tail := m }, [(q.slot (q.wr - 1), m)], false⟩, .dropped, false⟩
  else if q.fill + 1 ≤ q.n then
    let m := Tub.marker 0x01 false k now now 1
    ⟨{ q with gap := true, tailMrk := true, tail := m }.append m, .dropped, false⟩
  else
    ⟨⟨{ q with gap := true, pend := true, pendCount := 1, pendFirst := timeBits now, pendLast := timeBits now }, [], false⟩,
      .dropped, true⟩

/-- R255: the ring slot the pop returns (none: an all-zero tub), the descriptor after it, and whether it underran. -/
def QDesc.pop (q : QDesc) : Option Nat × QDesc × Bool :=
  if 1 ≤ q.depth then (some (q.slot q.rd), { q with rd := q.rd + 1, popped := true }, false)
  else if q.popped then (some (q.slot (q.rd - 1)), { q with underrun := true }, true)
  else (none, { q with underrun := true }, true)

/-- R262: set the mark. -/
def QDesc.markSet (q : QDesc) : QDesc := { q with mark := q.rd, markValid := true, markLost := false }

/-- R262: clear the mark. -/
def QDesc.markClear (q : QDesc) : QDesc := { q with markValid := false }

/-- R262: rewind; none when it is refused. -/
def QDesc.rewind (q : QDesc) : Option QDesc := if q.markValid then some { q with rd := q.mark } else none

/-- R256, settle: write the pending record's marker when a slot is free. -/
def QDesc.settle (q : QDesc) (k : Nat) (now : BitVec 64) : QWrite :=
  if q.pend && decide (q.fill + 1 ≤ q.n) then
    let m := Tub.marker 0x01 true k (pendTime now q.pendFirst) (pendTime now q.pendLast) q.pendCount
    { q with tailMrk := true, pend := false, tail := m }.append m
  else ⟨q, [], false⟩

/-- R256, R259: the watermark step. -/
def QDesc.watermark (q : QDesc) : QDesc :=
  if !q.fc && decide (q.hwm.toNat ≤ q.fill) then { q with fc := true }
  else if q.fc && decide (q.fill ≤ q.lwm.toNat) then { q with fc := false }
  else q

/-- The end of an arbitration slot (R251 step 6, R256): settle, then the watermark step. -/
def QDesc.finish (q : QDesc) (k : Nat) (now : BitVec 64) : QWrite :=
  let r := q.settle k now
  { r with q := r.q.watermark }

/-- The descriptor as the 256 bits of QMG.DESC (R246). -/
def QDesc.bits (q : QDesc) : BitVec 256 :=
  let b (x : Bool) (i : Nat) : BitVec 256 := if x then (1 : BitVec 256) <<< i else 0
  let f {w : Nat} (x : BitVec w) (i : Nat) : BitVec 256 := (x.setWidth 256) <<< i
  f q.base 0 ||| f q.size 26 ||| b q.place 31 ||| f q.rd 32 ||| f q.wr 53 ||| f q.mark 74 ||| f q.hwm 95 ||| f q.lwm 115
    ||| b q.valid 135 ||| b (q.rd == q.wr) 136 ||| b q.underrun 137 ||| b q.gap 138 ||| b q.markValid 139 ||| b q.markLost 140
    ||| b q.mode 141 ||| b q.wait 142 ||| b q.tailMrk 143 ||| b q.pend 144 ||| b q.fc 145 ||| b q.popped 146 ||| f q.pin 147
    ||| b q.pinEn 149 ||| f q.crPortal 150 ||| b q.crEn 153 ||| f q.pendCount 160 ||| f q.pendFirst 192 ||| f q.pendLast 224

end Sys2Proof.Machine
end

