-- ==== Sys2Proof/Machine/QueueTypes.lean ====
section
/-! DEFINITION. The operations that wait at the queue manager: in a queue's next slot (R251), for room in a WAIT queue (R257), and
for claim memory (R249). -/

namespace Sys2Proof.Machine

/-- Who an operation on a queue is for: a portal's ingress, a hewer thread, a stope with the operation's number, the host, a portal's egress or admission (which
pop), or nobody that waits for it. -/
inductive Producer
  | portal (p : Portal)
  | hewer (h t : Nat)
  | stope (k i : Nat)
  | host
  | egress (p : Portal)
  | intake (p : Portal)
  | gone
  deriving DecidableEq, Repr

/-- An operation that has reached the queue manager and waits for its queue's slot (R251). -/
structure QOp where
  queue : Nat
  op : StopeQop
  by_ : Producer
  deriving DecidableEq, Repr

/-- A push that waits for room (R257); `sets`: it is a QPUSH, whose outcome T shows. -/
structure PushWait where
  queue : Nat
  tub : Tub
  by_ : Producer
  sets : Bool
  deriving DecidableEq, Repr

/-- An access to a claim-memory ring that is with the backing portal (R249): a write of a slot, or a read of one for a consumer, with
what its pop already said about UNDERRUN. A read is `sent` once no write to its slot is unacknowledged. -/
structure RingOp where
  queue : Nat
  slot : Nat
  write : Bool
  by_ : Producer
  underrun : Bool
  sent : Bool
  deriving DecidableEq, Repr

end Sys2Proof.Machine
end

