-- ==== Sys2Proof/Machine/State.lean ====
section
/-! DEFINITION. The state of the Akfodun: the queue of waiting commands, the device-common services and the eight shafts, and the
state right after power-on reset has been released. -/

namespace Sys2Proof.Machine

/-- A sweep on its way (R158): its claim, the next way it reads as 14 × set + way, and the recalls it has open. -/
structure Sweep where
  claim : Nat
  next : Nat
  recalls : List Nat
  deriving DecidableEq, Repr

/-- A hewer retirement that drains (R218): the hewer, the reason of HWR_RETIRED and the covering hewer. -/
structure Retirement where
  hewer : Nat
  reason : Nat
  cover : Option Nat
  deriving DecidableEq, Repr

/-- Everything one shaft holds besides its register fields. Times are device uptime in µs unless a field is a tally clock value.

* Lode: `clock` (R136); `tallies` (R128); tub slots `slots` and the free-pool slots in use `pool` (R131, R248); the lock index `locks`
  by line (home address bits [37:6]) and the lines locked (R171, R132); directory entries by 14 × set + way, ways out of use, the recall open of each
  way, the set-wait queues, and recalls waiting for the reserve (R161 to R180); the sweep; the claim command that runs (R154); queue descriptors (R246) and the
  operations waiting at the queue manager, and a command of QMG.CMD that waits (R250); block memory bytes `blk` (R287); `formers` (R354, R360, R363); retired Lode blocks with
  their spares (R445).
* Haulage: flits on their way (R93).
* Seams: hewer threads by 16 × hewer + thread, the dispatch queue and the turn of the clusters (R189), the two banks (R197), a
  flip waiting for EPOCH_FREE (R214), seals and retirements on their way, stopes by element k.
* Plan: frames and their frame checks by frame address (R300, R301), suspect frames, the source of each slot by 8k + c, recoveries,
  the two scrubbers, preloads on their way (slot by stope) and swaps.
* Adit: portals; since when each lane's CDR has held lock (R108).
* when holdover began and whether the PLLs are steering back to REFCLK (R111, R112), the thermal record, the self-test, the slice reset's start and tallies discarded, the
  boot state, whether the shaft is in SHAFT reset, whether its start is held cold (R424), and the event limits. -/
structure ShaftSt where
  clock : BitVec 32
  tallies : Tbl Tally
  slots : Tbl Tub
  pool : List Nat
  locks : Tbl (Option LockRec)
  dir : Tbl DirEnt
  quarantined : List Nat
  recalls : Tbl (Option Nat)
  setWait : Tbl (List Nat)
  recallWait : List RecallWait
  sweep : Option Sweep
  claimCmd : Option ClaimCmd
  queues : Tbl QDesc
  qops : List QOp
  pushWaits : List PushWait
  ringOps : List RingOp
  queueCmd : Option (Nat × Nat)
  blk : List Host.Cell
  formers : Formers
  retiredBlocks : Tbl (Option Nat)
  flights : List Flight
  threads : Tbl Thread
  dispatchQ : List Work
  turn : Nat
  bank0 : Bank
  bank1 : Bank
  flipAt : Option Nat
  sealing : Option Bool
  retiring : List Retirement
  stopes : Tbl Stope
  plan : Tbl (BitVec 1024)
  planCheck : Tbl (BitVec 32)
  suspect : List Nat
  slotSource : Tbl (Option SlotSource)
  recoveries : List Recovery
  scrub0 : Scrubber
  scrub1 : Scrubber
  preloads : Tbl (Option Nat)
  swaps : List Swap
  portals : Oct PortalSt
  lockSince : Tbl (Option Nat)
  holdoverAt : Nat
  steering : Bool
  thermal : Thermal
  test : SelfTest
  sliceAt : Nat
  sliceTallies : Nat
  boot : BootSt
  inReset : Bool
  coldHeld : Bool
  limits : Tbl Limit
  deriving DecidableEq, Repr

/-- The state of the whole device.

* `pending`: the commands that wait, first in, first out.
* `regs`: the register fields that do not hold their reset value, by `Fld.key`.
* `up`: µs since power-on reset was released, the model's own clock; `fab`, `frac`, `slew`: the fabric-time counter in ns, its 16
  fraction bits, and the offset still to be slewed in ns (R115, R118).
* the event log with its next SEQ and the events dropped since the last entry (R80 to R82); the Cage; resets answered but not begun
  (R76); event limits; blocks returning from a gate, by scope (8: device) and block (R57).
* the flash contents, the stream's write buffer, sectors erased since OPEN, whether ARM was given in OPEN, how many bytes of the slot
  were streamed, an activation, the CANARY part in force (R370 to R395); a rewrite of the pointer block that is due (R392, R397); a setting
  command that runs (R386, R400).
* the Foreman: in service, the cause of its restart, when it began, MGT tubs dropped, tubs waiting for it (R437, R438).
* rails (0 below its POR threshold, 1 between, 2 in range, in the order of R402), RESET_N, the REFSEL strap, whether POR holds, since
  when every rail is in range with RESET_N high, and whether a COLD reset waits for RESET_N (R403, R427).
* REFCLK: lost since, watched since, the length of a loss whose REFCLK_BACK is still due, and
  whether any lane has trained since POR or COLD (R109 to R114); the time follower's last
  offsets, its request outstanding, when it sent and had its last, and its last offset (R117 to R119).
* the governor: time of its last lowering, Adit stations that reached 48 tubs in the last 10 µs (R406).
* `throttled`: whether any shaft has a cap below 100 % and since when (R425); boot of the device; how it boots next (R382).
* `freeCtr`: the model's own counter of free values taken. -/
structure State where
  pending : List Instr
  regs : Tbl Nat
  shafts : Oct ShaftSt
  up : Nat
  fab : BitVec 64
  frac : BitVec 16
  slew : Int
  log : List LogEntry
  seq : BitVec 16
  dropped : Nat
  cage : CageSt
  resetsDue : List ResetAsk
  limits : Tbl Limit
  returning : List (Nat × Block)
  flash : List Host.Cell
  wbuf : List StreamChunk
  erased : List Nat
  armOpen : Bool
  act : Option Activation
  canary : List (BitVec 8)
  pointerDue : Option PtrDue
  setJob : Option SetJob
  foreUp : Bool
  foreCause : Nat
  foreAt : Nat
  foreDropped : Nat
  foreIn : List Tub
  rails : List Nat
  resetN : Bool
  refsel : Bool
  por : Bool
  goodSince : Nat
  refLostAt : Option Nat
  refFrom : Nat
  refBackDue : Option Nat
  everTrained : Bool
  offsets : List Int
  timeSent : Option (BitVec 64)
  timeSentAt : Nat
  timeReplyAt : Nat
  timeOffset : Int
  lowerAt : Nat
  station48 : Bool
  throttledAt : Option Nat
  boot : BootSt
  freeCtr : Nat
  deriving DecidableEq, Repr

/-- Why the machine stops with a fault: never. No command of the spec's table ends in one (assumption 1), so there is no constructor. -/
inductive Fault
  deriving DecidableEq, Repr

/-- Why the machine refuses a command. -/
inductive Refusal where
  /-- The command has no meaning in this model yet; raised by a dispatch arm only. Safe: nothing happens. -/
  | notModelled (mnemonic : String)
  deriving DecidableEq, Repr

/-- A shaft right after power-on reset, before it has been booted. -/
def ShaftSt.reset : ShaftSt where
  clock := 0
  tallies := []
  slots := []
  pool := []
  locks := []
  dir := []
  quarantined := []
  recalls := []
  setWait := []
  recallWait := []
  sweep := none
  claimCmd := none
  queues := []
  qops := []
  pushWaits := []
  ringOps := []
  queueCmd := none
  blk := []
  formers := Formers.zero
  retiredBlocks := []
  flights := []
  threads := []
  dispatchQ := []
  turn := 0
  bank0 := Bank.zero
  bank1 := Bank.zero
  flipAt := none
  sealing := none
  retiring := []
  stopes := []
  plan := []
  planCheck := []
  suspect := []
  slotSource := []
  recoveries := []
  scrub0 := ⟨0, 0, 0, [], [], false⟩
  scrub1 := ⟨64, 0, 0, [], [], false⟩
  preloads := []
  swaps := []
  portals := Oct.all PortalSt.zero
  lockSince := []
  holdoverAt := 0
  steering := false
  thermal := Thermal.zero
  test := SelfTest.zero
  sliceAt := 0
  sliceTallies := 0
  boot := .due
  inReset := false
  coldHeld := false
  limits := []

/-- The device right after power-on reset has been released (R403, R115, R80): every register field at its reset value, fabric time 0, the log
holding POWER_ON, the Cage not yet ready (R469), the boot due (R382). Values the spec does not give are named in assumptions 2
to 6. -/
def State.reset : State where
  pending := []
  regs := []
  shafts := Oct.all ShaftSt.reset
  up := 0
  fab := 0
  frac := 0
  slew := 0
  log := [⟨0, 0x0001, 0, 0xFF, 0xFFFF, 0, 0, 0⟩]
  seq := 1
  dropped := 0
  cage := ⟨false, 0, false, none, none, 0, false⟩
  resetsDue := []
  limits := []
  returning := []
  flash := []
  wbuf := []
  erased := []
  armOpen := false
  act := none
  canary := []
  pointerDue := none
  setJob := none
  foreUp := false
  foreCause := 0
  foreAt := 0
  foreDropped := 0
  foreIn := []
  rails := [2, 2, 2, 2, 2, 2, 2]
  resetN := true
  refsel := false
  por := false
  goodSince := 0
  refLostAt := none
  refFrom := 0
  refBackDue := none
  everTrained := false
  offsets := []
  timeSent := none
  timeSentAt := 0
  timeReplyAt := 0
  timeOffset := 0
  lowerAt := 0
  station48 := false
  throttledAt := none
  boot := .due
  freeCtr := 0

end Sys2Proof.Machine
end

