-- ==== Sys2Proof/Machine/Ops.lean ====
section
/-! DEFINITION. The named operations every meaning is written over: reading and writing register fields, shafts and portals, events
of the event log (R80 to R82), free values, and the address arithmetic of a tub. -/

namespace Sys2Proof.Machine

/-- What a command answers. -/
abbrev Out := Host.Outcome State Fault Refusal

/-! ### Register fields -/

/-- The number of element `e` of a field in scope `sc` (a shaft 0 to 7, or 8 for the device-common window) in `State.regs`. -/
def Fld.key (f : Fld) (sc e : Nat) : Nat := (e * 16 + sc) * 512 + f.ctorIdx

/-- A stored field. -/
def State.getF (s : State) (f : Fld) (sc e : Nat) : Nat := Tbl.get (f.reset sc e) s.regs (f.key sc e)

/-- Write a stored field; a value too wide is cut to the field's width. -/
def State.setF (s : State) (f : Fld) (sc e v : Nat) : State :=
  { s with regs := Tbl.set (f.reset sc e) s.regs (f.key sc e) (v % 2 ^ f.desc.width) }

/-- Raise a counter field by `by_`; it saturates (R14). -/
def State.addF (s : State) (f : Fld) (sc e : Nat) (by_ : Nat := 1) : State :=
  s.setF f sc e (min (s.getF f sc e + by_) (2 ^ f.desc.width - 1))

/-- Lower a field by `by_`, not below 0. -/
def State.subF (s : State) (f : Fld) (sc e : Nat) (by_ : Nat := 1) : State := s.setF f sc e (s.getF f sc e - by_)

/-- A field of the device-common window. -/
def State.dev (s : State) (f : Fld) (e : Nat := 0) : Nat := s.getF f 8 e

/-- A one-bit field of the device-common window. -/
def State.devB (s : State) (f : Fld) (e : Nat := 0) : Bool := s.getF f 8 e != 0

/-- A field of a shaft's window. -/
def State.reg (s : State) (n : Shaft) (f : Fld) (e : Nat := 0) : Nat := s.getF f n.val e

/-- A one-bit field of a shaft's window. -/
def State.regB (s : State) (n : Shaft) (f : Fld) (e : Nat := 0) : Bool := s.getF f n.val e != 0

/-- Write a field of the device-common window. -/
def State.setDev (s : State) (f : Fld) (v : Nat) (e : Nat := 0) : State := s.setF f 8 e v

/-- Write a field of a shaft's window. -/
def State.setReg (s : State) (n : Shaft) (f : Fld) (v : Nat) (e : Nat := 0) : State := s.setF f n.val e v

/-- Raise a counter of a shaft's window. -/
def State.addReg (s : State) (n : Shaft) (f : Fld) (e : Nat := 0) (by_ : Nat := 1) : State := s.addF f n.val e by_

/-- Raise a counter of the device-common window. -/
def State.addDev (s : State) (f : Fld) (e : Nat := 0) (by_ : Nat := 1) : State := s.addF f 8 e by_

/-- A Bool as the number of a one-bit field. -/
def bit (b : Bool) : Nat := if b then 1 else 0

/-! ### Shafts and portals -/

/-- A shaft. -/
def State.sh (s : State) (n : Shaft) : ShaftSt := s.shafts.get n

/-- Change a shaft. -/
def State.updSh (s : State) (n : Shaft) (f : ShaftSt → ShaftSt) : State := { s with shafts := s.shafts.upd n f }

/-- A portal. -/
def State.ptl (s : State) (n : Shaft) (p : Portal) : PortalSt := (s.sh n).portals.get p

/-- Change a portal. -/
def State.updPtl (s : State) (n : Shaft) (p : Portal) (f : PortalSt → PortalSt) : State :=
  s.updSh n (fun h => { h with portals := h.portals.upd p f })

/-- The tally numbered `t`. -/
def State.tally (s : State) (n : Shaft) (t : Nat) : Tally := Tbl.get Tally.zero (s.sh n).tallies t

/-- Change a tally. -/
def State.updTally (s : State) (n : Shaft) (t : Nat) (f : Tally → Tally) : State :=
  s.updSh n (fun h => { h with tallies := Tbl.upd Tally.zero h.tallies t f })

/-- A stope by its element (0 to 63 Lower, 64 to 127 Upper). -/
def State.stope (s : State) (n : Shaft) (k : Nat) : Stope := Tbl.get Stope.zero (s.sh n).stopes k

/-- Change a stope. -/
def State.updStope (s : State) (n : Shaft) (k : Nat) (f : Stope → Stope) : State :=
  s.updSh n (fun h => { h with stopes := Tbl.upd Stope.zero h.stopes k f })

/-- A queue descriptor. -/
def State.queue (s : State) (n : Shaft) (q : Nat) : QDesc := Tbl.get QDesc.zero (s.sh n).queues q

/-- Write a queue descriptor. -/
def State.setQueue (s : State) (n : Shaft) (q : Nat) (d : QDesc) : State :=
  s.updSh n (fun h => { h with queues := Tbl.set QDesc.zero h.queues q d })

/-- A hewer thread. -/
def State.thread (s : State) (n : Shaft) (h t : Nat) : Thread := Tbl.get Thread.idle (s.sh n).threads (16 * h + t)

/-- Change a hewer thread. -/
def State.updThread (s : State) (n : Shaft) (h t : Nat) (f : Thread → Thread) : State :=
  s.updSh n (fun x => { x with threads := Tbl.upd Thread.idle x.threads (16 * h + t) f })

/-- The microcode bank numbered `b` (false 0, true 1). -/
def ShaftSt.bank (h : ShaftSt) (b : Bool) : Bank := if b then h.bank1 else h.bank0

/-- The contents of tub slot `i`. -/
def State.slot (s : State) (n : Shaft) (i : Nat) : Tub := Tbl.get Tub.zero (s.sh n).slots i

/-- Write tub slot `i`. -/
def State.setSlot (s : State) (n : Shaft) (i : Nat) (t : Tub) : State :=
  s.updSh n (fun h => { h with slots := Tbl.set Tub.zero h.slots i t })

/-- Fold a change over the eight shafts. -/
def State.eachShaft (s : State) (f : Shaft → State → State) : State := Oct.indices.foldl (fun a n => f n a) s

/-- Fold a change over the eight portals of a shaft. -/
def State.eachPortal (s : State) (f : Portal → State → State) : State := Oct.indices.foldl (fun a p => f p a) s

/-! ### Lists -/

/-- Take out the first element `p` accepts, with what comes before and after. -/
def takeFirst {α : Type} (p : α → Bool) : List α → Option (α × List α)
  | [] => none
  | a :: t => if p a then some (a, t) else
    match takeFirst p t with
    | none => none
    | some (b, r) => some (b, a :: r)

/-- Drop the element numbered `i`. -/
def dropNth {α : Type} (l : List α) (i : Nat) : List α := l.take i ++ l.drop (i + 1)

/-- The lowest of `count` numbers from `base` that `used` does not list. -/
def lowestFree (used : List Nat) (base : Nat) : Nat → Option Nat
  | 0 => none
  | k + 1 => if used.contains base then lowestFree used (base + 1) k else some base

/-! ### Events (R80 to R82) -/

/-- DETAIL from its three words, bytes 16 to 19 first. -/
def detail (w0 : Nat) (w1 : Nat := 0) (w2 : Nat := 0) : BitVec 96 :=
  (BitVec.ofNat 96 (w0 % 2 ^ 32)) ||| ((BitVec.ofNat 96 (w1 % 2 ^ 32)) <<< 32) ||| ((BitVec.ofNat 96 (w2 % 2 ^ 32)) <<< 64)

/-- DETAIL from a 64-bit value in bytes 16 to 23 and a word in bytes 24 to 27. -/
def detail64 (v : Nat) (w2 : Nat := 0) : BitVec 96 := (BitVec.ofNat 96 (v % 2 ^ 64)) ||| ((BitVec.ofNat 96 (w2 % 2 ^ 32)) <<< 64)

/-- Severities (R81). -/
def Sev.info : BitVec 8 := 0
def Sev.notice : BitVec 8 := 1
def Sev.warning : BitVec 8 := 2
def Sev.fault : BitVec 8 := 3

/-- R80 to R82: write an event, or drop it when the log holds 4,096 entries. `src` is a shaft or 0xFF. -/
def State.event (s : State) (code : BitVec 16) (sev : BitVec 8) (src unit : Nat) (d : BitVec 96 := 0) : State :=
  if 4096 ≤ s.log.length then
    let s1 := s.addDev .EVL_STAT_DROPPED
    { s1 with dropped := min (s.dropped + 1) 0xFFFF }
  else
    { s with
      log := s.log ++ [⟨s.fab, code, sev, BitVec.ofNat 8 src, BitVec.ofNat 16 unit, s.seq, d, BitVec.ofNat 16 s.dropped⟩]
      seq := s.seq + 1
      dropped := 0 }

/-- An event of shaft `n`. -/
def State.shEvent (s : State) (n : Shaft) (code : BitVec 16) (sev : BitVec 8) (unit : Nat) (d : BitVec 96 := 0) : State :=
  s.event code sev n.val unit d

/-- A device-common event. -/
def State.devEvent (s : State) (code : BitVec 16) (sev : BitVec 8) (unit : Nat := 0xFFFF) (d : BitVec 96 := 0) : State :=
  s.event code sev 0xFF unit d

/-- An event of shaft `n` that is written at most once per second; `d` makes its DETAIL from how many happened since the last. -/
def State.limEvent (s : State) (n : Shaft) (code : BitVec 16) (sev : BitVec 8) (unit : Nat) (d : Nat → BitVec 96)
    (key : Nat := code.toNat) (by_ : Nat := 1) : State :=
  let l := Tbl.get ⟨none, 0⟩ (s.sh n).limits key
  let due := match l.last with
    | none => true
    | some t => decide (t + 1000000 ≤ s.up)
  if due then
    (s.shEvent n code sev unit (d (l.count + by_))).updSh n
      (fun h => { h with limits := Tbl.set ⟨none, 0⟩ h.limits key ⟨some s.up, 0⟩ })
  else s.updSh n (fun h => { h with limits := Tbl.set ⟨none, 0⟩ h.limits key ⟨l.last, l.count + by_⟩ })

/-! ### Free values -/

/-- Take the next free value: its number, and the state that has counted it. -/
def State.free (s : State) : Nat × State := (s.freeCtr, { s with freeCtr := s.freeCtr + 1 })

end Sys2Proof.Machine
end

