-- ==== Sys2Proof/Machine/Service.lean ====
section
/-! DEFINITION. Which units are in service: layers out of service (R31, R433, R434), gates (R55 to R58), the states of a shaft that stop
its admission (R366). -/

namespace Sys2Proof.Machine

/-- Block codes (R41). -/
def Block.code : Block → Nat
  | .SVY => 0x01
  | .DEV => 0x02
  | .CGE => 0x03
  | .EVL => 0x04
  | .FOR => 0x05
  | .CAN => 0x06
  | .PWR => 0x07
  | .CLK => 0x08
  | .TIM => 0x09
  | .IMG => 0x0A
  | .GRD => 0x0B
  | .BST => 0x0C
  | .SHF => 0x11
  | .LNE => 0x12
  | .PTL => 0x13
  | .HAU => 0x14
  | .PCE => 0x15
  | .CTX => 0x16
  | .SCB => 0x17
  | .STP => 0x18
  | .HWR => 0x19
  | .CLM => 0x1A
  | .TLY => 0x1B
  | .QMG => 0x1C
  | .BLK => 0x1D
  | .DIR => 0x1E
  | .sgate => 0
  | .dgate => 0

/-- A block of a shaft's window (R41). -/
def Block.ofShaft (b : Block) : Bool := decide (0x11 ≤ b.code)

/-- The blocks that cannot be gated (R58). -/
def Block.ungateable (b : Block) : Bool :=
  match b with
  | .SVY | .DEV | .CGE | .EVL | .SHF | .sgate | .dgate => true
  | _ => false

/-- The blocks that halt only once a condition is met (R57). -/
def Block.haltsLater (b : Block) : Bool :=
  match b with
  | .HAU | .TLY | .CLM | .DIR | .HWR | .QMG | .SCB | .IMG => true
  | _ => false

/-- GATE.EN of a block in scope `sc`. -/
def State.gateEn (s : State) (sc : Nat) (b : Block) : Bool :=
  s.getF (if b.ofShaft then .SGATE_EN else .DGATE_EN) sc b.code != 0

/-- GATE.HALTED of a block: only then is it gated (R57). -/
def State.gated (s : State) (sc : Nat) (b : Block) : Bool :=
  s.getF (if b.ofShaft then .SGATE_HALTED else .DGATE_HALTED) sc b.code != 0

/-- A gated block of shaft `n`. -/
def State.shGated (s : State) (n : Shaft) (b : Block) : Bool := s.gated n.val b

/-- A gated device-common block. -/
def State.devGated (s : State) (b : Block) : Bool := s.gated 8 b

/-- Write EN and HALTED of a block. -/
def State.setGate (s : State) (sc : Nat) (b : Block) (en halted : Bool) : State :=
  (s.setF (if b.ofShaft then .SGATE_EN else .DGATE_EN) sc b.code (bit en)).setF
    (if b.ofShaft then .SGATE_HALTED else .DGATE_HALTED) sc b.code (bit halted)

/-- SHF.SLICE_STAT.STATE: 0 NONE, 1 DRAINING, 2 RESETTING, 3 RELOADING (R452). -/
def State.slice (s : State) (n : Shaft) : Nat := s.reg n .SHF_SLICE_STAT_STATE

/-- Is the slice reset that runs the Adit's? -/
def State.sliceAdit (s : State) (n : Shaft) : Bool := s.regB n .SHF_SLICE_STAT_LAYER

/-- R29, R403: POR, or a rail outside its recommended range, stops every shaft. -/
def State.railsOut (s : State) : Bool := s.por || s.rails.any (fun r => decide (r ≠ 2))

/-- The Lode is out of service: SHAFT reset, or RESETTING and RELOADING of a Lode slice reset (R433). -/
def State.lodeOut (s : State) (n : Shaft) : Bool :=
  (s.sh n).inReset || s.railsOut || (decide (2 ≤ s.slice n) && !s.sliceAdit n)

/-- The Adit of the shaft is out of service: SHAFT reset, or an Adit slice reset (R434). -/
def State.aditOut (s : State) (n : Shaft) : Bool := (s.sh n).inReset || s.railsOut || (decide (s.slice n ≠ 0) && s.sliceAdit n)

/-- PWR.SHAFT.STATE: 0 RUN, 1 ENTERING, 2 DOZE, 3 WAKING (R425). -/
def State.doze (s : State) (n : Shaft) : Nat := s.dev .PWR_SHAFT_STATE n.val

/-- CAN.SHAFT.THERMAL: 0 RUN, 1 STOPPING, 2 COOLING, 3 HALTED, 4 COLD_HOLD (R425). -/
def State.thermal (s : State) (n : Shaft) : Nat := s.dev .CAN_SHAFT_THERMAL n.val

/-- The Seams of the shaft do no work: DOZE until they are powered again, thermal cooling, a cold hold, SHAFT reset, POR (R31, R409,
R419, R424). -/
def State.seamsOut (s : State) (n : Shaft) : Bool :=
  (s.sh n).inReset || s.railsOut || decide (2 ≤ s.doze n) || decide (2 ≤ s.thermal n)

/-- R31: the block answers BUSY, because its layer is out of service in that shaft, or because it returns from a gate (R57). Two points are choices
(assumption 109): the Lode blocks answer BUSY from DRAINING on (R31: during the slice reset; the worked example of chapter 15 shows it from RESETTING),
and HWR answers BUSY in COLD_HOLD too, whose Seams are powered for the heating pattern only. DESIGN CHOICE. -/
def State.blockBusy (s : State) (sc : Nat) (b : Block) : Bool :=
  s.returning.contains (sc, b) ||
  (if h : sc < 8 then
    let n : Shaft := ⟨sc, h⟩
    match b with
    | .HAU | .CTX | .SCB | .PCE | .STP => (s.sh n).inReset
    | .LNE | .PTL => s.aditOut n
    | .TLY | .DIR | .CLM | .QMG | .BLK => (s.sh n).inReset || (decide (s.slice n ≠ 0) && !s.sliceAdit n)
    | .HWR => (s.sh n).inReset || decide (s.doze n = 2) || decide (s.doze n = 3) || decide (2 ≤ s.thermal n)
    | _ => false
  else false)

/-- A Lode block of shaft `n` that works: neither gated nor out of service. -/
def State.works (s : State) (n : Shaft) (b : Block) : Bool := !(s.shGated n b) && !(s.lodeOut n)

end Sys2Proof.Machine
end

