-- ==== Sys2Proof/Machine/Haulage.lean ====
section
/-! DEFINITION. Haulage (R92 to R99, R479): injection, the fixed path, one hop of a flit, and the retirement of a vertical link. -/

namespace Sys2Proof.Machine

/-- The number of a layer in its order along a vertical link, Adit lowest. -/
def Layer.level : Layer → Nat
  | .adit => 0
  | .lode => 1
  | .plan => 2

/-- DEST of a layer (R93). -/
def Layer.dest : Layer → BitVec 8
  | .adit => 0x80
  | .lode => 0x81
  | .plan => 0x82

/-- The layer a DEST names, if it names one (R93). -/
def destLayer (d : BitVec 8) : Option Layer :=
  if d = 0x80 then some .adit else if d = 0x81 then some .lode else if d = 0x82 then some .plan else none

/-- DEST of a place. -/
def Pos.dest : Pos → BitVec 8
  | .router r => BitVec.ofNat 8 r
  | .station l _ => l.dest
  | .unit l => l.dest

/-- The router of hewer `h` (R479): rows 1, 3 and 5, and columns 0 and 1 of row 7, Lower for H00 to H25, Upper from H26. -/
def hewerRouter (h : Nat) : Nat :=
  let i := h % 26
  (if 26 ≤ h then 64 else 0) + 8 * (2 * (i / 8) + 1) + i % 8

/-- The Lower Seam position over vertical link `v` (R92). -/
def linkRouter (v : Nat) : Nat := 16 * (v / 4) + 2 * (v % 4)

/-- The vertical link of Seam router `r` (R95). -/
def routerLink (r : Nat) : Nat := 4 * ((r % 64) / 8 / 2) + (r % 8) / 2

/-- R98: the link that carries what is routed by link `v`, given which are retired; none when all four of its group are. -/
def liveLink (retired : Nat → Bool) (v : Nat) : Option Nat :=
  [v, v ^^^ 1, v ^^^ 2, v ^^^ 3].find? (fun x => !retired x)

/-- One mesh step from position `x` to position `y` of an 8 × 8 mesh: along the row first, then along the column. -/
def meshStep (x y : Nat) : Nat :=
  if x % 8 < y % 8 then x + 1
  else if y % 8 < x % 8 then x - 1
  else if x < y then x + 8
  else x - 8

/-- The layer next on the way from `a` to `b`. -/
def Layer.toward (a b : Layer) : Layer :=
  match a, b with
  | .adit, .adit => .adit
  | .adit, _ => .lode
  | .lode, x => x
  | .plan, .plan => .plan
  | .plan, _ => .lode

/-- The station of vertical link `v` of layer `l`, or the Seam router over it, that is next on the way up from layer `l`; the layer's unit when the
way ends there. -/
def aboveLayer (l : Layer) (v : Nat) : Pos :=
  match l with
  | .adit => .station .lode v
  | .lode => .station .plan v
  | .plan => .router (linkRouter v)

/-- R95: one hop along vertical link `v` from layer `l` to layer `d`; within one layer, the crossing of its stations. -/
def towardLayer (l d : Layer) (v : Nat) : Pos := if l.toward d = d then .unit d else .station (l.toward d) v

/-- R95, R96: the next place on the way of a flit from `src`, now at `pos`, to `dest`; none when it has arrived, or has no way. A unit hands its
tubs to the station of the link they take, and a station hands what is for its layer to the unit, so that a layer crossing, a router, F2F and a
station crossing are one hop each. -/
def nextPlace (retired : Nat → Bool) (src pos : Pos) (dest : BitVec 8) : Option Pos :=
  match destLayer dest with
  | some d =>
    match pos with
    | .unit l => if l = d then none else (liveLink retired 0).map (towardLayer l d)
    | .station l v => some (towardLayer l d v)
    | .router r =>
      if 64 ≤ r then some (.router (r - 64))
      else
        let home := match src with
          | .router x => routerLink x
          | _ => routerLink r
        match liveLink retired home with
        | none => none
        | some v =>
          if r = linkRouter v then some (if d = .plan then .unit .plan else .station .plan v) else some (.router (meshStep r (linkRouter v)))
  | none =>
    let y := dest.toNat
    match pos with
    | .unit l => (liveLink retired (routerLink y)).map (aboveLayer l)
    | .station l v => some (aboveLayer l v)
    | .router r =>
      if r = y then none
      else if 64 ≤ r then
        if y < 64 then some (.router (r - 64)) else some (.router (64 + meshStep (r - 64) (y - 64)))
      else if r = y % 64 then some (.router (r + 64))
      else some (.router (meshStep r (y % 64)))

/-- Is vertical link `v` of the shaft retired (R98)? -/
def State.linkRetired (s : State) (n : Shaft) (v : Nat) : Bool := (s.reg n .HAU_VLINK_RETIRED).testBit v

/-- R98: are all four links of a group of the shaft retired, so that the shaft is out of service? DEDUCED (assumption 120): such a shaft admits nothing, as one
whose HAU is gated, and its blocks go on answering the Cage. -/
def State.linksDead (s : State) (n : Shaft) : Bool :=
  [0, 4, 8, 12].any (fun g => [g, g + 1, g + 2, g + 3].all (s.linkRetired n))

/-- R121: put a tub into haulage. A tub of a reserved class is discarded where it is injected and counted. -/
def State.inject (s : State) (n : Shaft) (t : Tub) (src : Pos) (dest : BitVec 8) (act : Arrive) (sender : Option Nat := none)
    (via : Option Portal := none) : State :=
  if Cls.reserved t.cls then
    (s.addReg n .TLY_STAT3_BAD_CLASS).limEvent n 0x0203 Sev.notice src.dest.toNat (fun _ => detail t.cls.toNat)
  else s.updSh n (fun h => { h with flights := h.flights ++ [⟨t, src, src, dest, act, sender, via⟩] })

/-- Ask the queue manager to push a tub (R251). -/
def State.pushOp (s : State) (n : Shaft) (q : Nat) (t : Tub) (by_ : Producer) : State :=
  s.updSh n (fun h => { h with qops := h.qops ++ [⟨q, .push t, by_⟩] })

/-- A tub addressed to the Foreman reaches it, or is discarded and counted while it restarts (R438). -/
def State.toForeman (s : State) (t : Tub) : State :=
  if s.foreUp then { s with foreIn := s.foreIn ++ [t] } else { s with foreDropped := s.foreDropped + 1 }

/-- R233: TRANSIT of a tally rises; what a count beyond the field's 12 bits leaves is not stated. -/
def State.raiseTransit (s : State) (n : Shaft) (t : Nat) : State :=
  if (s.tally n t).sp.transit = BitVec.allOnes 12 then
    let r := s.free
    r.2.updTally n t (fun y => { y with sp := { y.sp with transit := BitVec.ofNat 12 (Config.freeValue r.1) } })
  else s.updTally n t (fun y => { y with sp := { y.sp with transit := y.sp.transit + 1 } })

/-- R235: a tub made while its tally was PENDING leaves TRANSIT. -/
def State.leaveTransit (s : State) (n : Shaft) (t : Tub) : State :=
  let y := s.tally n t.tally.toNat
  if t.spc ∧ t.tv ∧ y.gen = t.gen then s.updTally n t.tally.toNat (fun y => { y with sp := { y.sp with transit := if y.sp.transit = 0 then 0 else y.sp.transit - 1 } })
  else s

/-- Is queue `q` the egress queue of a portal? -/
def State.egressQueue (s : State) (n : Shaft) (q : Nat) : Bool := Oct.indices.any (fun p => decide (s.reg n .PTL_EQ_QUEUE p.val = q))

/-- R235: a tub that reaches the queue manager in a stope's QPUSH leaves TRANSIT there, unless its queue carries it on to a portal's gate. -/
def State.leavePush (s : State) (n : Shaft) (q : Nat) (op : StopeQop) : State :=
  match op with
  | .push t => if s.egressQueue n q then s else s.leaveTransit n t
  | _ => s

/-- What the unit at the destination does with a tub that arrives (R92, R95). Tubs for the tally store, a stope port, and HAU replies
stay there until their own steps. -/
def State.arrive (s : State) (n : Shaft) (f : Flight) : State :=
  match f.act with
  | .egress p => s.pushOp n (s.reg n .PTL_EQ_QUEUE p.val) f.tub .gone
  | .queue q p => s.pushOp n q f.tub (.portal p)
  | .sink => s.leaveTransit n f.tub
  | .ingress p => s.pushOp n (s.reg n .PTL_INQ_QUEUE p.val) f.tub (.portal p)
  | .foreman => (s.leaveTransit n f.tub).toForeman f.tub
  | .stopeOp k i q op => (s.leavePush n q op).updSh n (fun h => { h with qops := h.qops ++ [⟨q, op, .stope k i⟩] })
  | .tallyStore | .stope _ | .stopeRes _ _ _ | .hau => s.updSh n (fun h => { h with flights := h.flights ++ [f] })

/-- Has the flit reached its destination? -/
def Flight.there (f : Flight) : Bool :=
  match destLayer f.dest with
  | some l => decide (f.pos = .unit l)
  | none => decide (f.pos = .router f.dest.toNat)

/-- R99: is the place `p`, next on its way, out of service for a flit to `dest`? A Seam router is for what the Seams' layer is to receive; a station
always passes what goes through it. -/
def State.placeOut (s : State) (n : Shaft) (p : Pos) (dest : BitVec 8) : Bool :=
  match p with
  | .router _ => decide (destLayer dest = none) && s.seamsOut n
  | .unit .adit => s.aditOut n
  | .unit .lode => s.lodeOut n
  | .unit .plan => (s.sh n).inReset
  | .station _ _ => false

/-- A flit that stands at a router of Seams without power stays there: only stations pass traffic then (R99). -/
def State.stranded (s : State) (n : Shaft) (f : Flight) : Bool :=
  match f.pos with
  | .router _ => s.seamsOut n
  | _ => false

/-- R99: the LAYER_ABSENT reply to a discarded tub: code 0x01, its DEST, its TV, TALLY, GEN and SEQ. -/
def layerAbsent (f : Flight) : Tub :=
  ({ Tub.zero with cls := Cls.HAU, tv := f.tub.tv, tally := f.tub.tally, gen := f.tub.gen, seq := f.tub.seq }.put 0 0 (0x01 : BitVec 8)).put
    1 0 f.dest

/-- What a portal's former hands in keeps its order, and a DAT tub follows the message it belongs to in the same queue (R124), whatever
their virtual channels. -/
def keepsOrder (g f : Flight) : Bool :=
  decide (g.act = f.act) && (match f.act with
    | .ingress _ | .queue _ _ | .foreman => true
    | .egress _ => decide (f.tub.cls = Cls.DAT) && decide (g.tub.cls ≠ Cls.DAT) && g.tub.data
    | _ => false)

/-- The virtual channel of a flit (R94, R294): of its class; a stope's queue operation travels on VC 0 and its result on VC 2, but a QPUSH on that of
the class it carries. -/
def Flight.vc (f : Flight) : BitVec 2 :=
  match f.act with
  | .stopeRes _ _ _ => 2
  | .stopeOp _ _ _ (.push t) => Cls.vc t.cls
  | .stopeOp _ _ _ _ => 0
  | _ => Cls.vc f.tub.cls

/-- R95: does an earlier flit of the same source, destination and virtual channel stand where flit `i` stands? -/
def blockedBehind (l : List Flight) (i : Nat) (f : Flight) : Bool :=
  (l.take i).any (fun g => decide (g.src = f.src) && decide (g.dest = f.dest) && decide (g.pos = f.pos)
    && (decide (g.vc = f.vc) || keepsOrder g f))

/-- R135, R365: the completion of a haul stays behind every DAT tub of its lines, the ERROR answer of a trapped tally behind every tub
its thread sent. -/
def State.heldBack (s : State) (n : Shaft) (i : Nat) (f : Flight) : Bool :=
  let y := s.tally n f.tub.tally.toNat
  let h := s.sh n
  f.tub.ans && f.tub.tv &&
    ((decide (y.kind = .haulParent) &&
        h.flights.any (fun g => g.tub.tv && (s.tally n g.tub.tally.toNat).childOf f.tub.tally.toNat f.tub.gen
          && decide (g.act = f.act))) ||
     (y.trapped && (h.flights.take i).any (fun g => g.tub.tv && decide (g.tub.tally = f.tub.tally) && decide (g.act = f.act))))

/-- The station at which a flit stands: a unit's tubs stand at its layer's (R92). -/
def Pos.station0 (p : Pos) : Pos :=
  match p with
  | .unit l => .station l 0
  | x => x

/-- The result of a queue operation whose layer was absent (R435). -/
def Flight.noQueue (f : Flight) (src : Pos) : List Flight :=
  match f.act with
  | .stopeOp k i _ _ => [⟨Tub.zero, src, src, f.src.dest, .stopeRes k i ⟨Tub.zero, false, false, false, true⟩, none, none⟩]
  | _ => []

/-- R99: discard the flit at this station and send LAYER_ABSENT back to its source node; a stope's goes to the stope as an ordinary tub
when no open tally matches it, and the result of a queue operation shows NO_QUEUE (R435). -/
def State.absent (s : State) (n : Shaft) (f : Flight) : State :=
  let t := layerAbsent f
  let y := s.tally n f.tub.tally.toNat
  let open_ := f.tub.tv && decide (y.gen = f.tub.gen) && (decide (y.st = .opn) || decide (y.st = .wait))
  let act := match f.sender with
    | some k => if open_ then Arrive.hau else Arrive.stope k
    | none => Arrive.hau
  (s.addReg n .HAU_STAT2_LAYER_ABSENT).updSh n
    (fun h => { h with flights := h.flights ++ [⟨t, f.pos.station0, f.pos.station0, f.src.dest, act, none, none⟩] ++ f.noQueue f.pos.station0 })

/-- R96, R97, R99: one hop of flit `i`. -/
def State.hop (s : State) (n : Shaft) (i : Nat) (u : HopCheck) : State :=
  match (s.sh n).flights[i]? with
  | none => s
  | some f =>
    if f.there || blockedBehind (s.sh n).flights i f || s.heldBack n i f || s.stranded n f || s.shGated n .HAU then s
    else
      let out := s.updSh n (fun h => { h with flights := dropNth h.flights i })
      match u with
      | .lost => (out.addReg n .HAU_STAT_UNCORR).shEvent n 0x0105 Sev.warning f.dest.toNat (detail f.tub.tally.toNat)
      | _ =>
        let s1 := if u = .corrected then s.addReg n .HAU_STAT_CORR else s
        let out1 := if u = .corrected then out.addReg n .HAU_STAT_CORR else out
        match nextPlace (s.linkRetired n) f.src f.pos f.dest with
        | none => s1
        | some p =>
          if s.placeOut n p f.dest then out1.absent n f
          else
            let g := { f with pos := p }
            if g.there then out1.arrive n g
            else s1.updSh n (fun h => { h with flights := h.flights.take i ++ [g] ++ h.flights.drop (i + 1) })

/-- FLIT_HOP. -/
def execFlitHop (sh : Shaft) (i : Nat) (u : HopCheck) (s : State) : Out := .next (s.hop sh i u)

/-- Is the flit on vertical link `v`? One that still stands where it was injected is on none. -/
def Flight.onLink (v : Nat) (f : Flight) : Bool :=
  match f.pos with
  | .station _ x => decide (x = v) && decide (f.pos ≠ f.src)
  | _ => false

/-- R98: retire vertical link `v`; the tubs on it are lost. -/
def State.retireLink (s : State) (n : Shaft) (v : Nat) : State :=
  if s.linkRetired n v || decide (16 ≤ v) then s
  else
    ((s.setReg n .HAU_VLINK_RETIRED (s.reg n .HAU_VLINK_RETIRED ||| 2 ^ v)).updSh n
      (fun h => { h with flights := h.flights.filter (fun f => !f.onLink v) })).shEvent n 0x0106 Sev.warning v

/-- VLINK_RETIRED. -/
def execVlinkRetired (sh : Shaft) (v : Nat) (s : State) : Out := .next (s.retireLink sh v)

end Sys2Proof.Machine
end

