-- ==== Sys2Proof/Machine/Queues.lean ====
section
/-! DEFINITION. The queue manager over the State: rings in tub slots and in claim memory (R248, R249), one arbitration slot (R251), and
pushes, pops, marks and rewinds with their counters and events (R252 to R263). -/

namespace Sys2Proof.Machine

/-- R260: the flow-control outputs follow FC of the queues. -/
def State.fcPins (s : State) (n : Shaft) : State :=
  s.setReg n .QMG_FC_PINS ((s.sh n).queues.foldl (fun a e => if e.2.fc && e.2.pinEn then a ||| 2 ^ e.2.pin.toNat else a) 0)

/-- R261: does a queue withhold the ingress credits of portal `p`? -/
def State.queueHoldsCredits (s : State) (n : Shaft) (p : Portal) : Bool :=
  (s.sh n).queues.any (fun e => e.2.fc && e.2.crEn && decide (e.2.crPortal.toNat = p.val))

/-- The claim of a ring in claim memory. -/
def QDesc.claim (d : QDesc) : Nat := (d.base.extractLsb' 18 8).toNat

/-- R249: the backing address of ring slot `i`. -/
def State.ringAddr (s : State) (n : Shaft) (d : QDesc) (i : Nat) : BitVec 64 :=
  BitVec.ofNat 64 (s.reg n .CLM_ENTRY1_BASE_GIB d.claim * 2 ^ 30 + 4096 * (d.base.extractLsb' 0 18).toNat + 64 * i)

/-- R249: the queue manager's own MEM tub for ring slot `i`, with TV 0; a write is followed by its data. -/
def State.ringTub (s : State) (n : Shaft) (d : QDesc) (i : Nat) (write : Bool) : Tub :=
  ((({ Tub.zero with cls := Cls.MEM }.put 0 0 (Config.ringOpcode write)).put 8 0 (s.ringAddr n d i)).put 6 0
    (BitVec.ofNat 3 (s.reg n .CLM_ENTRY0_PORTAL d.claim))).put 7 0 (1 : BitVec 7)

/-- Send the MEM tub of a ring access, and its line for a write, to the egress queue of the claim's backing portal. -/
def State.ringSend (s : State) (n : Shaft) (d : QDesc) (i : Nat) (data : Option Tub) : State :=
  let q := s.reg n .PTL_EQ_QUEUE (s.reg n .CLM_ENTRY0_PORTAL d.claim)
  match data with
  | none => s.pushOp n q (s.ringTub n d i false) .gone
  | some t =>
    (s.pushOp n q ((s.ringTub n d i true).put 1 2 (1 : BitVec 1)) .gone).pushOp n q { Tub.zero with cls := Cls.DAT, body := t.body } .gone

/-- Write one entry of a ring. -/
def State.ringWrite (s : State) (n : Shaft) (q : Nat) (d : QDesc) (i : Nat) (t : Tub) : State :=
  if d.place then
    (s.ringSend n d i (some t)).updSh n (fun h => { h with ringOps := h.ringOps ++ [⟨q, i, true, .gone, false, true⟩] })
  else s.setSlot n (d.base.toNat + i) t

/-- Carry out what a change of queue `q` leaves: its descriptor, the ring slots written, a lost mark (R263). -/
def State.putQueue (s : State) (n : Shaft) (q : Nat) (w : QWrite) : State :=
  let s1 := w.writes.foldl (fun a e => a.ringWrite n q w.q e.1 e.2) (s.setQueue n q w.q)
  if w.markLost then (s1.addReg n .QMG_STAT2_MARKS_LOST).limEvent n 0x0603 Sev.notice 0xFFFF (fun _ => detail q) else s1

/-- R256: the end of the slot: settle, then watermark; the outputs follow. -/
def State.finishQueue (s : State) (n : Shaft) (q : Nat) : State :=
  if (s.queue n q).valid then (s.putQueue n q ((s.queue n q).finish q s.fab)).fcPins n else s

/-- Count an operation on a queue that does not exist (R252). -/
def State.invalidQ (s : State) (n : Shaft) : State := s.addReg n .QMG_STAT3_INVALID_Q

/-- R253: apply a push within a slot. A producer that can wait queues behind those that wait already (R251). -/
def State.applyPush (s : State) (n : Shaft) (q : Nat) (t : Tub) (canWait : Bool) : State × PushOut :=
  let d := s.queue n q
  if d.valid && d.wait && canWait && (s.sh n).pushWaits.any (fun w => decide (w.queue = q)) then (s.addReg n .QMG_STAT4_WAITS, .waits)
  else
    let r := d.push q t canWait s.fab
    match r.out with
    | .invalid => (s.invalidQ n, .invalid)
    | .waits => (s.addReg n .QMG_STAT4_WAITS, .waits)
    | .accepted => (s.putQueue n q r.w, .accepted)
    | .dropped =>
      let s1 := (s.putQueue n q r.w).addReg n .QMG_STAT_DROPS
      let s2 := if r.opened then s1.addReg n .QMG_STAT3_PENDING else s1
      (s2.limEvent n 0x0601 Sev.notice 0xFFFF (fun c => detail q c), .dropped)

/-- What a pop gives at once: a tub with T, or a ring slot of claim memory still to be read, with T. -/
inductive Popped | tub (t : Tub) (underrun : Bool) | ring (slot : Nat) (underrun : Bool)
  deriving DecidableEq, Repr

/-- R255: apply a pop within a slot. One that speculates changes no counter and no flag of the queue that says it underran (R226). -/
def State.applyPop (s : State) (n : Shaft) (q : Nat) (quiet : Bool := false) : State × Popped :=
  let d := s.queue n q
  if !d.valid then (s.invalidQ n, .tub Tub.zero true)
  else
    let r := d.pop
    let s1 := s.setQueue n q (if quiet then { r.2.1 with underrun := d.underrun } else r.2.1)
    let s2 := if r.2.2 && !quiet then s1.addReg n .QMG_STAT_UNDERRUNS else s1
    match r.1 with
    | none => (s2, .tub Tub.zero r.2.2)
    | some i => if d.place then (s2, .ring i r.2.2) else (s2, .tub (s2.slot n (d.base.toNat + i)) r.2.2)

/-- R249: read ring slot `i` for `by_`; the MEM read leaves once the slot's own writes are acknowledged. -/
def State.ringRead (s : State) (n : Shaft) (q i : Nat) (by_ : Producer) (underrun : Bool) : State :=
  let busy := (s.sh n).ringOps.any (fun r => r.write && decide (r.queue = q ∧ r.slot = i))
  let s1 := if busy then s else s.ringSend n (s.queue n q) i none
  s1.updSh n (fun h => { h with ringOps := h.ringOps ++ [⟨q, i, false, by_, underrun, !busy⟩] })

/-- R262: a mark set or cleared, within a slot; false when the queue does not exist. -/
def State.applyMark (s : State) (n : Shaft) (q : Nat) (set : Bool) : State × Bool :=
  let d := s.queue n q
  if !d.valid then (s.invalidQ n, false) else (s.setQueue n q (if set then d.markSet else d.markClear), true)

/-- Outcome of a rewind. -/
inductive Rewound | done | refused | noQueue
  deriving DecidableEq, Repr

/-- R262: a rewind, within a slot. -/
def State.applyRewind (s : State) (n : Shaft) (q : Nat) : State × Rewound :=
  let d := s.queue n q
  if !d.valid then (s.invalidQ n, .noQueue)
  else match d.rewind with
    | some d' => (s.setQueue n q d', .done)
    | none => (s.addReg n .QMG_STAT2_REWIND_REFUSED, .refused)

/-- A push that waits. -/
def State.addPushWait (s : State) (n : Shaft) (w : PushWait) : State :=
  s.updSh n (fun h => { h with pushWaits := h.pushWaits ++ [w] })

/-- The result of operation `i` of stope `k` sets out for its port, on VC 2 (R294). -/
def State.stopeResult (s : State) (n : Shaft) (k i : Nat) (r : QResult) : State :=
  s.updSh n (fun h =>
    { h with flights := h.flights ++ [⟨r.tub, .unit .lode, .unit .lode, BitVec.ofNat 8 k, .stopeRes k i r, none, none⟩] })

/-- An operation of the host ends with RESULT `r` (R264). -/
def State.hostEnds (s : State) (n : Shaft) (r : Nat) : State := (s.setReg n .QMG_HOST_STAT_RESULT r).setReg n .QMG_HOST_STAT_BUSY 0

/-- Give a popped entry to whoever popped it. -/
def State.deliverPop (s : State) (n : Shaft) (by_ : Producer) (t : Tub) (underrun noQueue : Bool) : State :=
  match by_ with
  | .hewer h k =>
    let y := s.thread n h k
    let pend := match y.tally with
      | some i => decide ((s.tally n i).spec = .pending)
      | none => false
    s.updThread n h k (fun x => { x with m := t, mt := pend, t := underrun, stall := .none })
  | .stope k i => s.stopeResult n k i ⟨t, false, underrun && !noQueue, false, noQueue⟩
  | .host =>
    let s1 := (List.range 16).foldl (fun a i => a.setReg n .QMG_HOST_TUB_DATA (t.field (4 * i) 0 32).toNat i) s
    (s1.setReg n .QMG_HOST_STAT_CLASS t.cls.toNat).hostEnds n (if noQueue then 6 else if underrun then 3 else 1)
  | .egress p => if underrun then s else s.updPtl n p (fun x => { x with eqGot := x.eqGot ++ [t] })
  | .intake p => if underrun then s else s.updPtl n p (fun x => { x with inGot := x.inGot ++ [t] })
  | .portal _ | .gone => s

/-- Hand on what a pop gave: at once, or by a read of the claim-memory ring. -/
def State.handPop (s : State) (n : Shaft) (q : Nat) (by_ : Producer) (r : Popped) : State :=
  match r with
  | .tub t u => s.deliverPop n by_ t u (!(s.queue n q).valid)
  | .ring i u => s.ringRead n q i by_ u

/-- RESULT of a host push (R264). -/
def PushOut.hostResult : PushOut → Nat
  | .accepted => 1
  | .dropped => 2
  | .waits => 4
  | .invalid => 6

/-- Tell a producer what became of its push; `sets`: a QPUSH, whose outcome T shows (R253). A push of a stope that reached no gate leaves TRANSIT. -/
def State.deliverPush (s : State) (n : Shaft) (q : Nat) (t : Tub) (by_ : Producer) (o : PushOut) (sets : Bool := true) : State :=
  match by_, o with
  | .host, _ => s.hostEnds n o.hostResult
  | _, .waits => s.addPushWait n ⟨q, t, by_, sets⟩
  | .hewer h k, _ => s.updThread n h k (fun x => { x with t := if sets then decide (o ≠ .accepted) else x.t, stall := .none })
  | .stope k i, _ =>
    (if o ≠ .accepted ∧ s.egressQueue n q then s.leaveTransit n t else s).stopeResult n k i
      ⟨Tub.zero, decide (o = .dropped), false, false, decide (o = .invalid)⟩
  | _, _ => s

/-! ### The arbitration slot (R251) -/

/-- Take the first waiting operation on queue `q` that `p` accepts: they are taken in order of arrival. -/
def State.takeOp (s : State) (n : Shaft) (q : Nat) (p : StopeQop → Bool) : Option (QOp × State) :=
  match takeFirst (fun o : QOp => decide (o.queue = q) && p o.op) (s.sh n).qops with
  | none => none
  | some (o, rest) => some (o, s.updSh n (fun h => { h with qops := rest }))

/-- RESULT of a host rewind (R264). -/
def Rewound.hostResult : Rewound → Nat
  | .done => 1
  | .refused => 5
  | .noQueue => 6

/-- The slot's rewind. -/
def State.slotRewind (s : State) (n : Shaft) (q : Nat) : State :=
  match s.takeOp n q (fun o => decide (o = .rewind)) with
  | none => s
  | some (o, s1) =>
    let r := s1.applyRewind n q
    match o.by_ with
    | .stope k i => r.1.stopeResult n k i ⟨Tub.zero, false, false, decide (r.2 = .refused), decide (r.2 = .noQueue)⟩
    | .host => r.1.hostEnds n r.2.hostResult
    | _ => r.1

/-- The slot's mark set or clear. -/
def State.slotMark (s : State) (n : Shaft) (q : Nat) : State :=
  match s.takeOp n q (fun o => decide (o = .mark) || decide (o = .unmark)) with
  | none => s
  | some (o, s1) =>
    let r := s1.applyMark n q (decide (o.op = .mark))
    match o.by_ with
    | .stope k i => r.1.stopeResult n k i ⟨Tub.zero, false, false, false, !r.2⟩
    | .host => r.1.hostEnds n (if r.2 then 1 else 6)
    | _ => r.1

/-- The slot's pop. -/
def State.slotPop (s : State) (n : Shaft) (q : Nat) : State :=
  match s.takeOp n q (fun o => decide (o = .pop)) with
  | none => s
  | some (o, s1) =>
    let r := s1.applyPop n q
    r.1.handPop n q o.by_ r.2

/-- Is the operation a push? -/
def StopeQop.isPush : StopeQop → Bool
  | .push _ => true
  | _ => false

/-- Would this push of the host wait, if the host could (R257)? -/
def State.hostFull (s : State) (n : Shaft) (o : QOp) (t : Tub) : Bool :=
  decide (o.by_ = .host) && decide (((s.queue n o.queue).push o.queue t true s.fab).out = .waits)

/-- The slot's push. The host cannot wait: its push gives FULL and changes nothing (R257). -/
def State.slotPush (s : State) (n : Shaft) (q : Nat) : State :=
  match s.takeOp n q StopeQop.isPush with
  | none => s
  | some (o, s1) =>
    match o.op with
    | .push t =>
      let r := if s1.hostFull n o t then (s1, .waits) else s1.applyPush n q t (decide (o.by_ ≠ .host))
      r.1.deliverPush n q t o.by_ r.2
    | _ => s1

/-! ### Commands (R250) -/

/-- R250, R248, R249: why a LOAD of the staged descriptor is refused, as RESULT; 1 is DONE. -/
def State.loadResult (s : State) (n : Shaft) (d st : QDesc) : Nat :=
  let c := st.claim
  if d.valid && (decide (0 < d.depth) || d.pend) then 2
  else if st.size = 0 ∨ 20 < st.size.toNat then 3
  else if st.hwm = 0 ∨ st.n ≤ st.hwm.toNat ∨ st.hwm.toNat ≤ st.lwm.toNat then 4
  else if st.place then
    if s.regB n .CLM_ENTRY0_VALID c && !(s.regB n .CLM_ENTRY6_MAPPED c)
        && decide (4096 * (st.base.extractLsb' 0 18).toNat + 64 * st.n ≤ 2 ^ 30) then 1 else 5
  else if st.base.toNat % st.n = 0 ∧ st.base.toNat + st.n ≤ 4096 * s.reg n .QMG_CFG_RING_SLOTS then 1
  else 5

/-- The descriptor the staging registers hold. -/
def State.stagedQueue (s : State) (n : Shaft) : QDesc :=
  { QDesc.zero with
    base := BitVec.ofNat 26 (s.reg n .QMG_STAGE0_BASE)
    size := BitVec.ofNat 5 (s.reg n .QMG_STAGE0_SIZE)
    place := s.regB n .QMG_STAGE0_PLACE
    hwm := BitVec.ofNat 20 (s.reg n .QMG_STAGE1_HWM)
    lwm := BitVec.ofNat 20 (s.reg n .QMG_STAGE2_LWM)
    valid := s.regB n .QMG_STAGE3_VALID
    mode := s.regB n .QMG_STAGE3_MODE
    wait := s.regB n .QMG_STAGE3_WAIT
    pin := BitVec.ofNat 2 (s.reg n .QMG_STAGE3_PIN)
    pinEn := s.regB n .QMG_STAGE3_PIN_EN
    crPortal := BitVec.ofNat 3 (s.reg n .QMG_STAGE3_CR_PORTAL)
    crEn := s.regB n .QMG_STAGE3_CR_EN }

/-- R250: what a command makes of a descriptor, and its RESULT. -/
def State.queueCommand (s : State) (n : Shaft) (op : Nat) (d : QDesc) : QDesc × Nat :=
  let st := s.stagedQueue n
  match op with
  | 1 => if s.loadResult n d st = 1 then (st, 1) else (d, s.loadResult n d st)
  | 2 =>
    if d.valid then ({ d with rd := d.wr, markValid := false, pend := false, tailMrk := false, popped := false }, 1) else (d, 6)
  | 3 =>
    if !d.valid then (d, 6)
    else if st.hwm = 0 ∨ d.n ≤ st.hwm.toNat ∨ st.hwm.toNat ≤ st.lwm.toNat then (d, 4)
    else ({ d with hwm := st.hwm, lwm := st.lwm, pin := st.pin, pinEn := st.pinEn, crPortal := st.crPortal, crEn := st.crEn }, 1)
  | 4 => if d.valid then ({ d with underrun := false, gap := false, markLost := false }, 1) else (d, 6)
  | _ => (d, 0)

/-- The slot's command from QMG.CMD, if one waits for this queue (R250). -/
def State.slotCommand (s : State) (n : Shaft) (q : Nat) : State :=
  match (s.sh n).queueCmd with
  | none => s
  | some (op, k) =>
    if k = q then
      let r := s.queueCommand n op (s.queue n q)
      ((((s.setQueue n q r.1).updSh n (fun h => { h with queueCmd := none })).setReg n .QMG_CMD_STAT_RESULT r.2).setReg n .QMG_CMD_STAT_BUSY 0).fcPins n
    else s

/-- The end of a slot: the command, then settle and watermark. -/
def State.slotEnd (s : State) (n : Shaft) (q : Nat) : State := (s.slotCommand n q).finishQueue n q

/-- One slot of queue `q` (R251). -/
def State.oneSlot (s : State) (n : Shaft) (q : Nat) : State := ((((s.slotRewind n q).slotMark n q).slotPop n q).slotPush n q).slotEnd n q

/-- QUEUE_SLOT (R251). -/
def State.queueSlot (s : State) (n : Shaft) (q : Nat) : State := if s.works n .QMG then s.oneSlot n q else s

/-! ### An operation that reaches the queue manager within a step -/

/-- R251: does an operation of this kind wait for queue `q`? -/
def State.opWaits (s : State) (n : Shaft) (q : Nat) (p : StopeQop → Bool) : Bool := (s.sh n).qops.any (fun o => decide (o.queue = q) && p o.op)

/-- R251: the slots of queue `q` that go by until no operation of this kind that came earlier waits for it. -/
def State.slotsBefore (s : State) (n : Shaft) (q : Nat) (p : StopeQop → Bool) : State :=
  (s.sh n).qops.foldl (fun a _ => if a.opWaits n q p then a.oneSlot n q else a) s

/-- A push in its slot, which it shares with what else waits for the queue (R251). -/
def State.pushNow (s : State) (n : Shaft) (q : Nat) (t : Tub) (canWait : Bool) : State × PushOut :=
  let r := ((((s.slotsBefore n q StopeQop.isPush).slotRewind n q).slotMark n q).slotPop n q).applyPush n q t canWait
  (r.1.slotEnd n q, r.2)

/-- A pop in its slot. -/
def State.popNow (s : State) (n : Shaft) (q : Nat) (quiet : Bool := false) : State × Popped :=
  let r := (((s.slotsBefore n q (fun o => decide (o = .pop))).slotRewind n q).slotMark n q).applyPop n q quiet
  ((r.1.slotPush n q).slotEnd n q, r.2)

/-- A rewind in its slot. -/
def State.rewindNow (s : State) (n : Shaft) (q : Nat) : State × Rewound :=
  let r := (s.slotsBefore n q (fun o => decide (o = .rewind))).applyRewind n q
  ((((r.1.slotMark n q).slotPop n q).slotPush n q).slotEnd n q, r.2)

/-- A mark in its slot. -/
def State.markNow (s : State) (n : Shaft) (q : Nat) (set : Bool) : State × Bool :=
  let r := ((s.slotsBefore n q (fun o => decide (o = .mark) || decide (o = .unmark))).slotRewind n q).applyMark n q set
  (((r.1.slotPop n q).slotPush n q).slotEnd n q, r.2)

/-- QUEUE_SLOT. -/
def execQueueSlot (sh : Shaft) (q : Nat) (s : State) : Out := .next (s.queueSlot sh q)

/-- PUSH_WAIT_END (R257): the first producer that waits on queue `q` pushes, if its push is now accepted. -/
def State.pushWaitEnd (s : State) (n : Shaft) (q : Nat) : State :=
  match takeFirst (fun w : PushWait => decide (w.queue = q)) (s.sh n).pushWaits with
  | none => s
  | some (w, rest) =>
    let d := s.queue n q
    let r := d.push q w.tub true s.fab
    if r.out = .waits ∨ !s.works n .QMG then s
    else
      let s1 := s.updSh n (fun h => { h with pushWaits := rest })
      let o := s1.applyPush n q w.tub false
      (o.1.deliverPush n q w.tub w.by_ o.2 w.sets).finishQueue n q

/-- PUSH_WAIT_END. -/
def execPushWaitEnd (sh : Shaft) (q : Nat) (s : State) : Out := .next (s.pushWaitEnd sh q)

/-- DEEP_RING_REPLY (R249): access `i` to a claim-memory ring returns, with entry `x` for a read, or with an error. A read waits for
the writes to its slot. -/
def State.ringReply (s : State) (n : Shaft) (i : Nat) (x : Tub) (err : Bool) : State :=
  match (s.sh n).ringOps[i]? with
  | none => s
  | some r =>
    let rest := dropNth (s.sh n).ringOps i
    let same (w : RingOp) : Bool := w.write && decide (w.queue = r.queue ∧ w.slot = r.slot)
    let s1 := s.updSh n (fun h => { h with ringOps := rest })
    let s2 := if err then
        (s1.addReg n .QMG_STAT4_DEEP_ERR).shEvent n 0x0602 Sev.warning 0xFFFF (detail r.queue r.slot (if r.write then 2 else 1))
      else s1
    if r.write then
      if rest.any same then s2
      else
        let due (w : RingOp) : Bool := !w.write && !w.sent && decide (w.queue = r.queue ∧ w.slot = r.slot)
        (rest.filter due).foldl (fun a _ => a.ringSend n (a.queue n r.queue) r.slot none)
          (s2.updSh n (fun h => { h with ringOps := h.ringOps.map (fun w => if due w then { w with sent := true } else w) }))
    else if !r.sent then s
    else s2.deliverPop n r.by_ (if err then Tub.marker 0x02 false r.queue s.fab s.fab 1 else x) r.underrun false

/-- DEEP_RING_REPLY. -/
def execDeepRingReply (sh : Shaft) (i : Nat) (x : Tub) (err : Bool) (s : State) : Out := .next (s.ringReply sh i x err)

/-! ### The registers (R250, R264) -/

/-- The write of QMG.CMD with GO 1 (R250): the command waits for the queue's next slot, and is dropped with LOST while another runs. -/
def State.qmgCmd (s : State) (n : Shaft) (op q : Nat) : State :=
  if s.regB n .QMG_CMD_STAT_BUSY then s.setReg n .QMG_CMD_STAT_LOST 1
  else (s.setReg n .QMG_CMD_STAT_BUSY 1).updSh n (fun h => { h with queueCmd := some (op, q) })

/-- The tub in QMG.HOST_TUB. -/
def State.hostTub (s : State) (n : Shaft) (cls : BitVec 4) : Tub :=
  { Tub.zero with
    cls := cls
    body := (List.range 16).foldl (fun (b : BitVec 512) i => putBits b (32 * i) (BitVec.ofNat 32 (s.reg n .QMG_HOST_TUB_DATA i))) 0 }

/-- The operation a host command asks for (R264). -/
def State.hostOp (s : State) (n : Shaft) (op : Nat) (cls : BitVec 4) : Option StopeQop :=
  match op with
  | 1 => some (.push (s.hostTub n cls))
  | 2 => some .pop
  | 3 => some .mark
  | 4 => some .unmark
  | 5 => some .rewind
  | _ => none

/-- The write of QMG.HOST_CMD with GO 1 (R264): the operation waits for the queue's next slot, and is dropped with LOST while another runs. -/
def State.hostCmd (s : State) (n : Shaft) (op q : Nat) (cls : BitVec 4) : State :=
  if s.regB n .QMG_HOST_STAT_BUSY then s.setReg n .QMG_HOST_STAT_LOST 1
  else match s.hostOp n op cls with
    | none => s
    | some o => (s.setReg n .QMG_HOST_STAT_BUSY 1).updSh n (fun h => { h with qops := h.qops ++ [⟨q, o, .host⟩] })

/-- R250, R264: within 1 µs a command from QMG.CMD, and one from QMG.HOST_CMD, has had its slot. -/
def State.queueBounds (s : State) (n : Shaft) : State :=
  if s.works n .QMG then
    let s1 := match (s.sh n).queueCmd with
      | none => s
      | some (_, q) => s.oneSlot n q
    (s1.sh n).qops.foldl (fun a _ => match (a.sh n).qops.find? (fun o => decide (o.by_ = .host)) with
      | none => a
      | some o => a.oneSlot n o.queue) s1
  else s

end Sys2Proof.Machine
end

