-- ==== Sys2Proof/Machine/Directory.lean ====
section
/-! DEFINITION. The directory (R161 to R174): home addresses, entries and their sharer modes, ways, ages and victims. -/

namespace Sys2Proof.Machine

/-- Line states (R163). -/
def Ln.I : BitVec 3 := 0
def Ln.S : BitVec 3 := 1
def Ln.E : BitVec 3 := 2
def Ln.M : BitVec 3 := 3
def Ln.BUSY : BitVec 3 := 4

/-- Sharer modes (R164). -/
def Shr.NONE : BitVec 3 := 0
def Shr.EXACT1 : BitVec 3 := 1
def Shr.EXACT2 : BitVec 3 := 2
def Shr.EXACT3 : BitVec 3 := 3
def Shr.COARSE : BitVec 3 := 4
def Shr.BROADCAST : BitVec 3 := 5

/-! ### Entries -/

/-- The state of line `i`. -/
def DirEnt.line (e : DirEnt) (i : Nat) : BitVec 3 :=
  match i % 4 with
  | 0 => e.st0
  | 1 => e.st1
  | 2 => e.st2
  | _ => e.st3

/-- Write the state of line `i`. -/
def DirEnt.setLine (e : DirEnt) (i : Nat) (v : BitVec 3) : DirEnt :=
  match i % 4 with
  | 0 => { e with st0 := v }
  | 1 => { e with st1 := v }
  | 2 => { e with st2 := v }
  | _ => { e with st3 := v }

/-- All four lines I. -/
def DirEnt.allI (e : DirEnt) : Bool := e.st0 == 0 && e.st1 == 0 && e.st2 == 0 && e.st3 == 0

/-- Some line BUSY. -/
def DirEnt.anyBusy (e : DirEnt) : Bool := e.st0 == 4 || e.st1 == 4 || e.st2 == 4 || e.st3 == 4

/-- The 64 bits of R162. -/
def DirEnt.bits (e : DirEnt) : BitVec 64 :=
  e.tag.setWidth 64 ||| (e.st0.setWidth 64 <<< 11) ||| (e.st1.setWidth 64 <<< 14) ||| (e.st2.setWidth 64 <<< 17)
    ||| (e.st3.setWidth 64 <<< 20) ||| (e.sharers.setWidth 64 <<< 23) ||| (e.mode.setWidth 64 <<< 55) ||| (e.age.setWidth 64 <<< 58)

/-- The entry 64 bits spell. -/
def DirEnt.ofBits (b : BitVec 64) : DirEnt :=
  ⟨b.extractLsb' 0 11, b.extractLsb' 11 3, b.extractLsb' 14 3, b.extractLsb' 17 3, b.extractLsb' 20 3, b.extractLsb' 23 32,
   b.extractLsb' 55 3, b.extractLsb' 58 3⟩

/-- The IDs an EXACT mode lists. -/
def DirEnt.ids (e : DirEnt) : List (BitVec 10) :=
  [e.sharers.extractLsb' 0 10, e.sharers.extractLsb' 10 10, e.sharers.extractLsb' 20 10].take
    (if e.mode.toNat ≤ 3 then e.mode.toNat else 0)

/-- An EXACT entry (or NONE) listing up to three IDs. -/
def DirEnt.withIds (e : DirEnt) (l : List (BitVec 10)) : DirEnt :=
  let at_ (i : Nat) : BitVec 32 := ((l[i]?.getD 0).setWidth 32) <<< (10 * i)
  { e with mode := BitVec.ofNat 3 (min l.length 3), sharers := at_ 0 ||| at_ 1 ||| at_ 2 }

/-- Number of 1 bits. -/
def popCount {w : Nat} (x : BitVec w) : Nat := (List.range w).foldl (fun a i => if x.getLsbD i then a + 1 else a) 0

/-- R168: a COARSE entry with more than `limit` group bits becomes BROADCAST. -/
def DirEnt.broaden (e : DirEnt) (limit : Nat) : DirEnt :=
  if e.mode = Shr.COARSE ∧ limit < popCount e.sharers then { e with mode := Shr.BROADCAST, sharers := 0 } else e

/-- The group bit of an agent (R151). -/
def groupBit (a : BitVec 10) : BitVec 32 := (1 : BitVec 32) <<< (a.toNat / 32)

/-- ADD_SHARER (R168). -/
def DirEnt.addSharer (e : DirEnt) (a : BitVec 10) (limit : Nat) : DirEnt :=
  if e.mode = Shr.BROADCAST then e
  else if e.mode = Shr.COARSE then { e with sharers := e.sharers ||| groupBit a }.broaden limit
  else if e.ids.contains a then e
  else if e.mode = Shr.EXACT3 then
    { e with mode := Shr.COARSE, sharers := (e.ids ++ [a]).foldl (fun g i => g ||| groupBit i) 0 }.broaden limit
  else e.withIds (e.ids ++ [a])

/-- Are the three lines other than `i` all I? -/
def DirEnt.othersI (e : DirEnt) (i : Nat) : Bool := (e.setLine i 0).allI

/-- REMOVE_SHARER (R168), for a tally whose own line is `i`. -/
def DirEnt.removeSharer (e : DirEnt) (i : Nat) (a : BitVec 10) : DirEnt :=
  if e.mode.toNat ≤ 3 ∧ e.ids.contains a ∧ e.othersI i then e.withIds (e.ids.filter (fun x => x != a)) else e

/-- SET_OWNER (R168), for a tally whose own line is `i`. -/
def DirEnt.setOwner (e : DirEnt) (i : Nat) (a : BitVec 10) (limit : Nat) : DirEnt :=
  if e.othersI i then e.withIds [a] else e.addSharer a limit

/-- R163: the rank of a line state: M, E, S, I. -/
def DirEnt.topState (e : DirEnt) : BitVec 3 :=
  [Ln.M, Ln.E, Ln.S].find? (fun x => e.st0 == x || e.st1 == x || e.st2 == x || e.st3 == x) |>.getD Ln.I

/-! ### Home addresses (R147, R161); a home line is home address bits [37:6] -/

/-- Set, line in the sector, and TAG of a home line. -/
def homeSet (l : Nat) : Nat := l / 4 % 2 ^ 19
def homeIdx (l : Nat) : Nat := l % 4
def homeTag (l : Nat) : BitVec 11 := BitVec.ofNat 11 (l / 2 ^ 21)

/-- The home line of line `i` of the sector with this set and TAG. -/
def sectorLine (set : Nat) (tag : BitVec 11) (i : Nat) : Nat := tag.toNat * 2 ^ 21 + set * 4 + i

/-- R147: the home line of a plane address in claim `c`. -/
def homeLine (c : Nat) (addr : BitVec 64) : Nat := (c * 2 ^ 30 + (addr.extractLsb' 0 30).toNat) / 64

/-- R149: the plane address of line `i` of a sector. -/
def State.planeAddr (s : State) (n : Shaft) (set : Nat) (tag : BitVec 11) (i : Nat) : BitVec 64 :=
  BitVec.ofNat 64 (s.reg n .CLM_ENTRY6_GRANULE (tag.toNat / 8) * 2 ^ 30 + (sectorLine set tag i * 64) % 2 ^ 30)

/-! ### Ways -/

/-- The entry of way `w` of a set. -/
def State.ent (s : State) (n : Shaft) (set w : Nat) : DirEnt := Tbl.get DirEnt.zero (s.sh n).dir (14 * set + w)

/-- Write the entry of a way. -/
def State.setEnt (s : State) (n : Shaft) (set w : Nat) (e : DirEnt) : State :=
  s.updSh n (fun h => { h with dir := Tbl.set DirEnt.zero h.dir (14 * set + w) e })

/-- The recall that is open for a way. -/
def State.recallOf (s : State) (n : Shaft) (set w : Nat) : Option Nat := Tbl.get none (s.sh n).recalls (14 * set + w)

/-- Write which recall is open for a way. -/
def State.setRecallOf (s : State) (n : Shaft) (set w : Nat) (t : Option Nat) : State :=
  s.updSh n (fun h => { h with recalls := Tbl.set none h.recalls (14 * set + w) t })

/-- A way out of use (R180). -/
def State.quarantine (s : State) (n : Shaft) (set w : Nat) : Bool := (s.sh n).quarantined.contains (14 * set + w)

/-- R165: a way is free when all its lines are I and no recall of it is open; a quarantined way is never. -/
def State.wayFree (s : State) (n : Shaft) (set w : Nat) : Bool :=
  (s.ent n set w).allI && decide (s.recallOf n set w = none) && !s.quarantine n set w

/-- The way that holds a TAG (R161). -/
def State.findWay (s : State) (n : Shaft) (set : Nat) (tag : BitVec 11) : Option Nat :=
  (List.range 14).find? (fun w => !s.quarantine n set w && !s.wayFree n set w && decide ((s.ent n set w).tag = tag))

/-- The lowest-numbered free way (R172). -/
def State.freeWay (s : State) (n : Shaft) (set : Nat) : Option Nat := (List.range 14).find? (fun w => s.wayFree n set w)

/-- R173: way `w` is hit, or `taken` anew. -/
def State.touchWay (s : State) (n : Shaft) (set w : Nat) (taken : Bool) : State :=
  let a := if taken then 7 else (s.ent n set w).age.toNat
  let s1 := (List.range 14).foldl
    (fun (x : State) v =>
      let e := x.ent n set v
      if v ≠ w ∧ !x.wayFree n set v ∧ !x.quarantine n set v ∧ e.age.toNat < a then x.setEnt n set v { e with age := e.age + 1 } else x) s
  s1.setEnt n set w { s1.ent n set w with age := 0 }

/-- R174: the victim of a set: highest AGE, lowest way on a tie. -/
def State.victim (s : State) (n : Shaft) (set : Nat) : Option Nat :=
  let ok (w : Nat) : Bool :=
    !s.wayFree n set w && !(s.ent n set w).anyBusy && decide (s.recallOf n set w = none) && !s.quarantine n set w
  (List.range 14).foldl
    (fun (a : Option Nat) w =>
      if !ok w then a
      else match a with
        | none => some w
        | some v => if (s.ent n set v).age.toNat < (s.ent n set w).age.toNat then some w else a) none

/-- The claim a TAG names (R161). -/
def tagClaim (t : BitVec 11) : Nat := t.toNat / 8

/-- R172, R165: a free way takes a TAG with line `i` BUSY. -/
def State.takeWay (s : State) (n : Shaft) (set w : Nat) (tag : BitVec 11) (i : Nat) : State :=
  let e : DirEnt := { DirEnt.zero with tag := tag }.setLine i Ln.BUSY
  ((s.setEnt n set w e).touchWay n set w true).addReg n .CLM_ENTRY5_ENTRIES (tagClaim tag)

/-- R168: an EVICT of this way that waits for the reserve waits no more: the way has become free, or a recall of it opens. -/
def State.forgetEvict (s : State) (n : Shaft) (set w : Nat) : State :=
  s.updSh n (fun h => { h with recallWait := h.recallWait.filter (fun r => r != .evict set w) })

/-- R165: after a line state of a way has changed: with all lines I, MODE NONE and SHARERS 0, and without a recall the entry is free. -/
def State.settleWay (s : State) (n : Shaft) (set w : Nat) : State :=
  let e := s.ent n set w
  if e.allI && !s.quarantine n set w then
    let s1 := s.setEnt n set w { e with mode := 0, sharers := 0 }
    if s.recallOf n set w = none then (s1.forgetEvict n set w).subF .CLM_ENTRY5_ENTRIES n.val (tagClaim e.tag) else s1
  else s

/-- R166: the expansion set of an entry, in rising order of agent. -/
def State.expansion (s : State) (n : Shaft) (e : DirEnt) : List (BitVec 10) :=
  if e.mode.toNat ≤ 3 then e.ids
  else
    (List.range 1024).filterMap (fun a =>
      let present := (s.reg n .DIR_PRESENT_PRESENT (a / 32)).testBit (a % 32)
      let in_ := if e.mode = Shr.COARSE then e.sharers.getLsbD (a / 32) else decide (e.mode = Shr.BROADCAST)
      if present && in_ then some (BitVec.ofNat 10 a) else none)

/-- R180: the entry of a way is uncorrectable: the way is out of use from now on, and its lines are not tracked any more. -/
def State.quarantineWay (s : State) (n : Shaft) (set w : Nat) : State :=
  if s.quarantine n set w then s
  else
    let e := s.ent n set w
    let s1 := if s.wayFree n set w then s else s.subF .CLM_ENTRY5_ENTRIES n.val (tagClaim e.tag)
    let s2 := (s1.setEnt n set w DirEnt.zero).updSh n (fun h => { h with quarantined := h.quarantined ++ [14 * set + w] })
    (((s2.addReg n .DIR_STAT3_UNCORR).addReg n .DIR_STAT3_QUARANTINED).setReg n .SHF_ATTN_DIR_UNCORR 1).shEvent n 0x0302 Sev.fault w
      (detail set)

/-- R180: what the check of a directory read found. -/
def State.dirCheck (s : State) (n : Shaft) (set : Nat) (u : DirCheck) : State :=
  match u with
  | .good => s
  | .corrected _ => s.addReg n .DIR_STAT2_CORR
  | .lost w => if w < 14 then s.quarantineWay n set w else s

end Sys2Proof.Machine
end

