-- ==== Sys2Proof/Machine/Tallies.lean ====
section
/-! DEFINITION. The tally store (R128 to R145): opening and freeing tallies, answers built from templates (R363, R364), the line lock with
its hold queues (R132, R477), allocation of directory entries (R172 to R175) and recalls (R176 to R178, R476). -/

namespace Sys2Proof.Machine

/-! ### Counts -/

/-- The numbers of the tallies that are not FREE. -/
def State.usedTallies (s : State) (n : Shaft) : List Nat :=
  ((s.sh n).tallies.filter (fun e => decide (e.2.st ≠ .free))).map (fun e => e.1)

/-- TLY.COUNT.OPEN: tallies not FREE. -/
def State.openCount (s : State) (n : Shaft) : Nat := (s.usedTallies n).length

/-- CLM.ENTRY[c].OPEN: tallies that have passed claim check 1 for claim `c` and are not FREE (R150). -/
def State.claimOpen (s : State) (n : Shaft) (c : Nat) : Nat :=
  ((s.sh n).tallies.filter (fun e => decide (e.2.st ≠ .free) && decide (e.2.claim = some c))).length

/-- The open work of portal `p` in tubs (R141): each tally that is not FREE counts its own share, so the count of a served haul falls line by line. DESIGN
CHOICE (assumption 117). -/
def State.openWork (s : State) (n : Shaft) (p : Portal) : Nat :=
  (s.sh n).tallies.foldl (fun a e => if e.2.st ≠ .free ∧ e.2.portal = p then a + e.2.quota else a) 0

/-- The count of a microcode bank (R212): tallies in OPEN or WAIT whose EPOCH is `b`. -/
def State.epochCount (s : State) (n : Shaft) (b : Bool) : Nat :=
  ((s.sh n).tallies.filter (fun e => (decide (e.2.st = .opn) || decide (e.2.st = .wait)) && decide (e.2.epoch = b))).length

/-- First tally number of the reserve, which is the top TLY.CFG.RESERVE numbers. DESIGN CHOICE: R127 gives their count only (assumption 114). -/
def State.reserveBase (s : State) (n : Shaft) : Nat := 32768 - s.reg n .TLY_CFG_RESERVE

/-- The lowest FREE tally outside the reserve. -/
def State.freeTally (s : State) (n : Shaft) : Option Nat := lowestFree (s.usedTallies n) 0 (s.reserveBase n)

/-- The lowest FREE tally of the reserve. -/
def State.freeReserve (s : State) (n : Shaft) : Option Nat :=
  lowestFree (s.usedTallies n) (s.reserveBase n) (s.reg n .TLY_CFG_RESERVE)

/-- How many tallies outside the reserve are FREE (R126 check 5). -/
def State.freeCount (s : State) (n : Shaft) : Nat :=
  s.reserveBase n - ((s.usedTallies n).filter (fun t => decide (t < s.reserveBase n))).length

/-! ### Tub slots -/

/-- The tub slots of a shaft (R24). -/
def tubSlots : Nat := 393216

/-- The lowest tub slot of the free pool not in use (R248). -/
def State.freeSlot (s : State) (n : Shaft) : Option Nat :=
  lowestFree (s.sh n).pool (4096 * s.reg n .QMG_CFG_RING_SLOTS) (tubSlots - 4096 * s.reg n .QMG_CFG_RING_SLOTS)

/-- Take tub slot `i` for tub `t`. -/
def State.takeSlot (s : State) (n : Shaft) (i : Nat) (t : Tub) : State :=
  (s.setSlot n i t).updSh n (fun h => { h with pool := h.pool ++ [i] })

/-- Give tub slots back to the free pool. -/
def State.giveSlots (s : State) (n : Shaft) (l : List Nat) : State :=
  l.foldl (fun a i => (a.setSlot n i Tub.zero).updSh n (fun h => { h with pool := h.pool.filter (fun j => j != i) })) s

/-- The entries of a tally's deferral slot, in the order recorded (R230). -/
def State.deferrals (s : State) (n : Shaft) (y : Tally) : List Deferral :=
  match y.sp.deferSlot with
  | none => []
  | some i => (List.range y.sp.deferCount).filterMap (fun j => Deferral.ofBits ((s.slot n i).field (8 * j) 0 64))

/-- The tub slots the items of a deferral list stand in (R230). -/
def deferSlots (l : List Deferral) : List Nat :=
  l.filterMap (fun d => match d with
    | .push _ i => some i
    | _ => none)

/-- The tub slots a tally's deferrals take: the deferral slot and those of the items it names. -/
def State.deferTaken (s : State) (n : Shaft) (y : Tally) : List Nat := y.sp.deferSlot.toList ++ deferSlots (s.deferrals n y)

/-- Every tub slot of a tally: its unreceived tubs and its deferral slots. -/
def State.slotsOf (s : State) (n : Shaft) (y : Tally) : List Nat := y.rcvd ++ s.deferTaken n y

/-! ### Threads and dispatch -/

/-- Threads of hewer `h` that run a tally. -/
def State.busyThreads (s : State) (n : Shaft) (h : Nat) : Nat :=
  (s.sh n).threads.foldl (fun a e => if e.1 / 16 = h ∧ e.2.tally ≠ none then a + 1 else a) 0

/-- Free threads of ACTIVE hewers (R189). -/
def State.freeThreads (s : State) (n : Shaft) : Nat :=
  (List.range 52).foldl (fun a h => if s.reg n .HWR_UNIT_ROLE h = 0 then a + (16 - s.busyThreads n h) else a) 0

/-- R189: send work to the hewers; it waits, and is counted, when every free thread is spoken for. -/
def State.sendWork (s : State) (n : Shaft) (w : Work) : State :=
  let s1 := if s.freeThreads n ≤ (s.sh n).dispatchQ.length then s.addReg n .HWR_STAT3_THREAD_WAIT else s
  s1.updSh n (fun h => { h with dispatchQ := h.dispatchQ ++ [w] })

/-- A tally that has its lock goes, or stays, OPEN and is dispatched (R132). -/
def State.dispatchTally (s : State) (n : Shaft) (t : Nat) : State :=
  (s.updTally n t (fun y => { y with st := .opn, parked := false, waitFor := .nothing })).sendWork n ⟨t, false⟩

/-- The thread that runs a tally is idled; a queue operation of it that waits goes on for nobody. -/
def State.endThread (s : State) (n : Shaft) (t : Nat) : State :=
  match (s.tally n t).run with
  | none => s
  | some (h, k) =>
    let p (x : Producer) : Producer := if x = .hewer h k then .gone else x
    ((s.updThread n h k (fun _ => Thread.idle)).updTally n t (fun y => { y with run := none })).updSh n (fun x =>
      { x with
        pushWaits := x.pushWaits.map (fun w => { w with by_ := p w.by_ })
        ringOps := x.ringOps.map (fun r => { r with by_ := p r.by_ }) })

/-! ### Opening -/

/-- What a tally opens with (R129, R134, R176, R478). -/
structure TallyInit where
  kind : Kind
  portal : Portal
  agent : BitVec 10
  lineAddr : DWord
  deadline : BitVec 32
  stamp : BitVec 32
  parent : Option Nat
  parentGen : BitVec 8 := 0
  lines : BitVec 7
  linesLeft : Nat
  request : BitVec 512
  epoch : Bool
  quota : Nat
  pending : Nat
  deriving DecidableEq, Repr

/-- The bank of new tallies (R212). -/
def State.epoch (s : State) (n : Shaft) : Bool := s.regB n .HWR_EPOCH_CURRENT

/-- R129: a FREE tally opens. SCRATCH, TIMER and the park record keep what they held, the record marked as not of the present wait. -/
def State.openTally (s : State) (n : Shaft) (t : Nat) (i : TallyInit) : State :=
  let old := s.tally n t
  let y : Tally :=
    { Tally.zero with
      st := .opn, epoch := i.epoch, kind := i.kind, gen := old.gen + 1, portal := i.portal, agent := i.agent
      pending := i.pending, lineAddr := i.lineAddr, deadline := i.deadline, stamp := i.stamp, parent := i.parent, parentGen := i.parentGen
      lines := i.lines, linesLeft := i.linesLeft, request := i.request, quota := i.quota, timer := old.timer
      scratch := old.scratch, park := { old.park with valid := false } }
  let s1 := s.updTally n t (fun _ => y)
  s1.setReg n .TLY_COUNT_PEAK (max (s1.reg n .TLY_COUNT_PEAK) (s1.openCount n))

/-! ### Answers (R363, R364) -/

/-- Indices of the answer templates (R363). -/
def Ans.RETRY : Nat := 0
def Ans.TIMEOUT : Nat := 1
def Ans.ERROR : Nat := 2
def Ans.UNMAPPED : Nat := 3
def Ans.ACCESS : Nat := 4
def Ans.SUCCESS : Nat := 5
def Ans.HAUL_CPL : Nat := 6
def Ans.MEM_ERROR : Nat := 7
def Ans.SNP_LOST : Nat := 8

/-- R364: answer template `i` filled from the source tub body `src`; TV 0 so far. STAMP stays as the template's bytes have it: R364 does not list it among
the fields it sets, though R124 has it 0 outside REQ. DESIGN CHOICE (assumption 116). -/
def State.answerTub (s : State) (n : Shaft) (i : Nat) (src : BitVec 512) (wdog : Bool) : Tub :=
  let q : Tub := { Tub.zero with body := src }
  let t : Tub :=
    { Tub.zero with
      cls := if i = Ans.MEM_ERROR then Cls.MRS else Cls.RSP
      wdog := wdog
      body := Tbl.get 0 (s.sh n).formers.ans i }
  ((((t.put 4 0 q.srcAgent).put 8 0 q.addr).put 16 0 q.ftag).put 6 0 (q.field 6 0 3)).put 7 0 q.lines

/-- The answer of tally `t` from template `i`. -/
def State.tallyAnswer (s : State) (n : Shaft) (t i : Nat) (wdog : Bool) : Tub :=
  let y := s.tally n t
  { s.answerTub n i y.request wdog with tv := true, tally := BitVec.ofNat 15 t, gen := y.gen, ans := true }

/-- The completion of a haul (R134): LINE_MAP is LINE_FAIL. -/
def State.haulCpl (s : State) (n : Shaft) (t : Nat) (wdog : Bool) : Tub :=
  (s.tallyAnswer n t Ans.HAUL_CPL wdog).put 32 0 (s.tally n t).lineFail

/-- R141: the deadline lane takes an answer to portal `p`. -/
def State.lane (s : State) (n : Shaft) (p : Portal) (t : Tub) : State := s.updPtl n p (fun x => { x with lane := x.lane ++ [t] })

/-- A tub the tally store sends to the egress queue of portal `p`: one crossing of the Lode's stations (R92). -/
def State.lodeSend (s : State) (n : Shaft) (p : Portal) (t : Tub) : State :=
  s.inject n t (.station .lode 0) Layer.lode.dest (.egress p)

/-- An answer of tally `t` is on its way. -/
def State.answerSent (s : State) (n : Shaft) (t : Nat) : State := s.updTally n t (fun y => { y with ans := .sent })

/-- FLAGS.DATA of a tally's request: a write. -/
def Tally.writes (y : Tally) : Bool := y.request.getLsbD 10

/-- R129: does the tally send an answer? -/
def Tally.answers (y : Tally) : Bool :=
  match y.kind with
  | .recall => false
  | .haulLine => !y.writes
  | _ => true

/-! ### Hauls (R134, R135) -/

/-- The tallies of KIND HAUL_LINE of parent `t`. -/
def State.children (s : State) (n : Shaft) (t : Nat) : List Nat :=
  ((s.sh n).tallies.filter (fun e => decide (e.2.st ≠ .free) && decide (e.2.kind = .haulLine) && e.2.childOf t (s.tally n t).gen)).map
    (fun e => e.1)

/-- The poisoned zero DAT tub of a failed line (R135). -/
def State.poisonDat (s : State) (n : Shaft) (t : Nat) (wdog : Bool) : Tub :=
  let y := s.tally n t
  { Tub.zero with
    cls := Cls.DAT, tv := true, tally := BitVec.ofNat 15 t, gen := y.gen, line := y.lines.setWidth 6, poison := true, wdog := wdog
    ans := true }

/-- R134: line tally `t` has reached DONE. The parent marks the line when it failed, and with LINES_LEFT 0 it goes to DONE, its
completion leaving the tally store for the egress queue of its origin portal. -/
def State.lineDone (s : State) (n : Shaft) (t : Nat) : State :=
  let y := s.tally n t
  match y.parent with
  | none => s
  | some p =>
    let s1 := s.updTally n p (fun q =>
      { q with
        linesLeft := q.linesLeft - 1
        lineFail := if y.failed then q.lineFail ||| ((1 : BitVec 64) <<< y.lines.toNat) else q.lineFail })
    let q := s1.tally n p
    if q.linesLeft = 0 ∧ (q.st = .opn ∨ q.st = .wait) then
      ((s1.updTally n p (fun x => { x with st := .done, waitFor := .nothing })).answerSent n p).lodeSend n q.portal
        (s1.haulCpl n p false)
    else s1

/-! ### The line lock (R132, R171, R477) -/

/-- The lock index at home line `l`. -/
def State.lockAt (s : State) (n : Shaft) (l : Nat) : Option LockRec := Tbl.get none (s.sh n).locks l

/-- Write the lock index at home line `l`. -/
def State.setLock (s : State) (n : Shaft) (l : Nat) (r : Option LockRec) : State :=
  s.updSh n (fun h => { h with locks := Tbl.set none h.locks l r })

/-- The claim a tally acts in. -/
def Tally.inClaim (y : Tally) : Nat :=
  match y.recallRec with
  | some r => tagClaim r.tag
  | none => y.claim.getD 0

/-- The home line of a request's tally. -/
def Tally.line (y : Tally) : Nat := homeLine y.inClaim y.lineAddr

/-- Write the state of home line `l` in its entry, if it has one, and settle the way. -/
def State.setLineState (s : State) (n : Shaft) (l : Nat) (v : BitVec 3) : State :=
  match s.findWay n (homeSet l) (homeTag l) with
  | none => s
  | some w => (s.setEnt n (homeSet l) w ((s.ent n (homeSet l) w).setLine (homeIdx l) v)).settleWay n (homeSet l) w

/-- Line `i`'s state in the 12 bits a recall keeps. -/
def RecallRec.line (r : RecallRec) (i : Nat) : BitVec 3 := r.st.extractLsb' (3 * i) 3

/-- A recall takes line `i`, whose state was `v`. -/
def RecallRec.take (r : RecallRec) (i : Nat) (v : BitVec 3) : RecallRec :=
  { r with held := r.held ||| ((1 : BitVec 4) <<< i), st := putBits r.st (3 * i) v, parkedOn := none }

/-- Append tally `t` to the hold queue of line `l`, whose record is `r` (R132). A RECALL holder's places are the lock index's own. -/
def State.park (s : State) (n : Shaft) (t l : Nat) (r : LockRec) : State :=
  let s1 := s.setLock n l (some { r with queue := r.queue ++ [t] })
  let s2 := if (s.tally n r.holder).kind = .recall then s1 else s1.updTally n r.holder (fun y => { y with holdTail := some t })
  s2.updTally n t (fun y => { y with st := .wait, parked := true, waitFor := .lock })

/-- R176: the recall holds all four lines: its snapshot is written and it is dispatched. -/
def State.recallReady (s : State) (n : Shaft) (t : Nat) : State :=
  match (s.tally n t).recallRec with
  | none => s
  | some r =>
    let e := s.ent n r.set r.way
    let snap : DirEnt := { e with st0 := r.line 0, st1 := r.line 1, st2 := r.line 2, st3 := r.line 3 }
    (s.updTally n t (fun y =>
      { y with
        request := putBits y.request 320 snap.bits
        prior := snap.topState })).dispatchTally n t

/-- R176: the recall acquires the lines of `l` in order, until it has all four or parks. -/
def State.recallLines (s : State) (n : Shaft) (t : Nat) : List Nat → State
  | [] => s.recallReady n t
  | i :: rest =>
    match (s.tally n t).recallRec with
    | none => s
    | some r =>
      let l := sectorLine r.set r.tag i
      match s.lockAt n l with
      | some k => (s.park n t l k).updTally n t (fun y => { y with recallRec := some { r with parkedOn := some i } })
      | none =>
        let v := (s.ent n r.set r.way).line i
        let s1 := (s.setLock n l (some ⟨t, []⟩)).updTally n t (fun y => { y with lock := true, recallRec := some (r.take i v) })
        (s1.setEnt n r.set r.way ((s1.ent n r.set r.way).setLine i Ln.BUSY)).recallLines n t rest

/-- The body of a recall's REQUEST before its snapshot (R176). -/
def recallRequest (op : Nat) (addr : DWord) : BitVec 512 :=
  (((({ Tub.zero with body := 0 } : Tub).put 0 0 (BitVec.ofNat 8 op)).put 8 0 addr).put 7 0 (4 : BitVec 7)).body

/-- R176: a recall of way `w` opens with reserve tally `t`. -/
def State.openRecall (s : State) (n : Shaft) (t set w : Nat) (c : RecallFor) : State :=
  let e := s.ent n set w
  let addr := s.planeAddr n set e.tag 0
  let s1 := s.openTally n t
    { kind := .recall, portal := 0, agent := 0, lineAddr := addr
      deadline := (s.sh n).clock + BitVec.ofNat 32 (s.reg n .TLY_CFG_DEADLINE_US), stamp := 0, parent := none, lines := 1
      linesLeft := 0, request := recallRequest (s.reg n .DIR_CFG_RECALL_OP) addr, epoch := s.epoch n, quota := 0, pending := 0 }
  let s2 := ((s1.updTally n t (fun y => { y with recallRec := some ⟨set, w, e.tag, c, 0, 0, none⟩ })).setRecallOf n set w (some t)).forgetEvict n set w
  let s3 := s2.addReg n .DIR_STAT_RECALLS
  let s4 := if c = .sweep then
      (s3.addReg n .CLM_SWEEP_CNT_RECALLS).updSh n
        (fun h => { h with sweep := h.sweep.map (fun x => { x with recalls := x.recalls ++ [t] }) })
    else s3
  s4.recallLines n t [0, 1, 2, 3]

/-- Recalls wait for the reserve in order, so a recall opens at once only when none waits before it and a reserve tally is FREE (R175). -/
def State.recallNow (s : State) (n : Shaft) (set w : Nat) (c : RecallFor) (wait : RecallWait) : State :=
  match s.freeReserve n with
  | some t =>
    if (s.sh n).recallWait = [] then s.openRecall n t set w c
    else s.updSh n (fun h => { h with recallWait := h.recallWait ++ [wait] })
  | none => s.updSh n (fun h => { h with recallWait := h.recallWait ++ [wait] })

/-- R175: is an allocation recall of the set in progress, or waiting for the reserve? -/
def State.allocRunning (s : State) (n : Shaft) (set : Nat) : Bool :=
  (s.sh n).recallWait.contains (.alloc set) ||
  (List.range 14).any (fun w =>
    match s.recallOf n set w with
    | none => false
    | some t =>
      match (s.tally n t).recallRec with
      | some r => decide (r.cause = .victim)
      | none => false)

/-- R174, R175: a victim is chosen and recalled for the head of the set-wait queue. -/
def State.tryVictim (s : State) (n : Shaft) (set : Nat) : State :=
  if s.allocRunning n set then s
  else match s.victim n set with
    | none => (s.addReg n .DIR_STAT2_SET_STALL).limEvent n 0x0304 Sev.notice 0xFFFF (fun _ => detail set)
    | some w => s.recallNow n set w .victim (.alloc set)

/-- Line `i` of way `w` reads BUSY. -/
def State.busyLine (s : State) (n : Shaft) (set w i : Nat) : State := s.setEnt n set w ((s.ent n set w).setLine i Ln.BUSY)

/-- Tally `t`, holder of line `l`, has line `l` in way `w`. A line locked before its sector had an entry reads BUSY in it already; its state is I. -/
def State.hitLine (s : State) (n : Shaft) (t l w : Nat) : State :=
  let set := homeSet l
  let v := (s.ent n set w).line (homeIdx l)
  let s1 := (s.busyLine n set w (homeIdx l)).touchWay n set w false
  (s1.updTally n t (fun y => { y with prior := if v = Ln.BUSY then Ln.I else v })).dispatchTally n t

/-- Tally `t`, holder of line `l`, takes free way `w`. A line of the sector that is locked reads BUSY (R171). -/
def State.newLine (s : State) (n : Shaft) (t l w : Nat) : State :=
  let set := homeSet l
  let s1 := s.takeWay n set w (homeTag l) (homeIdx l)
  let locked := (List.range 4).filter (fun i => decide (i ≠ homeIdx l) && (s.lockAt n (sectorLine set (homeTag l) i)).isSome)
  ((locked.foldl (fun (a : State) i => a.busyLine n set w i) s1).updTally n t (fun y => { y with prior := Ln.I })).dispatchTally n t

/-- The set-wait queue of a set. -/
def State.setQ (s : State) (n : Shaft) (set : Nat) : List Nat := Tbl.get [] (s.sh n).setWait set

/-- Write the set-wait queue of a set. -/
def State.putSetQ (s : State) (n : Shaft) (set : Nat) (l : List Nat) : State :=
  s.updSh n (fun h => { h with setWait := Tbl.set [] h.setWait set l })

/-- R172: the holder of line `l` finds its entry, takes a way, or waits for one. -/
def State.allocate (s : State) (n : Shaft) (t l : Nat) : State :=
  let set := homeSet l
  match s.findWay n set (homeTag l) with
  | some w => s.hitLine n t l w
  | none =>
    match s.freeWay n set with
    | some w => s.newLine n t l w
    | none =>
      ((s.putSetQ n set (s.setQ n set ++ [t])).updTally n t (fun y => { y with st := .wait, waitFor := .way })).tryVictim n set

/-- R132: tally `t` acquires home line `l`. -/
def State.acquire (s : State) (n : Shaft) (t l : Nat) : State :=
  match s.lockAt n l with
  | some r => s.park n t l r
  | none => ((s.setLock n l (some ⟨t, []⟩)).updTally n t (fun y => { y with lock := true })).allocate n t l

/-- R175: serve the set-wait queue `l` of a set: a tally whose sector has an entry by now takes its line in it, the head takes a free way, and a
victim is chosen when there is none. -/
def State.serveQ (s : State) (n : Shaft) (set : Nat) : List Nat → State
  | [] => s.putSetQ n set []
  | t :: rest =>
    let l := (s.tally n t).line
    match s.findWay n set (homeTag l) with
    | some w => (s.hitLine n t l w).serveQ n set rest
    | none =>
      match s.freeWay n set with
      | some w => (s.newLine n t l w).serveQ n set rest
      | none => (s.putSetQ n set (t :: rest)).tryVictim n set

/-- After a lock release or a freed way in a set (R174, R175). -/
def State.serveSet (s : State) (n : Shaft) (set : Nat) : State := s.serveQ n set (s.setQ n set)

/-! ### Freeing -/

/-- R178, R476: a failed recall is counted when it becomes FREE. A sweep's own recall that ends by R476 counts in FAILS too. DESIGN CHOICE: R181 defines
FAILS by R178 (assumption 119). -/
def State.recallFailed (s : State) (n : Shaft) (t : Nat) (y : Tally) : State :=
  let s1 := s.addReg n .DIR_STAT_RECALL_FAIL
  let s2 := match y.recallRec with
    | some r => if r.cause = RecallFor.sweep then s1.addReg n .CLM_SWEEP_STAT_FAILS else s1
    | none => s1
  s2.limEvent n 0x0301 Sev.warning t (fun _ => detail64 y.lineAddr.toNat y.pending)

/-- The tally becomes FREE: its tub slots return to the pool and it leaves the sweep's list. -/
def State.dropTally (s : State) (n : Shaft) (t : Nat) : State :=
  let y := s.tally n t
  (((s.giveSlots n (s.slotsOf n y)).endThread n t).updTally n t
    (fun y => { y with st := .free, waitFor := .nothing, rcvd := [], park := { y.park with valid := false },
                       sp := { y.sp with deferSlot := none, deferCount := 0 } })).updSh n
    (fun h => { h with
      sweep := h.sweep.map (fun x => { x with recalls := x.recalls.filter (fun r => r != t) })
      dispatchQ := h.dispatchQ.filter (fun w => w.tally != t) })

/-- May parent `p` become FREE (R129, R140)? -/
def State.parentFree (s : State) (n : Shaft) (p : Nat) : Bool :=
  let y := s.tally n p
  decide (y.st = .done) && decide (y.kind = .haulParent) && decide (y.ans = .gone) && (y.expired || (s.children n p).isEmpty)

/-- A parent becomes FREE when it may. -/
def State.tryParent (s : State) (n : Shaft) (p : Option Nat) : State :=
  match p with
  | none => s
  | some t => if s.parentFree n t then s.dropTally n t else s

/-- R132: skip and free the expired tallies at the head of a hold queue. -/
def State.skipExpired (s : State) (n : Shaft) : List Nat → State × List Nat
  | [] => (s, [])
  | m :: rest =>
    let y := s.tally n m
    if y.expired then
      let s1 := s.dropTally n m
      let s2 := if y.kind = .recall then s1.recallFailed n m y else s1
      ((s2.updTally n m (fun y => { y with parked := false })).tryParent n y.parent).skipExpired n rest
    else (s, m :: rest)

/-- R132: line `l`, released with state `f`, is handed to tally `m`; `tail` is the last tally of its hold queue. A handover leaves AGE as it is: R173 names
a way taken or hit only. DESIGN CHOICE (assumption 118). -/
def State.grant (s : State) (n : Shaft) (m l : Nat) (f : BitVec 3) (tail : Option Nat) : State :=
  let y := s.tally n m
  match y.recallRec with
  | some r =>
    match r.parkedOn with
    | some i =>
      (s.updTally n m (fun y => { y with lock := true, parked := false, recallRec := some (r.take i f) })).recallLines n m
        ((List.range 4).drop (i + 1))
    | none => s
  | none =>
    let s1 := s.updTally n m (fun y => { y with prior := f, lock := true, parked := false, holdTail := tail })
    match s1.findWay n (homeSet l) (homeTag l) with
    | some w => (s1.busyLine n (homeSet l) w (homeIdx l)).dispatchTally n m
    | none => s1.allocate n m l

/-- R132: release home line `l` with final state `f`. -/
def State.releaseLine (s : State) (n : Shaft) (l : Nat) (f : BitVec 3) : State :=
  match s.lockAt n l with
  | none => s
  | some r =>
    let k := s.skipExpired n r.queue
    match k.2 with
    | m :: rest => (k.1.setLock n l (some ⟨m, rest⟩)).grant n m l f r.queue.getLast?
    | [] => (k.1.setLock n l none).setLineState n l f

/-- R168, R129, R210: the release state of a tally's line. -/
def Tally.final (y : Tally) : BitVec 3 := if y.expired ∨ y.trapped then y.prior else y.setst.getD y.prior

/-- The lines a recall holds, in order. -/
def RecallRec.lines (r : RecallRec) : List Nat := (List.range 4).filter (fun i => r.held.getLsbD i)

/-- R177, R178: a recall becomes FREE: it releases its lines, as I when it ended, as its snapshot says otherwise. -/
def State.recallEnd (s : State) (n : Shaft) (y : Tally) (t : Nat) (r : RecallRec) : State :=
  let failed := y.expired || y.trapped
  let s1 := r.lines.foldl
    (fun (a : State) i => a.releaseLine n (sectorLine r.set r.tag i) (if failed then r.line i else Ln.I)) s
  let e := s1.ent n r.set r.way
  let snap := DirEnt.ofBits (y.request.extractLsb' 320 64)
  let e1 : DirEnt := if failed then { e with mode := snap.mode, sharers := snap.sharers, age := 0 } else { e with mode := 0, sharers := 0 }
  let s2 := if s1.quarantine n r.set r.way then s1 else s1.setEnt n r.set r.way e1
  let s3 := (s2.setRecallOf n r.set r.way none).settleWay n r.set r.way
  (if failed then s3.recallFailed n t y else s3).serveSet n r.set

/-- R129: the tally becomes FREE and releases what it holds. -/
def State.freeNow (s : State) (n : Shaft) (t : Nat) : State :=
  let y := s.tally n t
  let s1 := (s.dropTally n t).updTally n t (fun y => { y with lock := false })
  match y.recallRec with
  | some r => if y.kind = .recall then s1.recallEnd n y t r else s1
  | none => if y.lock then (s1.releaseLine n y.line y.final).serveSet n (homeSet y.line) else s1

/-- R129, R140: may the tally become FREE now? -/
def State.mayFree (s : State) (n : Shaft) (t : Nat) : Bool :=
  let y := s.tally n t
  decide (y.st = .done) && !y.parked && (!y.answers || decide (y.ans = .gone)) &&
    ((y.expired && !y.lock) || (decide (y.pending = 0) && (decide (y.kind ≠ .haulParent) || (s.children n t).isEmpty)))

/-- The tally becomes FREE if it may, and then its parent if that may. -/
def State.tryFree (s : State) (n : Shaft) (t : Nat) : State :=
  if s.mayFree n t then (s.freeNow n t).tryParent n (s.tally n t).parent else s

/-- The answer of tally `t` has passed, or been discarded at, its gate. -/
def State.answerGone (s : State) (n : Shaft) (t : Nat) : State := (s.updTally n t (fun y => { y with ans := .gone })).tryFree n t

/-- R129: a tally goes to DONE; work for it that waits for a thread is dropped (R193). -/
def State.tallyDone (s : State) (n : Shaft) (t : Nat) : State :=
  (s.updTally n t (fun y => { y with st := .done, waitFor := .nothing, park := { y.park with valid := false } })).updSh n
    (fun h => { h with dispatchQ := h.dispatchQ.filter (fun w => w.tally != t) })

/-- R207, R210, R148: line tally `t` ends as a failed line: DONE, a poisoned DAT tub for a read, and its mark in LINE_FAIL. The DAT tub is
injected at `src`. -/
def State.failLine (s : State) (n : Shaft) (t : Nat) (src : Pos) : State :=
  let y := s.tally n t
  let s1 := (s.tallyDone n t).updTally n t (fun y => { y with failed := true })
  let s2 := if y.writes then s1 else (s1.answerSent n t).inject n (s1.poisonDat n t false) src Layer.lode.dest (.egress y.portal)
  (s2.lineDone n t).tryFree n t

/-! ### R144 -/

/-- R144: is a tally open in the sense of the rules that wait for none? -/
def Tally.isOpen (y : Tally) : Bool :=
  match y.st with
  | .opn | .wait => true
  | .done => y.answers && decide (y.ans ≠ .gone)
  | .free => false

/-- R144: does the shaft hold an open tally? -/
def State.anyOpen (s : State) (n : Shaft) : Bool := (s.sh n).tallies.any (fun e => e.2.isOpen)

/-- R140: count an abandoned tally. -/
def State.abandonedEvent (s : State) (n : Shaft) (t : Nat) (y : Tally) : State :=
  ((s.addReg n .TLY_STAT3_ABANDONED).setReg n .SHF_ATTN_TALLY_ABANDONED 1).shEvent n 0x0202 Sev.warning t
    (detail64 y.lineAddr.toNat y.pending)

/-- R144: the lines a DONE tally holds and the state each takes. -/
def State.closingLines (s : State) (n : Shaft) (t : Nat) : List (Nat × BitVec 3) :=
  let y := s.tally n t
  match y.recallRec with
  | some r => r.lines.map (fun i => (sectorLine r.set r.tag i, if y.expired || y.trapped then r.line i else Ln.I))
  | none => if y.lock then [(y.line, y.final)] else []

/-- R144: one DONE tally is closed; hold queues are dissolved before. -/
def State.closeTally (s : State) (n : Shaft) (t : Nat) : State :=
  let y := s.tally n t
  let s1 := if y.expired ∧ 0 < y.pending then s.abandonedEvent n t y else s
  let s2 := (s.closingLines n t).foldl (fun a e => (a.setLock n e.1 none).setLineState n e.1 e.2) s1
  let s3 := (s2.dropTally n t).updTally n t (fun y => { y with lock := false, parked := false })
  match y.recallRec with
  | none => s3
  | some r =>
    if s3.recallOf n r.set r.way = some t then
      let e := s3.ent n r.set r.way
      let snap := DirEnt.ofBits (y.request.extractLsb' 320 64)
      let failed := y.expired || y.trapped
      let e1 : DirEnt := if failed then { e with mode := snap.mode, sharers := snap.sharers, age := 0 } else { e with mode := 0, sharers := 0 }
      let s4 := if s3.quarantine n r.set r.way then s3 else s3.setEnt n r.set r.way e1
      let s5 := (s4.setRecallOf n r.set r.way none).settleWay n r.set r.way
      if failed then s5.recallFailed n t y else s5
    else s3.recallFailed n t y

/-- R144: the wait for no open tally has ended: every tally still DONE is closed. -/
def State.closeDone (s : State) (n : Shaft) : State :=
  let all := ((s.sh n).tallies.filter (fun e => decide (e.2.st = .done))).map (fun e => e.1)
  all.foldl (fun a t => a.closeTally n t) s

end Sys2Proof.Machine
end

