-- ==== Sys2Proof/Machine/Timing.lean ====
section
/-! DEFINITION. Pacers (R101 to R106) and the timing state of a shaft (R108 to R112). -/

namespace Sys2Proof.Machine

/-! ### Pacers -/

/-- R417: a pacer setting under the pacer handle: the least whole setting whose period is at or above the present period ÷ cap. -/
def heldSetting (pct v : Nat) : Nat := (100 * v + (pct - 1)) / pct

/-- The pacer that clocks stope `k`: while it is paired, that of the Lower Seam stope (R277). -/
def State.pacerOf (s : State) (n : Shaft) (k : Nat) : Nat := if s.regB n .STP_STAT_PAIRED k then k % 64 else k

/-- What the pacer of stope `k` is to follow: true locked, and its setting, DIV or TEMPO (R104, R106), as the pacer handle holds it (R417). -/
def State.pacerTarget (s : State) (n : Shaft) (k : Nat) : Bool × Nat :=
  let pct := (s.sh n).thermal.pacerPct
  if s.regB n .PCE_STOPE_SRC k && !(s.stope n k).fellBack then (true, heldSetting pct (s.reg n .PCE_STOPE_DIV k))
  else (false, heldSetting pct (s.reg n .PCE_STOPE_TEMPO k))

/-- A pacer runs unless PCE is gated, the Seams are unpowered (R104), or the shaft is not booted (R315). -/
def State.pacerRuns (s : State) (n : Shaft) : Bool := !(s.shGated n .PCE) && !(s.seamsOut n) && decide ((s.sh n).boot = .done)

/-- The pacer of stope `k` is on its target. -/
def State.pacerSettle (s : State) (n : Shaft) (k : Nat) : State :=
  (((s.setReg n .PCE_STOPE_ACTIVE (bit (s.pacerTarget n k).1) k).setReg n .PCE_STOPE_RAMPING 0 k).updStope n k
    (fun x => { x with ramp := none }))

/-- The absolute difference of two numbers. -/
def absDiff (a b : Nat) : Nat := (a - b) + (b - a)

/-- What a ramp step finds: the pacer switches, or runs on at this period. -/
inductive RampMove | switch | run (now16 : Nat)
  deriving DecidableEq, Repr

/-- R104: one step of a ramp toward `target`, with a replica tap of `tap` femtoseconds. Periods are compared in sixteenths of a
femtosecond; a divider step of the 2 GHz tempo PLL is 500,000 fs (R101). -/
def rampMove (r : Ramp) (target : Bool × Nat) (tap : Nat) : RampMove :=
  let len (locked : Bool) : Nat := if locked then 500000 else tap
  let goal := 16 * target.2 * len target.1
  let cur := r.now16 * len r.locked
  let one := r.start * len r.locked
  if absDiff cur goal ≤ one then .switch
  else
    let next16 := if cur < goal then r.now16 + r.start else r.now16 - r.start
    if absDiff (next16 * len r.locked) goal ≤ one then .switch else .run next16

/-- R104: does what remains of a ramp come to no more than one step? -/
def Ramp.near (r : Ramp) (target : Bool × Nat) (tap : Nat) : Bool :=
  let len (locked : Bool) : Nat := if locked then 500000 else tap
  decide (absDiff (r.now16 * len r.locked) (16 * target.2 * len target.1) ≤ r.start * len r.locked)

/-- R101: the length of a replica tap just now, in femtoseconds: 20 to 33 ps, a value that stays open. -/
def State.tapNow (s : State) : Nat × State := let r := s.free; (20000 + Config.freeValue r.1 % 13001, r.2)

/-- R104: the target of the pacer of stope `k` may have changed from `old`. A pacer that does not run, or that a pairing has left without a stope (R277), changes at once; one that ramps is redirected
from its present period; otherwise a ramp starts. Where what remains is no more than one step, the pacer switches. A step of one source is measured in
that source's own unit, one between sources with the tap of the moment (assumption 9). -/
def State.pacerRetarget (s : State) (n : Shaft) (k : Nat) (old : Bool × Nat) : State :=
  let new := s.pacerTarget n k
  if new = old then s
  else if !s.pacerRuns n || decide (s.pacerOf n k ≠ k) then s.pacerSettle n k
  else
    let r := ((s.stope n k).ramp).getD ⟨old.1, old.2, 16 * old.2⟩
    let x := if r.locked = new.1 then (1, s) else s.tapNow
    if r.near new x.1 then x.2.pacerSettle n k
    else (x.2.setReg n .PCE_STOPE_RAMPING 1 k).updStope n k (fun y => { y with ramp := some r })

/-- R104: every pacer of the shaft that ramps is stopped, and makes its change at once. -/
def State.pacersStop (s : State) (n : Shaft) : State :=
  ((s.sh n).stopes.filter (fun e => e.2.ramp.isSome)).foldl (fun (a : State) e => a.pacerSettle n e.1) s

/-- R104: the next step of the ramp of stope `k`, once its 64 cycles have passed. -/
def State.pacerStep (s : State) (n : Shaft) (k tap : Nat) : State :=
  match (s.stope n k).ramp with
  | none => s
  | some r =>
    if !s.pacerRuns n then s
    else match rampMove r (s.pacerTarget n k) tap with
    | .switch => s.pacerSettle n k
    | .run now16 => s.updStope n k (fun x => { x with ramp := some { r with now16 := now16 } })

/-- PACER_RAMP_STEP. -/
def execPacerRampStep (sh : Shaft) (k tap : Nat) (s : State) : Out := .next (s.pacerStep sh k tap)

/-- R105: the pacer of stope `k` switches at once, leaving a source (true: the locked one) that has stopped. -/
def State.pacerSwitch (s : State) (n : Shaft) (k : Nat) (left : Bool) : State :=
  ((s.pacerSettle n k).setReg n .PCE_STOPE_FORCED 1 k).shEvent n 0x0104 Sev.warning k (detail (bit left))

/-- R105: the source being left has stopped. A pacer that stays on its locked source (AUTO_FB 0, R106) falls back to self-timed when that source
stops. -/
def State.pacerForce (s : State) (n : Shaft) (k : Nat) : State :=
  if !s.pacerRuns n then s
  else match (s.stope n k).ramp with
  | some r => if (s.pacerTarget n k).1 = r.locked then s else s.pacerSwitch n k r.locked
  | none => if (s.pacerTarget n k).1 then (s.updStope n k (fun x => { x with fellBack := true })).pacerSwitch n k true else s

/-- PACER_FORCED. -/
def execPacerForced (sh : Shaft) (k : Nat) (s : State) : Out := .next (s.pacerForce sh k)

/-- R106: fall back to self-timed on every stope whose pacer is in locked mode with AUTO_FB 1, or end the fallback of every stope. -/
def State.pacerFallback (s : State) (n : Shaft) (lost : Bool) : State :=
  (List.range 128).foldl
    (fun a k =>
      if if lost then a.regB n .PCE_STOPE_SRC k && a.regB n .PCE_STOPE_AUTO_FB k && !(a.stope n k).fellBack else (a.stope n k).fellBack then
        (a.updStope n k (fun x => { x with fellBack := lost })).pacerRetarget n k (a.pacerTarget n k)
      else a) s

/-- TEMPO_PLL_UNLOCK. -/
def execTempoPllUnlock (sh : Shaft) (s : State) : Out := .next ((s.setReg sh .PCE_TPLL_LOCK 0).pacerFallback sh true)

/-- TEMPO_PLL_RELOCK. -/
def execTempoPllRelock (sh : Shaft) (s : State) : Out := .next ((s.setReg sh .PCE_TPLL_LOCK 1).pacerFallback sh false)

/-! ### Timing states -/

/-- Timing states (R110). -/
def Tmg.REF : Nat := 0
def Tmg.LOOP : Nat := 1
def Tmg.HOLDOVER : Nat := 2
def Tmg.ADRIFT : Nat := 3
def Tmg.START_HOLD : Nat := 4

/-- The timing state of a shaft. -/
def State.timing (s : State) (n : Shaft) : Nat := s.dev .CLK_STATE_SHAFT n.val

/-- The lowest-numbered qualified lane of a shaft. -/
def State.qualLane (s : State) (n : Shaft) : Option Nat := (List.range 16).find? (fun l => (s.dev .CLK_QUAL_QUAL n.val).testBit l)

/-- Move a shaft to timing state `new`, following `lane` in LOOP, with TIMING_STATE. -/
def State.setTiming (s : State) (n : Shaft) (new : Nat) (lane : Option Nat) : State :=
  let old := s.timing n
  ((s.setDev .CLK_STATE_SHAFT new n.val).setDev .CLK_QUAL_LOOP_LANE (lane.getD 0) n.val).shEvent n 0x0103 Sev.notice
    (lane.getD 0xFFFF) (detail (old + 65536 * new))

/-- HOLDOVER or ADRIFT with a qualified lane goes to LOOP on the lowest one (R111). -/
def State.tryLoop (s : State) (n : Shaft) : State :=
  if s.timing n = Tmg.HOLDOVER ∨ s.timing n = Tmg.ADRIFT then
    match s.qualLane n with
    | some l => s.setTiming n Tmg.LOOP (some l)
    | none => s
  else s

/-- Enter HOLDOVER now, then LOOP when a lane is qualified (R111). -/
def State.enterHoldover (s : State) (n : Shaft) : State :=
  ((s.setTiming n Tmg.HOLDOVER none).updSh n (fun h => { h with holdoverAt := s.up })).tryLoop n

/-- Lane `l` stops being qualified (R108); a shaft that followed it reselects (R111). -/
def State.unqualify (s : State) (n : Shaft) (l : Nat) : State :=
  let q := s.dev .CLK_QUAL_QUAL n.val
  if q.testBit l then
    let s1 := s.setDev .CLK_QUAL_QUAL (q - 2 ^ l) n.val
    if s.timing n = Tmg.LOOP ∧ s.dev .CLK_QUAL_LOOP_LANE n.val = l then s1.enterHoldover n else s1
  else s

/-- LANE_QUALIFIED (R108): the lane's CDR has held lock for 1 ms. -/
def State.qualify (s : State) (n : Shaft) (l : Nat) : State :=
  let held := match Tbl.get none (s.sh n).lockSince l with
    | some t => decide (t + 1000 ≤ s.up)
    | none => false
  if decide (l < 16) && s.regB n .LNE_STAT_CDR_LOCK l && !(s.regB n .LNE_STAT_RX_SLEEP l) && held then
    (s.setDev .CLK_QUAL_QUAL (s.dev .CLK_QUAL_QUAL n.val ||| 2 ^ l) n.val).tryLoop n
  else s

/-- LANE_QUALIFIED. -/
def execLaneQualified (sh : Shaft) (l : Nat) (s : State) : Out := .next (s.qualify sh l)

/-- The lane loses what made it qualified: CDR lock, its portal's link-up (told by that link's own step), or it enters RX Sleep. -/
def State.laneLost (s : State) (n : Shaft) (l : Nat) (c : LaneLoss) : State :=
  match c with
  | .lockLost =>
    ((s.setReg n .LNE_STAT_CDR_LOCK 0 l).updSh n (fun h => { h with lockSince := Tbl.set none h.lockSince l none })).unqualify n l
  | .linkDown => s.unqualify n l
  | .rxSleep => (s.setReg n .LNE_STAT_RX_SLEEP 1 l).unqualify n l

/-- LANE_UNQUALIFIED. -/
def execLaneUnqualified (sh : Shaft) (l : Nat) (c : LaneLoss) (s : State) : Out := .next (if l < 16 then s.laneLost sh l c else s)

/-- REFCLK_BACK's event, once every shaft is back in REF (assumption 10). -/
def State.refBackEvent (s : State) : State :=
  match s.refBackDue with
  | none => s
  | some ns =>
    if Oct.indices.all (fun n => decide (s.timing n = Tmg.REF)) then
      { s.devEvent 0x0102 Sev.info 0xFFFF (detail64 ns) with refBackDue := none }
    else s

/-- R109, R111: REFCLK is declared lost, by the coarse or the fine condition. -/
def State.refLost (s : State) (fine : Bool) : State :=
  let qualified := Oct.indices.foldl (fun a n => a + ((List.range 16).filter (fun l => (s.dev .CLK_QUAL_QUAL n.val).testBit l)).length) 0
  if s.por ∨ s.refLostAt ≠ none ∨ (fine ∧ (s.devGated .CLK ∨ qualified < 4)) then s
  else
    let s1 := if s.devGated .CLK then s else s.addDev .CLK_STAT_LOSSES
    let s2 := { s1.setDev .CLK_CFG_REF_OK 0 with refLostAt := some s.up, refBackDue := none }
    let s3 := s2.devEvent 0x0101 Sev.warning 0xFFFF (detail (if fine then 2 else 1))
    s3.eachShaft (fun n a =>
      let b := a.updSh n (fun h => { h with steering := false })
      if a.timing n = Tmg.REF then
        if a.everTrained then b.enterHoldover n else b.setTiming n Tmg.START_HOLD none
      else b)

/-- REFCLK_LOST. -/
def execRefclkLost (fine : Bool) (s : State) : Out := .next (s.refLost fine)

/-- Steering toward REF begins in every shaft that is not in REF; START_HOLD returns at once (R111, R112). -/
def State.steer (s : State) (all : Bool) : State :=
  (s.eachShaft (fun n a =>
    if a.timing n = Tmg.START_HOLD then a.setTiming n Tmg.REF none
    else if a.timing n ≠ Tmg.REF ∧ all then a.updSh n (fun h => { h with steering := true })
    else a)).refBackEvent

/-- R109: REFCLK is declared restored, after 10 ms without a loss condition. -/
def State.refBack (s : State) : State :=
  match s.refLostAt with
  | some t =>
    if t + 10000 ≤ s.up then
      { s.setDev .CLK_CFG_REF_OK 1 with refLostAt := none, refBackDue := some (1000 * (s.up - t)) }.steer
        (s.devB .CLK_CFG_AUTO_RETURN)
    else s
  | none => if s.refFrom + 10000 ≤ s.up then s.setDev .CLK_CFG_REF_OK 1 else s

/-- REFCLK_BACK. -/
def execRefclkBack (s : State) : Out := .next s.refBack

/-- REF_RETURN (R112): steering has reached REFCLK. -/
def State.refReturn (s : State) (n : Shaft) : State :=
  if (s.sh n).steering && s.devB .CLK_CFG_REF_OK then
    ((s.setTiming n Tmg.REF none).updSh n (fun h => { h with steering := false })).refBackEvent
  else s

/-- REF_RETURN. -/
def execRefReturn (sh : Shaft) (s : State) : Out := .next (s.refReturn sh)

/-- CLK.CFG.RETURN_NOW (R111): toward REF now, if REFCLK is restored. -/
def State.returnNow (s : State) : State := if s.devB .CLK_CFG_REF_OK then s.steer true else s

end Sys2Proof.Machine
end

