-- ==== Sys2Proof/Machine/Daylight.lean ====
section
/-! DEFINITION. Speculation (R225 to R244): its start, confirmation and abort, taint (R194, R195), deferred effects (R230), and what a
stope's port does with a tally that speculates (R242, R243). -/

namespace Sys2Proof.Machine

/-! ### What a thread sees of its tally -/

/-- R190: M at dispatch: the tally's REQUEST; for a HAUL_LINE tally with ADDR its LINE_ADDR and LINES 1. -/
def Tally.view (y : Tally) : Tub :=
  let t : Tub := { Tub.zero with cls := if y.kind = .recall then Cls.SNP else Cls.REQ, body := y.request }
  if y.kind = .haulLine then (t.put 8 0 y.lineAddr).put 7 0 (1 : BitVec 7) else t

/-! ### The entry of the tally's line -/

/-- R169: an atomic change of the entry of the tally's sector, given the line's number in it. -/
def State.editEntry (s : State) (n : Shaft) (t : Nat) (f : DirEnt → Nat → DirEnt) : State :=
  let l := (s.tally n t).line
  match s.findWay n (homeSet l) (homeTag l) with
  | none => s
  | some w => s.setEnt n (homeSet l) w (f (s.ent n (homeSet l) w) (homeIdx l))

/-- DIR.CFG.BCAST_GROUPS. -/
def State.bcast (s : State) (n : Shaft) : Nat := s.reg n .DIR_CFG_BCAST_GROUPS

/-- ADD_SHARER (R168). -/
def State.addSharer (s : State) (n : Shaft) (t : Nat) (a : BitVec 10) : State := s.editEntry n t (fun e _ => e.addSharer a (s.bcast n))

/-- REMOVE_SHARER (R168). -/
def State.remSharer (s : State) (n : Shaft) (t : Nat) (a : BitVec 10) : State := s.editEntry n t (fun e i => e.removeSharer i a)

/-- SET_OWNER (R168). -/
def State.setOwner (s : State) (n : Shaft) (t : Nat) (a : BitVec 10) : State := s.editEntry n t (fun e i => e.setOwner i a (s.bcast n))

/-! ### Taint -/

/-- R195: a thread at confirmation. -/
def Thread.confirm (x : Thread) : Thread := { x with wt := 0, mt := false }

/-- R195: a thread at abort: tainted W registers are 0, a tainted M is REQUEST. -/
def Thread.abort (x : Thread) (m : Tub) : Thread :=
  { x with
    w := x.w.filter (fun e => !x.wt.getLsbD e.1)
    m := if x.mt then m else x.m
    wt := 0
    mt := false }

/-- R195: a park record at abort. -/
def Park.abort (k : Park) : Park :=
  { k with
    w0 := if k.taintW.getLsbD 0 then 0 else k.w0
    w1 := if k.taintW.getLsbD 1 then 0 else k.w1
    w2 := if k.taintW.getLsbD 2 then 0 else k.w2
    w3 := if k.taintW.getLsbD 3 then 0 else k.w3
    taintW := 0
    taintS := false }

/-- Change the thread that runs a tally, if one does. -/
def State.updRunner (s : State) (n : Shaft) (t : Nat) (f : Thread → Thread) : State :=
  match (s.tally n t).run with
  | none => s
  | some (h, k) => s.updThread n h k f

/-! ### The sub-state -/

/-- NONE to PENDING (R130). -/
def State.specStart (s : State) (n : Shaft) (t : Nat) : State :=
  (s.updTally n t (fun y => { y with spec := .pending })).addReg n .PTL_DL_STAT_STARTED

/-- The stopes whose lineage lists hold the tally. -/
def State.lineageOf (s : State) (n : Shaft) (t : Nat) : List Nat :=
  ((s.sh n).stopes.filter (fun e => e.2.lineage.contains t)).map (fun e => e.1)

/-- The tally leaves a stope's lineage list. -/
def Stope.leave (x : Stope) (t : Nat) : Stope := { x with lineage := x.lineage.filter (fun i => i != t) }

/-- R242: the lineage entry of an aborted tally stains the stope. -/
def State.stain (s : State) (n : Shaft) (k t : Nat) : State :=
  ((s.updStope n k (fun x => x.leave t)).setReg n .STP_SPEC_STAINED 1 k).shEvent n 0x0502 Sev.warning k (detail t)

/-- Does a tub belong to tally `t` with generation `g`? -/
def Tub.of (x : Tub) (t : Nat) (g : BitVec 8) : Bool := x.tv && decide (x.tally.toNat = t) && decide (x.gen = g)

/-- R240 step 5: the held tubs of a tally at one gate are discarded, and an answer among them is gone (R129). -/
def State.dropHeld (s : State) (n : Shaft) (t : Nat) (p : Portal) : State :=
  let g := (s.tally n t).gen
  let l := (s.ptl n p).hold.filter (fun x => x.tub.of t g)
  let s1 := (s.updPtl n p (fun x => { x with hold := x.hold.filter (fun x => !x.tub.of t g) })).giveSlots n (l.filterMap (fun x => x.slot))
  (if l.any (fun x => x.tub.ans) then s1.answerGone n t else s1).addReg n .PTL_DL_GATE2_DISCARDED p.val l.length

/-- R240 step 6: one popped queue is rewound to its mark; with its read pointer its POPPED flag is as before (R226). -/
def State.rewindSpec (s : State) (n : Shaft) (t : Nat) (q : PopQ) : State :=
  let r := s.rewindNow n q.queue
  if r.2 = .done then r.1.setQueue n q.queue { r.1.queue n q.queue with popped := q.popped }
  else if r.2 = .refused then (r.1.addReg n .PTL_DL_STAT3_REWIND_FAIL).shEvent n 0x0503 Sev.warning t (detail q.queue) else r.1

/-- R226, R239: at confirmation the pops that underran take effect: counted, and shown in their queue. -/
def State.popsCount (s : State) (n : Shaft) (q : PopQ) : State :=
  if q.underran = 0 then s
  else (s.addReg n .QMG_STAT_UNDERRUNS 0 q.underran).setQueue n q.queue { s.queue n q.queue with underrun := true }

/-- R240: SPEC goes from PENDING to ABORTED; nothing happens in any other sub-state. -/
def State.specAbort (s : State) (n : Shaft) (t : Nat) : State :=
  let y := s.tally n t
  if y.spec ≠ .pending then s
  else
    let s1 := (s.addReg n .PTL_DL_STAT2_ABORTED).giveSlots n (s.deferTaken n y)
    let s2 := s1.updTally n t (fun y =>
      { y with
        spec := .aborted
        prov := none
        setst := none
        abortAt := y.run.map (fun r => (s.thread n r.1 r.2).steps)
        scratch := if y.park.taintS then 0 else y.scratch
        park := y.park.abort
        sp := { y.sp with tickets := 0, deferSlot := none, deferCount := 0, popq := [] } })
    let s3 := s2.updRunner n t (fun x => x.abort y.view)
    let s4 := (s3.lineageOf n t).foldl (fun a k => a.stain n k t) s3
    let s5 := (Tbl.mapAll Stope.zero (fun _ x => { x with hold := x.hold.filter (fun i => !i.of t y.gen) }) (s4.sh n).stopes)
    let s6 := s4.updSh n (fun h => { h with stopes := s5 })
    let s7 := s6.eachPortal (fun p a => a.dropHeld n t p)
    y.sp.popq.foldl (fun a q => a.rewindSpec n t q) s7

/-- R239 step 4: one deferred effect is applied; a deferred push never waits (R257). -/
def State.applyDeferral (s : State) (n : Shaft) (t : Nat) (d : Deferral) : State :=
  match d with
  | .addsh a => s.addSharer n t a
  | .remsh a => s.remSharer n t a
  | .setown a => s.setOwner n t a
  | .cnt x c => s.addReg n .HWR_CTR_COUNT c.toNat x.toNat
  | .push q i => ((s.pushNow n q.toNat (s.slot n i) false).1).giveSlots n [i]

/-- R239 step 5: the held tubs of a tally at one gate are released in hold order. -/
def State.releaseHeld (s : State) (n : Shaft) (t : Nat) (p : Portal) : State :=
  let g := (s.tally n t).gen
  let l := (s.ptl n p).hold.filter (fun i => i.tub.of t g)
  (s.updPtl n p (fun x =>
    { x with hold := x.hold.filter (fun i => !i.tub.of t g), released := x.released ++ l.map (fun i => i.tub) })).giveSlots n
    (l.filterMap (fun i => i.slot))

/-- R239: SPEC goes from PENDING to CONFIRMED. -/
def State.specConfirm (s : State) (n : Shaft) (t : Nat) : State :=
  let y := s.tally n t
  let s1 := (s.addReg n .PTL_DL_STAT_CONFIRMED).updTally n t (fun y =>
    { y with
      spec := .confirmed
      setst := match y.prov with
        | some v => some v
        | none => y.setst
      prov := none
      park := { y.park with taintW := 0, taintS := false }
      sp := { y.sp with tickets := 0, ticketSeq := 0, popq := [], deferCount := 0, deferSlot := none } })
  let s2 := s1.updRunner n t Thread.confirm
  let s3 := (s2.lineageOf n t).foldl (fun (a : State) k => a.updStope n k (fun x => x.leave t)) s2
  let s4 := y.sp.popq.foldl (fun a q => a.popsCount n q)
    (((s.deferrals n y).foldl (fun a d => a.applyDeferral n t d) s3).giveSlots n y.sp.deferSlot.toList)
  s4.eachPortal (fun p a => a.releaseHeld n t p)

/-! ### Deferral (R230) -/

/-- May another effect be deferred: at most 8 entries. -/
def Tally.deferRoom (y : Tally) : Bool := decide (y.sp.deferCount < 8)

/-- The tub slots a deferral needs: one for the list at the first, one for a pushed item. -/
def Tally.deferNeeds (y : Tally) (push : Bool) : Nat := (if y.sp.deferSlot = none then 1 else 0) + (if push then 1 else 0)

/-- How many tub slots of the free pool are free. -/
def State.freeSlots (s : State) (n : Shaft) : Nat := tubSlots - 4096 * s.reg n .QMG_CFG_RING_SLOTS - (s.sh n).pool.length

/-- Take the deferral slot at the first deferral. -/
def State.takeDeferSlot (s : State) (n : Shaft) (t : Nat) : State :=
  match (s.tally n t).sp.deferSlot with
  | some _ => s
  | none =>
    match s.freeSlot n with
    | none => s
    | some i => (s.takeSlot n i Tub.zero).updTally n t (fun y => { y with sp := { y.sp with deferSlot := some i } })

/-- Record a deferral as the next entry of the tally's deferral slot. -/
def State.addDeferral (s : State) (n : Shaft) (t : Nat) (d : Deferral) : State :=
  let s1 := s.takeDeferSlot n t
  let sp := (s1.tally n t).sp
  match sp.deferSlot with
  | none => s1
  | some i =>
    (s1.setSlot n i ((s1.slot n i).put (8 * sp.deferCount) 0 d.bits)).updTally n t
      (fun y => { y with sp := { y.sp with deferCount := y.sp.deferCount + 1 } })

/-- Record a deferred push of item `x` onto queue `q`. -/
def State.addDeferredPush (s : State) (n : Shaft) (t : Nat) (q : BitVec 17) (x : Tub) : State :=
  let s1 := s.takeDeferSlot n t
  match s1.freeSlot n with
  | none => s
  | some i => (s1.takeSlot n i x).addDeferral n t (.push q i)

/-! ### Stope ports (R242, R243, R294, R295) -/

/-- Does the design of stope `k` run (R104, R311, R447)? One that stayed without a context is out of service (R323). -/
def State.stopeRuns (s : State) (n : Shaft) (k : Nat) : Bool :=
  let x := s.stope n k
  s.pacerRuns n && !x.swapHold && !x.testHold && decide (x.active ≠ [])

/-- The tally a tub with TV 1 belongs to speculates now. -/
def State.tubPending (s : State) (n : Shaft) (t : Tub) : Bool :=
  let y := s.tally n t.tally.toNat
  t.tv && decide (y.gen = t.gen) && decide (y.st ≠ .free) && decide (y.spec = .pending)

/-- Put a tub into the delivery buffer of its virtual channel; a VC 2 tub that finds its buffer full is discarded (R295). -/
def State.stopeBuffer (s : State) (n : Shaft) (k : Nat) (t : Tub) : State :=
  let last (x : Stope) : Stope := if t.tv then { x with last := some (t.tally.toNat, t.gen) } else x
  if Cls.vc t.cls = 2 then
    if 8 ≤ (s.stope n k).buf2.length then s.addReg n .STP_STAT2_VC2_DROP k
    else s.updStope n k (fun x => last { x with buf2 := x.buf2 ++ [t] })
  else s.updStope n k (fun x => last { x with buf01 := x.buf01 ++ [t] })

/-- Can a tub be taken now: VC 2 always, VC 0 and 1 when the buffer has room and the stope runs with its port (R295)? -/
def State.stopeTakes (s : State) (n : Shaft) (k : Nat) (t : Tub) : Bool :=
  decide (Cls.vc t.cls = 2) || (decide ((s.stope n k).buf01.length < 8) && s.stopeRuns n k && !s.shGated n .STP)

/-- R242: a full hold or lineage list: the tub is discarded and its tally aborted. -/
def State.portAbort (s : State) (n : Shaft) (t : Tub) : State :=
  (s.specAbort n t.tally.toNat).addReg n .PTL_DL_STAT3_PORT_ABORT

/-- R242: what the port does with a tub it takes. -/
def State.stopeTake (s : State) (n : Shaft) (k : Nat) (t : Tub) : State :=
  let x := s.stope n k
  if s.tubPending n t then
    if s.regB n .STP_SPEC_EXPOSE k then
      if x.lineage.contains t.tally.toNat then s.stopeBuffer n k { t with unconf := true }
      else if 4 ≤ x.lineage.length then s.portAbort n t
      else
        (s.updStope n k (fun x => { x with lineage := x.lineage ++ [t.tally.toNat] })).stopeBuffer n k { t with unconf := true }
    else if 64 ≤ x.hold.length then s.portAbort n t
    else s.updStope n k (fun x => { x with hold := x.hold ++ [t] })
  else s.stopeBuffer n k t

/-- A flit that stands at the port of stope `k`. -/
def Flight.atStope (f : Flight) (k : Nat) : Bool := decide (f.act = .stope k) && f.there

/-- R295: an operation of stope `k` issued before number `i` has not given its result yet. -/
def State.opBefore (s : State) (n : Shaft) (k i : Nat) : Bool :=
  let h := s.sh n
  let old (x : Producer) : Bool := match x with
    | .stope k' j => decide (k' = k) && decide (j < i)
    | _ => false
  h.flights.any (fun f => match f.act with
    | .stopeOp k' j _ _ => decide (k' = k) && decide (j < i)
    | .stopeRes k' j _ => decide (k' = k) && decide (j < i)
    | _ => false)
  || h.qops.any (fun o => old o.by_) || h.pushWaits.any (fun w => old w.by_) || h.ringOps.any (fun r => old r.by_)

/-- The queue result a flit brings to the port of stope `k`, when its turn has come: results are delivered in issue order (R295). -/
def State.stopeGets (s : State) (n : Shaft) (k : Nat) (f : Flight) : Option QResult :=
  match f.act with
  | .stopeRes k' i r => if k' = k ∧ f.there ∧ !s.opBefore n k i then some r else none
  | _ => none

/-- R242: a tub of the hold list whose tally is PENDING no longer is delivered; else the first tub in haulage the port can take; a queue
result goes into its reserved place. -/
def State.stopeNext (s : State) (n : Shaft) (k : Nat) : State :=
  match takeFirst (fun t => !s.tubPending n t && s.stopeTakes n k t) (s.stope n k).hold with
  | some (t, rest) => (s.updStope n k (fun x => { x with hold := rest })).stopeBuffer n k { t with unconf := false }
  | none =>
    match takeFirst (fun f => (f.atStope k && s.stopeTakes n k f.tub) || (s.stopeGets n k f).isSome) (s.sh n).flights with
    | none => s
    | some (f, rest) =>
      let s1 := s.updSh n (fun h => { h with flights := rest })
      match s.stopeGets n k f with
      | some r => s1.updStope n k (fun x => { x with results := x.results ++ [r] })
      | none => (s1.leaveTransit n f.tub).stopeTake n k f.tub

/-- What the design took from its port since the last delivery, and its RELEASE output (R294 to R296). -/
def State.stopeTaken (s : State) (n : Shaft) (k : Nat) (t : Taken) : State :=
  (s.updStope n k (fun x =>
    { x with
      buf01 := x.buf01.drop t.n01
      buf2 := x.buf2.drop t.n2
      results := x.results.drop t.nr
      outstanding := x.outstanding - min t.nr x.results.length })).setReg n .STP_STAT_RELEASED (bit t.release) k

/-- STOPE_DELIVER. A stope that does not run, or whose port is gated (R299), takes nothing from its buffers. -/
def execStopeDeliver (sh : Shaft) (k : Nat) (n : Taken) (s : State) : Out :=
  .next (if 128 ≤ k then s else (if s.stopeRuns sh k && !s.shGated sh .STP then s.stopeTaken sh k n else s).stopeNext sh k)

/-- R243: the sideband the port gives a tub the stope injects. -/
def State.stopeTag (s : State) (n : Shaft) (k : Nat) (t : Tub) : Tub :=
  match (s.stope n k).last with
  | none => t
  | some (i, g) =>
    let y := s.tally n i
    if y.st ≠ .free ∧ y.gen = g then { t with tv := true, tally := BitVec.ofNat 15 i, gen := g, spc := decide (y.spec = .pending) } else t

/-- The unit a stope's tub reaches: another stope, the tally store for an answer with TV 1, the Foreman for an MGT tub. No rule gives any other
unit of a layer something to do with a stope's tub. -/
def stopeAct (t : Tub) (dest : BitVec 8) : Arrive :=
  if dest.toNat < 128 then .stope dest.toNat
  else if dest = 0x81 ∧ t.tv ∧ (t.cls = Cls.RSP ∨ t.cls = Cls.MRS ∨ t.cls = Cls.DAT) then .tallyStore
  else if t.cls = Cls.MGT then .foreman
  else .sink

/-- Count a tub with SPC 1 in TRANSIT of its tally. -/
def State.enterTransit (s : State) (n : Shaft) (t : Tub) : State :=
  if t.spc then s.raiseTransit n t.tally.toNat else s

/-- One queue operation of stope `k` sets out for the queue manager on the Lode (R294, R295). -/
def State.stopeQueueOp (s : State) (n : Shaft) (k q : Nat) (o : StopeQop) : State :=
  let t := match o with
    | .push t => t
    | _ => Tub.zero
  (s.inject n t (.router k) Layer.lode.dest (.stopeOp k (s.stope n k).issued q o)).updStope n k
    (fun x => if Cls.reserved t.cls then x else { x with outstanding := x.outstanding + 1, issued := x.issued + 1 })

/-- R243: inject tub `t`, as a SEND to `dest` or a QPUSH to queue `q`. A tub to a reserved DEST goes nowhere, but one of a reserved class is discarded at
its router whatever its DEST (R121). -/
def State.stopeTub (s : State) (n : Shaft) (k : Nat) (t : Tub) (target : BitVec 8 ⊕ Nat) : State :=
  if s.regB n .STP_SPEC_STAINED k then s.addReg n .STP_SPEC_STAIN_DROP k
  else
    let x := s.stopeTag n k t
    match target with
    | .inl dest =>
      if 0x83 ≤ dest.toNat ∧ !Cls.reserved x.cls then s
      else (s.enterTransit n x).inject n x (.router k) dest (stopeAct x dest) (some k)
    | .inr q => (s.enterTransit n x).stopeQueueOp n k q (.push x)

/-- Does an injection of stope `k` have to wait, stretching its pacer (R102): a gated port (R299), a push that waits for room (R257), four queue operations
outstanding (R295), or, for a tub, an entry in the lineage list of a stope that is not stained (R243)? -/
def State.stopeWaits (s : State) (n : Shaft) (k : Nat) (r : StopeReq) : Bool :=
  let x := s.stope n k
  let full := decide (4 ≤ x.outstanding)
  let lineage := decide (x.lineage ≠ []) && !s.regB n .STP_SPEC_STAINED k
  let push := (s.sh n).pushWaits.any (fun w => match w.by_ with
    | .stope k' _ => decide (k' = k)
    | _ => false)
  s.shGated n .STP || push || (match r with
    | .send _ _ _ => lineage
    | .qpush _ _ _ => full || lineage
    | _ => full)

/-- An injection of stope `k` is done, or waits at its port (R102). -/
def State.stopeAsk (s : State) (n : Shaft) (k : Nat) (r : StopeReq) : State :=
  if s.stopeWaits n k r then s.updStope n k (fun x => { x with waiting := some r })
  else match r with
    | .send c d b => s.stopeTub n k { Tub.zero with cls := c, body := b } (.inl d)
    | .qpush q c b => s.stopeTub n k { Tub.zero with cls := c, body := b } (.inr q)
    | .qpop q => s.stopeQueueOp n k q .pop
    | .qmark q => s.stopeQueueOp n k q .mark
    | .qunmark q => s.stopeQueueOp n k q .unmark
    | .qrwnd q => s.stopeQueueOp n k q .rewind

/-- R102: the injection that waits at the port of stope `k` is tried again. -/
def State.stopeRetry (s : State) (n : Shaft) (k : Nat) : State :=
  match (s.stope n k).waiting with
  | none => s
  | some r => (s.updStope n k (fun x => { x with waiting := none })).stopeAsk n k r

/-- STOPE_INJECT (R243, R294): an operation of the design of stope `k`, with its RELEASE output. While one waits the design has no pacer edge, and asks for
nothing more (R102). -/
def State.stopeInject (s : State) (n : Shaft) (k : Nat) (o : StopeOut) : State :=
  if !s.stopeRuns n k then s
  else
    let s1 := s.stopeRetry n k
    if (s1.stope n k).waiting.isSome then s1
    else (s1.setReg n .STP_STAT_RELEASED (bit o.release) k).stopeAsk n k o.req

/-- STOPE_INJECT. -/
def execStopeInject (sh : Shaft) (k : Nat) (op : StopeOut) (s : State) : Out := .next (if k < 128 then s.stopeInject sh k op else s)

end Sys2Proof.Machine
end

