-- ==== Sys2Proof/Machine/Expiry.lean ====
section
/-! DEFINITION. How a tally meets its responses and its end: matching (R131, R478), waking (R129, R192), timers, the deadline
watchdog (R138), LAYER_ABSENT (R435) and abandonment (R140). -/

namespace Sys2Proof.Machine

/-- R136: has the tally clock reached `t`? -/
def State.passed (s : State) (n : Shaft) (t : BitVec 32) : Bool := !((s.sh n).clock - t).msb

/-! ### Expiry -/

/-- R138 steps 1, 2 and 5, for one tally. -/
def State.markExpired (s : State) (n : Shaft) (t : Nat) : State :=
  let s1 := ((s.specAbort n t).endThread n t).tallyDone n t
  let s2 := s1.updTally n t (fun y => { y with expired := true, expiredAt := (s.sh n).clock })
  (s2.addReg n .TLY_STAT_EXPIRED).limEvent n 0x0201 Sev.notice t (fun c => detail c)

/-- R175: an expired tally leaves the set-wait queue and its line is released as I. -/
def State.leaveSetWait (s : State) (n : Shaft) (t : Nat) (y : Tally) : State :=
  let set := homeSet y.line
  let s1 := (s.putSetQ n set ((s.setQ n set).filter (fun i => i != t))).updTally n t (fun y => { y with lock := false })
  (s1.releaseLine n y.line Ln.I).serveSet n set

/-- R476: a recall that expires parked releases the lines it holds with the states they had; its way has no recall any more. -/
def State.recallParked (s : State) (n : Shaft) (t : Nat) (r : RecallRec) : State :=
  let s1 := r.lines.foldl (fun (a : State) i => a.releaseLine n (sectorLine r.set r.tag i) (r.line i)) s
  let s2 := s1.updTally n t (fun y => { y with lock := false, recallRec := some { r with held := 0 } })
  ((s2.setRecallOf n r.set r.way none).settleWay n r.set r.way).serveSet n r.set

/-- What follows for the locks and queues of a tally that has just expired; `y` is the tally before. -/
def State.afterExpiry (s : State) (n : Shaft) (t : Nat) (y : Tally) : State :=
  let s1 := if y.waitFor = .way then s.leaveSetWait n t y else s
  let s2 := match y.recallRec with
    | some r => if y.parked then s1.recallParked n t r else s1
    | none => s1
  s2.tryFree n t

/-- R138 step 4: line tally `t` of an expired parent that is not DONE expires and its line fails. -/
def State.expireChild (s : State) (n : Shaft) (t : Nat) : State :=
  let y := s.tally n t
  if y.st = .opn ∨ y.st = .wait then
    let s1 := (s.markExpired n t).updTally n t (fun y => { y with failed := true })
    let s2 := if y.writes then s1 else (s1.answerSent n t).lane n y.portal (s1.poisonDat n t true)
    (s2.lineDone n t).afterExpiry n t y
  else s

/-- R138: tally `t` expires if it is OPEN or WAIT; `i` is the template of its answer (RETRY for a thermal trip, R420). A HAUL_LINE that expires alone sends a
poisoned DAT tub with WDOG 1 for a read and nothing for a write, as step 4 has it for the lines of a parent: R138 states no timeout completion for such
a tally. DESIGN CHOICE (assumption 115). -/
def State.expireWith (s : State) (n : Shaft) (t i : Nat) : State :=
  let y := s.tally n t
  if y.st = .opn ∨ y.st = .wait then
    let s1 := s.markExpired n t
    match y.kind with
    | .recall => s1.afterExpiry n t y
    | .line | .forward => ((s1.answerSent n t).lane n y.portal (s1.tallyAnswer n t i true)).afterExpiry n t y
    | .haulLine =>
      let s2 := s1.updTally n t (fun y => { y with failed := true })
      let s3 := if y.writes then s2 else (s2.answerSent n t).lane n y.portal (s2.poisonDat n t true)
      (s3.lineDone n t).afterExpiry n t y
    | .haulParent =>
      let s2 := (s1.children n t).foldl (fun a c => a.expireChild n c) s1
      ((s2.answerSent n t).lane n y.portal (s2.haulCpl n t true)).afterExpiry n t y
  else s

/-- R138: the watchdog's expiry. -/
def State.expire (s : State) (n : Shaft) (t : Nat) : State := s.expireWith n t Ans.TIMEOUT

/-- R365: the ERROR answer of a trapped LINE tally still waits. -/
def Tally.errorWaits (y : Tally) : Bool := decide (y.st = .done) && y.trapped && decide (y.kind = .line) && decide (y.ans = .unsent)

/-- DEADLINE_EXPIRY (R138). In place of an ERROR answer that still waits the watchdog sends TIMEOUT (R365). -/
def State.deadlineExpiry (s : State) (n : Shaft) (t : Nat) : State :=
  let y := s.tally n t
  if s.lodeOut n || !s.passed n y.deadline then s
  else if y.errorWaits then (s.answerSent n t).lane n y.portal (s.tallyAnswer n t Ans.TIMEOUT true)
  else s.expire n t

/-- DEADLINE_EXPIRY. -/
def execDeadlineExpiry (sh : Shaft) (t : Nat) (s : State) : Out := .next (s.deadlineExpiry sh t)

/-- The write of TLY.KILL with GO 1 (R138). -/
def State.killTally (s : State) (n : Shaft) (t : Nat) : State := s.expire n t

/-- TALLY_ABANDONED (R140): DRAIN_US since expiry, the lock still held and PENDING above 0. -/
def State.abandon (s : State) (n : Shaft) (t : Nat) : State :=
  let y := s.tally n t
  if y.st = .done ∧ y.expired ∧ y.lock ∧ 0 < y.pending ∧ s.passed n (y.expiredAt + BitVec.ofNat 32 (s.reg n .TLY_CFG2_DRAIN_US)) then
    ((s.abandonedEvent n t y).freeNow n t).tryParent n y.parent
  else s

/-- TALLY_ABANDONED. -/
def execTallyAbandoned (sh : Shaft) (t : Nat) (s : State) : Out := .next (s.abandon sh t)

/-- LAYER_ABSENT_EXPIRY (R435): the first LAYER_ABSENT reply that has come back expires the tally it names, or is stale. -/
def State.layerAbsentExpiry (s : State) (n : Shaft) : State :=
  match takeFirst (fun f : Flight => decide (f.act = .hau) && f.there) (s.sh n).flights with
  | none => s
  | some (f, rest) =>
    let s1 := s.updSh n (fun h => { h with flights := rest })
    let t := f.tub.tally.toNat
    let y := s.tally n t
    if f.tub.tv ∧ y.gen = f.tub.gen ∧ (y.st = .opn ∨ y.st = .wait) then s1.expire n t else s1.addReg n .TLY_STAT2_STALE

/-- LAYER_ABSENT_EXPIRY. -/
def execLayerAbsentExpiry (sh : Shaft) (s : State) : Out := .next (s.layerAbsentExpiry sh)

/-! ### Waking -/

/-- Is the wait of a tally met (R192)? -/
def State.waitMet (s : State) (n : Shaft) (y : Tally) : Bool :=
  match y.waitFor with
  | .responses b => decide (y.pending ≤ b)
  | .timed b => decide (y.pending ≤ b) || s.passed n y.timer
  | _ => false

/-- R129, R192: a tally in WAIT whose condition holds returns to OPEN and is resumed. -/
def State.wake (s : State) (n : Shaft) (t : Nat) : State :=
  let y := s.tally n t
  if y.st = .wait ∧ s.waitMet n y then (s.updTally n t (fun y => { y with st := .opn, waitFor := .nothing })).sendWork n ⟨t, true⟩ else s

/-- TALLY_TIMER (R129): TIMER of a timed wait has passed. -/
def execTallyTimer (sh : Shaft) (t : Nat) (s : State) : Out :=
  .next (if s.passed sh (s.tally sh t).timer then s.wake sh t else s)

/-! ### Matching (R131) -/

/-- R478: a tub matched to a forwarding tally is relayed to the origin portal; the message, with the request's own FTAG and PORTAL, ends
the tally. -/
def State.relay (s : State) (n : Shaft) (t : Nat) (x : Tub) : State :=
  let y := s.tally n t
  if x.cls = Cls.DAT then s.lodeSend n y.portal { x with spc := false, wdog := false, ans := false }
  else
    let q : Tub := { Tub.zero with body := y.request }
    let a := ({ x with spc := false, wdog := false, ans := true }.put 16 0 q.ftag).put 6 0 (BitVec.ofNat 3 y.portal.val)
    (((s.updTally n t (fun y => { y with pending := 0 })).tallyDone n t).answerSent n t).lodeSend n y.portal a

/-- Keep a matched tub in a tub slot for the handler, or expire the tally when the free pool has none (R131). -/
def State.keepTub (s : State) (n : Shaft) (t : Nat) (x : Tub) : State :=
  match s.freeSlot n with
  | some i => ((s.takeSlot n i x).updTally n t (fun y => { y with rcvd := y.rcvd ++ [i] })).wake n t
  | none => (s.addReg n .TLY_STAT5_NO_SLOT).expire n t

/-- R131: match a tub to its tally. A late answer to a forwarding tally counts in LATE_ANSWER (R36, R140). -/
def State.matchTub (s : State) (n : Shaft) (x : Tub) : State :=
  let t := x.tally.toNat
  let y := s.tally n t
  let late := decide (y.kind = .forward) && y.expired
  let less := s.updTally n t (fun y => { y with pending := y.pending - 1 })
  if y.gen ≠ x.gen then s.addReg n .TLY_STAT2_STALE
  else match y.st with
    | .free => if late then s.addReg n .SHF_FWD_STAT2_LATE_ANSWER else s.addReg n .TLY_STAT2_STALE
    | .done =>
      if y.expired then (less.addReg n (if late then .SHF_FWD_STAT2_LATE_ANSWER else .TLY_STAT2_LATE)).tryFree n t
      else s.addReg n .TLY_STAT2_STALE
    | .opn | .wait => if y.kind = .forward then s.relay n t x else less.keepTub n t x

/-- R436: an uncorrectable Lode word, at this byte offset, was met on the way. -/
def State.lodeUncorr (s : State) (n : Shaft) (u : Option Nat) : State :=
  match u with
  | none => s
  | some o => (s.setReg n .SHF_ATTN_LODE_UNCORR 1).limEvent n 0x0C09 Sev.warning 0xFFFF (fun _ => detail o)

/-- RESPONSE_MATCH: the first tub that has reached the tally store is matched. -/
def State.responseMatch (s : State) (n : Shaft) (u : Option Nat) : State :=
  match takeFirst (fun f : Flight => decide (f.act = .tallyStore) && f.there) (s.sh n).flights with
  | none => s
  | some (f, rest) =>
    if s.lodeOut n then s
    else
      let s1 := (s.updSh n (fun h => { h with flights := rest })).leaveTransit n f.tub
      (s1.lodeUncorr n u).matchTub n f.tub

/-- RESPONSE_MATCH. -/
def execResponseMatch (sh : Shaft) (u : Option Nat) (s : State) : Out := .next (s.responseMatch sh u)

end Sys2Proof.Machine
end

