-- ==== Sys2Proof/Machine/Flags.lean ====
section
/-! DEFINITION. The flags of a hewer thread (R202) and the conditions of CMP and BR (R203). -/

namespace Sys2Proof.Machine

/-- Z and N from a result; C and V as given. -/
def Thread.flags (x : Thread) (r : DWord) (c v : Bool) : Thread := { x with z := r == 0, n := r.msb, c := c, v := v }

/-- The carry out of `a + b`. -/
def addCarry (a b : DWord) : Bool := decide (2 ^ 64 ≤ a.toNat + b.toNat)

/-- The overflow of `a + b`: the operands agree in sign and the sum does not. -/
def addOver (a b : DWord) : Bool := a.msb == b.msb && (a + b).msb != a.msb

/-- The borrow of `a - b`. -/
def subBorrow (a b : DWord) : Bool := decide (a.toNat < b.toNat)

/-- The overflow of `a - b`: the operands differ in sign and the difference differs from the first. -/
def subOver (a b : DWord) : Bool := a.msb != b.msb && (a - b).msb != a.msb

/-- R202: the flags of ADD. -/
def Thread.addFlags (x : Thread) (a b : DWord) : Thread := x.flags (a + b) (addCarry a b) (addOver a b)

/-- R202: the flags of SUB, and of CMP. -/
def Thread.subFlags (x : Thread) (a b : DWord) : Thread := x.flags (a - b) (subBorrow a b) (subOver a b)

/-- R202: the flags of the logic, shift and move instructions. -/
def Thread.logicFlags (x : Thread) (r : DWord) : Thread := x.flags r false false

/-- R203: a CMP condition on opA − opB; the ten that are not reserved. -/
def cmpCond (k : Nat) (a b : DWord) : Bool :=
  match k with
  | 0 => a == b
  | 1 => a != b
  | 2 => decide (a.toNat < b.toNat)
  | 3 => decide (b.toNat ≤ a.toNat)
  | 4 => decide (a.toInt < b.toInt)
  | 5 => decide (b.toInt ≤ a.toInt)
  | 6 => decide (a.toNat ≤ b.toNat)
  | 7 => decide (b.toNat < a.toNat)
  | 8 => decide (a.toInt ≤ b.toInt)
  | 9 => decide (b.toInt < a.toInt)
  | _ => false

/-- R203: a BR condition; the ten that are not reserved. -/
def Thread.brCond (x : Thread) (k : Nat) : Bool :=
  match k with
  | 0 => true
  | 1 => x.z
  | 2 => !x.z
  | 3 => x.n
  | 4 => !x.n
  | 5 => x.c
  | 6 => !x.c
  | 7 => x.t
  | 8 => !x.t
  | 9 => x.v
  | _ => false

end Sys2Proof.Machine
end

