-- ==== Sys2Proof/Machine/Operands.lean ====
section
/-! DEFINITION. The instruction word of a hewer (R200), its operands, and which words are legal (R201, R204). -/

namespace Sys2Proof.Machine

/-- The 64 bits of an instruction (R200). -/
def HewFields.word (i : HewFields) (op : BitVec 8) : DWord :=
  (op.setWidth 64 <<< 56) ||| (i.d.setWidth 64 <<< 52) ||| (i.a.setWidth 64 <<< 48) ||| ((if i.am then (1 : DWord) else 0) <<< 47)
    ||| ((if i.bi then (1 : DWord) else 0) <<< 46) ||| (i.b.setWidth 64 <<< 42) ||| (i.x.setWidth 64 <<< 32) ||| i.imm.setWidth 64

/-- The fields a word spells. -/
def HewFields.ofWord (w : DWord) : HewFields :=
  ⟨w.extractLsb' 52 4, w.extractLsb' 48 4, w.getLsbD 47, w.getLsbD 46, w.extractLsb' 42 4, w.extractLsb' 32 10, w.extractLsb' 0 32⟩

/-- A work register. -/
def Thread.reg (x : Thread) (r : Nat) : DWord := Tbl.get 0 x.w r

/-- R194: write a work register; `pend` says that the tally speculates. -/
def Thread.setReg (x : Thread) (r : BitVec 4) (v : DWord) (pend : Bool) : Thread :=
  { x with
    w := Tbl.set 0 x.w r.toNat v
    wt := if pend then x.wt ||| ((1 : BitVec 16) <<< r.toNat) else x.wt &&& ~~~ ((1 : BitVec 16) <<< r.toNat) }

/-- R200: operand A. -/
def Thread.opA (x : Thread) (i : HewFields) : DWord := if i.am then x.m.m (i.a.toNat % 8) else x.reg i.a.toNat

/-- R200: operand B. -/
def Thread.opB (x : Thread) (i : HewFields) : DWord := if i.bi then i.imm.signExtend 64 else x.reg i.b.toNat

/-- What the executed form of an instruction uses (R201, R204): D, A, a register B, an immediate as operand B, and the bits of X and
IMM that it gives a meaning to; `ok` says that no field holds a value it names as reserved. -/
structure Form where
  d : Bool := false
  a : Bool := false
  b : Bool := false
  bi : Bool := false
  x : BitVec 10 := 0
  imm : BitVec 32 := 0
  ok : Bool := true
  deriving DecidableEq, Repr

/-- R201: is the instruction legal by its form? -/
def Form.legal (f : Form) (i : HewFields) : Bool :=
  f.ok && (f.d || i.d == 0) && (if f.a then !(i.am && decide (8 ≤ i.a.toNat)) else i.a == 0 && !i.am) && (f.bi || !i.bi)
    && ((f.b && !i.bi) || i.b == 0) && (i.x &&& ~~~ f.x) == 0 && (i.bi || (i.imm &&& ~~~ f.imm) == 0)

/-- D, A, and B or IMM: ADD to SAR, and SEL. -/
def Form.dab : Form := { d := true, a := true, b := true, bi := true }

/-- Bit field position and width of EXT and INS (R204). -/
def HewFields.pos (i : HewFields) : Nat := (i.imm.extractLsb' 0 6).toNat
def HewFields.wid (i : HewFields) : Nat := (i.imm.extractLsb' 8 7).toNat

/-- EXT and INS. -/
def Form.field (i : HewFields) : Form :=
  { d := true, a := true, imm := 0x7F3F, ok := decide (1 ≤ i.wid) && decide (i.pos + i.wid ≤ 64) }

/-- CMP. -/
def Form.cmp (i : HewFields) : Form := { a := true, b := true, bi := true, x := 0xF, ok := decide ((i.x &&& 0xF).toNat ≤ 9) }

/-- The branches, with the bits of X they use. -/
def Form.branch (x : BitVec 10) (ok : Bool := true) : Form := { x := x, imm := 0x3FFF, ok := ok }

/-- SEND and FWDD (R205): IMM bits used besides the portal. D holds the queue for destination 0b10, IMM[18:16] the portal for 0b01. -/
def Form.send (i : HewFields) (ab : Bool) (imm : BitVec 32) : Form :=
  let k := (i.x &&& 3).toNat
  { d := decide (k = 2), a := ab, b := ab, x := 3, imm := if k = 1 then imm ||| 0x70000 else imm, ok := decide (k ≠ 3) }

/-- `w` ones from bit `p`. -/
def fieldMask (p w : Nat) : DWord := ((BitVec.allOnes 64) >>> (64 - w)) <<< p

/-- Opcode bytes of R204. -/
def hewOpcodes : List (BitVec 8) :=
  [0x01, 0x02, 0x03, 0x04, 0x05, 0x06, 0x07, 0x08, 0x09, 0x0A, 0x0B, 0x0C, 0x0D, 0x0E, 0x10, 0x11] ++
  [0x18, 0x19, 0x1A, 0x1B, 0x1C, 0x20, 0x21, 0x22, 0x23, 0x28, 0x29, 0x2A, 0x2B, 0x2C, 0x2D] ++
  [0x30, 0x31, 0x32, 0x38, 0x39, 0x3A, 0x40, 0x41, 0x48, 0x49, 0x4A, 0x50, 0x51, 0x52, 0x53, 0x58, 0x5E, 0x5F]

end Sys2Proof.Machine
end

