-- ==== Sys2Proof/Machine/Record.lean ====
section
/-! DEFINITION. The bytes of a tally record (R128, R477) and of a park record (R191), as hewers and the Cage read them. -/

namespace Sys2Proof.Machine

/-- STATE as its two bits. -/
def TState.code : TState → BitVec 2
  | .free => 0
  | .opn => 1
  | .wait => 2
  | .done => 3

/-- SPEC as its two bits. -/
def Spec.code : Spec → BitVec 2
  | .none => 0
  | .pending => 1
  | .confirmed => 2
  | .aborted => 3

/-- KIND as its three bits. -/
def Kind.code : Kind → BitVec 3
  | .line => 0
  | .haulParent => 1
  | .haulLine => 2
  | .forward => 3
  | .recall => 4

/-- The element after `t` in a list. -/
def nextOf (t : Nat) : List Nat → Option Nat
  | [] => none
  | a :: rest => if a = t then rest.head? else nextOf t rest

/-- The lock record in whose queue tally `t` waits. -/
def State.waitsIn (s : State) (n : Shaft) (t : Nat) : Option LockRec :=
  (s.sh n).locks.findSome? (fun e => match e.2 with
    | some r => if r.queue.contains t then some r else none
    | none => none)

/-- R477: the hold queue of the lowest-numbered line a recall holds that has one. -/
def State.recallQueue (s : State) (n : Shaft) (r : RecallRec) : List Nat :=
  (r.lines.findSome? (fun i => match s.lockAt n (sectorLine r.set r.tag i) with
    | some k => if k.queue = [] then none else some k.queue
    | none => none)).getD []

/-- HOLD_NEXT of a tally (R132, R477). -/
def State.holdNext (s : State) (n : Shaft) (t : Nat) : Option Nat :=
  let y := s.tally n t
  match s.waitsIn n t with
  | some r => nextOf t r.queue
  | none =>
    match y.recallRec with
    | some r => (s.recallQueue n r).head?
    | none => if y.lock then (match s.lockAt n y.line with
        | some k => k.queue.head?
        | none => none) else none

/-- HOLD_TAIL of a tally (R132, R477). -/
def State.holdTail (s : State) (n : Shaft) (t : Nat) : Option Nat :=
  let y := s.tally n t
  match y.recallRec with
  | some r => if y.kind = .recall then (s.recallQueue n r).getLast? else y.holdTail
  | none => y.holdTail

/-- A tally number with its valid bit above. -/
def optNum (o : Option Nat) : BitVec 16 :=
  match o with
  | some t => BitVec.ofNat 16 (t % 2 ^ 15 + 2 ^ 15)
  | none => 0

/-- A one-bit vector. -/
def bv1 (b : Bool) : BitVec 1 := if b then 1 else 0

/-- The 128 bytes of a tally (R128). -/
def State.record (s : State) (n : Shaft) (t : Nat) : BitVec 1024 :=
  let y := s.tally n t
  let run : BitVec 16 := match y.run with
    | some (h, k) => BitVec.ofNat 16 (h % 64 + 64 * (k % 16) + 2 ^ 15)
    | none => 0
  let p {w : Nat} (b lo : Nat) (v : BitVec w) (x : BitVec 1024) : BitVec 1024 := putBits x (8 * b + lo) v
  (p 0 0 y.st.code <| p 0 2 y.spec.code <| p 0 4 (bv1 y.epoch) <| p 0 5 (bv1 y.lock) <| p 0 6 (bv1 y.parked) <|
   p 0 7 (bv1 y.expired) <| p 1 0 y.kind.code <| p 1 3 y.prior <| p 1 6 (bv1 y.trapped) <| p 2 0 y.gen <|
   p 3 0 (BitVec.ofNat 3 y.portal.val) <| p 4 0 y.agent <| p 6 0 (BitVec.ofNat 13 y.pending) <| p 8 0 y.lineAddr <|
   p 16 0 y.deadline <| p 20 0 y.stamp <| p 24 0 (optNum (s.holdNext n t)) <| p 26 0 (optNum (s.holdTail n t)) <|
   p 28 0 (optNum y.parent) <| p 30 0 y.lines <| p 31 0 (BitVec.ofNat 7 y.linesLeft) <| p 32 0 y.lineFail <|
   p 40 0 run <| p 42 0 y.timer <| p 48 0 y.request <| p 112 0 y.scratch 0)

/-- The 40 bytes of a park record (R191). -/
def Park.bits (k : Park) : BitVec 320 :=
  let p {w : Nat} (b lo : Nat) (v : BitVec w) (x : BitVec 320) : BitVec 320 := putBits x (8 * b + lo) v
  (p 0 0 k.resume <| p 1 6 (bv1 k.valid) <| p 2 0 k.flags <| p 3 0 k.taintW <| p 3 4 (bv1 k.taintS) <| p 8 0 k.w0 <| p 16 0 k.w1 <|
   p 24 0 k.w2 <| p 32 0 k.w3 0)

end Sys2Proof.Machine
end

