-- ==== Sys2Proof/Machine/Hewer.lean ====
section
/-! DEFINITION. One step of a hewer thread (R184, R185): its fetch and checks (R201, R209, R220, R222), traps (R209 to R211) and the
retirement of a hewer (R218 to R220). -/

namespace Sys2Proof.Machine

/-- Trap causes (R209). -/
def Cause.ILLEGAL : Nat := 1
def Cause.BOUNDS : Nat := 2
def Cause.SPEC : Nat := 3
def Cause.DAYLIGHT : Nat := 4
def Cause.DIR : Nat := 5
def Cause.STEP_LIMIT : Nat := 6
def Cause.NO_HANDLER : Nat := 7
def Cause.REG : Nat := 8
def Cause.STORE : Nat := 9
def Cause.TEMPLATE : Nat := 10

/-! ### Retirement -/

/-- The ROLE of a hewer: 0 ACTIVE, 1 SPARE, 2 DRAINING, 3 RETIRED, 4 UNDER_TEST (R223). -/
def State.hewRole (s : State) (n : Shaft) (h : Nat) : Nat := s.reg n .HWR_UNIT_ROLE h

/-- The spare of hewer `h`'s cluster (R27, R219). -/
def State.clusterSpare (s : State) (n : Shaft) (h : Nat) : Option Nat :=
  ((List.range 13).map (fun i => 13 * (h / 13) + i)).find? (fun g => decide (s.hewRole n g = 1))

/-- Set RETIRE_STAT.RESULT. -/
def State.retireResult (s : State) (n : Shaft) (r : Nat) : State := s.setReg n .HWR_RETIRE_STAT_RESULT r

/-- R218, R219: hewer `h` is retired for `reason`: 1 host, 2 register error. -/
def State.retireHewer (s : State) (n : Shaft) (h reason : Nat) (force : Bool) : State :=
  let c := s.clusterSpare n h
  if s.hewRole n h ≠ 0 then s.retireResult n 2
  else if c = none ∧ !force then s.retireResult n 3
  else
    let s1 := match c with
      | some g => s.setReg n .HWR_UNIT_ROLE 0 g
      | none => s
    ((s1.setReg n .HWR_UNIT_ROLE 2 h).setReg n .HWR_RETIRE_STAT_BUSY 1).updSh n
      (fun x => { x with retiring := x.retiring ++ [⟨h, reason, c⟩] })

/-- The write of HWR.RETIRE with GO 1 (R218). -/
def State.retireCmd (s : State) (n : Shaft) (h : Nat) (force : Bool) : State :=
  if (s.sh n).retiring = [] then s.retireHewer n h 1 force else s.retireResult n 4

/-! ### Traps -/

/-- R187: the dispatch key of a tally. -/
def State.dispatchKey (s : State) (n : Shaft) (t : Nat) : Nat :=
  let y := s.tally n t
  if y.kind = .recall then 2048 + s.reg n .DIR_CFG_RECALL_OP * 8 + y.prior.toNat
  else (y.request.extractLsb' 0 8).toNat * 8 + y.prior.toNat

/-- The trap log (R211), written while HELD is 0. -/
def State.trapLog (s : State) (n : Shaft) (h k t cause pc key : Nat) (word : DWord) : State :=
  if s.regB n .HWR_TRAP_LOG0_HELD then s
  else
    (((((((((s.setReg n .HWR_TRAP_LOG0_CAUSE cause).setReg n .HWR_TRAP_LOG0_HEWER h).setReg n .HWR_TRAP_LOG0_THREAD k).setReg n
      .HWR_TRAP_LOG0_EPOCH (bit (s.tally n t).epoch)).setReg n .HWR_TRAP_LOG0_PC pc).setReg n .HWR_TRAP_LOG0_HELD 1).setReg n
      .HWR_TRAP_LOG1_TALLY t).setReg n .HWR_TRAP_LOG1_KEY key).setReg n .HWR_TRAP_LOG2_INSTR_LO (word.extractLsb' 0 32).toNat).setReg n
      .HWR_TRAP_LOG3_INSTR_HI (word.extractLsb' 32 32).toNat

/-- R211: a trap is counted, logged and raised. -/
def State.trapCount (s : State) (n : Shaft) (h k t cause pc key : Nat) (word : DWord) : State :=
  let s1 := ((s.addReg n .HWR_STAT_TRAPS).addReg n .HWR_UNIT_TRAPS h).trapLog n h k t cause pc key word
  let s2 := if cause = Cause.NO_HANDLER then s1.addReg n .HWR_STAT_NO_HANDLER else s1
  s2.limEvent n 0x0401 Sev.notice h (fun c => detail (cause + 256 * k + 65536 * pc) (t + 65536 * key) c)

/-- R210, R365: the ERROR answer of a trapped LINE tally leaves. -/
def State.errorAnswer (s : State) (n : Shaft) (t : Nat) : State :=
  let y := s.tally n t
  if y.errorWaits && decide (y.sp.transit = 0) then (s.answerSent n t).lodeSend n y.portal (s.tallyAnswer n t Ans.ERROR false) else s

/-- TRAP_ERROR_ANSWER (R365). -/
def execTrapErrorAnswer (sh : Shaft) (t : Nat) (s : State) : Out := .next (s.errorAnswer sh t)

/-- R209, R210: tally `t` traps on thread `k` of hewer `h`, at `pc`. -/
def State.hewTrap (s : State) (n : Shaft) (h k t cause pc : Nat) (word : DWord) : State :=
  let key := s.dispatchKey n t
  let s1 := ((s.trapCount n h k t cause pc key word).specAbort n t).endThread n t
  let s2 := (s1.tallyDone n t).updTally n t (fun y => { y with trapped := true, setst := none, prov := none })
  match (s.tally n t).kind with
  | .line => s2.errorAnswer n t
  | .haulLine => s2.failLine n t (.router (hewerRouter h))
  | _ => s2.tryFree n t

/-! ### The store -/

/-- The microcode word at `pc` of a bank (R197). -/
def State.codeWord (s : State) (n : Shaft) (b : Bool) (pc : Nat) : DWord := Tbl.get 0 ((s.sh n).bank b).code pc

/-- The parts of a bank as HWR_STORE_UNCORR numbers them (R223). -/
def BankPart.num : BankPart → Nat
  | .code => 1
  | .dispatch => 2
  | .template => 3

/-- Write LOADED of a bank. -/
def State.setLoaded (s : State) (n : Shaft) (b v : Bool) : State :=
  s.setReg n (if b then .HWR_EPOCH_LOADED1 else .HWR_EPOCH_LOADED0) (bit v)

/-- R222: what the check of word `i` of a bank part in cluster `c` found. -/
def State.storeCheck (s : State) (n : Shaft) (c : Nat) (b : Bool) (p : BankPart) (i : Nat) (u : StoreCheck) : State :=
  match u with
  | .good => s
  | .corrected => s.addReg n .HWR_STAT2_STORE_CORR
  | .refetched => s.addReg n .HWR_STAT2_STORE_REFETCH
  | .lost => (s.setLoaded n b false).shEvent n 0x0405 Sev.warning c (detail (bit b + 65536 * i) p.num)

/-! ### The step -/

/-- A step of thread `k` of hewer `h`: its tally, its instruction, and the thread and tally as they stood. -/
structure Hew where
  n : Shaft
  h : Nat
  k : Nat
  tp : Nat
  i : HewFields
  x : Thread
  y : Tally
  deriving DecidableEq, Repr

/-- What an instruction does: trap, go on to the next address, jump, release the thread, or not issue yet. -/
inductive HewRes
  | trap (cause : Nat)
  | go (s : State)
  | jump (s : State) (pc : BitVec 14)
  | released (s : State)
  | stay (s : State)

/-- The tally speculates. -/
def Hew.pend (c : Hew) : Bool := decide (c.y.spec = .pending)

def Hew.opA (c : Hew) : DWord := c.x.opA c.i
def Hew.opB (c : Hew) : DWord := c.x.opB c.i

/-- Leave the thread as `x`; the step itself moves PC. -/
def Hew.put (c : Hew) (s : State) (x : Thread) : State := s.updThread c.n c.h c.k (fun _ => x)

/-- Wd = `v`. -/
def Hew.wd (c : Hew) (v : DWord) : Thread := c.x.setReg c.i.d v c.pend

/-- Wd = `v`, nothing else. -/
def Hew.write (c : Hew) (s : State) (v : DWord) : HewRes := .go (c.put s (c.wd v))

/-- Trap the step's tally. -/
def Hew.trap (c : Hew) (s : State) (cause : Nat) (word : DWord) : State := s.hewTrap c.n c.h c.k c.tp cause c.x.pc.toNat word

/-- R208, R209: carry out what an instruction does. An instruction at the last address that does not branch traps BOUNDS. -/
def Hew.finish (c : Hew) (s : State) (word : DWord) (r : HewRes) : State :=
  let step (a : State) (pc : BitVec 14) : State := a.updThread c.n c.h c.k (fun x => { x with pc := pc, steps := x.steps + 1 })
  match r with
  | .trap cause => c.trap s cause word
  | .go a => if c.x.pc = 16383 then c.trap s Cause.BOUNDS word else step a (c.x.pc + 1)
  | .jump a pc => step a pc
  | .released a => a
  | .stay a => a

/-- May thread `k` of hewer `h` issue: the hewers work, the thread runs a tally and waits for nothing? -/
def State.hewReady (s : State) (n : Shaft) (h k : Nat) : Bool :=
  decide (h < 52) && decide (k < 16) && !s.seamsOut n && !s.shGated n .HWR && decide ((s.thread n h k).stall = .none)

/-- Does an instruction fetch template IMM[7:0] (R205 to R207): SEND, SNPX, MRD, MRDS, MWR, and END of a LINE tally? -/
def Hew.fetchesTemplate (c : Hew) (word : DWord) : Bool :=
  let op := word.extractLsb' 56 8
  op == 0x30 || op == 0x31 || op == 0x38 || op == 0x39 || op == 0x3A || (op == 0x5F && decide (c.y.kind = .line))

/-- The step once its word is fetched: the checks in order, then the instruction. An uncorrectable word shows as a free value in the
trap log. -/
def Hew.run (c : Hew) (s : State) (u : StepCheck) (word : DWord) (f : Form) (body : Hew → State → HewRes) : State :=
  let s1 := s.storeCheck c.n (c.h / 13) c.y.epoch .code c.x.pc.toNat u.store
  let s2 := if u.regCorrected then s1.addReg c.n .HWR_UNIT_REG_CORR c.h else s1
  let s3 := if c.fetchesTemplate word then s2.storeCheck c.n (c.h / 13) c.y.epoch .template (c.i.imm.toNat % 256) u.template else s2
  if s.reg c.n .HWR_CFG_STEP_LIMIT ≤ c.x.steps then c.trap s2 Cause.STEP_LIMIT word
  else if u.store = .lost then
    let r := s2.free
    c.trap r.2 Cause.STORE (BitVec.ofNat 64 (Config.freeValue r.1))
  else if u.regLost then (c.trap s2 Cause.REG word).retireHewer c.n c.h 2 true
  else if !f.legal c.i then c.trap s2 Cause.ILLEGAL word
  else if c.fetchesTemplate word ∧ u.template = .lost then c.trap s3 Cause.STORE word
  else c.finish s3 word (body c s3)

/-- One step: the word at PC of the tally's bank is this instruction. -/
def State.hewStep (s : State) (n : Shaft) (h k : Nat) (op : BitVec 8) (i : HewFields) (u : StepCheck) (f : Hew → Form)
    (body : Hew → State → HewRes) : State :=
  let x := s.thread n h k
  match x.tally with
  | none => s
  | some t =>
    let y := s.tally n t
    let c : Hew := ⟨n, h, k, t, i, x, y⟩
    if s.hewReady n h k && s.codeWord n y.epoch x.pc.toNat == i.word op then c.run s u (i.word op) (f c) body else s

end Sys2Proof.Machine
end

