-- ==== Sys2Proof/Machine/Banks.lean ====
section
/-! DEFINITION. Dispatch and resume (R187 to R193), the microcode banks (R197, R212 to R214, R222) and the end of a retirement (R218). -/

namespace Sys2Proof.Machine

/-! ### Dispatch and resume -/

/-- R189: the ACTIVE hewer of cluster `c` with the most free threads, the lowest on a tie; none when it has no free thread. -/
def State.clusterPick (s : State) (n : Shaft) (c : Nat) : Option Nat :=
  (List.range 13).foldl
    (fun (a : Option Nat) i =>
      let h := 13 * c + i
      let b := s.busyThreads n h
      if s.hewRole n h ≠ 0 ∨ 16 ≤ b then a
      else match a with
        | none => some h
        | some g => if b < s.busyThreads n g then some h else a) none

/-- The lowest free thread of a hewer. -/
def State.threadPick (s : State) (n : Shaft) (h : Nat) : Option Nat :=
  (List.range 16).find? (fun k => decide ((s.thread n h k).tally = none))

/-- R189: the clusters in turn: the hewer and thread that take the next work. -/
def State.place (s : State) (n : Shaft) : Option (Nat × Nat) :=
  ([0, 1, 2, 3].map (fun i => ((s.sh n).turn + i) % 4)).findSome? (fun c =>
    match s.clusterPick n c with
    | none => none
    | some h => (s.threadPick n h).map (fun k => (h, k)))

/-- Thread `k` of hewer `h` takes the work at the head of the dispatch queue. -/
def State.takeWork (s : State) (n : Shaft) (h : Nat) : State :=
  s.updSh n (fun x => { x with dispatchQ := x.dispatchQ.drop 1, turn := (h / 13 + 1) % 4 })

/-- Tally `t` runs on a thread that starts as `x`. -/
def State.startThread (s : State) (n : Shaft) (h k t : Nat) (x : Thread) : State :=
  (s.updThread n h k (fun _ => x)).updTally n t (fun y => { y with run := some (h, k) })

/-- R188, R190: the dispatch of tally `t` reaches thread `k` of hewer `h`; `u` is the check of the dispatch entry's word. -/
def State.dispatchOn (s : State) (n : Shaft) (h k t : Nat) (u : StoreCheck) : State :=
  let y := s.tally n t
  let key := s.dispatchKey n t
  let e := Tbl.get 0 ((s.sh n).bank y.epoch).dispatch key
  let pc : BitVec 14 := e.setWidth 14
  let s1 := s.storeCheck n (h / 13) y.epoch .dispatch (key / 2) u
  if u = .lost then
    let r := s1.free
    let q := r.2.free
    q.2.hewTrap n h k t Cause.STORE (Config.freeValue r.1 % 16384) (BitVec.ofNat 64 (Config.freeValue q.1))
  else if e.getLsbD 16 then s1.startThread n h k t { Thread.idle with tally := some t, pc := pc, m := y.view }
  else s1.hewTrap n h k t Cause.NO_HANDLER pc.toNat 0

/-- DISPATCH (R189): the head of the dispatch queue, a dispatch, reaches a free thread. -/
def State.dispatch (s : State) (n : Shaft) (u : StoreCheck) : State :=
  match (s.sh n).dispatchQ.head? with
  | some w =>
    match s.place n with
    | some (h, k) =>
      if w.resume || s.seamsOut n || s.shGated n .HWR then s else (s.takeWork n h).dispatchOn n h k w.tally u
    | none => s
  | none => s

/-- DISPATCH. -/
def execDispatch (sh : Shaft) (u : StoreCheck) (s : State) : Out := .next (s.dispatch sh u)

/-- R192: the thread of a resumed tally. -/
def Tally.resumed (y : Tally) (t : Nat) : Thread :=
  let k := y.park
  let w := Tbl.set 0 (Tbl.set 0 (Tbl.set 0 (Tbl.set 0 [] 0 k.w0) 1 k.w1) 2 k.w2) 3 k.w3
  { Thread.idle with
    tally := some t, pc := k.resume, w := w, wt := k.taintW.setWidth 16, m := y.view
    z := k.flags.getLsbD 0, n := k.flags.getLsbD 1, c := k.flags.getLsbD 2, v := k.flags.getLsbD 3, t := k.flags.getLsbD 4 }

/-- RESUME (R192): the head of the dispatch queue, a resume, reaches a free thread. -/
def State.resume (s : State) (n : Shaft) : State :=
  match (s.sh n).dispatchQ.head? with
  | some w =>
    match s.place n with
    | some (h, k) =>
      if !w.resume || s.seamsOut n || s.shGated n .HWR then s
      else
        ((s.takeWork n h).startThread n h k w.tally ((s.tally n w.tally).resumed w.tally)).updTally n w.tally
          (fun y => { y with park := { y.park with valid := false } })
    | none => s
  | none => s

/-- RESUME. -/
def execResume (sh : Shaft) (s : State) : Out := .next (s.resume sh)

/-! ### Banks -/

/-- 64-bit words of a bank part. -/
def BankPart.words : BankPart → Nat
  | .code | .dispatch => 16384
  | .template => 2304

/-- STORE_PATROL (R222): the patrol reads word `i` of a part of bank `b` in cluster `c`. -/
def State.storePatrol (s : State) (n : Shaft) (c : Nat) (b : Bool) (p : BankPart) (i : Nat) (u : StoreCheck) : State :=
  if s.seamsOut n || s.shGated n .HWR || decide (4 ≤ c) || decide (p.words ≤ i) then s else s.storeCheck n c b p i u

/-- STORE_PATROL. -/
def execStorePatrol (sh : Shaft) (c : Nat) (b : Bool) (part : BankPart) (i : Nat) (u : StoreCheck) (s : State) : Out :=
  .next (s.storePatrol sh c b part i u)

/-- Change a microcode bank. -/
def State.updBank (s : State) (n : Shaft) (b : Bool) (f : Bank → Bank) : State :=
  s.updSh n (fun h => if b then { h with bank1 := f h.bank1 } else { h with bank0 := f h.bank0 })

/-- Half `hi` of a doubleword replaced. -/
def putHalf (x : DWord) (hi : Bool) (v : Word) : DWord := putBits x (if hi then 32 else 0) v

/-- A bank with half `hi` of word `i` of a part written: of the DISPATCH part, entries 2i and 2i + 1, whose reserved bits stay 0 (R188, R15); of the
TEMPLATE part, the eight
words of each body and then its control word. -/
def Bank.put (k : Bank) (p : BankPart) (i : Nat) (hi : Bool) (v : Word) : Bank :=
  match p with
  | .code => { k with code := Tbl.upd 0 k.code i (fun x => putHalf x hi v) }
  | .dispatch => { k with dispatch := Tbl.set 0 k.dispatch (2 * i + if hi then 1 else 0) (v &&& 0x13FFF) }
  | .template =>
    if i % 9 = 8 then { k with control := Tbl.upd 0 k.control (i / 9) (fun x => putHalf x hi v) }
    else { k with body := Tbl.upd 0 k.body (i / 9) (fun x => putBits x (64 * (i % 9) + if hi then 32 else 0) v) }

/-- Half `hi` of word `i` of a part. -/
def Bank.half (k : Bank) (p : BankPart) (i : Nat) (hi : Bool) : Word :=
  let o := if hi then 32 else 0
  match p with
  | .code => (Tbl.get 0 k.code i).extractLsb' o 32
  | .dispatch => Tbl.get 0 k.dispatch (2 * i + if hi then 1 else 0) &&& 0x13FFF
  | .template =>
    if i % 9 = 8 then (Tbl.get 0 k.control (i / 9)).extractLsb' o 32
    else (Tbl.get 0 k.body (i / 9)).extractLsb' (64 * (i % 9) + o) 32

/-- R212: a bank serves no tally. -/
def State.bankIdle (s : State) (n : Shaft) (b : Bool) : Bool := s.epoch n != b && decide (s.epochCount n b = 0)

/-- R213, R391: a Cage write to a bank is accepted while it is IDLE and no flip is armed. -/
def State.bankOpen (s : State) (n : Shaft) (b : Bool) : Bool := s.bankIdle n b && !s.regB n .HWR_EPOCH_ARMED

/-- R213: an accepted write clears LOADED. -/
def State.bankPut (s : State) (n : Shaft) (b : Bool) (p : BankPart) (i : Nat) (hi : Bool) (v : Word) : State :=
  (s.updBank n b (fun k => k.put p i hi v)).setLoaded n b false

/-- R213: the bytes a seal covers: CODE, DISPATCH, then each template's body and control word. -/
def Bank.bytes (k : Bank) : List Byte :=
  ((List.range 16384).flatMap (fun i => leBytes 8 (Tbl.get 0 k.code i))) ++
  ((List.range 32768).flatMap (fun i => leBytes 4 (Tbl.get 0 k.dispatch i))) ++
  ((List.range 256).flatMap (fun i => leBytes 64 (Tbl.get 0 k.body i) ++ leBytes 8 (Tbl.get 0 k.control i)))

/-- The write of HWR.BANK_CTL with SEAL 1 (R213). -/
def State.sealCmd (s : State) (n : Shaft) (b : Bool) : State :=
  if s.regB n .HWR_BANK_STAT_BUSY then s.setReg n .HWR_BANK_STAT_LOST 1
  else if !s.bankIdle n b then s.setReg n .HWR_BANK_STAT_RESULT 3
  else (s.setReg n .HWR_BANK_STAT_BUSY 1).updSh n (fun h => { h with sealing := some b })

/-- SEAL_DONE (R213). -/
def State.sealDone (s : State) (n : Shaft) : State :=
  match (s.sh n).sealing with
  | none => s
  | some b =>
    let s1 := (s.setReg n .HWR_BANK_STAT_BUSY 0).updSh n (fun h => { h with sealing := none })
    if (crc32 ((s.sh n).bank b).bytes).toNat = s.reg n .HWR_BANK_CRC_CRC then (s1.setReg n .HWR_BANK_STAT_RESULT 1).setLoaded n b true
    else s1.setReg n .HWR_BANK_STAT_RESULT 2

/-- SEAL_DONE. -/
def execSealDone (sh : Shaft) (s : State) : Out := .next (s.sealDone sh)

/-- Is bank `b` loaded? -/
def State.bankLoaded (s : State) (n : Shaft) (b : Bool) : Bool := s.regB n (if b then .HWR_EPOCH_LOADED1 else .HWR_EPOCH_LOADED0)

/-- R214: the flip itself: EPOCH_FLIP is raised, and EPOCH_FREE is due. -/
def State.flipNow (s : State) (n : Shaft) : State :=
  let old := s.epoch n
  (((s.setReg n .HWR_EPOCH_CURRENT (bit !old)).setReg n .HWR_FLIP_STAT_RESULT 1).updSh n (fun h => { h with flipAt := some s.up })).shEvent
    n 0x0403 Sev.info 0xFFFF (detail (bit !old) (s.epochCount n old))

/-- The write of HWR.FLIP with GO 1 (R214, R216). -/
def State.flipCmd (s : State) (n : Shaft) : State :=
  let new := !s.epoch n
  if s.regB n .HWR_EPOCH_ARMED then s.setReg n .HWR_FLIP_STAT_RESULT 4
  else if 0 < s.epochCount n new then s.setReg n .HWR_FLIP_STAT_RESULT 2
  else if !s.bankLoaded n new then s.setReg n .HWR_FLIP_STAT_RESULT 3
  else s.flipNow n

/-- EPOCH_FREE (R214): the old bank of a flip serves no tally any more. -/
def State.epochFree (s : State) (n : Shaft) : State :=
  match (s.sh n).flipAt with
  | none => s
  | some t =>
    let old := !s.epoch n
    if 0 < s.epochCount n old then s
    else
      let ns := 1000 * (s.up - t)
      (s.updSh n (fun h => { h with flipAt := none })).shEvent n 0x0404 Sev.info 0xFFFF (detail (bit old) ns (ns / 2 ^ 32))

/-- EPOCH_FREE. -/
def execEpochFree (sh : Shaft) (s : State) : Out := .next (s.epochFree sh)

/-! ### The end of a retirement -/

/-- HWR_RETIRED (R218): the first draining hewer without a running thread is RETIRED. -/
def State.hwrRetired (s : State) (n : Shaft) : State :=
  match takeFirst (fun r : Retirement => decide (s.busyThreads n r.hewer = 0)) (s.sh n).retiring with
  | none => s
  | some (r, rest) =>
    ((((s.updSh n (fun h => { h with retiring := rest })).setReg n .HWR_UNIT_ROLE 3 r.hewer).setReg n .HWR_RETIRE_STAT_BUSY
      (bit (!rest.isEmpty))).retireResult n 1).shEvent n 0x0402 Sev.warning r.hewer (detail (r.reason + 256 * r.cover.getD 0xFF))

/-- HWR_RETIRED. -/
def execHwrRetired (sh : Shaft) (s : State) : Out := .next (s.hwrRetired sh)

end Sys2Proof.Machine
end

