-- ==== Sys2Proof/Machine/Bytes.lean ====
section
/-! DEFINITION. Byte memories: sparse lists of (address, byte) pairs in canonical form. -/

namespace Sys2Proof.Machine

/-- A byte of a byte memory; `d` is what an unlisted address holds. -/
def memGet (d : Byte) (m : List Host.Cell) (a : Nat) : Byte := Tbl.get d m a

/-- Write a byte of a byte memory. -/
def memSet (d : Byte) (m : List Host.Cell) (a : Nat) (v : Byte) : List Host.Cell := Tbl.set d m a v

/-- The canonical form of a byte memory. -/
abbrev Memory.wf (d : Byte) (m : List Host.Cell) : Bool := Tbl.wf d m

/-- Write bytes from address `a` upward. -/
def memPut (d : Byte) : List Byte → Nat → List Host.Cell → List Host.Cell
  | [], _, m => m
  | b :: t, a, m => memPut d t (a + 1) (memSet d m a b)

/-- `k` bytes from address `a` upward. -/
def memTake (d : Byte) (m : List Host.Cell) (a k : Nat) : List Byte := (List.range k).map (fun i => memGet d m (a + i))

end Sys2Proof.Machine
end

