-- ==== Sys2Proof/Machine/BlockMem.lean ====
section
/-! DEFINITION. Block memories (R286 to R290): what an address selects by its aspect, and one cycle of the two ports of a memory. -/

namespace Sys2Proof.Machine

/-- Where a byte of a block-memory row stands in `ShaftSt.blk`: data bytes 0 to 7, then the side byte (R292). -/
def blkByte (m row b : Nat) : Nat := 0x1800 * m + 12 * row + b

/-- A row as its 72 storage bits (R287). -/
def blkRow (c : List Host.Cell) (m row : Nat) : BitVec 72 := BitVec.ofNat 72 (leNat (memTake 0 c (blkByte m row 0) 9))

/-- Write a row. -/
def blkPutRow (c : List Host.Cell) (m row : Nat) (v : BitVec 72) : List Host.Cell :=
  memPut 0 ((List.range 9).map (fun b => v.extractLsb' (8 * b) 8)) (blkByte m row 0) c

/-- ASPECT of a port, with side bits: 0x8 to 0xB (R287). -/
def sideAspect (asp : Nat) : Bool := decide (8 ≤ asp)

/-- The row an address selects (R287). -/
def aspectRow (asp a : Nat) : Nat := (if sideAspect asp then a / 2 ^ (3 - (asp - 8)) else a / 2 ^ (6 - asp)) % 512

/-- The storage bit of its row that bit `i` of the port word stands for (R287): data bits upward; in the aspects with side bits a lane is a byte with its
side bit. -/
def aspectBit (asp a i : Nat) : Nat :=
  if sideAspect asp then
    let byte := 2 ^ (asp - 8) * (a % 2 ^ (3 - (asp - 8))) + i / 9
    if i % 9 = 8 then 64 + byte else 8 * byte + i % 9
  else 2 ^ asp * (a % 2 ^ (6 - asp)) + i

/-- The width of a port word. -/
def aspectWidth (asp : Nat) : Nat := if sideAspect asp then 9 * 2 ^ (asp - 8) else 2 ^ asp

/-- R288: is bit `i` of a port word enabled for writing? Aspects of 16 bits and more have an enable for each byte or lane. -/
def BlkReq.enabled (r : BlkReq) (asp i : Nat) : Bool :=
  if asp = 8 ∨ asp ≤ 3 then true else r.enables.getLsbD (i / (if sideAspect asp then 9 else 8))

/-- The storage bits of its row that an access addresses. -/
def BlkReq.mask (r : BlkReq) (asp : Nat) : BitVec 72 :=
  (List.range (aspectWidth asp)).foldl (fun (m : BitVec 72) i => m ||| ((1 : BitVec 72) <<< aspectBit asp r.addr.toNat i)) 0

/-- The storage bits an access writes. -/
def BlkReq.writes (r : BlkReq) (asp : Nat) : BitVec 72 :=
  if r.write then
    (List.range (aspectWidth asp)).foldl
      (fun (m : BitVec 72) i => if r.enabled asp i then m ||| ((1 : BitVec 72) <<< aspectBit asp r.addr.toNat i) else m) 0
  else 0

/-- The port word laid over its storage bits. -/
def BlkReq.spread (r : BlkReq) (asp : Nat) : BitVec 72 :=
  (List.range (aspectWidth asp)).foldl
    (fun (m : BitVec 72) i => if r.data.getLsbD i then m ||| ((1 : BitVec 72) <<< aspectBit asp r.addr.toNat i) else m) 0

/-- The port word a row shows at an access's address. -/
def BlkReq.gather (r : BlkReq) (asp : Nat) (row : BitVec 72) : BitVec 72 :=
  (List.range (aspectWidth asp)).foldl
    (fun (m : BitVec 72) i => if row.getLsbD (aspectBit asp r.addr.toNat i) then m ||| ((1 : BitVec 72) <<< i) else m) 0

/-- The row an access reaches. -/
def BlkReq.row (r : BlkReq) (asp : Nat) : Nat := aspectRow asp r.addr.toNat

/-- Write what an access writes. -/
def blkWrite (c : List Host.Cell) (m asp : Nat) (r : BlkReq) : List Host.Cell :=
  let w := r.writes asp
  if w = 0 then c else blkPutRow c m (r.row asp) ((blkRow c m (r.row asp) &&& ~~~ w) ||| (r.spread asp &&& w))

/-- ASPECT and read-on-write mode of port A (`false`) or B, from the settings BLK.PORT shows (R298). -/
def portAspect (x : BitVec 13) (b : Bool) : Nat := (x.extractLsb' (if b then 4 else 0) 4).toNat
def portMode (x : BitVec 13) (b : Bool) : Nat := (x.extractLsb' (if b then 10 else 8) 2).toNat

/-- USED of a memory. -/
def portUsed (x : BitVec 13) : Bool := x.getLsbD 12

/-- The settings of memory `j` of a stope in a plane of it (R302). -/
def planePort (p : Tbl (BitVec 1024)) (j : Nat) : BitVec 13 := Config.blkPort ((Tbl.get 0 p (960 + j / 8)).extractLsb' (128 * (j % 8)) 128)

/-- What a cycle of a memory leaves: its contents, the read output of each port that has one, and port B's collision output. -/
structure BlkOut where
  cells : List Host.Cell
  a : Option (BitVec 72)
  b : Option (BitVec 72)
  coll : Bool
  deriving DecidableEq, Repr

/-- R289, R290: the read output of an access, from the memory before and after the cycle; `kept` is the output of the port's previous read. -/
def readOut (x : BitVec 13) (b : Bool) (r : Option BlkReq) (before after : List Host.Cell) (m : Nat) (kept : BitVec 72) : Option (BitVec 72) :=
  r.map (fun r =>
    let asp := portAspect x b
    if !r.write then r.gather asp (blkRow before m (r.row asp))
    else match portMode x b with
      | 0 => r.gather asp (blkRow after m (r.row asp))
      | 1 => r.gather asp (blkRow before m (r.row asp))
      | _ => kept)

/-- R288 to R290: one cycle of memory `m`. Port A's data stands where both ports write, and port B shows a collision then. -/
def blkCycle (c : List Host.Cell) (m : Nat) (x : BitVec 13) (ra rb : Option BlkReq) (ka kb : BitVec 72) : BlkOut :=
  let pa := portAspect x false
  let pb := portAspect x true
  let c1 := match rb with
    | some r => blkWrite c m pb r
    | none => c
  let c2 := match ra with
    | some r => blkWrite c1 m pa r
    | none => c1
  { cells := c2
    a := readOut x false ra c c2 m ka
    b := readOut x true rb c c2 m kb
    coll := match ra, rb with
      | some r, some q => decide (r.row pa = q.row pb) && decide (r.writes pa &&& q.writes pb ≠ 0)
      | _, _ => false }

end Sys2Proof.Machine
end

