-- ==== Sys2Proof/Machine/Fabric.lean ====
section
/-! DEFINITION. The logic of a stope (R267 to R290): cells, joiners and carry chains, routing over tiles and stope boundaries, the overlay of a
compatibility stope, flip-flops, and the ports of its block memories. -/

namespace Sys2Proof.Machine

/-! ### Tiles and stopes (R26, R272) -/

/-- The tile beside tile `t` of the same stope on face `f` (0 to 3: north, east, south, west), if there is one. -/
def tileBeside (t f : Nat) : Option Nat :=
  match f with
  | 0 => if t / 32 < 15 then some (t + 32) else none
  | 1 => if t % 32 < 31 then some (t + 1) else none
  | 2 => if 32 ≤ t then some (t - 32) else none
  | 3 => if 0 < t % 32 then some (t - 1) else none
  | _ => none

/-- The stope beside stope element `k` on face `f`, if there is one: the mesh of R26 with row and column rising as the tiles' y and x do; face to face, its
partner on the other Seam. -/
def stopeBeside (k f : Nat) : Option Nat :=
  match f with
  | 0 => if k % 64 / 8 < 7 then some (k + 8) else none
  | 1 => if k % 8 < 7 then some (k + 1) else none
  | 2 => if 0 < k % 64 / 8 then some (k - 8) else none
  | 3 => if 0 < k % 8 then some (k - 1) else none
  | _ => some ((k + 64) % 128)

/-- The face of the neighbour that meets face `f`. -/
def faceAcross (f : Nat) : Nat := if f = 4 then 4 else (f + 2) % 4

/-- The tile of the neighbouring stope that meets tile `t` across face `f`. -/
def tileAcross (t f : Nat) : Nat :=
  match f with
  | 0 => t % 32
  | 1 => t - 31
  | 2 => t % 32 + 480
  | 3 => t + 31
  | _ => t

/-- The number of a boundary wire of a stope, outgoing or incoming: 24 for each of the five faces of each tile. -/
def wireNo (t f i : Nat) : Nat := 120 * t + 24 * f + i

/-! ### What a context sets -/

/-- The frames of tile column `x` in a plane (R302), numbered from 0. -/
def columnFrames (p : Tbl (BitVec 1024)) (x : Nat) : List (Nat × BitVec 1024) :=
  (p.filter (fun e => decide (30 * x ≤ e.1) && decide (e.1 < 30 * x + 30))).map (fun e => (e.1 - 30 * x, e.2))

/-- The setting of cell `c` of tile `t` in a plane, and of the tile. -/
def cellCfg (p : Tbl (BitVec 1024)) (t c : Nat) : CellCfg := Config.cell (columnFrames p (t % 32)) (t / 32) c
def tileCfg (p : Tbl (BitVec 1024)) (t : Nat) : TileCfg := Config.tile (columnFrames p (t % 32)) (t / 32)

/-! ### Cells (R267 to R271) -/

/-- The number whose bits are table inputs K0 upward. -/
def tableIndex (k : Nat → Bool) (width : Nat) : Nat := (List.range width).foldl (fun a i => a + (if k i then 2 ^ i else 0)) 0

/-- R268: output W of a cell. In split mode it is the upper half-table, on which K5 has no effect. -/
def CellCfg.outW (c : CellCfg) (k : Nat → Bool) : Bool :=
  if c.split then c.table.getLsbD (32 + tableIndex k 5) else c.table.getLsbD (tableIndex k 6)

/-- R268: the lower half-table, output H of a cell that carries no joiner output. -/
def CellCfg.outH (c : CellCfg) (k : Nat → Bool) : Bool := c.table.getLsbD (tableIndex k 5)

/-- R269: the joiner whose output stands in place of H of cell `c` of a tile: pair joiner (c - 1) / 2 for an odd cell, quad joiner c / 4 for a cell 4q. -/
def TileCfg.joiner (x : TileCfg) (t c : Nat) : Option Sig :=
  if c % 2 = 1 ∧ x.pairs.getLsbD (c / 2) then some (.pair t (c / 2))
  else if c % 4 = 0 ∧ x.quads.getLsbD (c / 4) then some (.quad t (c / 4))
  else none

/-- R270: a flip-flop's value after a clock edge. The force input is synchronous and takes priority over the enable. -/
def flopAfter (force forceTo enable data now : Bool) : Bool := if force then forceTo else if enable then data else now

/-! ### The overlay (R281 to R285) -/

/-- A segment's fields (R282). -/
def segTile (g : BitVec 16) : Nat := (g.extractLsb' 0 9).toNat
def segVertical (g : BitVec 16) : Bool := g.getLsbD 9
def segClass (g : BitVec 16) : Nat := (g.extractLsb' 10 2).toNat
def segTrack (g : BitVec 16) : Nat := (g.extractLsb' 12 4).toNat

/-- Is a number a segment's (R281, R282): class 0b11 is never used; 8 tracks, 4 of class twelve? -/
def segValid (g : BitVec 16) : Bool := decide (segClass g < 3) && decide (segTrack g < (if segClass g = 2 then 4 else 8))

/-- The tiles a segment spans (R281), and the steps from its first tile to the stope's edge, where it is cut. -/
def segSpan (g : BitVec 16) : Nat := if segClass g = 0 then 1 else if segClass g = 1 then 4 else 12
def segRoom (g : BitVec 16) : Nat := if segVertical g then 15 - segTile g / 32 else 31 - segTile g % 32

/-- Its drive points: 2, 5 or 13, one at each tile crossing from end to end that lies in the stope. -/
def segPoints (g : BitVec 16) : Nat := min (segSpan g) (segRoom g) + 1

/-- The tile of drive point `i` of a segment. -/
def segTileAt (g : BitVec 16) (i : Nat) : Nat := segTile g + (if segVertical g then 32 * i else i)

/-- The COLUMN frame and the bit that enable drive point `i` of a segment. -/
def drivePlace (g : BitVec 16) (i : Nat) : Nat × Nat := ((Config.drivePlace g i).1 % 960, (Config.drivePlace g i).2 % 1024)

/-- Is drive point `i` enabled in a plane? -/
def driveOn (p : Tbl (BitVec 1024)) (g : BitVec 16) (i : Nat) : Bool := (Tbl.get 0 p (drivePlace g i).1).getLsbD (drivePlace g i).2

/-- The enabled drive points of a segment. -/
def driveEnabled (p : Tbl (BitVec 1024)) (g : BitVec 16) : List Nat := (List.range (segPoints g)).filter (fun i => driveOn p g i)

/-- The segments of a stope. -/
def segments : List (BitVec 16) := ((List.range 65536).map (fun i => BitVec.ofNat 16 i)).filter segValid

/-- R283: the first frame with an enable of a segment that has two or more enabled drive points. -/
def driverConflict (p : Tbl (BitVec 1024)) : Option Nat :=
  (segments.flatMap (fun g => let l := driveEnabled p g; if 2 ≤ l.length then l.map (fun i => (drivePlace g i).1) else [])).min?

/-- R282, R284: the drive point that drives a segment of stope `x`: one that is enabled alone, unless the detector has turned the segment off. -/
def Stope.driver (x : Stope) (g : BitVec 16) : Option Nat :=
  if x.contended.contains g then none
  else match driveEnabled x.active g with
    | [i] => some i
    | _ => none

/-- What the keeper of a segment of stope `k` holds. -/
def Stope.keeper (x : Stope) (k : Nat) (g : BitVec 16) : Bool := (Tbl.get none x.keepers g.toNat).getD (Config.keeper k g)

/-! ### Signals (R273 to R275) -/

/-- R275: what the synchroniser of incoming boundary wire `i` shows the routing: its second stage, or its third with SYNC3. -/
def State.synced (s : State) (n : Shaft) (k i : Nat) : Bool :=
  (Tbl.get 0 (s.stope n k).sync i).getLsbD (if s.regB n .STP_CFG_SYNC3 k then 2 else 1)

/-- What hard logic shows at a pin of stope `k`. -/
def State.pin (s : State) (n : Shaft) (k : Nat) (p : Pin) : Bool :=
  let x := s.stope n k
  match p with
  | .read m b i => (Tbl.get 0 x.rd (2 * (m % 64) + bit b)).getLsbD i
  | .collision m => x.coll.contains (m % 64)
  | .haul i => Config.haulPin i x.buf01.head? x.buf2.head? x.results.head?

/-- What a signal of stope `k` shows now. The first number bounds the signals a path may run through; a path that comes back to its start without a
flip-flop runs out of it. -/
def State.sig (s : State) (n : Shaft) : Nat → Nat → Sig → Bool
  | 0, k, x => Config.loop s.freeCtr k x
  | fuel + 1, k, x =>
    let st := s.stope n k
    match x with
    | .flop t c b => st.ff.getLsbD (32 * t + 16 * bit b + c)
    | .w t c => (cellCfg st.active t c).outW (fun j => s.sig n fuel k (.input t c j))
    | .h t c =>
      match (tileCfg st.active t).joiner t c with
      | some j => s.sig n fuel k j
      | none => (cellCfg st.active t c).outH (fun j => s.sig n fuel k (.input t c j))
    | .pair t p => s.sig n fuel k (.w t (2 * p + bit (s.sig n fuel k (.input t (2 * p + 1) 7))))
    | .quad t q => s.sig n fuel k (.pair t (2 * q + bit (s.sig n fuel k (.input t (4 * q) 7))))
    | .input t c j =>
      match (if k < 8 then Config.segmentTap (columnFrames st.active (t % 32)) (t / 32) c j else none) with
      | some g => s.sig n fuel k (.seg g)
      | none => s.sig n fuel k (.source t (Config.pattern c j ((cellCfg st.active t c).select.getD j 0 % 48) % 184))
    | .source t i =>
      if 64 ≤ i then s.sig n fuel k (.inc t ((i - 64) / 24) ((i - 64) % 24))
      else match i % 4 with
        | 0 => s.sig n fuel k (.w t (i / 4))
        | 1 => s.sig n fuel k (.h t (i / 4))
        | 2 => s.sig n fuel k (.flop t (i / 4) false)
        | _ => s.sig n fuel k (.flop t (i / 4) true)
    | .out t f i => s.sig n fuel k (.source t ((tileCfg st.active t).out.getD (24 * f + i) 0 % 184))
    | .inc t f i =>
      match Config.pinAt t f i with
      | some p => s.pin n k p
      | none =>
        match tileBeside t f with
        | some t' => s.sig n fuel k (.out t' (faceAcross f) i)
        | none =>
          if f = 4 ∧ s.regB n .STP_STAT_PAIRED k then s.sig n fuel ((k + 64) % 128) (.out t 4 i)
          else if (stopeBeside k f).isSome then s.synced n k (wireNo t f i)
          else false
    | .seg g =>
      match st.driver g with
      | none => st.keeper k g
      | some i =>
        match Config.driveFrom (columnFrames st.active (segTileAt g i % 32)) g i with
        | .tile j => s.sig n fuel k (.source (segTileAt g i) (j % 184))
        | .segment g' => s.sig n fuel k (.seg g')

/-- More signals than any path of a pair of stopes can run through. -/
def sigBound : Nat := 2 ^ 21

/-- What a signal of stope `k` shows. -/
def State.signal (s : State) (n : Shaft) (k : Nat) (x : Sig) : Bool := s.sig n sigBound k x

/-- R271: the carry-out of cell `c` of tile `t`, and the carry-in of cell 0 of a tile (`c` = 0 in the second): from the tile to the south in the same stope, or 0, 1
or K0 of cell 0. The first number bounds the cells left. No rule lets a carry reach an output of a cell. -/
def State.carryOut (s : State) (n : Shaft) (k : Nat) : Nat → Nat → Nat → Bool
  | 0, _, _ => false
  | fuel + 1, t, c =>
    let p := (s.stope n k).active
    let cin :=
      if 0 < c then s.carryOut n k fuel t (c - 1)
      else match (tileCfg p t).carry with
        | .zero => false
        | .one => true
        | .k0 => s.signal n k (.input t 0 0)
        | .south =>
          match tileBeside t 2 with
          | some t' => s.carryOut n k fuel t' 15
          | none => false
    Config.carry (cellCfg p t c) (BitVec.ofNat 6 (tableIndex (fun j => s.signal n k (.input t c j)) 6)) cin

/-- The carry-out of cell `c` of tile `t` of stope `k`: a chain runs through at most 16 tiles, which is 256 bits. -/
def State.carry (s : State) (n : Shaft) (k t c : Nat) : Bool := s.carryOut n k 256 t c

/-- R282: the keepers of the segments driven now take their values. -/
def State.keepSegments (s : State) (n : Shaft) (k : Nat) : State :=
  let l := segments.filter (fun g => ((s.stope n k).driver g).isSome)
  let v := l.foldl (fun (a : Tbl (Option Bool)) g => Tbl.set none a g.toNat (some (s.signal n k (.seg g)))) (s.stope n k).keepers
  if k < 8 then s.updStope n k (fun x => { x with keepers := v }) else s

/-! ### A pacer edge in the logic (R270, R275, R278) -/

/-- A flip-flop of stope `k` after an edge: A from W or DA, B from H or DB. -/
def State.flopNext (s : State) (n : Shaft) (k t c : Nat) (b : Bool) : Bool :=
  let x := cellCfg (s.stope n k).active t c
  let input (j : Nat) : Bool := s.signal n k (.input t c (j + bit b))
  let data := if x.direct.getLsbD (bit b) then input 6 else if b then s.signal n k (.h t c) else s.signal n k (.w t c)
  flopAfter (input 10) (x.forceTo.getLsbD (bit b)) (input 8) data (s.signal n k (.flop t c b))

/-- The 16,384 flip-flops of stope `k` after an edge. -/
def State.flopsNext (s : State) (n : Shaft) (k : Nat) : BitVec 16384 :=
  (List.range 16384).foldl
    (fun (a : BitVec 16384) i =>
      if s.flopNext n k (i / 32) (i % 16) (decide (16 ≤ i % 32)) then a ||| ((1 : BitVec 16384) <<< i) else a) 0

/-- The boundary wires of a stope, by tile, face and wire: those over its edges and its face-to-face wires. -/
def boundaryWires : List (Nat × Nat × Nat) :=
  (List.range 512).flatMap (fun t => ((List.range 5).filter (fun f => (tileBeside t f).isNone)).flatMap (fun f => (List.range 24).map (fun i => (t, f, i))))

/-- R275: what the far end of an incoming boundary wire of stope `k` shows. -/
def State.wireIn (s : State) (n : Shaft) (k t f i : Nat) : Bool :=
  match stopeBeside k f with
  | some k' => Tbl.get false (s.stope n k').outs (wireNo (tileAcross t f) (faceAcross f) i)
  | none => false

/-- The synchronisers of stope `k` after an edge: each stage takes the one before it. -/
def State.syncNext (s : State) (n : Shaft) (k : Nat) : Tbl (BitVec 3) :=
  boundaryWires.foldl
    (fun (a : Tbl (BitVec 3)) w =>
      let j := wireNo w.1 w.2.1 w.2.2
      Tbl.set 0 a j ((Tbl.get 0 (s.stope n k).sync j <<< 1) ||| (if s.wireIn n k w.1 w.2.1 w.2.2 then 1 else 0))) []

/-- R278: the outgoing boundary wires of stope `k` show what its routing gives them; they hold it until its next edge. -/
def State.driveOuts (s : State) (n : Shaft) (k : Nat) : State :=
  let v := boundaryWires.foldl
    (fun (a : Tbl Bool) w => Tbl.set false a (wireNo w.1 w.2.1 w.2.2) (s.signal n k (.out w.1 w.2.1 w.2.2))) []
  s.updStope n k (fun x => { x with outs := v })

/-! ### Block-memory ports (R286, R288) -/

/-- A signal of port `b` of memory `j` of stope `k`. -/
def State.portSignal (s : State) (n : Shaft) (k j : Nat) (b : Bool) (i : Nat) : Bool :=
  let r := Config.portTap (s.stope n k).active j b i
  s.signal n k (.source (r.1 % 512) (r.2 % 184))

/-- `w` signals of a port from number `i` upward. -/
def State.portBits (s : State) (n : Shaft) (k j : Nat) (b : Bool) (i w : Nat) : Nat :=
  tableIndex (fun q => s.portSignal n k j b (i + q)) w

/-- The access that port `b` of memory `j` asks for: none without its enable, or in a context that does not use the memory. -/
def State.portAsks (s : State) (n : Shaft) (k j : Nat) (b : Bool) : Option BlkReq :=
  if portUsed (planePort (s.stope n k).active j) && s.portSignal n k j b 0 then
    some ⟨s.portSignal n k j b 1, BitVec.ofNat 8 (s.portBits n k j b 2 8), BitVec.ofNat 15 (s.portBits n k j b 10 15), BitVec.ofNat 72 (s.portBits n k j b 25 72)⟩
  else none

/-- The accesses the ports of stope `k` issue at an edge, by 2 × memory + port. -/
def State.issues (s : State) (n : Shaft) (k : Nat) : Tbl (Option BlkReq) :=
  (List.range 128).foldl (fun (a : Tbl (Option BlkReq)) i => Tbl.set none a i (s.portAsks n k (i / 2) (i % 2 == 1))) []

/-- R288 to R290: the accesses issued to memory `j` of stope `k` are completed. The output of a port without an access is not valid, and what it shows the spec
does not say: free value number `base` upward. -/
def State.memoryCycle (s : State) (n : Shaft) (k base j : Nat) : State :=
  let x := s.stope n k
  let ra := Tbl.get none x.acc (2 * j)
  let rb := Tbl.get none x.acc (2 * j + 1)
  let o := blkCycle (s.sh n).blk (64 * k + j) (planePort x.active j) ra rb (Tbl.get 0 x.kept (2 * j)) (Tbl.get 0 x.kept (2 * j + 1))
  let show_ (r : Option (BitVec 72)) (i : Nat) : BitVec 72 := r.getD (BitVec.ofNat 72 (Config.freeValue (base + i)))
  let keep (r : Option BlkReq) (v : Option (BitVec 72)) (i : Nat) (t : Tbl (BitVec 72)) : Tbl (BitVec 72) :=
    match r, v with
    | some q, some y => if q.write then t else Tbl.set 0 t i y
    | _, _ => t
  let s1 := (s.updSh n (fun h => { h with blk := o.cells })).updStope n k (fun x =>
    { x with
      acc := Tbl.set none (Tbl.set none x.acc (2 * j) none) (2 * j + 1) none
      rd := Tbl.set 0 (Tbl.set 0 x.rd (2 * j) (show_ o.a (2 * j))) (2 * j + 1) (show_ o.b (2 * j + 1))
      kept := keep rb o.b (2 * j + 1) (keep ra o.a (2 * j) x.kept)
      coll := x.coll.filter (fun i => i != j) ++ (if o.coll then [j] else []) })
  if o.coll then s1.addReg n .BLK_STAT_COLL k else s1

/-- The accesses of all 64 memories of stope `k` are completed. -/
def State.memoryCycles (s : State) (n : Shaft) (k : Nat) : State :=
  (List.range 64).foldl (fun a j => a.memoryCycle n k s.freeCtr j) { s with freeCtr := s.freeCtr + 128 }

/-- R311 step 2: the accesses a member of a swap had issued complete during the hold; what they read is discarded. -/
def State.finishAccesses (s : State) (n : Shaft) (k : Nat) : State :=
  if (s.stope n k).acc = [] then s
  else
    let x := s.stope n k
    (s.memoryCycles n k).updStope n k (fun y => { y with rd := x.rd, kept := x.kept })

end Sys2Proof.Machine
end

