-- ==== Sys2Proof/Machine/Edges.lean ====
section
/-! DEFINITION. Pacer edges (R101 to R103, R277, R291): what one does to its stopes, when the next is due, and the edges of one µs. -/

namespace Sys2Proof.Machine

/-- The stopes the pacer of stope `k` clocks (R277). -/
def State.clocked (s : State) (n : Shaft) (k : Nat) : List Nat := if s.regB n .STP_STAT_PAIRED k then [k % 64, 64 + k % 64] else [k]

/-- Do the vertical ports stand still: BLK gated (R299), or the Lode in a slice reset (R433)? -/
def State.portsStopped (s : State) (n : Shaft) : Bool := s.shGated n .BLK || s.lodeOut n

/-- R102: is a handshake of stope `k` pending? -/
def State.handshakeWaits (s : State) (n : Shaft) (k : Nat) : Bool :=
  let x := s.stope n k
  x.waiting.isSome || (decide (x.acc ≠ []) && s.portsStopped n)

/-- One edge in the logic of the stopes `ks`: the accesses issued at the edge before are completed; flip-flops and synchronisers take what stood before the
edge, and accesses are issued from it; then the outgoing boundary wires show the new state. -/
def State.clockStopes (s : State) (n : Shaft) (ks : List Nat) : State :=
  let s1 := ks.foldl (fun (a : State) k => a.memoryCycles n k) s
  let s2 := ks.foldl (fun (a : State) k =>
    a.updStope n k (fun x => { x with ff := s.flopsNext n k, sync := s.syncNext n k, acc := s.issues n k })) s1
  ks.foldl (fun (a : State) k => a.driveOuts n k) s2

/-- The least multiple of `p`, itself at the least, that is not below `d`. -/
def wholePeriods (p d : Nat) : Nat := max 1 ((d + p - 1) / p)

/-- R101, R103: the time in femtoseconds from an edge of the pacer of stope `k` to its next, but for stretches. In locked mode an edge by which the replica delay
has not completed is skipped, and counted in SLIP. -/
def State.pacerPeriod (s : State) (n : Shaft) (k : Nat) : Nat × State :=
  let r := s.tapNow
  let at_ : Bool × Nat := match (s.stope n k).ramp with
    | some x => (x.locked, x.now16)
    | none => ((s.pacerTarget n k).1, 16 * (s.pacerTarget n k).2)
  if at_.1 then
    let p := at_.2 * 500000 / 16
    let m := wholePeriods p (s.reg n .PCE_STOPE_TEMPO k * r.1)
    (m * p, if m = 1 then r.2 else r.2.addReg n .PCE_SLIP_SLIP k (m - 1))
  else (at_.2 * r.1 / 16, r.2)

/-- R291: a vertical port completes its handshake within 0.90 to 1.45 ns, a value that stays open. When that is after the edge that is due, the cycle is stretched,
in locked mode to a divided edge. -/
def State.portHandshake (s : State) (n : Shaft) (k : Nat) (period : Nat) : Nat × State :=
  let r := s.free
  let d := 900000 + Config.freeValue r.1 % 550001
  if d ≤ period then (period, r.2)
  else
    let locked := decide (s.reg n .PCE_STOPE_ACTIVE k = 1)
    (if locked then wholePeriods period d * period else d, r.2.addReg n .PCE_SLIP_STRETCH k)

/-- The edge of the pacer of stope `k` falls, or is held back by a handshake that is pending (R102). -/
def State.pacerEdge (s : State) (n : Shaft) (k : Nat) : State :=
  let ks := (s.clocked n k).filter (fun j => s.stopeRuns n j)
  let s1 := ks.foldl (fun (a : State) j => a.stopeRetry n j) s
  if ks.any (fun j => s1.handshakeWaits n j) then
    (s1.addReg n .PCE_SLIP_STRETCH k).updStope n k (fun x => { x with stretched := true })
  else
    let s2 := s1.clockStopes n ks
    let r := s2.pacerPeriod n k
    let q := if ks.any (fun j => decide ((s2.stope n j).acc ≠ [])) then r.2.portHandshake n k r.1 else r
    q.2.updStope n k (fun x => { x with phase := x.phase + q.1 })

/-- The pacers of a shaft that clock a stope that runs. -/
def State.pacersRunning (s : State) (n : Shaft) : List Nat :=
  ((s.sh n).stopes.map (fun e => s.pacerOf n e.1)).eraseDups.filter (fun k => (s.clocked n k).any (fun j => s.stopeRuns n j))

/-- The pacer whose edge falls next before a time; of two at one instant the one comes first that a free value names. -/
def State.nextEdge (s : State) (n : Shaft) (until_ : Nat) : Option Nat × State :=
  let l := (s.pacersRunning n).filter (fun k => decide ((s.stope n k).phase < until_) && !(s.stope n k).stretched)
  match (l.map (fun k => (s.stope n k).phase)).min? with
  | none => (none, s)
  | some t =>
    let first := l.filter (fun k => decide ((s.stope n k).phase = t))
    let r := s.free
    (first[Config.freeValue r.1 % first.length]?, r.2)

/-- The pacer edges of a shaft before a time; the first number bounds them. -/
def State.edgesUntil (s : State) (n : Shaft) (until_ : Nat) : Nat → State
  | 0 => s
  | fuel + 1 =>
    match s.nextEdge n until_ with
    | (none, s1) => s1
    | (some k, s1) => (s1.pacerEdge n k).edgesUntil n until_ fuel

/-- R102: a pacer whose handshake is no longer pending has its edge; those of gated or full ports are tried again. -/
def State.endStretch (s : State) (n : Shaft) (k : Nat) : State :=
  let ks := (s.clocked n k).filter (fun j => s.stopeRuns n j)
  let s1 := ks.foldl (fun (a : State) j => a.stopeRetry n j) s
  if !(s1.stope n k).stretched || ks.any (fun j => s1.handshakeWaits n j) then s1
  else s1.updStope n k (fun x => { x with stretched := false, phase := 0 })

/-- A µs in femtoseconds. -/
def usFs : Nat := 10 ^ 9

/-- The pacer edges of one µs in a shaft: at most 128 pacers of 16 taps of 20 ps. -/
def State.edgesOfUs (s : State) (n : Shaft) : State :=
  let s1 := (s.pacersRunning n).foldl (fun (a : State) k => a.endStretch n k) s
  let s2 := s1.edgesUntil n usFs (2 ^ 20)
  (s2.pacersRunning n).foldl (fun (a : State) k => a.updStope n k (fun x => { x with phase := x.phase - usFs })) s2

end Sys2Proof.Machine
end

