-- ==== Sys2Proof/Machine/Contexts.lean ====
section
/-! DEFINITION. Contexts (R300 to R317, R327, R329): preloads, swaps, reloads, readback; pairing (R277) and contention (R284). -/

namespace Sys2Proof.Machine

/-! ### Frames (R300 to R303) -/

/-- A frame address (R301). -/
def frameAddr (k c f : Nat) : Nat := f + 1024 * c + 8192 * k

/-- The bytes of a frame, frame bits [7:0] first. -/
def frameBytes (x : BitVec 1024) : List Byte := (List.range 128).map (fun i => x.extractLsb' (8 * i) 8)

/-- The frame check of a frame (R300). -/
def frameCheck (x : BitVec 1024) : BitVec 32 := crc32 (frameBytes x)

/-- The 1,024 frames of Plan slot `c` of stope `k`, numbered from 0. -/
def State.planSlot (s : State) (n : Shaft) (k c : Nat) : Tbl (BitVec 1024) :=
  ((s.sh n).plan.filter (fun e => decide (frameAddr k c 0 ≤ e.1) && decide (e.1 < frameAddr k c 1024))).map
    (fun e => (e.1 - frameAddr k c 0, e.2))

/-- A stored frame check. -/
def State.storedCheck (s : State) (n : Shaft) (a : Nat) : BitVec 32 := Tbl.get 0 (s.sh n).planCheck a

/-- CONTROL and INIT_MASK of a plane. -/
def control (p : Tbl (BitVec 1024)) : BitVec 1024 := Tbl.get 0 p 1022
def initMask (p : Tbl (BitVec 1024)) : BitVec 1024 := Tbl.get 0 p 1023

/-- Fields of CONTROL (R303). -/
def minTempo (p : Tbl (BitVec 1024)) : Nat := ((control p).extractLsb' 0 8).toNat
def pairBit (p : Tbl (BitVec 1024)) : Bool := (control p).getLsbD 8
def releaseInit (p : Tbl (BitVec 1024)) : Bool := (control p).getLsbD 10
def contextId (p : Tbl (BitVec 1024)) : Nat := ((control p).extractLsb' 32 16).toNat

/-- Slot states (R328). -/
def Slt.EMPTY : Nat := 0
def Slt.VALID : Nat := 1
def Slt.LOADING : Nat := 2
def Slt.BAD : Nat := 3

/-- Shadow states (R307). -/
def Shd.EMPTY : Nat := 0
def Shd.PRELOADING : Nat := 1
def Shd.PRELOADED : Nat := 2
def Shd.PREVIOUS : Nat := 3

/-- RESULT of CTX.CMD (R328). -/
def CtxRes.DONE : Nat := 1
def CtxRes.NO_SHADOW : Nat := 2
def CtxRes.TEMPO : Nat := 3
def CtxRes.SHADOW_CHECK : Nat := 4
def CtxRes.BUSY : Nat := 5
def CtxRes.SLOT_INVALID : Nat := 6
def CtxRes.PLAN_UNCORR : Nat := 7
def CtxRes.EMPTY_GANG : Nat := 8
def CtxRes.RESET : Nat := 9

/-- The result of a CTX command; BUSY clears. -/
def State.ctxResult (s : State) (n : Shaft) (r : Nat) : State := (s.setReg n .CTX_CMD_STAT_RESULT r).setReg n .CTX_CMD_STAT_BUSY 0

/-- SH_STATE of a stope. -/
def State.shState (s : State) (n : Shaft) (k : Nat) : Nat := s.reg n .CTX_STOPE_SH_STATE k

/-- The shadow becomes EMPTY. -/
def State.emptyShadow (s : State) (n : Shaft) (k : Nat) : State := s.setReg n .CTX_STOPE_SH_STATE Shd.EMPTY k

/-- Is stope `k` a member of a swap that has been started or armed? -/
def State.inSwap (s : State) (n : Shaft) (k : Nat) : Bool := (s.sh n).swaps.any (fun w => w.members.contains k)

/-- Does a preload of stope `k` run? -/
def State.preloading (s : State) (n : Shaft) (k : Nat) : Bool := decide (Tbl.get none (s.sh n).preloads k ≠ none)

/-- Does CTX refuse preloads and swaps: a gate asked for (R326), or no Seam power? -/
def State.ctxRefuses (s : State) (n : Shaft) : Bool := s.gateEn n.val .CTX || s.seamsOut n

/-! ### Suspect frames (R322) -/

/-- The scrubber whose range holds stope `k` (R318). -/
def scrubberOf (k : Nat) : Nat := if k < 64 then 0 else 1

/-- STATE of a scrubber (R328). -/
def Scb.RUN : Nat := 0
def Scb.COVERING : Nat := 1
def Scb.STOPPED : Nat := 2

/-- The field of SCB.STAT that shows scrubber `i`. -/
def scbFld (i : Bool) : Fld := if i then .SCB_STAT_STATE1 else .SCB_STAT_STATE0

/-- STATE of scrubber `i`. -/
def State.scb (s : State) (n : Shaft) (i : Bool) : Nat := s.reg n (scbFld i)

/-- The scrubber that scrubs and patrols stope `k`: its range's own, or the one that covers (R324). -/
def State.scrubberFor (s : State) (n : Shaft) (k : Nat) : Nat :=
  let i := scrubberOf k
  if s.scb n (i == 1) = Scb.STOPPED ∧ s.scb n (i == 0) = Scb.COVERING then 1 - i else i

/-- R322, R323: an uncorrectable word of frame `a` was met: its frame becomes suspect, and its recovery is asked for. -/
def State.planUncorr (s : State) (n : Shaft) (a w : Nat) : State :=
  let i := s.scrubberFor n (a / 8192)
  let s1 := (s.addReg n .SCB_CNT2_PLAN_UNCORR).shEvent n 0x0805 Sev.warning i (detail a w)
  s1.updSh n (fun h =>
    { h with
      suspect := if h.suspect.contains a then h.suspect else h.suspect ++ [a]
      recoveries := if h.recoveries.any (fun r => decide (r.frame = a)) then h.recoveries else h.recoveries ++ [⟨a, i⟩] })

/-! ### Preload (R308, R309) -/

/-- R308: why a preload of slot `c` into stope `k` is refused, as RESULT. -/
def State.preloadBars (s : State) (n : Shaft) (k c : Nat) : Option Nat :=
  if s.reg n .CTX_SLOT_STATE (8 * k + c) ≠ Slt.VALID then some CtxRes.SLOT_INVALID
  else if s.ctxRefuses n || s.preloading n k || s.inSwap n k then some CtxRes.BUSY
  else none

/-- PRELOAD of slot `c` into stope `k`. -/
def State.preloadCmd (s : State) (n : Shaft) (k c : Nat) : State :=
  match s.preloadBars n k c with
  | some r => s.ctxResult n r
  | none =>
    ((s.setReg n .CTX_STOPE_SH_STATE Shd.PRELOADING k).setReg n .CTX_CMD_STAT_BUSY 1).updSh n
      (fun h => { h with preloads := Tbl.set none h.preloads k (some c) })

/-- The shadow of stope `k` holds slot `c`, verified. -/
def State.shadowFrom (s : State) (n : Shaft) (k c : Nat) : State :=
  (((s.updStope n k (fun x => { x with shadow := s.planSlot n k c })).setReg n .CTX_STOPE_SH_STATE Shd.PRELOADED k).setReg n
    .CTX_STOPE_SHADOW c k).addReg n .CTX_STAT2_PRELOADS

/-- The first suspect frame of slot `c` of stope `k`. -/
def State.suspectIn (s : State) (n : Shaft) (k c : Nat) : Option Nat :=
  ((s.sh n).suspect.find? (fun a => decide (a / 1024 = frameAddr k c 0 / 1024))).map (fun a => a % 1024)

/-- R309: a preload of slot `c` into stope `k` meets an uncorrectable frame `f`. The spec does not say which word PLAN_UNCORR names when a whole frame
fails its check. -/
def State.preloadFails (s : State) (n : Shaft) (k c f : Nat) : State :=
  let r := s.free
  (r.2.planUncorr n (frameAddr k c (f % 1024)) (Config.freeValue r.1 % 16)).emptyShadow n k

/-- PRELOAD_DONE: the preload of stope `k` ends; `bad` is a frame it found uncorrectable. A frame already suspect is uncorrectable. -/
def State.preloadDone (s : State) (n : Shaft) (k : Nat) (bad : Option Nat) : State :=
  match Tbl.get none (s.sh n).preloads k with
  | none => s
  | some c =>
    let s1 := s.updSh n (fun h => { h with preloads := Tbl.set none h.preloads k none })
    match bad.orElse (fun _ => s.suspectIn n k c) with
    | some f => (s1.preloadFails n k c f).ctxResult n CtxRes.PLAN_UNCORR
    | none => (s1.shadowFrom n k c).ctxResult n CtxRes.DONE

/-- PRELOAD_DONE. -/
def execPreloadDone (sh : Shaft) (k : Nat) (bad : Option Nat) (s : State) : Out := .next (s.preloadDone sh k bad)

/-- DISCARD (R329). -/
def State.discardCmd (s : State) (n : Shaft) (k : Nat) : State :=
  if s.inSwap n k then s.ctxResult n CtxRes.BUSY else (s.emptyShadow n k).ctxResult n CtxRes.DONE

/-! ### Swap (R310 to R313) -/

/-- The first member for which a check fails. -/
def State.failing (s : State) (n : Shaft) (members : List Nat) (i : Nat) : Option Nat :=
  members.find? (fun k =>
    match i with
    | 1 => s.preloading n k || s.inSwap n k
    | 2 => decide (s.shState n k ≠ Shd.PRELOADED) && decide (s.shState n k ≠ Shd.PREVIOUS)
    | _ => decide (s.reg n .PCE_STOPE_TEMPO (s.pacerOf n k) < minTempo (s.stope n k).shadow))

/-- Checks 1 to 3: the first failure in order, as RESULT and member. -/
def State.swapCheck (s : State) (n : Shaft) (members : List Nat) : Option (Nat × Nat) :=
  match s.failing n members 1, s.failing n members 2, s.failing n members 3 with
  | some k, _, _ => some (CtxRes.BUSY, k)
  | none, some k, _ => some (CtxRes.NO_SHADOW, k)
  | none, none, some k => some (CtxRes.TEMPO, k)
  | none, none, none => none

/-- A swap is refused: counted, and CTX_SWAP_REFUSED is raised. -/
def State.swapRefused (s : State) (n : Shaft) (r k : Nat) (gang : Option Nat) : State :=
  (s.addReg n .CTX_STAT_REFUSED).shEvent n 0x0801 Sev.notice k (detail (r + 256 * gang.getD 0xFF))

/-- The stopes of a gang (R313). -/
def State.gang (s : State) (n : Shaft) (g : Nat) : List Nat :=
  (List.range 128).filter (fun k => s.regB n .CTX_STOPE_GANG_EN k && decide (s.reg n .CTX_STOPE_GANG k = g))

/-- A swap of `members` is checked and, when it passes, its members hold; those of an armed swap hold only from the commit. The second value is
the RESULT of one that does not pass. -/
def State.swapStart (s : State) (n : Shaft) (members : List Nat) (gang : Option Nat) (armed : Bool) : State × Option Nat :=
  if members = [] then (s.swapRefused n CtxRes.EMPTY_GANG 0xFFFF gang, some CtxRes.EMPTY_GANG)
  else if s.ctxRefuses n then (s.swapRefused n CtxRes.BUSY (members.headD 0) gang, some CtxRes.BUSY)
  else match s.swapCheck n members with
    | some (r, k) => (s.swapRefused n r k gang, some r)
    | none =>
      ((members.foldl (fun a k => a.updStope n k (fun x => { x with swapHold := !armed })) s).updSh n
        (fun h => { h with swaps := h.swaps ++ [⟨members, gang, armed⟩] }), none)

/-- SWAP_STOPE and SWAP_GANG. -/
def State.swapCmd (s : State) (n : Shaft) (members : List Nat) (gang : Option Nat) : State :=
  let r := s.swapStart n members gang false
  match r.2 with
  | some x => r.1.ctxResult n x
  | none => r.1.setReg n .CTX_CMD_STAT_BUSY 1

/-- R277: pairing of the stopes at position `p` of the two Seams, from their active contexts. -/
def State.evalPair (s : State) (n : Shaft) (p : Nat) : State :=
  let lo := pairBit (s.stope n p).active
  let up := pairBit (s.stope n (64 + p)).active
  let s1 := (s.setReg n .STP_STAT_PAIRED (bit (lo && up)) p).setReg n .STP_STAT_PAIRED (bit (lo && up)) (64 + p)
  if lo = up then s1
  else ((s1.setReg n .STP_STAT_PAIR_FAULT 1 p).setReg n .STP_STAT_PAIR_FAULT 1 (64 + p)).shEvent n 0x0702 Sev.notice p
    (detail (if lo then 1 else 2))

/-- R312: an INIT_MASK over the 16,384 flip-flops: bit `i` stands for flip-flops 16i to 16i + 15. -/
def maskBits (m : BitVec 1024) : BitVec 16384 :=
  (List.range 1024).foldl (fun a i => if m.getLsbD i then a ||| ((0xFFFF : BitVec 16384) <<< (16 * i)) else a) 0

/-- R312: the flip-flops after the swap edge. -/
def swapFlops (ff : BitVec 16384) (p : Tbl (BitVec 1024)) : BitVec 16384 :=
  let m := maskBits (initMask p)
  (Config.ffInit p &&& m) ||| (ff &&& ~~~ m)

/-- R311 step 5 at one member: the planes trade places. -/
def State.swapOne (s : State) (n : Shaft) (k : Nat) : State :=
  let x := s.stope n k
  let a := s.reg n .CTX_STOPE_ACTIVE k
  let b := s.reg n .CTX_STOPE_SHADOW k
  let s1 := (s.keepSegments n k).updStope n k (fun x =>
    { x with active := x.shadow, shadow := x.active, ff := swapFlops x.ff x.shadow, last := none, swapHold := false, contended := [] })
  ((((s1.setReg n .CTX_STOPE_ACTIVE b k).setReg n .CTX_STOPE_SHADOW a k).setReg n .CTX_STOPE_SH_STATE Shd.PREVIOUS k).setReg n
    .CTX_STOPE_ID (contextId x.shadow) k).addReg n .CTX_STAT_SWAPS

/-- An upset of a shadow plane that check 4 meets: the bits of frame `u.frame` of stope `u.stope` that flip. -/
def State.upsetShadow (s : State) (n : Shaft) (u : ShadowUpset) : State :=
  s.updStope n u.stope (fun x => { x with shadow := Tbl.upd 0 x.shadow u.frame (fun y => y ^^^ u.bits) })

/-- Check 4: the first member whose shadow fails it. -/
def State.shadowFails (s : State) (n : Shaft) (members : List Nat) : Option Nat :=
  members.find? (fun k =>
    let x := (s.stope n k).shadow
    let c := s.reg n .CTX_STOPE_SHADOW k
    decide (frameCheck (control x) ≠ s.storedCheck n (frameAddr k c 1022))
      || decide (frameCheck (initMask x) ≠ s.storedCheck n (frameAddr k c 1023)))

/-- A member holds no more; the accesses it had issued have completed during the hold (R311 step 2). -/
def State.unhold (s : State) (n : Shaft) (k : Nat) : State :=
  if (s.stope n k).swapHold then (s.finishAccesses n k).updStope n k (fun x => { x with swapHold := false }) else s

/-- The swap ends: its members hold no more. -/
def State.swapEnd (s : State) (n : Shaft) (w : Swap) : State :=
  (w.members.foldl (fun (a : State) k => a.unhold n k) s).updSh n
    (fun h => { h with swaps := h.swaps.filter (fun x => x != w) })

/-- A started swap fails at member `k` with result `r` (order 4 or 5). -/
def State.swapAbort (s : State) (n : Shaft) (w : Swap) (r k : Nat) : State :=
  let s1 := ((s.swapEnd n w).emptyShadow n k).swapRefused n r k w.gang
  if w.armed then s1 else s1.ctxResult n r

/-- R311 step 5: every member swaps; pairing is evaluated from the new contexts. -/
def State.swapAll (s : State) (n : Shaft) (w : Swap) : State :=
  let s1 := w.members.foldl (fun a k => a.swapOne n k) (s.swapEnd n w)
  let s2 := ((List.range 64).filter (fun p => w.members.contains p || w.members.contains (64 + p))).foldl (fun a p => a.evalPair n p) s1
  if w.armed then s2 else s2.ctxResult n CtxRes.DONE

/-- R311 steps 3 to 5 for a started swap, with the RESULT of one that is refused: by check 4, or because a loader write has discarded a member's
shadow meanwhile (R314). -/
def State.swapFinish (s : State) (n : Shaft) (w : Swap) : State × Option Nat :=
  match s.failing n w.members 2, s.shadowFails n w.members with
  | some k, _ => (s.swapAbort n w CtxRes.NO_SHADOW k, some CtxRes.NO_SHADOW)
  | none, some k => (s.swapAbort n w CtxRes.SHADOW_CHECK k, some CtxRes.SHADOW_CHECK)
  | none, none => (s.swapAll n w, none)

/-- R311 step 2: has every member reached its hold? One whose cycle is stretched has not (R102); one whose pacer does not run holds at once. -/
def State.membersHold (s : State) (n : Shaft) (w : Swap) : Bool :=
  !s.pacerRuns n || w.members.all (fun k => !s.handshakeWaits n k)

/-- SWAP_EDGE: a swap reaches its edge, where check 4 may meet an upset; an armed swap does so within COMMIT (R392). -/
def execSwapEdge (sh : Shaft) (e : SwapEdge) (s : State) : Out :=
  .next (match (s.sh sh).swaps[e.swap]? with
    | none => s
    | some w =>
      if w.armed || !s.membersHold sh w then s
      else ((match e.upset with
        | some x => s.upsetShadow sh x
        | none => s).swapFinish sh w).1)

/-- The write of CTX.CMD with GO 1 (R328, R329). -/
def State.ctxCmd (s : State) (n : Shaft) (op k c g : Nat) : State :=
  if s.regB n .CTX_CMD_STAT_BUSY then s.setReg n .CTX_CMD_STAT_LOST 1
  else match op with
    | 1 => s.preloadCmd n k c
    | 2 => s.discardCmd n k
    | 3 => s.swapCmd n [k] none
    | 4 => s.swapCmd n (s.gang n g) (some g)
    | _ => s

/-! ### Loading a whole context (R315, R317) -/

/-- Stope `k` takes the context of Plan slot `c` with the init mask forced to all ones; its shadow is EMPTY. -/
def State.takeContext (s : State) (n : Shaft) (k c : Nat) : State :=
  let p := s.planSlot n k c
  let s1 := s.updStope n k (fun x => { x with active := p, ff := Config.ffInit p, swapHold := false, contended := [] })
  ((s1.setReg n .CTX_STOPE_ACTIVE c k).setReg n .CTX_STOPE_ID (contextId p) k).emptyShadow n k

/-- R317: every stope of the shaft reloads its ACTIVE context; one whose slot is not VALID stays out of service. -/
def State.reloadStopes (s : State) (n : Shaft) : State :=
  let l := (List.range 128).filter (fun k => decide (s.reg n .CTX_SLOT_STATE (8 * k + s.reg n .CTX_STOPE_ACTIVE k) = Slt.VALID))
  let s1 := l.foldl (fun (a : State) k => a.takeContext n k (a.reg n .CTX_STOPE_ACTIVE k)) s
  let s2 := (List.range 64).foldl (fun a p => a.evalPair n p) s1
  (s2.addReg n .CTX_STAT2_RELOADS 0 l.length).shEvent n 0x0803 Sev.info 0xFFFF (detail l.length)

/-- R317: Seam power goes: planes, flip-flops, ports and preloads are lost; outgoing boundary wires are held (R278). A command under way ends; a pacer that
ramps stands on its target (R104). -/
def State.losePlanes (s : State) (n : Shaft) : State :=
  let s0 := s.pacersStop n
  let s1 := s0.updSh n (fun h =>
    { h with
      stopes := Tbl.mapAll Stope.zero (fun _ x => { Stope.zero with fellBack := x.fellBack, last := x.last, outs := x.outs }) h.stopes
      preloads := []
      swaps := [] })
  ((List.range 128).foldl (fun a k => (a.emptyShadow n k).setReg n .CTX_STOPE_SHADOW 0 k) s1).setReg n .CTX_CMD_STAT_BUSY 0

/-! ### Readback (R327) -/

/-- Put a frame and its check into the readback registers. -/
def State.rbShow (s : State) (n : Shaft) (x : BitVec 1024) (check : BitVec 32) (uncorr : Bool) : State :=
  let s1 := (List.range 32).foldl (fun a i => a.setReg n .CTX_RB_DATA_DATA (x.extractLsb' (32 * i) 32).toNat i) s
  (((s1.setReg n .CTX_RB_CHECK_CHECK check.toNat).setReg n .CTX_RB_STAT_VALID 1).setReg n .CTX_RB_STAT_UNCORR (bit uncorr)).setReg n
    .CTX_RB_STAT_CHECK_OK (bit (decide (frameCheck x = check)))

/-- The frame a readback reads. What an uncorrectable Plan read returns, and what a plane without power or under test reads as, the spec does not
state. -/
def State.readFrame (s : State) (n : Shaft) (a plane : Nat) (bad : Bool) : State :=
  let k := a / 8192
  let f := a % 1024
  let unknown (s : State) (check : BitVec 32) (u : Bool) : State :=
    let r := s.free
    r.2.rbShow n (BitVec.ofNat 1024 (Config.freeValue r.1)) check u
  match plane with
  | 0 =>
    if bad ∨ (s.sh n).suspect.contains a then
      let r := s.free
      unknown (r.2.planUncorr n a (Config.freeValue r.1 % 16)) (s.storedCheck n a) true
    else s.rbShow n (Tbl.get 0 (s.sh n).plan a) (s.storedCheck n a) false
  | 1 =>
    let c := s.storedCheck n (frameAddr k (s.reg n .CTX_STOPE_ACTIVE k) f)
    if s.seamsOut n || (s.stope n k).testHold then unknown s c false else s.rbShow n (Tbl.get 0 (s.stope n k).active f) c false
  | 2 =>
    let c := s.storedCheck n (frameAddr k (s.reg n .CTX_STOPE_SHADOW k) f)
    if s.seamsOut n then unknown s c false else s.rbShow n (Tbl.get 0 (s.stope n k).shadow f) c false
  | _ => s

/-- The write of CTX.RB_CTL with GO 1: BUSY until the µs ends (R327). While a readback runs, another is dropped: the spec gives RB_STAT no LOST bit and
says nothing of it. DESIGN CHOICE (assumption 121). -/
def State.readback (s : State) (n : Shaft) (a plane : Nat) (bad : Bool) : State :=
  if s.regB n .CTX_RB_STAT_BUSY ∨ 2 < plane then s else (s.readFrame n a plane bad).setReg n .CTX_RB_STAT_BUSY 1

/-- The µs ends, and a readback with it. -/
def State.readbackUs (s : State) (n : Shaft) : State := if s.regB n .CTX_RB_STAT_BUSY then s.setReg n .CTX_RB_STAT_BUSY 0 else s

/-! ### Contention (R284, R285) -/

/-- The drive points of a segment whose enables an upset sets, so that two are set: which, is left open. -/
def State.upsetPoints (s : State) (n : Shaft) (k : Nat) (seg : BitVec 16) : List Nat :=
  let on := driveEnabled (s.stope n k).active seg
  let off := (List.range (segPoints seg)).filter (fun i => !on.contains i)
  let r := Config.freeValue s.freeCtr % (off.length + 1)
  (off.drop r ++ off.take r).take (2 - on.length)

/-- STOPE_CONTENTION: an upset has set enable bits of a segment of compatibility stope `k`, so that two or more are set, and its detector turns the segment off;
its keeper holds what it was driven to. -/
def State.contention (s : State) (n : Shaft) (k : Nat) (seg : BitVec 16) : State :=
  let x := s.stope n k
  if 8 ≤ k ∨ s.seamsOut n ∨ x.active = [] ∨ !segValid seg ∨ segPoints seg < 2 ∨ x.contended.contains seg then s
  else
    let up := s.upsetPoints n k seg
    let s1 := { s.keepSegments n k with freeCtr := s.freeCtr + 1 }.updStope n k (fun x =>
      { x with
        active := up.foldl (fun (p : Tbl (BitVec 1024)) i =>
          Tbl.upd 0 p (drivePlace seg i).1 (fun y => y ||| ((1 : BitVec 1024) <<< (drivePlace seg i).2))) x.active
        contended := x.contended ++ [seg] })
    ((((s1.setReg n .STP_STAT_CONTENDED 1 k).setReg n .STP_CONT_LOG_SEGMENT seg.toNat k).setReg n .STP_CONT_LOG_VALID 1 k).addReg n
      .STP_STAT_CONTENTIONS k).shEvent n 0x0701 Sev.warning k (detail seg.toNat)

/-- STOPE_CONTENTION. -/
def execStopeContention (sh : Shaft) (k : Nat) (seg : BitVec 16) (s : State) : Out := .next (s.contention sh k seg)

end Sys2Proof.Machine
end

