-- ==== Sys2Proof/Machine/Activation.lean ====
section
/-! DEFINITION. The activation on its way (R387, R391) as other units meet it: which shafts it names, how it reverts (R395, R396), and the
Foreman's restart (R437, R438). -/

namespace Sys2Proof.Machine

/-- IMG.STATE (R387). -/
def Img.IDLE : Nat := 0
def Img.OPEN : Nat := 1
def Img.REFUSED : Nat := 2
def Img.VALIDATING : Nat := 3
def Img.ARMED : Nat := 4
def Img.STAGING : Nat := 5
def Img.STAGED : Nat := 6
def Img.COMMITTING : Nat := 7
def Img.REVERTING : Nat := 8

/-- IMG.FAIL.CAUSE (R400). -/
def Icf.NONE : Nat := 0x00
def Icf.BAD_HEADER : Nat := 0x01
def Icf.WRONG_PART : Nat := 0x02
def Icf.BAD_KEY : Nat := 0x03
def Icf.BAD_SIGNATURE : Nat := 0x04
def Icf.BAD_MANIFEST : Nat := 0x05
def Icf.WRONG_KIND : Nat := 0x06
def Icf.BAD_SEGMENT : Nat := 0x07
def Icf.BAD_PART : Nat := 0x08
def Icf.BAD_RECORD : Nat := 0x09
def Icf.BAD_CONTENT : Nat := 0x0A
def Icf.INCOMPLETE : Nat := 0x0B
def Icf.FLASH : Nat := 0x0C
def Icf.NOT_READY : Nat := 0x0D
def Icf.TIME_UNLOCKED : Nat := 0x0E
def Icf.LATE : Nat := 0x0F
def Icf.CANCELLED : Nat := 0x10
def Icf.RESET : Nat := 0x11
def Icf.SWAP_REFUSED : Nat := 0x12
def Icf.FOREMAN_START : Nat := 0x13

/-- PART of a failure that names none. -/
def noPart : Nat := 0x7FF

/-- IMG.STATE. -/
def State.img (s : State) : Nat := s.dev .IMG_STATE_STATE

/-- Set IMG.STATE. -/
def State.setImg (s : State) (v : Nat) : State := s.setDev .IMG_STATE_STATE v

/-- IMG.FAIL and IMG.FAIL_PART. -/
def State.imgFail (s : State) (cause det part : Nat) : State :=
  ((s.setDev .IMG_FAIL_CAUSE cause).setDev .IMG_FAIL_DETAIL det).setDev .IMG_FAIL_PART_PART part

/-- DETAIL of IMG_REFUSED and IMG_REVERTED. -/
def failDetail (cause det part : Nat) : BitVec 96 := detail (cause + 2 ^ 16 * (det % 2 ^ 16)) (part % 2 ^ 16)

/-- R401: the image is refused: STATE REFUSED, IMG_REFUSED. -/
def State.imgRefuse (s : State) (cause det part : Nat) : State :=
  ((s.imgFail cause det part).setImg Img.REFUSED).devEvent 0x0A01 Sev.warning 0xFFFF (failDetail cause det part)

/-- From STAGING to REVERTING (R396). -/
def State.activating (s : State) : Bool := decide (Img.STAGING ≤ s.img) && decide (s.img ≤ Img.REVERTING)

/-- STAGING or STAGED. -/
def State.staging (s : State) : Bool := decide (s.img = Img.STAGING) || decide (s.img = Img.STAGED)

/-- Does a manifest name shaft `n`? -/
def entsName (l : List ManEnt) (n : Shaft) : Bool := l.any (fun e => decide (e.shaft = n.val))

/-- Does the activation on its way name shaft `n`? -/
def State.actNames (s : State) (n : Shaft) : Bool :=
  s.activating && (match s.act with
    | some a => entsName a.ents n
    | none => false)

/-- Is stope `k` of shaft `n` a member of the activation's swap? -/
def State.actMember (s : State) (n : Shaft) (k : Nat) : Bool :=
  match s.act with
  | some a => a.swaps.contains (n.val, k)
  | none => false

/-! ### DOZE (R409) -/

/-- PWR.SHAFT.STATE changes: DOZE_STATE. -/
def State.setDoze (s : State) (n : Shaft) (v : Nat) : State :=
  (s.setDev .PWR_SHAFT_STATE v n.val).shEvent n 0x0B09 Sev.info 0xFFFF (detail v)

/-- R409: entry waits for an activation that names the shaft, a self-test, thermal cooling; none comes in SHAFT reset. -/
def State.dozeWaits (s : State) (n : Shaft) : Bool :=
  s.actNames n || (s.sh n).test.run.isSome || decide (s.thermal n ≠ 0) || (s.sh n).inReset

/-- R409: a shaft whose DOZE is 1 begins to enter DOZE, unless entry waits. -/
def State.dozeTry (s : State) (n : Shaft) : State :=
  if s.devB .PWR_SHAFT_DOZE n.val && decide (s.doze n = 0) && !s.dozeWaits n then s.setDoze n 1 else s

/-- Every shaft's entry that waited for an activation. -/
def State.dozeAll (s : State) : State := s.eachShaft (fun n a => a.dozeTry n)

/-! ### The Foreman (R437, R438) -/

/-- FORE_RESTART's causes. -/
def Fcause.CAGE : Nat := 1
def Fcause.LOCKSTEP : Nat := 2
def Fcause.HEARTBEAT : Nat := 3
def Fcause.ACTIVATION : Nat := 4

/-- FORE_RESTART of the restart on its way. It carries the MGT tubs discarded meanwhile, so it is raised when that restart ends, or when
another cuts it short. -/
def State.foreEvent (s : State) : State :=
  if s.foreCause = 0 then s else { s.devEvent 0x0C03 Sev.notice 0xFFFF (detail s.foreCause s.foreDropped) with foreCause := 0 }

/-- R437: the Foreman restarts; its state and sessions are lost (R429). -/
def State.foreRestart (s : State) (cause : Nat) : State :=
  let s1 := if s.foreUp then s else s.foreEvent
  let s2 := if cause = Fcause.LOCKSTEP ∨ cause = Fcause.HEARTBEAT then s1.setDev .DEV_ATTN_FORE_UNPLANNED 1 else s1
  { s2 with foreUp := false, foreCause := cause, foreAt := s.up, foreDropped := 0, foreIn := [] }

/-! ### Revert (R395) -/

/-- Every frame of Plan slot `c` of stope `k` taken out; it is EMPTY. -/
def State.emptySlot (s : State) (n : Shaft) (k c : Nat) : State :=
  let keep (a : Nat) : Bool := decide (a / 1024 ≠ 8 * k + c)
  (s.setReg n .CTX_SLOT_STATE Slt.EMPTY (8 * k + c)).updSh n (fun h =>
    { h with
      plan := h.plan.filter (fun e => keep e.1)
      planCheck := h.planCheck.filter (fun e => keep e.1)
      suspect := h.suspect.filter keep
      recoveries := h.recoveries.filter (fun r => keep r.frame)
      slotSource := Tbl.set none h.slotSource (8 * k + c) none })

/-- A shaft by number. -/
def shaftOf (n : Nat) : Shaft := ⟨n % 8, Nat.mod_lt n (by decide)⟩

/-- A portal by its number. -/
def portalOf (p : Nat) : Portal := ⟨p % 8, Nat.mod_lt p (by decide)⟩

/-- The staged items of an activation undone: armed swaps and preloads dropped, Plan slots EMPTY, idle banks not LOADED, no flip armed. -/
def State.undo (s : State) (a : Activation) : State :=
  let s1 := s.eachShaft (fun n x => x.updSh n (fun h => { h with swaps := h.swaps.filter (fun w => !w.armed) }))
  let s2 := a.shadows.foldl (fun (x : State) e => x.emptyShadow (shaftOf e.1) e.2) s1
  let s3 := a.plan.foldl (fun (x : State) e => x.emptySlot (shaftOf e.1) e.2.1 e.2.2) s2
  let s4 := a.banks.foldl (fun (x : State) e => x.setLoaded (shaftOf e.1) (decide (e.2 = 1)) false) s3
  s4.eachShaft (fun n x => if entsName a.ents n then x.setReg n .HWR_EPOCH_ARMED 0 else x)

/-- The causes after which a reverted image is REFUSED (R395). -/
def refusing (cause : Nat) : Bool :=
  decide (cause = Icf.BAD_SEGMENT) || decide (cause = Icf.BAD_PART) || decide (cause = Icf.BAD_RECORD) || decide (cause = Icf.BAD_CONTENT)
    || decide (cause = Icf.FLASH)

/-- REVERT: the activation is undone and STATE is REVERTING until REVERT_DONE; a Foreman on new firmware restarts on the previous one. -/
def State.revert (s : State) (cause det part : Nat) : State :=
  match s.act with
  | none => s
  | some a =>
    let s1 := ((s.undo a).imgFail cause det part).setImg Img.REVERTING
    let s2 := if a.foreman then s1.foreRestart Fcause.ACTIVATION else s1
    { s2 with act := some { a with
        plan := [], shadows := [], banks := [], swaps := [], formers := [], charter := none, canary := none
        foreman := false, cause := cause, detail := det, part := part, refuse := refusing cause } }

/-- R396: something meets an activation that stages or is staged. -/
def State.revertIf (s : State) (c : Bool) (cause : Nat) : State := if s.staging && c then s.revert cause 0 noPart else s

/-- REVERT_DONE: the revert ends, once the Foreman is back in service. -/
def State.revertDone (s : State) : State :=
  match s.act with
  | none => s
  | some a =>
    if s.img ≠ Img.REVERTING ∨ !s.foreUp then s
    else ({ (s.setImg (if a.refuse then Img.REFUSED else Img.ARMED)).devEvent 0x0A05 Sev.warning 0xFFFF
              (failDetail a.cause a.detail a.part) with act := none }).dozeAll

/-- REVERT_DONE. -/
def execRevertDone (s : State) : Out := .next s.revertDone

end Sys2Proof.Machine
end

