-- ==== Sys2Proof/Machine/Links.lean ====
section
/-! DEFINITION. A portal's link as the other units see it: states (R348), roles (R346), lanes and widths (R345, R340, R341), agents
(R350). -/

namespace Sys2Proof.Machine

/-- Portal states (R348). -/
def Pst.DISABLED : Nat := 0
def Pst.DETECT : Nat := 1
def Pst.TRAINING : Nat := 2
def Pst.UP : Nat := 3
def Pst.BACKOFF : Nat := 4
def Pst.HOLD : Nat := 5
def Pst.RECOVERY : Nat := 6

/-- Roles (R346). -/
def Role.HOST : Nat := 0
def Role.MEM : Nat := 1
def Role.D2D : Nat := 2

/-- The state of a portal. -/
def State.pst (s : State) (n : Shaft) (p : Portal) : Nat := s.reg n .PTL_STATE_STATE p.val

/-- A portal is link-up in UP and RECOVERY (R348). -/
def State.linkUp (s : State) (n : Shaft) (p : Portal) : Bool := decide (s.pst n p = Pst.UP) || decide (s.pst n p = Pst.RECOVERY)

/-- The lanes of a portal at a width code, lowest first. -/
def State.lanesAt (s : State) (n : Shaft) (p : Portal) (code : Nat) : List Nat :=
  (List.range (2 ^ code)).map (fun i => (s.ptl n p).cfg.firstLane + i)

/-- Lanes that put or take a value by number in a portal's order: those from width code `lo` up to width code `hi`. -/
def State.lanesFrom (s : State) (n : Shaft) (p : Portal) (lo hi : Nat) : List Nat := (s.lanesAt n p hi).drop (2 ^ lo)

/-- The portal that has lane `l`. -/
def State.lanePortal (s : State) (n : Shaft) (l : Nat) : Option Portal :=
  Oct.indices.find? (fun p => decide (s.pst n p ≠ Pst.DISABLED) && decide ((s.ptl n p).cfg.firstLane ≤ l)
    && decide (l < (s.ptl n p).cfg.firstLane + 2 ^ (s.ptl n p).cfg.width))

/-- Queue an item for the flit mover. -/
def State.toTx (s : State) (n : Shaft) (p : Portal) (x : TxItem) : State := s.updPtl n p (fun y => { y with txq := y.txq ++ [x] })

/-- Control flit codes (R342). -/
def Ctl.SLEEP : BitVec 8 := 0x04
def Ctl.WAKE : BitVec 8 := 0x05
def Ctl.EPOCH_MARK : BitVec 8 := 0x06

/-- Wake a portal's transmit side from its present width to width code `w` (R340, R341): in Drift mode by one WAKE control flit for each
doubling, in PCIe mode, where L0p put both sides of a lane to sleep, with the receivers. -/
def State.widen (s : State) (n : Shaft) (p : Portal) (w : Nat) : State :=
  let now := s.reg n .PTL_STATE_PRESENT p.val
  if w ≤ now then s
  else
    let s1 := (s.lanesFrom n p now w).foldl (fun (a : State) l => a.setReg n .LNE_STAT_TX_SLEEP 0 l) s
    let s2 := s1.setReg n .PTL_STATE_PRESENT w p.val
    if (s.ptl n p).cfg.drift then (List.range (w - now)).foldl (fun (a : State) _ => a.toTx n p (.control Ctl.WAKE 0)) s2
    else ((s.lanesFrom n p now w).foldl (fun (a : State) l => a.setReg n .LNE_STAT_RX_SLEEP 0 l) s2).updPtl n p (fun x => { x with rxWidth := w })

/-- R341: does an open count exceed the quota of a portal at a width code below the one it trained? -/
def State.overWidth (s : State) (n : Shaft) (p : Portal) (w work : Nat) : Bool :=
  let all := s.reg n .PTL_STATE_TRAINED p.val
  decide (w < all) && decide (s.reg n .TLY_QUOTA_QUOTA p.val * 2 ^ w < work * 2 ^ all)

/-- R341: the open count of a portal on fewer lanes than it trained wakes it when it exceeds its reduced quota; the partner has 10 µs to
complete the wake. -/
def State.quotaWake (s : State) (n : Shaft) (p : Portal) (work : Nat) : State :=
  if s.overWidth n p (s.reg n .PTL_STATE_PRESENT p.val) work then
    (s.widen n p (s.reg n .PTL_STATE_TRAINED p.val)).updPtl n p (fun x => { x with wakeAt := some s.up })
  else s

/-- R350: the agent of fabric ID value `v` on portal `p`. -/
def State.agentOf (s : State) (n : Shaft) (p : Portal) (v : Nat) : Option (BitVec 10) :=
  if v < s.reg n .PTL_AGENT_COUNT p.val then some (BitVec.ofNat 10 (s.reg n .PTL_AGENT_BASE p.val + v)) else none

/-- R351: the enabled portal whose agent block holds an agent. -/
def State.agentPortal (s : State) (n : Shaft) (a : BitVec 10) : Option Portal :=
  Oct.indices.find? (fun p => decide (s.pst n p ≠ Pst.DISABLED) && decide ((s.ptl n p).cfg.role ≠ Role.MEM)
    && decide (s.reg n .PTL_AGENT_BASE p.val ≤ a.toNat)
    && decide (a.toNat < s.reg n .PTL_AGENT_BASE p.val + s.reg n .PTL_AGENT_COUNT p.val))

/-- The role in force of a portal: latched at enable (R347). -/
def State.role (s : State) (n : Shaft) (p : Portal) : Nat := (s.ptl n p).cfg.role

end Sys2Proof.Machine
end

