-- ==== Sys2Proof/Machine/Admission.lean ====
section
/-! DEFINITION. Admission (R126 to R134): taking requests from a portal's ingress queue (R360), the ordered checks, forwarding (R35), the
claim checks (R148 to R153) and hauls. -/

namespace Sys2Proof.Machine

/-! ### When admission works -/

/-- R143, R183, R224, R266, R100, R409, R419, R433: does something keep the shaft from opening a tally for a new request? -/
def State.admissionShut (s : State) (n : Shaft) : Bool :=
  ([Block.HAU, .TLY, .CLM, .DIR, .HWR, .QMG].any (fun b => s.gateEn n.val b)) || decide (s.doze n ≠ 0) || decide (s.thermal n ≠ 0)
    || (decide (s.slice n = 1) && !s.sliceAdit n) || s.shGated n .HAU || s.linksDead n

/-- Does the directory engine work at all? -/
def State.engineWorks (s : State) (n : Shaft) : Bool :=
  !s.lodeOut n && [Block.TLY, .CLM, .DIR, .QMG].all (fun b => !s.shGated n b)

/-! ### Taking entries -/

/-- DAT tubs that directly follow a REQ: none, one, or one for each line of a write haul (R124, R134). -/
def reqDats (t : Tub) : Nat := if t.data then (if t.haul then t.lines.toNat else 1) else 0

/-- Is what has been popped a whole unit: one entry, or a REQ and the DAT tubs that follow it? -/
def unitDone (l : List Tub) : Bool :=
  match l with
  | [] => false
  | t :: rest => decide (t.cls ≠ Cls.REQ) || decide (reqDats t ≤ rest.length) || rest.any (fun x => decide (x.cls ≠ Cls.DAT))

/-- The DAT tubs of a unit, and what is left. -/
def splitDats : Nat → List Tub → List Tub × List Tub
  | 0, l => ([], l)
  | _ + 1, [] => ([], [])
  | k + 1, t :: rest => if t.cls = Cls.DAT then let r := splitDats k rest; (t :: r.1, r.2) else ([], t :: rest)

/-- Does a read of a claim-memory ring for `by_` run? -/
def State.ringBusy (s : State) (n : Shaft) (by_ : Producer) : Bool := (s.sh n).ringOps.any (fun r => decide (r.by_ = by_))

/-- Pop entries of PTL.INQ[p] until they make a unit, at most `k`. -/
def State.fillUnit (s : State) (n : Shaft) (p : Portal) : Nat → State
  | 0 => s
  | k + 1 =>
    let q := s.reg n .PTL_INQ_QUEUE p.val
    let d := s.queue n q
    if unitDone (s.ptl n p).inGot || s.ringBusy n (.intake p) || !d.valid || decide (d.depth = 0) then s
    else
      let r := s.popNow n q
      (r.1.handPop n q (.intake p) r.2).fillUnit n p k

/-! ### Claim checks -/


/-- The claim of a plane address, when check 1 passes (R148). -/
def State.claimOf (s : State) (n : Shaft) (a : DWord) : Option Nat :=
  let g := (a.extractLsb' 30 10).toNat
  let c := s.reg n .CLM_MAP_CLAIM g
  if s.regB n .CLM_MAP_VALID g && s.regB n .CLM_ENTRY0_VALID c then some c else none

/-- R151, R152: does the agent's group hold every right of the need mask? -/
def State.rightsHeld (s : State) (n : Shaft) (c need : Nat) (a : BitVec 10) : Bool :=
  let k := a.toNat / 32
  let e := 256 * n.val + c
  (!need.testBit 0 || ((s.reg n .CLM_ENTRY2_READ c).testBit k && (s.dev .GRD_TPL0_READ e).testBit k)) &&
  (!need.testBit 1 || ((s.reg n .CLM_ENTRY3_WRITE c).testBit k && (s.dev .GRD_TPL1_WRITE e).testBit k)) &&
  (!need.testBit 2 || ((s.reg n .CLM_ENTRY4_CACHE c).testBit k && (s.dev .GRD_TPL2_CACHE e).testBit k))

/-- R148: the claim checks of an open tally, in order. A tally that has passed check 1 counts in OPEN of its claim (R150). -/
def State.claimChecks (s : State) (n : Shaft) (t : Nat) : State × Option Nat :=
  let y := s.tally n t
  let need := s.reg n .DIR_NEED_NEED (y.request.extractLsb' 0 8).toNat
  match s.claimOf n y.lineAddr with
  | none => (s.addReg n .CLM_STAT_UNMAPPED, some Ans.UNMAPPED)
  | some c =>
    let s1 := s.updTally n t (fun y => { y with claim := some c })
    if need.testBit 2 && !s.regB n .CLM_ENTRY0_CACHEABLE c then (s1.addReg n .CLM_STAT_RIGHTS_DENIED, some Ans.ACCESS)
    else if s.rightsHeld n c need y.agent then (s1, none)
    else (s1.addReg n .CLM_STAT_RIGHTS_DENIED, some Ans.ACCESS)

/-- R148: an open tally is checked, and then acquires its line or goes to DONE with the completion shown. -/
def State.serve (s : State) (n : Shaft) (t : Nat) (u : DirCheck) : State :=
  let r := s.claimChecks n t
  let y := r.1.tally n t
  match r.2 with
  | none =>
    let s1 := if r.1.lockAt n y.line = none then r.1.dirCheck n (homeSet y.line) u else r.1
    s1.acquire n t y.line
  | some i =>
    if y.kind = .haulLine then r.1.failLine n t (.station .lode 0)
    else ((r.1.tallyDone n t).answerSent n t).lodeSend n y.portal (r.1.tallyAnswer n t i false)

/-! ### The ordered checks (R126) -/

/-- An answer of admission: no tally, WDOG 1, by the deadline lane. -/
def State.refuse (s : State) (n : Shaft) (p : Portal) (r : Tub) (i : Nat) : State := s.lane n p (s.answerTub n i r.body true)

/-- R126 check 3: the shape of a request. -/
def shapeOk (r : Tub) : Bool :=
  let l := r.lines.toNat
  if r.haul then
    decide (1 ≤ l) && decide (l ≤ 64) && decide (r.addr.extractLsb' 0 6 = 0) && decide ((r.addr.extractLsb' 0 12).toNat + 64 * l ≤ 4096)
  else decide (l = 1)

/-- Where a request goes (R35): served here, forwarded through a portal, or answered from a template, counted in ROUTE_MISS or not. -/
inductive Route | here | via (p : Portal) | answer (template : Nat) (miss : Bool)
  deriving DecidableEq, Repr

/-- R33, R35: the route of a request. -/
def State.route (s : State) (n : Shaft) (r : Tub) : Route :=
  let e := if r.addr.toNat < 2 ^ 40 then s.reg n .SHF_ROUTE_TARGET (r.addr.extractLsb' 30 10).toNat else 0
  if e = 1 then .here
  else if r.fwd then .answer Ans.ERROR true
  else if 8 ≤ e then
    let p : Portal := ⟨e % 8, Nat.mod_lt e (by decide)⟩
    if s.reg n .PTL_CFG_ROLE p.val ≠ Role.D2D then .answer Ans.ERROR true
    else if s.linkUp n p then .via p
    else .answer Ans.RETRY false
  else .answer Ans.UNMAPPED true

/-- What a request's tally opens with. -/
def State.initFor (s : State) (n : Shaft) (p : Portal) (r : Tub) (k : Kind) : TallyInit :=
  { kind := k, portal := p, agent := r.srcAgent, lineAddr := r.addr
    deadline := r.stamp + BitVec.ofNat 32 (s.reg n .TLY_CFG_DEADLINE_US), stamp := r.stamp, parent := none, lines := 1, linesLeft := 0
    request := r.body, epoch := r.ep.getD (s.epoch n), quota := 1, pending := 0 }

/-- Keep the DAT tub of a write for its tally's handler. -/
def State.bindDat (s : State) (n : Shaft) (t : Nat) (x : Tub) : State :=
  let y := s.tally n t
  if y.st = .opn ∨ y.st = .wait then
    s.keepTub n t { x with tv := true, tally := BitVec.ofNat 15 t, gen := y.gen, spc := false, ans := false }
  else s

/-- R359: FTAG of a forwarded request: TALLY, GEN and SEQ 0 of its forwarding tally. -/
def forwardTag (t : Nat) (g : BitVec 8) : DWord := BitVec.ofNat 64 (t % 2 ^ 15 + g.toNat * 2 ^ 15)

/-- R35, R126, R478: a forwarding tally opens with PENDING 1 and the request, marked as forwarded, goes to portal `q` with its DAT tubs. -/
def State.forward (s : State) (n : Shaft) (p q : Portal) (r : Tub) (dats : List Tub) : State :=
  match s.freeTally n with
  | none => s
  | some t =>
    let s1 := s.openTally n t { s.initFor n p r .forward with pending := 1 }
    let g := (s1.tally n t).gen
    let tag (x : Tub) : Tub := { x with tv := true, tally := BitVec.ofNat 15 t, gen := g, spc := false, ans := false }
    let f := ((tag r).put 1 0 (1 : BitVec 1)).put 16 0 (forwardTag t g)
    (f :: dats.map tag).foldl (fun a x => a.lodeSend n q x) (s1.updTally n t (fun y => { y with fwdPortal := q }))

/-- R134: the line tallies `i` to `i + k - 1` of a haul open and bind their DAT tubs. -/
def State.openLines (s : State) (n : Shaft) (p : Portal) (r : Tub) (par : Nat) (dats : List Tub) (i : Nat) : Nat → State × List Nat
  | 0 => (s, [])
  | k + 1 =>
    match s.freeTally n with
    | none => (s, [])
    | some t =>
      let s1 := s.openTally n t
        { s.initFor n p r .haulLine with lineAddr := r.addr + BitVec.ofNat 64 (64 * i), parent := some par, parentGen := (s.tally n par).gen, lines := BitVec.ofNat 7 i }
      let s2 := (dats.filter (fun x => decide (x.line.toNat = i))).foldl (fun a x => a.bindDat n t x) s1
      let rest := s2.openLines n p r par dats (i + 1) k
      (rest.1, t :: rest.2)

/-- R134: a haul opens its parent and its line tallies, and each line runs its own checks. -/
def State.openHaul (s : State) (n : Shaft) (p : Portal) (r : Tub) (dats : List Tub) (u : DirCheck) : State :=
  match s.freeTally n with
  | none => s
  | some t =>
    let l := r.lines.toNat
    let s1 := (s.openTally n t { s.initFor n p r .haulParent with lines := r.lines, linesLeft := l }).updTally n t
      (fun y => { y with st := .wait, waitFor := .lines })
    let k := s1.openLines n p r t dats 0 l
    (k.2.foldl (fun (a : State × DirCheck) c => (if (a.1.tally n c).st = .opn then a.1.serve n c a.2 else a.1, .good)) (k.1, u)).1

/-- R126 check 7 for a request of one line served here. -/
def State.openOne (s : State) (n : Shaft) (p : Portal) (r : Tub) (dats : List Tub) (u : DirCheck) : State :=
  match s.freeTally n with
  | none => s
  | some t =>
    let s1 := dats.foldl (fun a x => a.bindDat n t x) (s.openTally n t (s.initFor n p r .line))
    if (s1.tally n t).st = .opn then s1.serve n t u else s1

/-- R417: while the cap is below 100 %, the tallies that open in each microsecond are counted. -/
def State.noteTaken (s : State) (n : Shaft) (k : Nat) : State :=
  if s.dev .CAN_SHAFT_CAP n.val = 0 then s
  else s.updSh n (fun h =>
    { h with thermal := { h.thermal with
        capAt := s.up, capTaken := (if h.thermal.capAt = s.up then h.thermal.capTaken else 0) + k } })

/-- R417: the admission handle: new tallies have reached cap × 8.0 G/s, which is 80 in each microsecond for each percent, so request credits
are withheld. -/
def State.capHolds (s : State) (n : Shaft) : Bool :=
  let c := s.dev .CAN_SHAFT_CAP n.val
  decide (c ≠ 0) && decide ((s.sh n).thermal.capAt = s.up) && decide (80 * capPct c ≤ (s.sh n).thermal.capTaken)

/-- R126: a REQ tub with the DAT tubs that follow it. -/
def State.intake (s : State) (n : Shaft) (p : Portal) (r : Tub) (dats : List Tub) (u : DirCheck) : State :=
  if s.passed n (r.stamp + BitVec.ofNat 32 (s.reg n .TLY_CFG_DEADLINE_US)) then s.refuse n p r Ans.TIMEOUT
  else if r.haul ∧ r.lines = 0 then s.refuse n p r Ans.SUCCESS
  else if !shapeOk r then (s.addReg n .TLY_STAT3_BAD_HAUL).refuse n p r Ans.ERROR
  else
    let w := s.route n r
    match w with
    | .answer i miss => (if miss then s.addReg n .SHF_FWD_STAT_ROUTE_MISS else s).refuse n p r i
    | _ =>
      let need := if w = .here ∧ r.haul then r.lines.toNat + 1 else 1
      if s.admissionShut n then s.refuse n p r Ans.RETRY
      else if s.freeCount n < need then (s.addReg n .TLY_STAT_NO_TALLY).refuse n p r Ans.RETRY
      else if s.reg n .TLY_QUOTA_QUOTA p.val < s.openWork n p + need then (s.addReg n .TLY_STAT4_OVER_QUOTA).refuse n p r Ans.RETRY
      else
        let s1 := match w with
          | .via q => s.forward n p q r dats
          | _ => if r.haul then s.openHaul n p r dats u else s.openOne n p r dats u
        (s1.quotaWake n p (s1.openWork n p)).noteTaken n need

/-- One whole unit taken from PTL.INQ[p]: a REQ with its DAT tubs is admitted; any other entry is discarded and counted (R360). -/
def State.takeUnit (s : State) (n : Shaft) (p : Portal) (u : DirCheck) : State :=
  match (s.ptl n p).inGot with
  | [] => s
  | t :: rest =>
    if t.cls = Cls.REQ then
      let k := splitDats (reqDats t) rest
      (s.updPtl n p (fun x => { x with inGot := k.2 })).intake n p t k.1 u
    else (s.updPtl n p (fun x => { x with inGot := rest })).addReg n .PTL_STAT_UNKNOWN_MSG p.val

/-- ADMISSION: the directory engine takes the next entry of PTL.INQ[p], a REQ together with the DAT tubs that follow it. -/
def State.admission (s : State) (n : Shaft) (p : Portal) (u : DirCheck) : State :=
  if s.engineWorks n then
    let s1 := s.fillUnit n p 66
    if unitDone (s1.ptl n p).inGot then s1.takeUnit n p u else s1
  else s

/-- ADMISSION. -/
def execAdmission (sh : Shaft) (p : Portal) (u : DirCheck) (s : State) : Out := .next (s.admission sh p u)

end Sys2Proof.Machine
end

