-- ==== Sys2Proof/Machine/Former.lean ====
section
/-! DEFINITION. The tub former of a PCIe-mode portal (R353 to R357): entries, copies, the messages it makes of tubs and the tubs it
makes of messages; and the tag store (R358). -/

namespace Sys2Proof.Machine

/-! ### Entries (R354) -/

/-- `w` bits of an entry from bit `lo`, as a number. -/
def FormEnt.get (e : FormEnt) (lo w : Nat) : Nat := (e.extractLsb' lo w).toNat

/-- VALID. -/
def FormEnt.valid (e : FormEnt) : Bool := e.getLsbD 0

/-- AGENT_POS, AGENT_W, TAG_POS, TAG_W: in the same bits of ingress and egress entries. -/
def FormEnt.agentPos (e : FormEnt) : Nat := e.get 16 10
def FormEnt.agentW (e : FormEnt) : Nat := e.get 26 4
def FormEnt.tagPos (e : FormEnt) : Nat := e.get 30 10
def FormEnt.tagW (e : FormEnt) : Nat := e.get 40 5

/-- TUB_BIT, MSG_BIT and WIDTH of copy `i`. -/
def FormEnt.copy (e : FormEnt) (i : Nat) : Nat × Nat × Nat := (e.get (48 + 25 * i) 9, e.get (57 + 25 * i) 10, e.get (67 + 25 * i) 6)

/-- Ingress fields. -/
def FormEnt.cls (e : FormEnt) : BitVec 4 := e.extractLsb' 1 4
def FormEnt.opcode (e : FormEnt) : BitVec 8 := e.extractLsb' 5 8
def FormEnt.inData (e : FormEnt) : Bool := e.getLsbD 13
def FormEnt.isAnswer (e : FormEnt) : Bool := e.getLsbD 14
def FormEnt.isHaul (e : FormEnt) : Bool := e.getLsbD 15

/-- Egress fields. -/
def FormEnt.channel (e : FormEnt) : BitVec 4 := e.extractLsb' 1 4
def FormEnt.msgOp (e : FormEnt) : BitVec 6 := e.extractLsb' 5 6
def FormEnt.tagAlloc (e : FormEnt) : Bool := e.getLsbD 11
def FormEnt.tagEcho (e : FormEnt) : Bool := e.getLsbD 12
def FormEnt.answers (e : FormEnt) : BitVec 2 := e.extractLsb' 13 2
def FormEnt.outData (e : FormEnt) : Bool := e.getLsbD 15

/-- Move `w` bits of `x` at bit `i` to bit `j` of `y`. -/
def moveBits {a b : Nat} (x : BitVec a) (i : Nat) (y : BitVec b) (j w : Nat) : BitVec b := putBits y j (x.extractLsb' i w)

/-- The copies of an entry from a tub body into a message, in order. -/
def FormEnt.copyOut (e : FormEnt) (body : BitVec 512) (m : BitVec 1024) : BitVec 1024 :=
  [0, 1, 2].foldl (fun a i => let c := e.copy i; moveBits body c.1 a c.2.1 c.2.2) m

/-- The copies of an entry from a message into a tub body, in order. -/
def FormEnt.copyIn (e : FormEnt) (m : BitVec 1024) (body : BitVec 512) : BitVec 512 :=
  [0, 1, 2].foldl (fun a i => let c := e.copy i; moveBits m c.2.1 a c.1 c.2.2) body

/-- The ingress entry of a message (R353). -/
def State.ingressEntry (s : State) (n : Shaft) (p : Portal) (m : Msg) : FormEnt :=
  Tbl.get 0 (s.sh n).formers.fin (1024 * p.val + 64 * m.channel.toNat + m.op.toNat)

/-- The egress entry of a class and opcode (R356). -/
def State.egressEntry (s : State) (n : Shaft) (p : Portal) (c : BitVec 4) (op : BitVec 8) : FormEnt :=
  Tbl.get 0 (s.sh n).formers.feg (4096 * p.val + 256 * c.toNat + op.toNat)

/-! ### The tag store (R358) -/

/-- R358: the tally of an entry is FREE or of another GEN. -/
def State.tagStale (s : State) (n : Shaft) (e : TagEnt) : Bool :=
  let y := s.tally n e.tally.toNat
  decide (y.st = .free) || decide (y.gen ≠ e.gen)

/-- The lowest free tag. -/
def freeTag (l : Tbl TagEnt) : Option Nat := lowestFree (l.map (fun e => e.1)) 0 4096

/-- R358 step 4: when no entry is free, every entry whose tally is FREE or of another GEN is freed first. -/
def State.tagRoom (s : State) (n : Shaft) (p : Portal) : State :=
  match freeTag (s.ptl n p).tags with
  | some _ => s
  | none => s.updPtl n p (fun x => { x with tags := x.tags.filter (fun e => !s.tagStale n e.2) })

/-- R358 step 1: a tub takes tag `i`. -/
def State.takeTag (s : State) (n : Shaft) (p : Portal) (i : Nat) (t : Tub) (answers : BitVec 2) : State :=
  s.updPtl n p (fun x => { x with tags := Tbl.set TagEnt.zero x.tags i ⟨true, t.tally, t.gen, t.seq, t.line, answers⟩ })

/-- R358: the shaft's Lode is in retention or reset. -/
def State.lodeRetains (s : State) (n : Shaft) : Bool := s.lodeOut n || decide (s.doze n = 2)

/-- R358 steps 2 and 3: an answer looks up its tag: the entry, if the answer may be used, and the state with the entry's REMAIN lowered or
the entry freed. -/
def State.lookTag (s : State) (n : Shaft) (p : Portal) (tag : Nat) : State × Option TagEnt :=
  let e := Tbl.get TagEnt.zero (s.ptl n p).tags tag
  let put (v : TagEnt) : State := s.updPtl n p (fun x => { x with tags := Tbl.set TagEnt.zero x.tags tag v })
  if s.lodeRetains n then (s.addReg n .PTL_STAT2_STALE_TAG p.val, none)
  else if 4096 ≤ tag ∨ !e.valid ∨ s.tagStale n e then ((put TagEnt.zero).addReg n .PTL_STAT2_STALE_TAG p.val, none)
  else (if e.remain.toNat ≤ 1 then put TagEnt.zero else put { e with remain := e.remain - 1 }, some e)

/-! ### Egress (R356) -/

/-- The REQUEST of the tally a DAT tub belongs to: where its TV is 0 there is none, and its bits are a free value. -/
def State.sourceBody (s : State) (n : Shaft) (t : Tub) : State × BitVec 512 :=
  if t.cls ≠ Cls.DAT then (s, t.body)
  else if t.tv then (s, (s.tally n t.tally.toNat).request)
  else let r := s.free; (r.2, BitVec.ofNat 512 (Config.freeValue r.1))

/-- The opcode of a tub's egress key. -/
def State.egressOp (s : State) (n : Shaft) (t : Tub) : BitVec 8 :=
  if t.cls ≠ Cls.DAT then t.opcode
  else if t.tv then (s.tally n t.tally.toNat).request.extractLsb' 0 8
  else 0

/-- The egress entry of a tub. -/
def State.entryOf (s : State) (n : Shaft) (p : Portal) (t : Tub) : FormEnt := s.egressEntry n p t.cls (s.egressOp n t)

/-- The agent an egress message names: DST_AGENT of a message, the requester for a DAT tub. -/
def State.egressAgent (s : State) (n : Shaft) (t : Tub) : Nat :=
  if t.cls ≠ Cls.DAT then t.dstAgent.toNat else if t.tv then (s.tally n t.tally.toNat).agent.toNat else 0

/-- R356, R354: the message of a tub by its entry: the copies, then AGENT, then the tag. -/
def State.makeMsg (s : State) (n : Shaft) (p : Portal) (e : FormEnt) (t : Tub) (src : BitVec 512) (tag : Option Nat) : Msg :=
  let v := s.egressAgent n t + 1024 - s.reg n .PTL_AGENT_BASE p.val
  let m1 := e.copyOut src 0
  let m2 := putBits m1 e.agentPos (BitVec.ofNat e.agentW v)
  let m3 := match tag with
    | some i => putBits m2 e.tagPos (BitVec.ofNat e.tagW i)
    | none => if e.tagEcho then putBits m2 e.tagPos ((src.extractLsb' 128 16).setWidth e.tagW) else m2
  ⟨e.channel, e.msgOp, m3, if t.cls = Cls.DAT then some t.body else none⟩

/-- R356: a tub with a valid entry becomes a message, with a tag when the entry asks for one. -/
def State.formWith (s : State) (n : Shaft) (p : Portal) (e : FormEnt) (t : Tub) : State × Msg :=
  let r := s.sourceBody n t
  if e.tagAlloc then
    match freeTag (r.1.ptl n p).tags with
    | some i => (r.1.takeTag n p i t e.answers, r.1.makeMsg n p e t r.2 (some i))
    | none => (r.1, r.1.makeMsg n p e t r.2 none)
  else (r.1, r.1.makeMsg n p e t r.2 none)

/-- R357: the message leaves, or waits for the DAT tub that is its data. -/
def State.msgOut (s : State) (n : Shaft) (p : Portal) (e : FormEnt) (m : Msg) (t : Tub) : State :=
  if e.outData ∧ t.cls ≠ Cls.DAT then s.updPtl n p (fun x => { x with eqHead := x.eqHead ++ [(m, t)] }) else s.toTx n p (.msg m)

/-- Is the tub the DAT tub a waiting message waits for? -/
def dataOf (t : Tub) (h : Msg × Tub) : Bool :=
  decide (t.cls = Cls.DAT) && decide (h.2.tv = t.tv) && decide (h.2.tally = t.tally) && decide (h.2.gen = t.gen)

/-- A waiting message whose DAT tub does not come leaves no more. -/
def State.dropHead (s : State) (n : Shaft) (p : Portal) (t : Tub) : State :=
  match takeFirst (dataOf t) (s.ptl n p).eqHead with
  | none => s
  | some (_, rest) => s.updPtl n p (fun x => { x with eqHead := rest })

/-- R356: the ERROR answer that replaces an RSP tub without an entry. -/
def State.errorFor (s : State) (n : Shaft) (t : Tub) : Tub :=
  if t.tv then { s.tallyAnswer n t.tally.toNat Ans.ERROR t.wdog with ans := t.ans }
  else (s.answerTub n Ans.ERROR t.body t.wdog).put 4 0 t.dstAgent

/-- R356, R357: the former of a PCIe-mode portal takes a tub. -/
def State.formTub (s : State) (n : Shaft) (p : Portal) (t : Tub) : State :=
  match takeFirst (dataOf t) (s.ptl n p).eqHead with
  | some ((m, _), rest) => (s.updPtl n p (fun x => { x with eqHead := rest })).toTx n p (.msg { m with data := some t.body })
  | none =>
    let e := s.entryOf n p t
    if e.valid then
      let r := s.formWith n p e t
      r.1.msgOut n p e r.2 t
    else if t.cls = Cls.RSP then
      let a := s.errorFor n t
      let f := s.entryOf n p a
      if f.valid then
        let r := s.formWith n p f a
        r.1.msgOut n p f r.2 a
      else s.addReg n .PTL_STAT_UNKNOWN_MSG p.val
    else s.addReg n .PTL_STAT_UNKNOWN_MSG p.val

/-- R358: must the egress queue wait because tub `t` needs a tag and none is free? -/
def State.tagShort (s : State) (n : Shaft) (p : Portal) (t : Tub) : Bool :=
  let e := s.entryOf n p t
  !((s.ptl n p).eqHead.any (dataOf t)) && e.valid && e.tagAlloc && decide (freeTag (s.ptl n p).tags = none)

/-! ### Drift (R342, R359, R478) -/

/-- The FTAG of a tub that crosses a device-to-device portal under a tally: TALLY, GEN and SEQ (R359). -/
def crossTag (t : Tub) : DWord := BitVec.ofNat 64 (t.tally.toNat + t.gen.toNat * 2 ^ 15 + t.seq.toNat * 2 ^ 23)

/-- R478: does a tub with TV 1 that leaves through portal `p` answer a request, or a relayed SNP, of the device beyond it? -/
def State.answersFar (s : State) (n : Shaft) (p : Portal) (t : Tub) : Bool :=
  let y := s.tally n t.tally.toNat
  decide (y.gen = t.gen) && (y.request.getLsbD 8 || (decide (y.kind = .forward) && decide (y.portal = p) && decide (y.fwdPortal ≠ p)))

/-- R342, R359, R478: a Drift portal carries a tub as it stands; a SNP carries its tally in FTAG, an answer the ANSWER bit, and a DAT
answer the two tag fields. -/
def State.driftItem (s : State) (n : Shaft) (p : Portal) (t : Tub) : TxItem :=
  if t.cls = Cls.DAT then
    if t.tv ∧ s.answersFar n p t then
      let f : BitVec 512 := (s.tally n t.tally.toNat).request
      .tub t true (f.extractLsb' 128 15) (f.extractLsb' 143 4)
    else .tub t false 0 0
  else if t.cls = Cls.RSP then .tub t (if t.tv then s.answersFar n p t else t.wdog || t.ans) 0 0
  else if t.cls = Cls.SNP ∧ t.tv then .tub (t.put 16 0 (crossTag t)) false 0 0
  else .tub t false 0 0

end Sys2Proof.Machine
end

