-- ==== Sys2Proof/Machine/PortalLink.lean ====
section
/-! DEFINITION. A portal's link (R335 to R349): enabling and disabling, training, HOLD, recovery, width, link-down, and the limit on link
resets (R440, R441). -/

namespace Sys2Proof.Machine

/-- Write the state of a portal. -/
def State.setPst (s : State) (n : Shaft) (p : Portal) (v : Nat) : State := s.setReg n .PTL_STATE_STATE v p.val

/-- Portal number e of the guards (R439). -/
def portalE (n : Shaft) (p : Portal) : Nat := 8 * n.val + p.val

/-- The lanes a portal is configured with. -/
def State.portalLanes (s : State) (n : Shaft) (p : Portal) : List Nat := s.lanesAt n p (s.ptl n p).cfg.width

/-! ### Link-down -/

/-- LINK_DOWN causes (R368). -/
def Down.SIGNAL : Nat := 1
def Down.DISABLED : Nat := 2
def Down.RECOVERY : Nat := 3
def Down.RETRAIN : Nat := 4
def Down.RESET : Nat := 5

/-- A lane of a portal that is electrically idle: no rate, no lock, no sleep; it stops being qualified (R108). -/
def State.laneIdle (s : State) (n : Shaft) (l : Nat) : State :=
  (((((s.setReg n .LNE_STAT_RATE 0 l).setReg n .LNE_STAT_CDR_LOCK 0 l).setReg n .LNE_STAT_TX_SLEEP 0 l).setReg n .LNE_STAT_RX_SLEEP 0
    l).updSh n (fun h => { h with lockSince := Tbl.set none h.lockSince l none })).unqualify n l

/-- What a portal's mover forgets when its link is down: what it formed, flits not acknowledged, replay, credits, the wait for EPOCH_MARK
(R394), messages half formed. -/
def PortalSt.down (x : PortalSt) : PortalSt :=
  { x with
    nextFseq := 0, expFseq := 0, unacked := [], replayAt := none, replays := 0, nakDue := false, credits := [0, 0, 0]
    creditsDue := [0, 0, 0], creditHold := false, eqHead := [], txq := [], markWait := false, partnerEpoch := none, follow := none
    tagWait := false, rxWidth := 0, wakeAt := none }

/-- The portal leaves training or link-up for state `st`: its lanes idle, its trained width, rate and QUOTA 0 (R141). A portal that was
link-up raises LINK_DOWN with `cause`. -/
def State.takeDown (s : State) (n : Shaft) (p : Portal) (st cause : Nat) : State :=
  let up := s.linkUp n p
  let s1 := (s.portalLanes n p).foldl (fun a l => a.laneIdle n l) s
  let s2 := ((((s1.setReg n .PTL_STATE_TRAINED 0 p.val).setReg n .PTL_STATE_PRESENT 0 p.val).setReg n .PTL_STATE_RATE 0 p.val).setReg n
    .TLY_QUOTA_QUOTA 0 p.val).setPst n p st
  let s3 := s2.updPtl n p PortalSt.down
  if up then s3.shEvent n 0x0902 Sev.notice p.val (detail cause) else s3

/-- A portal enters DETECT and looks for a partner. -/
def State.enterDetect (s : State) (n : Shaft) (p : Portal) : State :=
  (s.setPst n p Pst.DETECT).updPtl n p (fun x => { x with step := .sync, stepAt := s.up, heldFor := 0 })

/-- LINK_DOWN (R349): the partner's signal is lost. -/
def execLinkDown (sh : Shaft) (p : Portal) (s : State) : Out :=
  .next (if s.linkUp sh p then (s.takeDown sh p Pst.DETECT Down.SIGNAL).enterDetect sh p else s)

/-! ### Link resets (R440, R441) -/

/-- The link resets of a portal within the last second. -/
def State.recentResets (s : State) (n : Shaft) (p : Portal) : List Nat :=
  (s.ptl n p).resets.filter (fun t => decide (s.up < t + 1000000))

/-- LINK_RESETS of a portal's charter. -/
def State.resetLimit (s : State) (n : Shaft) (p : Portal) : Nat := s.dev .GRD_PORT_LINK_RESETS (portalE n p)

/-- R442: a gated GRD block counts nothing and raises nothing. -/
def State.guardCounts (s : State) : Bool := !s.devGated .GRD

/-- R441: a link reset of kind `d` counts against the limit; beyond it, it is deferred. The second value says whether it may go on. -/
def State.linkReset (s : State) (n : Shaft) (p : Portal) (d : Deferred) : State × Bool :=
  if (s.recentResets n p).length < s.resetLimit n p then
    (s.updPtl n p (fun x => { x with resets := s.recentResets n p ++ [s.up], deferred := .none }), true)
  else
    let s1 := s.updPtl n p (fun x => { x with deferred := d })
    (if s1.guardCounts then
      (s1.addDev .GRD_STAT_LINK_DEFER (portalE n p)).shEvent n 0x0C05 Sev.notice p.val (detail (s.resetLimit n p))
     else s1, false)

/-- LINK_DEFER_END (R441): the second allows the deferred reset; the portal, in DETECT, goes on. -/
def State.deferEnd (s : State) (n : Shaft) (p : Portal) : State :=
  if (s.ptl n p).deferred ≠ .none ∧ (s.recentResets n p).length < s.resetLimit n p then
    (s.updPtl n p (fun x => { x with resets := s.recentResets n p ++ [s.up], deferred := .none, stepAt := s.up }))
  else s

/-- LINK_DEFER_END. -/
def execLinkDeferEnd (sh : Shaft) (p : Portal) (s : State) : Out := .next (s.deferEnd sh p)

/-- R341, R343, R344: a portal that is UP retrains, or enters the Recovery of PCIe mode: RECOVERY, counted as a link reset (R440), or
link-down while the limit defers it. -/
def State.retrain (s : State) (n : Shaft) (p : Portal) : State :=
  let r := (s.addReg n .PTL_STAT3_RETRAINS p.val).linkReset n p .retrain
  if r.2 then
    (r.1.setPst n p Pst.RECOVERY).updPtl n p (fun x => { x with recoveryAt := s.up, replays := 0, wakeAt := none })
  else (r.1.takeDown n p Pst.DETECT Down.RETRAIN).enterDetect n p

/-- RECOVERY_TIMEOUT (R344): a recovery has lasted more than 1 ms. -/
def execRecoveryTimeout (sh : Shaft) (p : Portal) (s : State) : Out :=
  .next (if s.pst sh p = Pst.RECOVERY ∧ (s.ptl sh p).recoveryAt + 1000 < s.up then
    (s.takeDown sh p Pst.DETECT Down.RECOVERY).enterDetect sh p else s)

/-! ### Enabling (R347) -/

/-- The settings of PTL.CFG[p]. -/
def State.portalSettings (s : State) (n : Shaft) (p : Portal) : PortalCfg :=
  ⟨s.reg n .PTL_CFG_WIDTH p.val, s.reg n .PTL_CFG_FIRST_LANE p.val, s.reg n .PTL_CFG_ROLE p.val, s.reg n .PTL_CFG_ORIENT p.val,
   s.regB n .PTL_CFG_MODE p.val⟩

/-- The other portals that are enabled. -/
def State.others (s : State) (n : Shaft) (p : Portal) : List Portal :=
  Oct.indices.filter (fun q => decide (q ≠ p) && decide (s.pst n q ≠ Pst.DISABLED))

/-- Two ranges share a number. -/
def overlap (a la b lb : Nat) : Bool := decide (0 < la) && decide (0 < lb) && decide (a < b + lb) && decide (b < a + la)

/-- A combination listed in R346. -/
def PortalCfg.roleOk (c : PortalCfg) : Bool :=
  (decide (c.role = Role.HOST) && !c.drift) || (decide (c.role = Role.MEM) && !c.drift && decide (c.orient = 1))
    || (decide (c.role = Role.D2D) && c.drift)

/-- R350: a role that holds a block of agents. -/
def hasAgents (role : Nat) : Bool := decide (role = Role.HOST) || decide (role = Role.D2D)

/-- R347 check 6: the egress entry of an answer template has VALID 0. Templates 9 to 15 are never used (R363); MEM_ERROR answers are of class
MRS (R364). A Drift portal uses no former table. -/
def State.noAnswerForm (s : State) (n : Shaft) (p : Portal) (c : PortalCfg) : Bool :=
  !c.drift && (List.range 9).any (fun i =>
    !(s.egressEntry n p (if i = Ans.MEM_ERROR then Cls.MRS else Cls.RSP) ((Tbl.get 0 (s.sh n).formers.ans i).extractLsb' 0 8)).getLsbD 0)

/-- R347: CFG_ERR of the settings, 0 when they pass. -/
def State.enableCheck (s : State) (n : Shaft) (p : Portal) : Nat :=
  let c := s.portalSettings n p
  let w := 2 ^ c.width
  if 4 < c.width then 1
  else if c.firstLane % w ≠ 0 then 2
  else if (s.others n p).any (fun q => overlap c.firstLane w (s.ptl n q).cfg.firstLane (2 ^ (s.ptl n q).cfg.width)) then 3
  else if !c.roleOk then 4
  else if hasAgents c.role && (s.others n p).any (fun q => hasAgents (s.ptl n q).cfg.role &&
      overlap (s.reg n .PTL_AGENT_BASE p.val) (s.reg n .PTL_AGENT_COUNT p.val) (s.reg n .PTL_AGENT_BASE q.val)
        (s.reg n .PTL_AGENT_COUNT q.val)) then 5
  else if s.noAnswerForm n p c then 6
  else 0

/-- R441: transmit settings above a lane's caps are clipped, and counted per portal. -/
def State.countClips (s : State) (n : Shaft) (p : Portal) (l : Nat) : State :=
  let j := 16 * n.val + l
  let above (f g : Fld) : Nat := if s.dev g j < s.reg n f l then 1 else 0
  let k := above .LNE_CFG_TX_SWING .GRD_LANE_SWING_CAP + above .LNE_CFG_TX_PRE .GRD_LANE_PRE_CAP + above .LNE_CFG_TX_POST .GRD_LANE_POST_CAP
  if k = 0 ∨ !s.guardCounts then s else s.addDev .GRD_STAT2_CLIPS (portalE n p) k

/-- R347, R440: ENABLE changes from 0 to 1, or PTL returns from its gate with ENABLE 1. -/
def State.portalUp (s : State) (n : Shaft) (p : Portal) : State :=
  let e := s.enableCheck n p
  let s1 := s.setReg n .PTL_STATE_CFG_ERR e p.val
  if e ≠ 0 then s1.shEvent n 0x0906 Sev.notice p.val (detail e)
  else
    let first := !(s.ptl n p).enabledOnce
    let s2 := s1.updPtl n p (fun x => { x with cfg := s.portalSettings n p, enabledOnce := true, deferred := .none })
    let s3 := if first then s2 else (s2.linkReset n p .portal).1
    (s3.portalLanes n p).foldl (fun (a : State) l => a.countClips n p l) (s3.enterDetect n p)

/-- R349: ENABLE changes from 1 to 0; the run of failures ends (R338). -/
def State.portalDown (s : State) (n : Shaft) (p : Portal) : State :=
  if s.pst n p = Pst.DISABLED then s
  else ((s.takeDown n p Pst.DISABLED Down.DISABLED).setReg n .PTL_STATE_FAILS 0 p.val).updPtl n p
    (fun x => { x with runRaised := false, deferred := .none })

/-- PORTAL reset of one portal (R426, R429, R434): what is not kept across it is reset, and the portal, when enabled, goes link-down and
back to DETECT, counting as a link reset. -/
def State.portalReset (s : State) (n : Shaft) (p : Portal) : State :=
  let s1 := s.setReg n .PTL_CFG_HOLD 0 p.val
  let s2 := (s1.portalLanes n p).foldl (fun (a : State) l => (a.setReg n .LNE_STAT_SLIP_IGNORED 0 l).setReg n .LNE_STAT_SLIP_POS 0 l) s1
  if s2.pst n p = Pst.DISABLED then s2
  else
    let r := (s2.takeDown n p Pst.DETECT Down.RESET).linkReset n p .portal
    (r.1.setReg n .PTL_STATE_FAILS 0 p.val).enterDetect n p

/-! ### Training -/

/-- Lanes train: not before the shaft's part of the boot is done (R315, R384, R385, R424), nor in POR, SHAFT reset, an Adit slice reset or a
halt (R422), nor in START_HOLD (R113), nor while a link reset is deferred (R441). -/
def State.trains (s : State) (n : Shaft) (p : Portal) : Bool :=
  decide ((s.sh n).boot = .done) && !s.por && !s.aditOut n && decide (s.thermal n ≠ 3) && decide (s.timing n ≠ Tmg.START_HOLD) && decide ((s.ptl n p).deferred = .none) && !s.shGated n .PTL

/-- Lane rates in kbit/s (Drift) and Mbit/s (PCIe) by rate code (R331). -/
def driftRate (code : Nat) : Nat := [26562500, 53125000, 106250000, 212500000].getD code 256000000
def pcieRate (code : Nat) : Nat := [2500, 5000, 8000, 16000, 32000].getD code 64000

/-- R141: QUOTA at link-up. -/
def quota (drift : Bool) (rate width : Nat) : Nat :=
  min 32768 (if drift then 7 * driftRate rate * 514 * width / (10 * 544 * 4096) else pcieRate rate * 100 * width / 640)

/-- R362: the credit depth of a Drift portal. -/
def PortalCfg.depth (c : PortalCfg) : Nat := 16 * 2 ^ c.width

/-- R336, R337: the portal is UP at its rate; a PCIe-mode portal may have trained at a narrower width (R345): LINK_UP. -/
def State.linkIsUp (s : State) (n : Shaft) (p : Portal) (width : Nat) : State :=
  let c := (s.ptl n p).cfg
  let w := if c.drift then c.width else min width c.width
  let rate := s.reg n .PTL_STATE_RATE p.val
  let s1 := ((s.setReg n .PTL_STATE_TRAINED w p.val).setReg n .PTL_STATE_PRESENT w p.val).setReg n .TLY_QUOTA_QUOTA
    (quota c.drift rate (2 ^ w)) p.val
  let s2 := (s1.setReg n .PTL_STATE_FAILS 0 p.val).setPst n p Pst.UP
  let s3 := (s2.lanesAt n p w).foldl
    (fun (a : State) l =>
      let b := a.setReg n .LNE_STAT_RATE rate l
      if a.regB n .LNE_STAT_CDR_LOCK l then b
      else (b.setReg n .LNE_STAT_CDR_LOCK 1 l).updSh n (fun h => { h with lockSince := Tbl.set none h.lockSince l (some s.up) })) s2
  let s4 := s3.updPtl n p (fun x =>
    { x.down with credits := [c.depth, c.depth, 0], runRaised := false, rxWidth := w })
  { s4 with everTrained := true }.shEvent n 0x0901 Sev.info p.val (detail (w + 256 * rate + 65536 * bit c.drift))

/-- R338: a training attempt has failed: BACKOFF, and LINK_NO_PARTNER at the eighth in a row. -/
def State.attemptFails (s : State) (n : Shaft) (p : Portal) : State :=
  let f := min 15 (s.reg n .PTL_STATE_FAILS p.val + 1)
  let wait := 1000 * min (2 ^ (f - 1)) 64
  let s1 := ((s.takeDown n p Pst.BACKOFF Down.SIGNAL).setReg n .PTL_STATE_FAILS f p.val).updPtl n p
    (fun x => { x with backoffUntil := s.up + wait })
  if f = 8 ∧ !(s.ptl n p).runRaised then
    (s1.updPtl n p (fun x => { x with runRaised := true })).shEvent n 0x0903 Sev.notice p.val (detail 8)
  else s1

/-- The attempt's next training step begins; HOLD stops it there (R339). -/
def State.nextStep (s : State) (n : Shaft) (p : Portal) (k : TrainStep) : State :=
  (s.updPtl n p (fun x => { x with step := k, stepAt := s.up })).setPst n p
    (if s.regB n .PTL_CFG_HOLD p.val then Pst.HOLD else Pst.TRAINING)

/-- SYNC has ended: the CDR of every lane has lock. -/
def State.lockLanes (s : State) (n : Shaft) (p : Portal) : State :=
  (s.portalLanes n p).foldl
    (fun (a : State) l => (a.setReg n .LNE_STAT_CDR_LOCK 1 l).updSh n (fun h => { h with lockSince := Tbl.set none h.lockSince l (some s.up) })) s

/-- R335: the highest rate the portal attempts: the lowest MAX_RATE of its lanes, in Drift mode at most 4 (R367), and what the partner
advertises; once equalization has failed, the last good rate. -/
def State.highestRate (s : State) (n : Shaft) (p : Portal) : Nat :=
  let x := s.ptl n p
  let m := (s.portalLanes n p).foldl (fun a l => min a (s.reg n .LNE_CFG_MAX_RATE l)) (if x.cfg.drift then 4 else 5)
  match x.highRate with
  | some h => min m h
  | none => m

/-- R335: the partner's advertised maximum bounds the highest rate attempted. -/
def State.heard (s : State) (n : Shaft) (p : Portal) (r : TrainReport) : State :=
  s.updPtl n p (fun x => { x with highRate := some (min r.most (x.highRate.getD r.most)) })

/-- R335: equalization failed at the step to the next rate: both ends return to the last good rate, which stays the highest until the next
training. -/
def State.rateLimited (s : State) (n : Shaft) (p : Portal) (now : Nat) : State :=
  (s.updPtl n p (fun x => { x with highRate := some now })).shEvent n 0x0904 Sev.notice p.val (detail (now + 256 * (now + 1)))

/-- R335: a step of the rate ladder. Both ends have agreed to the next rate and equalized at it, or equalization failed there, or the portal
goes on at the rate it has; nothing else is a step. -/
def State.rateStep (s : State) (n : Shaft) (p : Portal) (r : TrainReport) : Option State :=
  let now := s.reg n .PTL_STATE_RATE p.val
  if now < s.highestRate n p then
    if r.eqFailed then some (s.rateLimited n p now)
    else if r.rate = now + 1 then some (s.setReg n .PTL_STATE_RATE r.rate p.val)
    else if r.rate = now then some s
    else none
  else if r.rate = now then some s
  else none

/-- R335: the ladder has been climbed: the portal stands at the highest rate it attempts. -/
def State.topRate (s : State) (n : Shaft) (p : Portal) : Bool := decide (s.reg n .PTL_STATE_RATE p.val = s.highestRate n p)

/-- R336, R34: IDENT has been exchanged. -/
def State.ident (s : State) (n : Shaft) (p : Portal) (r : TrainReport) : State :=
  if r.plane.toNat ≠ s.reg n .SHF_PLANE_ID then
    (s.shEvent n 0x0907 Sev.notice p.val (detail (s.reg n .SHF_PLANE_ID + 256 * r.plane.toNat))).attemptFails n p
  else if !r.d2d then s.attemptFails n p
  else (s.heard n p r).nextStep n p .rate

/-- TRAINING_STEP (R335 to R337): a training step completes with what the partner reports. -/
def State.trainStep (s : State) (n : Shaft) (p : Portal) (r : TrainReport) : State :=
  let x := s.ptl n p
  let st := s.pst n p
  if !s.trains n p then s
  else if st = Pst.DETECT then
    (s.updPtl n p (fun x => { x with leftDetect := s.up, heldFor := 0, highRate := none })).nextStep n p (if x.cfg.drift then .sync else .ltssm)
  else if st = Pst.RECOVERY then if r.up then s.setPst n p Pst.UP else s
  else if st ≠ Pst.TRAINING then s
  else match x.step with
    | .sync => (s.lockLanes n p).nextStep n p .ident
    | .ident => s.ident n p r
    | .rate =>
      match s.rateStep n p r with
      | none => s
      | some s1 => if r.up && s1.topRate n p then s1.linkIsUp n p r.width else s1.nextStep n p .rate
    | .ltssm =>
      match (s.heard n p r).rateStep n p r with
      | none => s
      | some s1 =>
        if !(r.up && s1.topRate n p) then s1.nextStep n p .ltssm
        else if r.lacks ≠ 0 then (s1.shEvent n 0x0905 Sev.notice p.val (detail r.lacks)).attemptFails n p
        else s1.linkIsUp n p r.width

/-- TRAINING_STEP. -/
def execTrainingStep (sh : Shaft) (p : Portal) (r : TrainReport) (s : State) : Out := .next (s.trainStep sh p r)

/-- R338: does the attempt fail for this reason now? HOLD suspends the 24 ms limit and is not counted in the 200 ms (R337). -/
def State.fails (s : State) (n : Shaft) (p : Portal) (r : TrainLoss) : Bool :=
  let x := s.ptl n p
  match r with
  | .signal => decide (s.pst n p ≠ Pst.DETECT)
  | .timeout => decide (s.pst n p ≠ Pst.HOLD) && decide (x.stepAt + 24000 ≤ s.up)
  | .notUp =>
    let held := x.heldFor + if s.pst n p = Pst.HOLD then s.up - x.stepAt else 0
    !x.cfg.drift && decide (s.pst n p ≠ Pst.DETECT) && decide (x.leftDetect + held + 200000 ≤ s.up)
  | .protocol _ => !x.cfg.drift && decide (s.pst n p ≠ Pst.DETECT)

/-- TRAINING_FAIL (R338). A recovery that fails takes the portal link-down. -/
def State.trainFail (s : State) (n : Shaft) (p : Portal) (r : TrainLoss) : State :=
  let st := s.pst n p
  if st = Pst.RECOVERY then (s.takeDown n p Pst.DETECT Down.RETRAIN).enterDetect n p
  else if (st = Pst.DETECT ∨ st = Pst.TRAINING ∨ st = Pst.HOLD) ∧ s.trains n p ∧ s.fails n p r then
    match r with
    | .protocol k => (s.shEvent n 0x0905 Sev.notice p.val (detail k)).attemptFails n p
    | _ => s.attemptFails n p
  else s

/-- TRAINING_FAIL. -/
def execTrainingFail (sh : Shaft) (p : Portal) (r : TrainLoss) (s : State) : Out := .next (s.trainFail sh p r)

/-- BACKOFF_END (R338). -/
def execBackoffEnd (sh : Shaft) (p : Portal) (s : State) : Out :=
  .next (if s.pst sh p = Pst.BACKOFF ∧ (s.ptl sh p).backoffUntil ≤ s.up then s.enterDetect sh p else s)

/-! ### HOLD and slip (R339) -/

/-- HOLD becomes 1: a portal in TRAINING stops at its present step. -/
def State.holdOn (s : State) (n : Shaft) (p : Portal) : State :=
  if s.pst n p = Pst.TRAINING then (s.setPst n p Pst.HOLD).updPtl n p (fun x => { x with stepAt := s.up }) else s

/-- HOLD becomes 0: training resumes at the held step, its 24 ms counted afresh. -/
def State.holdOff (s : State) (n : Shaft) (p : Portal) : State :=
  if s.pst n p = Pst.HOLD then
    (s.setPst n p Pst.TRAINING).updPtl n p (fun x => { x with heldFor := x.heldFor + (s.up - x.stepAt), stepAt := s.up })
  else s

/-- The write of LNE.SLIP[l] with GO 1. -/
def State.laneSlip (s : State) (n : Shaft) (l : Nat) (later : Bool) : State :=
  let held := match s.lanePortal n l with
    | some p => decide (s.pst n p = Pst.HOLD)
    | none => false
  if held then s.setReg n .LNE_STAT_SLIP_POS ((s.reg n .LNE_STAT_SLIP_POS l + if later then 1 else 63) % 64) l
  else s.setReg n .LNE_STAT_SLIP_IGNORED 1 l

/-! ### Width (R340) -/

/-- R340, R341: may the portal halve its width now? It is UP, SLEEP_EN allows it, MIN_WIDTH leaves room, and its open count stays within the
quota of the narrower width. -/
def State.narrows (s : State) (n : Shaft) (p : Portal) : Bool :=
  let now := s.reg n .PTL_STATE_PRESENT p.val
  decide (s.pst n p = Pst.UP) && s.regB n .PTL_CFG_SLEEP_EN p.val && decide (s.reg n .PTL_CFG_MIN_WIDTH p.val < now)
    && !s.overWidth n p (now - 1) (s.openWork n p)

/-- The lanes of a list that may sleep (R340). -/
def State.maySleep (s : State) (n : Shaft) (p : Portal) (l : List Nat) : List Nat :=
  l.filter (fun i => s.regB n .LNE_CFG_SLEEP_EN i && s.regB n .PTL_CFG_SLEEP_EN p.val)

/-- Receivers of a list enter RX Sleep, those of them that may, and receive at width code `w` (R340). -/
def State.rxHalve (s : State) (n : Shaft) (p : Portal) (l : List Nat) (w : Nat) : State :=
  ((s.maySleep n p l).foldl (fun a i => a.laneLost n i .rxSleep) s).updPtl n p (fun x => { x with rxWidth := w })

/-- WIDTH_HALVE: the lanes given up enter TX Sleep, those of them that may. A Drift portal announces it by SLEEP; in PCIe mode L0p puts the
receivers of those lanes to sleep as well (R333, R340). -/
def State.halve (s : State) (n : Shaft) (p : Portal) : State :=
  let now := s.reg n .PTL_STATE_PRESENT p.val
  let l := s.lanesFrom n p (now - 1) now
  if s.narrows n p then
    let s1 := ((s.maySleep n p l).foldl (fun (a : State) i => a.setReg n .LNE_STAT_TX_SLEEP 1 i) s).setReg n .PTL_STATE_PRESENT (now - 1) p.val
    if (s.ptl n p).cfg.drift then s1.toTx n p (.control Ctl.SLEEP 0) else s1.rxHalve n p l (now - 1)
  else s

/-- WIDTH_HALVE. -/
def execWidthHalve (sh : Shaft) (p : Portal) (s : State) : Out := .next (s.halve sh p)

/-- WIDTH_DOUBLE. -/
def execWidthDouble (sh : Shaft) (p : Portal) (s : State) : Out :=
  let now := s.reg sh .PTL_STATE_PRESENT p.val
  .next (if decide (s.pst sh p = Pst.UP) && decide (now < s.reg sh .PTL_STATE_TRAINED p.val) then
    s.widen sh p (now + 1) else s)

/-- R341, R344: a wake that the partner has not completed within 10 µs is handled as a recovery. -/
def State.wakesOver (s : State) (n : Shaft) : State :=
  s.eachPortal (fun p a =>
    if a.pst n p = Pst.UP ∧ (a.ptl n p).wakeAt.any (fun t => decide (t + 10 < a.up)) then a.retrain n p else a)

/-! ### ADRIFT (R111, R113) -/

/-- ADRIFT: holdover has lasted 100 ms; every enabled portal goes link-down and retries. The spec names no LINK_DOWN cause for it. -/
def State.goAdrift (s : State) (n : Shaft) : State :=
  if s.timing n = Tmg.HOLDOVER ∧ (s.sh n).holdoverAt + 100000 ≤ s.up ∧ Oct.indices.any (fun p => decide (s.pst n p ≠ Pst.DISABLED)) then
    (s.setTiming n Tmg.ADRIFT none).eachPortal (fun p a =>
      if a.pst n p = Pst.DISABLED then a
      else
        let r := a.free
        (r.2.takeDown n p Pst.DETECT (Config.freeValue r.1 % 256)).enterDetect n p)
  else s

/-- ADRIFT. -/
def execAdrift (sh : Shaft) (s : State) : Out := .next (s.goAdrift sh)

end Sys2Proof.Machine
end

