-- ==== Sys2Proof/Machine/Names.lean ====
section
/-! DEFINITION. The list of every register, and the name of every field as the Survey Table's strings spell it (R49). -/

namespace Sys2Proof.Machine

/-- Every register of the spec's tables. -/
def Reg.all : List Reg :=
  [.SHF_PLANE, .SHF_ROUTE, .SHF_FWD_STAT, .SHF_FWD_STAT2, .SHF_CTL, .DEV_CTL, .SGATE, .DGATE, .SGATE_HITS, .DGATE_HITS, .CGE_CFG, .CGE_STAT, .CGE_LAST_FAIL, .EVL_STAT, .HAU_STAT, .HAU_STAT2, .HAU_VLINK, .PCE_STOPE, .PCE_SLIP, .PCE_TPLL, .CLK_CFG, .CLK_STATE, .CLK_QUAL, .CLK_STAT, .TIM_CFG, .TIM_NOW_LO, .TIM_NOW_HI, .TIM_ASYM, .TIM_OFFSET, .TIM_STAT, .TLY_CFG, .TLY_CFG2, .TLY_COUNT, .TLY_CLOCK, .TLY_STAT, .TLY_STAT2, .TLY_STAT3, .TLY_STAT4, .TLY_STAT5, .TLY_QUOTA] ++
  [.TLY_KILL, .CLM_ENTRY0, .CLM_ENTRY1, .CLM_ENTRY2, .CLM_ENTRY3, .CLM_ENTRY4, .CLM_ENTRY5, .CLM_ENTRY6, .CLM_ENTRY7, .CLM_MAP, .CLM_STAGE0, .CLM_STAGE1, .CLM_STAGE2, .CLM_STAGE3, .CLM_STAGE4, .CLM_CMD, .CLM_CMD_STAT, .CLM_SWEEP, .CLM_SWEEP_STAT, .CLM_SWEEP_CNT, .CLM_STAT, .CLM_STAT2, .DIR_CFG, .DIR_NEED, .DIR_PRESENT, .DIR_STAT, .DIR_STAT2, .DIR_STAT3, .HWR_CFG, .HWR_EPOCH, .HWR_EPOCH_CNT, .HWR_FLIP, .HWR_FLIP_STAT, .HWR_BANK_CTL, .HWR_BANK_CRC, .HWR_BANK_STAT, .HWR_RETIRE, .HWR_RETIRE_STAT, .HWR_STAT, .HWR_STAT2] ++
  [.HWR_STAT3, .HWR_TRAP_LOG0, .HWR_TRAP_LOG1, .HWR_TRAP_LOG2, .HWR_TRAP_LOG3, .HWR_UNIT, .HWR_CTR, .PTL_DL_STAT, .PTL_DL_STAT2, .PTL_DL_STAT3, .PTL_DL_GATE, .PTL_DL_GATE2, .STP_SPEC, .QMG_CFG, .QMG_STAGE0, .QMG_STAGE1, .QMG_STAGE2, .QMG_STAGE3, .QMG_CMD, .QMG_CMD_STAT, .QMG_HOST_CMD, .QMG_HOST_STAT, .QMG_HOST_TUB, .QMG_FC, .QMG_STAT, .QMG_STAT2, .QMG_STAT3, .QMG_STAT4, .STP_CFG, .STP_STAT, .STP_CONT_LOG, .STP_STAT2, .BLK_PORT, .BLK_STAT, .CTX_STOPE, .CTX_SLOT, .CTX_CMD, .CTX_CMD_STAT, .CTX_LOAD_STAT, .CTX_LOAD_ADDR] ++
  [.CTX_RB_CTL, .CTX_RB_STAT, .CTX_RB_DATA, .CTX_RB_CHECK, .CTX_STAT, .CTX_STAT2, .SCB_STAT, .SCB_CTL, .SCB_PASS, .SCB_CNT, .SCB_CNT2, .SCB_CNT3, .SCB_LOST_LOG, .LNE_CFG, .LNE_STAT, .LNE_SLIP, .LNE_ERR, .PTL_CFG, .PTL_SLEEP, .PTL_STATE, .PTL_AGENT, .PTL_INQ, .PTL_EQ, .PTL_CROUTE, .PTL_TAGS, .PTL_STAT, .PTL_STAT2, .PTL_STAT3, .PTL_STAT4, .IMG_CMD, .IMG_CMD_STAT, .IMG_STATE, .IMG_FAIL, .IMG_FAIL_PART, .IMG_STREAM, .IMG_WHEN_LO, .IMG_WHEN_HI, .IMG_SLOTS, .IMG_ID_LO, .IMG_ID_HI] ++
  [.IMG_INFO, .IMG_SETCMD, .IMG_SETREC0, .IMG_SETREC1, .IMG_SETREC2, .IMG_SETREC3, .IMG_SETSTAT, .CAN_CFG, .CAN_CTL, .CAN_TEMP, .CAN_SENSOR, .CAN_SHAFT, .CAN_STAT, .PWR_CFG, .PWR_AVS, .PWR_SHAFT, .PWR_ENERGY, .GRD_HIT, .GRD_RATE, .GRD_PORT, .GRD_PORT2, .GRD_WIN0, .GRD_WIN1, .GRD_LANE, .GRD_DEV, .GRD_TPL0, .GRD_TPL1, .GRD_TPL2, .GRD_STAT, .GRD_STAT2, .BST_STAT, .BST_CNT, .BST_CNT2, .SHF_SLICE_STAT, .SHF_ATTN, .SHF_RST, .DEV_ATTN]

/-- The name of a field, REGISTER.FIELD. -/
def Fld.title : Fld → String
  | .SHF_PLANE_ID => "PLANE.ID"
  | .SHF_ROUTE_TARGET => "ROUTE.TARGET"
  | .SHF_FWD_STAT_ROUTE_MISS => "FWD_STAT.ROUTE_MISS"
  | .SHF_FWD_STAT2_LATE_ANSWER => "FWD_STAT2.LATE_ANSWER"
  | .SHF_CTL_DEEP_OPEN => "CTL.DEEP_OPEN"
  | .SHF_CTL_KEY => "CTL.KEY"
  | .DEV_CTL_DEEP_OPEN => "CTL.DEEP_OPEN"
  | .DEV_CTL_KEY => "CTL.KEY"
  | .SGATE_EN => "GATE.EN"
  | .DGATE_EN => "GATE.EN"
  | .SGATE_HALTED => "GATE.HALTED"
  | .DGATE_HALTED => "GATE.HALTED"
  | .SGATE_HITS_HITS => "GATE_HITS.HITS"
  | .DGATE_HITS_HITS => "GATE_HITS.HITS"
  | .CGE_CFG_DDR => "CFG.DDR"
  | .CGE_CFG_SILENCE_MS => "CFG.SILENCE_MS"
  | .CGE_STAT_BAD_HDR => "STAT.BAD_HDR"
  | .CGE_STAT_BAD_DATA => "STAT.BAD_DATA"
  | .CGE_LAST_FAIL_WORD => "LAST_FAIL.WORD"
  | .CGE_LAST_FAIL_OUTCOME => "LAST_FAIL.OUTCOME"
  | .EVL_STAT_COUNT => "STAT.COUNT"
  | .EVL_STAT_DROPPED => "STAT.DROPPED"
  | .HAU_STAT_CORR => "STAT.CORR"
  | .HAU_STAT_UNCORR => "STAT.UNCORR"
  | .HAU_STAT2_LAYER_ABSENT => "STAT2.LAYER_ABSENT"
  | .HAU_STAT2_CREDIT_HOLD => "STAT2.CREDIT_HOLD"
  | .HAU_VLINK_RETIRED => "VLINK.RETIRED"
  | .PCE_STOPE_TEMPO => "STOPE.TEMPO"
  | .PCE_STOPE_SRC => "STOPE.SRC"
  | .PCE_STOPE_DIV => "STOPE.DIV"
  | .PCE_STOPE_AUTO_FB => "STOPE.AUTO_FB"
  | .PCE_STOPE_ACTIVE => "STOPE.ACTIVE"
  | .PCE_STOPE_RAMPING => "STOPE.RAMPING"
  | .PCE_STOPE_FORCED => "STOPE.FORCED"
  | .PCE_SLIP_SLIP => "SLIP.SLIP"
  | .PCE_SLIP_STRETCH => "SLIP.STRETCH"
  | .PCE_TPLL_LOCK => "TPLL.LOCK"
  | .CLK_CFG_AUTO_RETURN => "CFG.AUTO_RETURN"
  | .CLK_CFG_RETURN_NOW => "CFG.RETURN_NOW"
  | .CLK_CFG_REFSEL => "CFG.REFSEL"
  | .CLK_CFG_REF_OK => "CFG.REF_OK"
  | .CLK_STATE_SHAFT => "STATE.SHAFT"
  | .CLK_QUAL_QUAL => "QUAL.QUAL"
  | .CLK_QUAL_LOOP_LANE => "QUAL.LOOP_LANE"
  | .CLK_STAT_LOSSES => "STAT.LOSSES"
  | .TIM_CFG_SOURCE => "CFG.SOURCE"
  | .TIM_CFG_SHAFT => "CFG.SHAFT"
  | .TIM_CFG_PORT => "CFG.PORT"
  | .TIM_CFG_PERIOD_US => "CFG.PERIOD_US"
  | .TIM_NOW_LO_NOW_LO => "NOW_LO.NOW_LO"
  | .TIM_NOW_HI_NOW_HI => "NOW_HI.NOW_HI"
  | .TIM_ASYM_ASYM_NS => "ASYM.ASYM_NS"
  | .TIM_OFFSET_OFFSET => "OFFSET.OFFSET"
  | .TIM_STAT_LOCKED => "STAT.LOCKED"
  | .TIM_STAT_STEPS => "STAT.STEPS"
  | .TLY_CFG_DEADLINE_US => "CFG.DEADLINE_US"
  | .TLY_CFG_RESERVE => "CFG.RESERVE"
  | .TLY_CFG2_DRAIN_US => "CFG2.DRAIN_US"
  | .TLY_COUNT_OPEN => "COUNT.OPEN"
  | .TLY_COUNT_PEAK => "COUNT.PEAK"
  | .TLY_CLOCK_NOW => "CLOCK.NOW"
  | .TLY_STAT_EXPIRED => "STAT.EXPIRED"
  | .TLY_STAT_NO_TALLY => "STAT.NO_TALLY"
  | .TLY_STAT2_STALE => "STAT2.STALE"
  | .TLY_STAT2_LATE => "STAT2.LATE"
  | .TLY_STAT3_ABANDONED => "STAT3.ABANDONED"
  | .TLY_STAT3_BAD_CLASS => "STAT3.BAD_CLASS"
  | .TLY_STAT3_BAD_HAUL => "STAT3.BAD_HAUL"
  | .TLY_STAT4_NO_PORTAL => "STAT4.NO_PORTAL"
  | .TLY_STAT4_OVER_QUOTA => "STAT4.OVER_QUOTA"
  | .TLY_STAT5_NO_SLOT => "STAT5.NO_SLOT"
  | .TLY_QUOTA_QUOTA => "QUOTA.QUOTA"
  | .TLY_KILL_TALLY => "KILL.TALLY"
  | .TLY_KILL_GO => "KILL.GO"
  | .CLM_ENTRY0_VALID => "ENTRY.VALID"
  | .CLM_ENTRY0_CACHEABLE => "ENTRY.CACHEABLE"
  | .CLM_ENTRY0_SPECULABLE => "ENTRY.SPECULABLE"
  | .CLM_ENTRY0_PORTAL => "ENTRY.PORTAL"
  | .CLM_ENTRY1_BASE_GIB => "ENTRY.BASE_GIB"
  | .CLM_ENTRY2_READ => "ENTRY.READ"
  | .CLM_ENTRY3_WRITE => "ENTRY.WRITE"
  | .CLM_ENTRY4_CACHE => "ENTRY.CACHE"
  | .CLM_ENTRY5_ENTRIES => "ENTRY.ENTRIES"
  | .CLM_ENTRY6_OPEN => "ENTRY.OPEN"
  | .CLM_ENTRY6_GRANULE => "ENTRY.GRANULE"
  | .CLM_ENTRY6_MAPPED => "ENTRY.MAPPED"
  | .CLM_MAP_CLAIM => "MAP.CLAIM"
  | .CLM_MAP_VALID => "MAP.VALID"
  | .CLM_STAGE0_VALID => "STAGE0.VALID"
  | .CLM_STAGE0_CACHEABLE => "STAGE0.CACHEABLE"
  | .CLM_STAGE0_SPECULABLE => "STAGE0.SPECULABLE"
  | .CLM_STAGE0_PORTAL => "STAGE0.PORTAL"
  | .CLM_STAGE1_BASE_GIB => "STAGE1.BASE_GIB"
  | .CLM_STAGE2_READ => "STAGE2.READ"
  | .CLM_STAGE3_WRITE => "STAGE3.WRITE"
  | .CLM_STAGE4_CACHE => "STAGE4.CACHE"
  | .CLM_CMD_CLAIM => "CMD.CLAIM"
  | .CLM_CMD_GRANULE => "CMD.GRANULE"
  | .CLM_CMD_OP => "CMD.OP"
  | .CLM_CMD_GO => "CMD.GO"
  | .CLM_CMD_STAT_BUSY => "CMD_STAT.BUSY"
  | .CLM_CMD_STAT_LOST => "CMD_STAT.LOST"
  | .CLM_CMD_STAT_RESULT => "CMD_STAT.RESULT"
  | .CLM_SWEEP_CLAIM => "SWEEP.CLAIM"
  | .CLM_SWEEP_GO => "SWEEP.GO"
  | .CLM_SWEEP_STAT_BUSY => "SWEEP_STAT.BUSY"
  | .CLM_SWEEP_STAT_LOST => "SWEEP_STAT.LOST"
  | .CLM_SWEEP_STAT_FAILS => "SWEEP_STAT.FAILS"
  | .CLM_SWEEP_CNT_RECALLS => "SWEEP_CNT.RECALLS"
  | .CLM_STAT_UNMAPPED => "STAT.UNMAPPED"
  | .CLM_STAT_RIGHTS_DENIED => "STAT.RIGHTS_DENIED"
  | .CLM_STAT2_MEM_UNREACHABLE => "STAT2.MEM_UNREACHABLE"
  | .DIR_CFG_RECALL_OP => "CFG.RECALL_OP"
  | .DIR_CFG_BCAST_GROUPS => "CFG.BCAST_GROUPS"
  | .DIR_NEED_NEED => "NEED.NEED"
  | .DIR_PRESENT_PRESENT => "PRESENT.PRESENT"
  | .DIR_STAT_RECALLS => "STAT.RECALLS"
  | .DIR_STAT_RECALL_FAIL => "STAT.RECALL_FAIL"
  | .DIR_STAT2_SET_STALL => "STAT2.SET_STALL"
  | .DIR_STAT2_CORR => "STAT2.CORR"
  | .DIR_STAT3_UNCORR => "STAT3.UNCORR"
  | .DIR_STAT3_QUARANTINED => "STAT3.QUARANTINED"
  | .HWR_CFG_STEP_LIMIT => "CFG.STEP_LIMIT"
  | .HWR_EPOCH_CURRENT => "EPOCH.CURRENT"
  | .HWR_EPOCH_LOADED0 => "EPOCH.LOADED0"
  | .HWR_EPOCH_LOADED1 => "EPOCH.LOADED1"
  | .HWR_EPOCH_ARMED => "EPOCH.ARMED"
  | .HWR_EPOCH_CNT_COUNT0 => "EPOCH_CNT.COUNT0"
  | .HWR_EPOCH_CNT_COUNT1 => "EPOCH_CNT.COUNT1"
  | .HWR_FLIP_GO => "FLIP.GO"
  | .HWR_FLIP_STAT_RESULT => "FLIP_STAT.RESULT"
  | .HWR_BANK_CTL_BANK => "BANK_CTL.BANK"
  | .HWR_BANK_CTL_SEAL => "BANK_CTL.SEAL"
  | .HWR_BANK_CRC_CRC => "BANK_CRC.CRC"
  | .HWR_BANK_STAT_BUSY => "BANK_STAT.BUSY"
  | .HWR_BANK_STAT_RESULT => "BANK_STAT.RESULT"
  | .HWR_BANK_STAT_LOST => "BANK_STAT.LOST"
  | .HWR_RETIRE_HEWER => "RETIRE.HEWER"
  | .HWR_RETIRE_FORCE => "RETIRE.FORCE"
  | .HWR_RETIRE_GO => "RETIRE.GO"
  | .HWR_RETIRE_STAT_BUSY => "RETIRE_STAT.BUSY"
  | .HWR_RETIRE_STAT_RESULT => "RETIRE_STAT.RESULT"
  | .HWR_STAT_TRAPS => "STAT.TRAPS"
  | .HWR_STAT_NO_HANDLER => "STAT.NO_HANDLER"
  | .HWR_STAT2_STORE_CORR => "STAT2.STORE_CORR"
  | .HWR_STAT2_STORE_REFETCH => "STAT2.STORE_REFETCH"
  | .HWR_STAT3_THREAD_WAIT => "STAT3.THREAD_WAIT"
  | .HWR_TRAP_LOG0_CAUSE => "TRAP_LOG0.CAUSE"
  | .HWR_TRAP_LOG0_HEWER => "TRAP_LOG0.HEWER"
  | .HWR_TRAP_LOG0_THREAD => "TRAP_LOG0.THREAD"
  | .HWR_TRAP_LOG0_EPOCH => "TRAP_LOG0.EPOCH"
  | .HWR_TRAP_LOG0_PC => "TRAP_LOG0.PC"
  | .HWR_TRAP_LOG0_HELD => "TRAP_LOG0.HELD"
  | .HWR_TRAP_LOG1_TALLY => "TRAP_LOG1.TALLY"
  | .HWR_TRAP_LOG1_KEY => "TRAP_LOG1.KEY"
  | .HWR_TRAP_LOG2_INSTR_LO => "TRAP_LOG2.INSTR_LO"
  | .HWR_TRAP_LOG3_INSTR_HI => "TRAP_LOG3.INSTR_HI"
  | .HWR_UNIT_ROLE => "UNIT.ROLE"
  | .HWR_UNIT_THREADS => "UNIT.THREADS"
  | .HWR_UNIT_REG_CORR => "UNIT.REG_CORR"
  | .HWR_UNIT_TRAPS => "UNIT.TRAPS"
  | .HWR_CTR_COUNT => "CTR.COUNT"
  | .PTL_DL_STAT_STARTED => "DL_STAT.STARTED"
  | .PTL_DL_STAT_CONFIRMED => "DL_STAT.CONFIRMED"
  | .PTL_DL_STAT2_ABORTED => "DL_STAT2.ABORTED"
  | .PTL_DL_STAT2_DECLINED => "DL_STAT2.DECLINED"
  | .PTL_DL_STAT3_REWIND_FAIL => "DL_STAT3.REWIND_FAIL"
  | .PTL_DL_STAT3_PORT_ABORT => "DL_STAT3.PORT_ABORT"
  | .PTL_DL_GATE_OCCUPANCY => "DL_GATE.OCCUPANCY"
  | .PTL_DL_GATE_HOLD_FULL => "DL_GATE.HOLD_FULL"
  | .PTL_DL_GATE2_HELD => "DL_GATE2.HELD"
  | .PTL_DL_GATE2_DISCARDED => "DL_GATE2.DISCARDED"
  | .STP_SPEC_EXPOSE => "SPEC.EXPOSE"
  | .STP_SPEC_STAINED => "SPEC.STAINED"
  | .STP_SPEC_LINEAGE => "SPEC.LINEAGE"
  | .STP_SPEC_STAIN_DROP => "SPEC.STAIN_DROP"
  | .QMG_CFG_RING_SLOTS => "CFG.RING_SLOTS"
  | .QMG_STAGE0_BASE => "STAGE0.BASE"
  | .QMG_STAGE0_SIZE => "STAGE0.SIZE"
  | .QMG_STAGE0_PLACE => "STAGE0.PLACE"
  | .QMG_STAGE1_HWM => "STAGE1.HWM"
  | .QMG_STAGE2_LWM => "STAGE2.LWM"
  | .QMG_STAGE3_VALID => "STAGE3.VALID"
  | .QMG_STAGE3_MODE => "STAGE3.MODE"
  | .QMG_STAGE3_WAIT => "STAGE3.WAIT"
  | .QMG_STAGE3_PIN => "STAGE3.PIN"
  | .QMG_STAGE3_PIN_EN => "STAGE3.PIN_EN"
  | .QMG_STAGE3_CR_PORTAL => "STAGE3.CR_PORTAL"
  | .QMG_STAGE3_CR_EN => "STAGE3.CR_EN"
  | .QMG_CMD_QUEUE => "CMD.QUEUE"
  | .QMG_CMD_OP => "CMD.OP"
  | .QMG_CMD_GO => "CMD.GO"
  | .QMG_CMD_STAT_BUSY => "CMD_STAT.BUSY"
  | .QMG_CMD_STAT_LOST => "CMD_STAT.LOST"
  | .QMG_CMD_STAT_RESULT => "CMD_STAT.RESULT"
  | .QMG_HOST_CMD_QUEUE => "HOST_CMD.QUEUE"
  | .QMG_HOST_CMD_OP => "HOST_CMD.OP"
  | .QMG_HOST_CMD_CLASS => "HOST_CMD.CLASS"
  | .QMG_HOST_CMD_GO => "HOST_CMD.GO"
  | .QMG_HOST_STAT_BUSY => "HOST_STAT.BUSY"
  | .QMG_HOST_STAT_LOST => "HOST_STAT.LOST"
  | .QMG_HOST_STAT_RESULT => "HOST_STAT.RESULT"
  | .QMG_HOST_STAT_CLASS => "HOST_STAT.CLASS"
  | .QMG_HOST_TUB_DATA => "HOST_TUB.DATA"
  | .QMG_FC_PINS => "FC.PINS"
  | .QMG_STAT_DROPS => "STAT.DROPS"
  | .QMG_STAT_UNDERRUNS => "STAT.UNDERRUNS"
  | .QMG_STAT2_MARKS_LOST => "STAT2.MARKS_LOST"
  | .QMG_STAT2_REWIND_REFUSED => "STAT2.REWIND_REFUSED"
  | .QMG_STAT3_PENDING => "STAT3.PENDING"
  | .QMG_STAT3_INVALID_Q => "STAT3.INVALID_Q"
  | .QMG_STAT4_DEEP_ERR => "STAT4.DEEP_ERR"
  | .QMG_STAT4_WAITS => "STAT4.WAITS"
  | .STP_CFG_SYNC3 => "CFG.SYNC3"
  | .STP_STAT_COMPAT => "STAT.COMPAT"
  | .STP_STAT_PAIRED => "STAT.PAIRED"
  | .STP_STAT_PAIR_FAULT => "STAT.PAIR_FAULT"
  | .STP_STAT_RELEASED => "STAT.RELEASED"
  | .STP_STAT_CONTENDED => "STAT.CONTENDED"
  | .STP_STAT_CONTENTIONS => "STAT.CONTENTIONS"
  | .STP_CONT_LOG_SEGMENT => "CONT_LOG.SEGMENT"
  | .STP_CONT_LOG_VALID => "CONT_LOG.VALID"
  | .STP_STAT2_VC2_DROP => "STAT2.VC2_DROP"
  | .BLK_PORT_ASPECT_A => "PORT.ASPECT_A"
  | .BLK_PORT_ASPECT_B => "PORT.ASPECT_B"
  | .BLK_PORT_ROW_A => "PORT.ROW_A"
  | .BLK_PORT_ROW_B => "PORT.ROW_B"
  | .BLK_PORT_USED => "PORT.USED"
  | .BLK_STAT_COLL => "STAT.COLL"
  | .CTX_STOPE_ACTIVE => "STOPE.ACTIVE"
  | .CTX_STOPE_SHADOW => "STOPE.SHADOW"
  | .CTX_STOPE_SH_STATE => "STOPE.SH_STATE"
  | .CTX_STOPE_GANG => "STOPE.GANG"
  | .CTX_STOPE_GANG_EN => "STOPE.GANG_EN"
  | .CTX_STOPE_BOOT => "STOPE.BOOT"
  | .CTX_STOPE_ID => "STOPE.ID"
  | .CTX_SLOT_STATE => "SLOT.STATE"
  | .CTX_CMD_STOPE => "CMD.STOPE"
  | .CTX_CMD_CONTEXT => "CMD.CONTEXT"
  | .CTX_CMD_GANG => "CMD.GANG"
  | .CTX_CMD_OP => "CMD.OP"
  | .CTX_CMD_GO => "CMD.GO"
  | .CTX_CMD_STAT_BUSY => "CMD_STAT.BUSY"
  | .CTX_CMD_STAT_LOST => "CMD_STAT.LOST"
  | .CTX_CMD_STAT_RESULT => "CMD_STAT.RESULT"
  | .CTX_LOAD_STAT_RESULT => "LOAD_STAT.RESULT"
  | .CTX_LOAD_STAT_CAUSE => "LOAD_STAT.CAUSE"
  | .CTX_LOAD_ADDR_FRAME_ADDR => "LOAD_ADDR.FRAME_ADDR"
  | .CTX_RB_CTL_FRAME_ADDR => "RB_CTL.FRAME_ADDR"
  | .CTX_RB_CTL_PLANE => "RB_CTL.PLANE"
  | .CTX_RB_CTL_GO => "RB_CTL.GO"
  | .CTX_RB_STAT_BUSY => "RB_STAT.BUSY"
  | .CTX_RB_STAT_VALID => "RB_STAT.VALID"
  | .CTX_RB_STAT_UNCORR => "RB_STAT.UNCORR"
  | .CTX_RB_STAT_CHECK_OK => "RB_STAT.CHECK_OK"
  | .CTX_RB_DATA_DATA => "RB_DATA.DATA"
  | .CTX_RB_CHECK_CHECK => "RB_CHECK.CHECK"
  | .CTX_STAT_SWAPS => "STAT.SWAPS"
  | .CTX_STAT_REFUSED => "STAT.REFUSED"
  | .CTX_STAT2_PRELOADS => "STAT2.PRELOADS"
  | .CTX_STAT2_RELOADS => "STAT2.RELOADS"
  | .SCB_STAT_STATE0 => "STAT.STATE0"
  | .SCB_STAT_STATE1 => "STAT.STATE1"
  | .SCB_CTL_RESTART0 => "CTL.RESTART0"
  | .SCB_CTL_RESTART1 => "CTL.RESTART1"
  | .SCB_PASS_PASSES => "PASS.PASSES"
  | .SCB_PASS_LAST_US => "PASS.LAST_US"
  | .SCB_CNT_CORR => "CNT.CORR"
  | .SCB_CNT_VOTE_CORR => "CNT.VOTE_CORR"
  | .SCB_CNT2_PLAN_CORR => "CNT2.PLAN_CORR"
  | .SCB_CNT2_PLAN_UNCORR => "CNT2.PLAN_UNCORR"
  | .SCB_CNT3_RECOVERED => "CNT3.RECOVERED"
  | .SCB_CNT3_LOST => "CNT3.LOST"
  | .SCB_CNT3_STUCK => "CNT3.STUCK"
  | .SCB_LOST_LOG_FRAME_ADDR => "LOST_LOG.FRAME_ADDR"
  | .SCB_LOST_LOG_VALID => "LOST_LOG.VALID"
  | .LNE_CFG_MAX_RATE => "CFG.MAX_RATE"
  | .LNE_CFG_SLEEP_EN => "CFG.SLEEP_EN"
  | .LNE_CFG_TX_SWING => "CFG.TX_SWING"
  | .LNE_CFG_TX_PRE => "CFG.TX_PRE"
  | .LNE_CFG_TX_POST => "CFG.TX_POST"
  | .LNE_STAT_RATE => "STAT.RATE"
  | .LNE_STAT_CDR_LOCK => "STAT.CDR_LOCK"
  | .LNE_STAT_TX_SLEEP => "STAT.TX_SLEEP"
  | .LNE_STAT_RX_SLEEP => "STAT.RX_SLEEP"
  | .LNE_STAT_SLIP_POS => "STAT.SLIP_POS"
  | .LNE_STAT_SLIP_IGNORED => "STAT.SLIP_IGNORED"
  | .LNE_SLIP_GO => "SLIP.GO"
  | .LNE_SLIP_DIR => "SLIP.DIR"
  | .LNE_ERR_FEC_CORR => "ERR.FEC_CORR"
  | .LNE_ERR_FEC_UNCORR => "ERR.FEC_UNCORR"
  | .PTL_CFG_ENABLE => "CFG.ENABLE"
  | .PTL_CFG_WIDTH => "CFG.WIDTH"
  | .PTL_CFG_FIRST_LANE => "CFG.FIRST_LANE"
  | .PTL_CFG_ROLE => "CFG.ROLE"
  | .PTL_CFG_ORIENT => "CFG.ORIENT"
  | .PTL_CFG_MODE => "CFG.MODE"
  | .PTL_CFG_HOLD => "CFG.HOLD"
  | .PTL_CFG_SLEEP_EN => "CFG.SLEEP_EN"
  | .PTL_CFG_MIN_WIDTH => "CFG.MIN_WIDTH"
  | .PTL_SLEEP_IDLE_US => "SLEEP.IDLE_US"
  | .PTL_STATE_STATE => "STATE.STATE"
  | .PTL_STATE_TRAINED => "STATE.TRAINED"
  | .PTL_STATE_PRESENT => "STATE.PRESENT"
  | .PTL_STATE_RATE => "STATE.RATE"
  | .PTL_STATE_CFG_ERR => "STATE.CFG_ERR"
  | .PTL_STATE_FAILS => "STATE.FAILS"
  | .PTL_AGENT_BASE => "AGENT.BASE"
  | .PTL_AGENT_COUNT => "AGENT.COUNT"
  | .PTL_INQ_QUEUE => "INQ.QUEUE"
  | .PTL_EQ_QUEUE => "EQ.QUEUE"
  | .PTL_CROUTE_ROUTE => "CROUTE.ROUTE"
  | .PTL_CROUTE_QUEUE => "CROUTE.QUEUE"
  | .PTL_TAGS_IN_USE => "TAGS.IN_USE"
  | .PTL_TAGS_TAG_WAIT => "TAGS.TAG_WAIT"
  | .PTL_STAT_BAD_AGENT => "STAT.BAD_AGENT"
  | .PTL_STAT_UNKNOWN_MSG => "STAT.UNKNOWN_MSG"
  | .PTL_STAT2_STALE_TAG => "STAT2.STALE_TAG"
  | .PTL_STAT2_DOWN_DROP => "STAT2.DOWN_DROP"
  | .PTL_STAT3_REPLAYS => "STAT3.REPLAYS"
  | .PTL_STAT3_RETRAINS => "STAT3.RETRAINS"
  | .PTL_STAT4_COOL_RETRY => "STAT4.COOL_RETRY"
  | .PTL_STAT4_SNP_UNREACHABLE => "STAT4.SNP_UNREACHABLE"
  | .IMG_CMD_OP => "CMD.OP"
  | .IMG_CMD_GO => "CMD.GO"
  | .IMG_CMD_STAT_BUSY => "CMD_STAT.BUSY"
  | .IMG_CMD_STAT_LOST => "CMD_STAT.LOST"
  | .IMG_CMD_STAT_RESULT => "CMD_STAT.RESULT"
  | .IMG_STATE_STATE => "STATE.STATE"
  | .IMG_FAIL_CAUSE => "FAIL.CAUSE"
  | .IMG_FAIL_DETAIL => "FAIL.DETAIL"
  | .IMG_FAIL_PART_PART => "FAIL_PART.PART"
  | .IMG_STREAM_NEXT => "STREAM.NEXT"
  | .IMG_WHEN_LO_WHEN_LO => "WHEN_LO.WHEN_LO"
  | .IMG_WHEN_HI_WHEN_HI => "WHEN_HI.WHEN_HI"
  | .IMG_SLOTS_ACTIVE => "SLOTS.ACTIVE"
  | .IMG_SLOTS_PROBATION => "SLOTS.PROBATION"
  | .IMG_SLOTS_RUNNING => "SLOTS.RUNNING"
  | .IMG_SLOTS_FALLBACK => "SLOTS.FALLBACK"
  | .IMG_SLOTS_ROLLED_BACK => "SLOTS.ROLLED_BACK"
  | .IMG_SLOTS_PARTIAL_LIVE => "SLOTS.PARTIAL_LIVE"
  | .IMG_SLOTS_CHARTER_PENDING => "SLOTS.CHARTER_PENDING"
  | .IMG_ID_LO_ID_LO => "ID_LO.ID_LO"
  | .IMG_ID_HI_ID_HI => "ID_HI.ID_HI"
  | .IMG_INFO_SLOT_64K => "INFO.SLOT_64K"
  | .IMG_INFO_KEYS => "INFO.KEYS"
  | .IMG_SETCMD_OP => "SETCMD.OP"
  | .IMG_SETCMD_GO => "SETCMD.GO"
  | .IMG_SETREC0_ADDR_LO => "SETREC0.ADDR_LO"
  | .IMG_SETREC1_ADDR_HI => "SETREC1.ADDR_HI"
  | .IMG_SETREC2_VALUE => "SETREC2.VALUE"
  | .IMG_SETREC3_MASK => "SETREC3.MASK"
  | .IMG_SETSTAT_BUSY => "SETSTAT.BUSY"
  | .IMG_SETSTAT_RESULT => "SETSTAT.RESULT"
  | .IMG_SETSTAT_COUNT => "SETSTAT.COUNT"
  | .IMG_SETSTAT_SKIPPED => "SETSTAT.SKIPPED"
  | .CAN_CFG_FAST_ALL => "CFG.FAST_ALL"
  | .CAN_CTL_SHAFT => "CTL.SHAFT"
  | .CAN_CTL_LAYER => "CTL.LAYER"
  | .CAN_CTL_REARM => "CTL.REARM"
  | .CAN_TEMP_READING => "TEMP.READING"
  | .CAN_TEMP_ESTIMATE => "TEMP.ESTIMATE"
  | .CAN_TEMP_EFFECTIVE => "TEMP.EFFECTIVE"
  | .CAN_TEMP_SUSPECT => "TEMP.SUSPECT"
  | .CAN_SENSOR_VALUE => "SENSOR.VALUE"
  | .CAN_SENSOR_BROKEN => "SENSOR.BROKEN"
  | .CAN_SENSOR_CAUSE => "SENSOR.CAUSE"
  | .CAN_SHAFT_CAP => "SHAFT.CAP"
  | .CAN_SHAFT_FAST => "SHAFT.FAST"
  | .CAN_SHAFT_THERMAL => "SHAFT.THERMAL"
  | .CAN_STAT_TRIPS => "STAT.TRIPS"
  | .CAN_STAT_SUSPECTS => "STAT.SUSPECTS"
  | .CAN_STAT_THROTTLE_MS => "STAT.THROTTLE_MS"
  | .PWR_CFG_GOV_EN => "CFG.GOV_EN"
  | .PWR_CFG_FIXED_MV => "CFG.FIXED_MV"
  | .PWR_AVS_REQ_MV => "AVS.REQ_MV"
  | .PWR_AVS_MON_MV => "AVS.MON_MV"
  | .PWR_AVS_CAP_MV => "AVS.CAP_MV"
  | .PWR_AVS_AVS_FAULT => "AVS.AVS_FAULT"
  | .PWR_SHAFT_DOZE => "SHAFT.DOZE"
  | .PWR_SHAFT_STATE => "SHAFT.STATE"
  | .PWR_ENERGY_UJ => "ENERGY.UJ"
  | .GRD_HIT_SHAFT => "HIT.SHAFT"
  | .GRD_RATE_RATE => "RATE.RATE"
  | .GRD_RATE_BURST => "RATE.BURST"
  | .GRD_PORT_AGENT_LO => "PORT.AGENT_LO"
  | .GRD_PORT_AGENT_HI => "PORT.AGENT_HI"
  | .GRD_PORT_LINK_RESETS => "PORT.LINK_RESETS"
  | .GRD_PORT2_MGT_KTPS => "PORT2.MGT_KTPS"
  | .GRD_WIN0_BASE_GIB => "WIN.BASE_GIB"
  | .GRD_WIN1_SIZE_GIB => "WIN.SIZE_GIB"
  | .GRD_LANE_SWING_CAP => "LANE.SWING_CAP"
  | .GRD_LANE_PRE_CAP => "LANE.PRE_CAP"
  | .GRD_LANE_POST_CAP => "LANE.POST_CAP"
  | .GRD_DEV_CAP_MV => "DEV.CAP_MV"
  | .GRD_TPL0_READ => "TPL.READ"
  | .GRD_TPL1_WRITE => "TPL.WRITE"
  | .GRD_TPL2_CACHE => "TPL.CACHE"
  | .GRD_STAT_DROPS => "STAT.DROPS"
  | .GRD_STAT_LINK_DEFER => "STAT.LINK_DEFER"
  | .GRD_STAT2_CLIPS => "STAT2.CLIPS"
  | .GRD_STAT2_LAST_CAUSE => "STAT2.LAST_CAUSE"
  | .BST_STAT_STATUS => "STAT.STATUS"
  | .BST_CNT_PASSED => "CNT.PASSED"
  | .BST_CNT_FAILED => "CNT.FAILED"
  | .BST_CNT2_REFUSED => "CNT2.REFUSED"
  | .BST_CNT2_SPARES => "CNT2.SPARES"
  | .SHF_CTL_SLICE => "CTL.SLICE"
  | .SHF_SLICE_STAT_STATE => "SLICE_STAT.STATE"
  | .SHF_SLICE_STAT_LAYER => "SLICE_STAT.LAYER"
  | .SHF_SLICE_STAT_LOST => "SLICE_STAT.LOST"
  | .SHF_ATTN_TALLY_ABANDONED => "ATTN.TALLY_ABANDONED"
  | .SHF_ATTN_DIR_UNCORR => "ATTN.DIR_UNCORR"
  | .SHF_ATTN_SCB_STUCK => "ATTN.SCB_STUCK"
  | .SHF_ATTN_SCB_FRAME_LOST => "ATTN.SCB_FRAME_LOST"
  | .SHF_ATTN_SENSOR_BROKEN => "ATTN.SENSOR_BROKEN"
  | .SHF_ATTN_BST_FAIL => "ATTN.BST_FAIL"
  | .SHF_ATTN_LODE_UNCORR => "ATTN.LODE_UNCORR"
  | .SHF_RST_SHAFT_RESETS => "RST.SHAFT_RESETS"
  | .SHF_RST_SLICE_RESETS => "RST.SLICE_RESETS"
  | .DEV_ATTN_FORE_UNPLANNED => "ATTN.FORE_UNPLANNED"
  | .DEV_ATTN_BOOT_FALLBACK => "ATTN.BOOT_FALLBACK"
  | .DEV_ATTN_PROBATION_ROLLBACK => "ATTN.PROBATION_ROLLBACK"
  | .DEV_ATTN_AVS_FAULT => "ATTN.AVS_FAULT"
  | .DEV_ATTN_SETTING_SKIPPED => "ATTN.SETTING_SKIPPED"

end Sys2Proof.Machine
end

