-- ==== Sys2Proof/Machine/Survey.lean ====
section
/-! DEFINITION. The Survey Table (R44 to R49): its header, entries, field descriptors and name strings, built from the register tables
(`Fld.desc`, `Fld.reset`, `Reg.places`) and the storage the spec lays out, at the offsets the access path uses. What the spec does not
print (the offsets of most registers, the order of the table's parts) is opaque. -/

namespace Sys2Proof.Machine

/-! ### Where registers stand -/

/-- Does the spec print this register's offset? -/
def Reg.printed (r : Reg) : Bool :=
  match r with
  | .SHF_CTL | .SHF_ROUTE | .BLK_PORT => true
  | r => decide (r.blk = .sgate) || decide (r.blk = .dgate)

/-- The first word of the element a register word belongs to, and its place in it: CLM.ENTRY, GRD.WIN and GRD.TPL have elements of
several words. -/
def Reg.lead (r : Reg) : Reg × Nat :=
  match r with
  | .CLM_ENTRY1 => (.CLM_ENTRY0, 1)
  | .CLM_ENTRY2 => (.CLM_ENTRY0, 2)
  | .CLM_ENTRY3 => (.CLM_ENTRY0, 3)
  | .CLM_ENTRY4 => (.CLM_ENTRY0, 4)
  | .CLM_ENTRY5 => (.CLM_ENTRY0, 5)
  | .CLM_ENTRY6 => (.CLM_ENTRY0, 6)
  | .CLM_ENTRY7 => (.CLM_ENTRY0, 7)
  | .GRD_WIN1 => (.GRD_WIN0, 1)
  | .GRD_TPL1 => (.GRD_TPL0, 1)
  | .GRD_TPL2 => (.GRD_TPL0, 2)
  | r => (r, 0)

/-- The registers of the element that `l` leads, in order. -/
def Reg.members (l : Reg) : List Reg :=
  match l with
  | .CLM_ENTRY0 =>
    [.CLM_ENTRY0, .CLM_ENTRY1, .CLM_ENTRY2, .CLM_ENTRY3, .CLM_ENTRY4, .CLM_ENTRY5, .CLM_ENTRY6, .CLM_ENTRY7]
  | .GRD_WIN0 => [.GRD_WIN0, .GRD_WIN1]
  | .GRD_TPL0 => [.GRD_TPL0, .GRD_TPL1, .GRD_TPL2]
  | l => [l]

/-- The runs of elements one entry describes, first element and count: those of one reset value (R223 for HWR.UNIT; STP.STAT.COMPAT resets
to 1 in its first eight). -/
def Reg.runs (l : Reg) : List (Nat × Nat) :=
  match l with
  | .HWR_UNIT => [(0, 12), (12, 1), (13, 12), (25, 1), (26, 12), (38, 1), (39, 12), (51, 1)]
  | .STP_STAT => [(0, 8), (8, 120)]
  | l => [(0, l.count)]

/-- The offset of a run in its block's window. -/
def Reg.base (l : Reg) (start : Nat) : Nat :=
  match l with
  | .SHF_CTL => 8
  | .SHF_ROUTE => 0x10000
  | .BLK_PORT => 0x80000
  | .SGATE | .DGATE => 0
  | .SGATE_HITS | .DGATE_HITS => 4
  | l => 4 * Config.regWord l start

/-- SIZE of an element (R47). -/
def Reg.size (l : Reg) : Nat := 4 * l.members.length

/-- STRIDE of an array's elements (R47). -/
def Reg.stride (l : Reg) : Nat := if l.printed then l.size else l.size + 4 * Config.regGap l

/-- The element of register `r` at an offset of its block's window. -/
def Reg.elementAt (r : Reg) (off : Nat) : Option Nat :=
  let l := r.lead.1
  l.runs.findSome? (fun x =>
    let o := l.base x.1 + 4 * r.lead.2
    if o ≤ off ∧ (off - o) % l.stride = 0 ∧ (off - o) / l.stride < x.2 then some (x.1 + (off - o) / l.stride) else none)

/-- The register at an offset the spec does not print. -/
def unprinted (b : Block) (off : Nat) : Option (Reg × Nat) :=
  (Reg.all.filter (fun r => decide (r.blk = b) && !r.printed)).findSome? (fun r => (r.elementAt off).map (fun e => (r, e)))

/-! ### Blocks -/

/-- The device-common blocks in order of address. -/
def devBlocks : List Block := [.SVY, .DEV, .CGE, .EVL, .FOR, .CAN, .PWR, .CLK, .TIM, .IMG, .GRD, .BST]

/-- The first 1 MiB blocks of a shaft's window in order of address. -/
def shaftBlocks : List Block := [.SHF, .LNE, .PTL, .HAU, .PCE, .CTX, .SCB, .STP]

/-- Every block of a shaft's window. -/
def windowBlocks : List Block := shaftBlocks ++ [Block.HWR, Block.CLM, Block.TLY, Block.QMG, Block.BLK, Block.DIR]

/-- Every block. -/
def allBlocks : List Block := devBlocks ++ windowBlocks

/-- R41: the offset of a block from the start of its window. -/
def Block.offset (b : Block) : Nat :=
  match b with
  | .HWR => 0x800000
  | .CLM => 0x1000000
  | .TLY => 0x2000000
  | .QMG => 0x2800000
  | .BLK => 0x4000000
  | .DIR => 0x8000000
  | b => 0x100000 * (if b.ofShaft then b.code - 0x11 else b.code - 1)

/-- The Cage address of a block in scope `sc` (R40, R41). -/
def Block.address (b : Block) (sc : Nat) : Nat := (if b.ofShaft then 0x100000000 + 0x10000000 * sc else 0) + b.offset

/-! ### Entries and descriptors -/

/-- Entry types (R47). -/
inductive SurveyType | block | array | data
  deriving DecidableEq, Repr

/-- The encoding of an entry type (R47). -/
def SurveyType.code : SurveyType → Nat
  | .block => 1
  | .array => 2
  | .data => 3

/-- An entry of the Survey Table (R47). -/
structure SurveyEntry where
  type : SurveyType
  levels : Nat
  block : Nat
  inst : Nat
  base : Nat
  count : Nat
  stride : Nat
  size : Nat
  first : Nat
  fields : Nat
  deriving DecidableEq, Repr

/-- The 32 bytes of an entry; VERSION is 1. -/
def SurveyEntry.words (e : SurveyEntry) : List Word :=
  [BitVec.ofNat 32 (e.type.code + 256 * e.levels + 65536 * e.block), BitVec.ofNat 32 (e.inst + 65536),
   BitVec.ofNat 32 e.base, BitVec.ofNat 32 (e.base / 2 ^ 32), BitVec.ofNat 32 e.count, BitVec.ofNat 32 e.stride,
   BitVec.ofNat 32 e.size, BitVec.ofNat 32 (e.first + 65536 * e.fields)]

/-- A field descriptor (R49), with its name in place of NAME_CODE. -/
structure SurveyField where
  name : String
  lsb : Nat
  width : Nat
  access : Access
  level : Level
  instReset : Bool
  kept : Nat
  reset : Nat
  deriving DecidableEq, Repr

/-- ACCESS of R49. -/
def Access.code : Access → Nat
  | .ro => 0
  | .rw => 1
  | .wo => 2
  | .w1c => 3
  | .w1s => 4
  | .rc => 5

/-- LEVEL of R49. -/
def Level.code : Level → Nat
  | .surface => 1
  | .deep => 2

/-- The 16 bytes of a descriptor whose name stands at `name` of the string area. -/
def SurveyField.words (f : SurveyField) (name : Nat) : List Word :=
  [BitVec.ofNat 32 name, BitVec.ofNat 32 (f.lsb % 2 ^ 24 + 2 ^ 24 * f.width),
   BitVec.ofNat 32 (f.access.code + 16 * f.level.code + 64 * bit f.instReset + 256 * f.kept), BitVec.ofNat 32 f.reset]

/-- The name of a field at a place: STATE of CTX.SLOT and SHAFT of CLK.STATE carry the number of their part. -/
def Reg.fieldTitle (r : Reg) (x : Fld × Place) : String :=
  match r with
  | .CTX_SLOT | .CLK_STATE => x.1.title ++ "_" ++ toString x.2.add
  | _ => x.1.title

/-- The descriptors of a register's fields, for a register word that stands `off` bytes into its element and an entry that starts at
element `e`; `ro` makes them RO (R58). -/
def Reg.fields (r : Reg) (off e : Nat) (ro : Bool := false) : List SurveyField :=
  r.places.map (fun x =>
    let d := x.1.desc
    let isId := decide (x.1 = .SHF_PLANE_ID)
    ⟨r.fieldTitle x, 8 * off + x.2.lsb, d.width, if ro then .ro else d.access, d.level, isId, d.kept,
     if isId then 0 else x.1.reset 0 (x.2.mul * e + x.2.add)⟩)

/-- What one entry of each instance of a block describes: its type, the block, its offset, COUNT, STRIDE, SIZE, the levels of storage without
descriptors, and its descriptors. -/
structure SurveyGroup where
  type : SurveyType
  blk : Block
  off : Nat
  count : Nat
  stride : Nat
  size : Nat
  levels : Nat
  fields : List SurveyField
  deriving DecidableEq, Repr

/-- The registers of a block that stand alone. -/
def Block.singles (b : Block) : List Reg := Reg.all.filter (fun r => decide (r.blk = b) && decide (r.count = 1))

/-- R55: GATE and GATE_HITS head the window of each block except SVY. -/
def Block.gateFields (b : Block) : List SurveyField :=
  (if b.ofShaft then Reg.SGATE else Reg.DGATE).fields 0 0 b.ungateable ++
    (if b.ofShaft then Reg.SGATE_HITS else Reg.DGATE_HITS).fields 4 0 b.ungateable

/-- SIZE of a block's BLOCK entry: it covers every register in it; the worked example after R49 gives SHF's. -/
def Block.size (b : Block) : Nat :=
  match b with
  | .SHF => 0x10000
  | b => b.singles.foldl (fun a r => max a (r.base 0 + 4)) 8 + 4 * Config.blockGap b.code

/-- The BLOCK entry of a block. -/
def Block.group (b : Block) : SurveyGroup :=
  ⟨.block, b, 0, 1, b.size, b.size, 0, b.gateFields ++ b.singles.flatMap (fun r => r.fields (r.base 0) 0)⟩

/-- The ARRAY entries of a block: one for each run of each array of registers. -/
def Block.arrays (b : Block) : List SurveyGroup :=
  (Reg.all.filter (fun r => decide (r.blk = b) && decide (1 < r.count) && decide (r.lead.2 = 0))).flatMap (fun l =>
    l.runs.map (fun x =>
      ⟨.array, b, l.base x.1, x.2, if x.2 = 1 then l.size else l.stride, l.size, 0,
       l.members.flatMap (fun r => r.fields (4 * r.lead.2) x.1)⟩))

/-- A DATA entry of Deep storage: offset, COUNT, STRIDE, SIZE. -/
def Block.data (b : Block) (off count stride size : Nat) : SurveyGroup := ⟨.data, b, off, count, stride, size, 2, []⟩

/-- The storage entries of a block: R146, R182, R223, R266, R298, R368. DIR.ENT has one 64-bit field (R182). -/
def Block.stores (b : Block) : List SurveyGroup :=
  match b with
  | .HWR =>
    [b.data 0x200000 16384 8 8, b.data 0x300000 16384 8 8, b.data 0x220000 32768 4 4, b.data 0x320000 32768 4 4,
     b.data 0x240000 256 128 72, b.data 0x340000 256 128 72, b.data 0x400000 32768 64 40]
  | .TLY => [b.data Config.recBase 32768 128 128]
  | .QMG => [b.data 0x400000 131072 32 32]
  | .BLK => [b.data 0x100000 8192 0x1800 0x1800]
  | .PTL => [b.data 0x20000 8192 16 16, b.data 0x40000 16 64 64, b.data 0x80000 32768 16 16]
  | .DIR => [⟨.array, b, 0x400000, 7340032, 8, 8, 0, [⟨"ENT.ENTRY", 0, 64, .ro, .deep, false, 0x3F8, 0⟩]⟩]
  | _ => []

/-- Everything the table describes but itself, each group once. -/
def surveyGroups : List SurveyGroup :=
  (allBlocks.filter (fun b => decide (b ≠ .SVY))).flatMap (fun b => b.group :: (b.arrays ++ b.stores))

/-- The numbers below `n` in the order the part's table takes them in; the spec does not print it. -/
def surveyOrder (k n : Nat) : List Nat :=
  if (Config.surveyOrder k n).isPerm (List.range n) then Config.surveyOrder k n else List.range n

/-- The groups in the order in which their descriptors stand. -/
def surveySorted : List SurveyGroup := (surveyOrder 0 surveyGroups.length).filterMap (fun i => surveyGroups[i]?)

/-- Every descriptor in the order of the table. -/
def surveyFields : List SurveyField := surveySorted.flatMap (fun g => g.fields)

/-- Each group with the index of its first descriptor. -/
def surveyPlaced : List (SurveyGroup × Nat) :=
  surveySorted.zipIdx.map (fun x => (x.1, ((surveySorted.take x.2).flatMap (fun g => g.fields)).length))

/-- LEVEL_MASK of a group (R47). -/
def SurveyGroup.mask (g : SurveyGroup) : Nat :=
  if g.fields = [] then g.levels
  else (if g.fields.any (fun f => decide (f.level = .surface)) then 1 else 0) +
    (if g.fields.any (fun f => decide (f.level = .deep)) then 2 else 0)

/-- R48: the entry of a group in one instance of its block. -/
def SurveyGroup.entry (g : SurveyGroup) (sc first : Nat) : SurveyEntry :=
  ⟨g.type, g.mask, g.blk.code, if g.blk.ofShaft then sc else 0xFF, g.blk.address sc + g.off, g.count, g.stride, g.size,
   if g.fields = [] then 0 else first, g.fields.length⟩

/-- The entries of a group: one, or one for each shaft. -/
def SurveyGroup.entries (g : SurveyGroup) (first : Nat) : List SurveyEntry :=
  if g.blk.ofShaft then (List.range 8).map (fun n => g.entry n first) else [g.entry 8 first]

/-- R44: the entry of the Survey Table itself. -/
def surveySelf (tableSize : Nat) : SurveyEntry := ⟨.data, 1, 1, 0xFF, 0, 1, tableSize, tableSize, 0, 0⟩

/-- Every entry, in the order of the table, for a table of `tableSize` bytes. -/
def surveyEntries (tableSize : Nat) : List SurveyEntry :=
  let l := surveySelf tableSize :: surveyPlaced.flatMap (fun x => x.1.entries x.2)
  (surveyOrder 1 l.length).filterMap (fun i => l[i]?)

/-- A name as the string area holds it: ASCII, zero-terminated. -/
def surveyName (t : String) : List Byte := t.toList.map (fun c => BitVec.ofNat 8 c.toNat) ++ [0]

/-- The string area, and the offset of descriptor `j`'s name in it. -/
def surveyStrings : List Byte := surveyFields.flatMap (fun f => surveyName f.name)
def surveyNameAt (j : Nat) : Nat := ((surveyFields.take j).flatMap (fun f => surveyName f.name)).length

/-- Bytes that no field of the table covers, in part `k` of it: a whole number of words. -/
def surveyPad (k : Nat) : List Word := (List.range (Config.surveyPad k % 256)).map (fun i => Config.surveyFill k i)

/-- The descriptors as words. -/
def surveyFieldWords : List Word := surveyFields.zipIdx.flatMap (fun x => x.1.words (surveyNameAt x.2))

/-- Four bytes as a word. -/
def bytesWord (l : List Byte) : Word := BitVec.ofNat 32 (leNat (l.take 4))

/-- The string area as words, the last filled up with zeros. -/
def surveyStringWords : List Word :=
  (List.range ((surveyStrings.length + 3) / 4)).map (fun i => bytesWord (surveyStrings.drop (4 * i)))

/-- What follows the header, for a table of `tableSize` bytes. -/
def surveyBody (tableSize : Nat) : List Word :=
  (surveyEntries tableSize).flatMap SurveyEntry.words ++ surveyPad 0 ++ surveyFieldWords ++ surveyPad 1 ++ surveyStringWords ++ surveyPad 2

/-- The words of the Survey Table (R44); how many they are does not depend on the size its own entry shows. -/
def surveyWords : Nat := 16 + (surveyBody 0).length

/-- FIELD_OFFSET and STRING_OFFSET (R45). -/
def surveyFieldOffset : Nat := 64 + 32 * (surveyEntries 0).length + 4 * (surveyPad 0).length
def surveyStringOffset : Nat := surveyFieldOffset + 16 * surveyFields.length + 4 * (surveyPad 1).length

/-- The header (R45) with the given TABLE_CRC. -/
def surveyHeader (crc : Word) : List Word :=
  [0x59565344, 0x00400001, BitVec.ofNat 32 (surveyEntries 0).length, 0x00100020, 64, BitVec.ofNat 32 surveyFields.length,
   BitVec.ofNat 32 surveyFieldOffset, 0x0000AF08, 0x000008B1, BitVec.ofNat 32 surveyStringOffset,
   BitVec.ofNat 32 surveyStrings.length, 0, 0, 0, BitVec.ofNat 32 (4 * surveyWords), crc]

/-- TABLE_CRC: the CRC-32 of the table with its four bytes taken as zero (R45). -/
def surveyCrc : Word := crc32 ((surveyHeader 0 ++ surveyBody (4 * surveyWords)).flatMap (fun x => leBytes 4 x))

/-- A word of the Survey Table as the Cage reads it. -/
def surveyRead (i : Nat) : Word := (surveyHeader surveyCrc ++ surveyBody (4 * surveyWords)).getD i 0

end Sys2Proof.Machine
end

