-- ==== Sys2Proof/Machine/Words.lean ====
section
/-! DEFINITION. The Cage's address space (R39 to R49): which word stands at an address, what a word reads as, and which written values are
reserved encodings (R16). -/

namespace Sys2Proof.Machine

/-- Word `i` of a record. -/
def recWord {w : Nat} (x : BitVec w) (i : Nat) : Word := x.extractLsb' (32 * i) 32

/-! ### What stands at an address -/

/-- What the Survey Table lists at a word of a block's window: a register, a word of the table itself, or a word of storage: a bank word's
half, word `i` of a park record, tally record, queue descriptor, directory entry, ingress or egress former entry (numbered as in
`Formers`), answer template, or block-memory row. -/
inductive WordAt
  | reg (sc : Nat) (r : Reg) (e : Nat)
  | survey (i : Nat)
  | bank (n : Shaft) (b : Bool) (p : BankPart) (i : Nat) (hi : Bool)
  | park (n : Shaft) (t i : Nat)
  | tally (n : Shaft) (t i : Nat)
  | desc (n : Shaft) (q i : Nat)
  | dirEnt (n : Shaft) (e i : Nat)
  | fin (n : Shaft) (e i : Nat)
  | feg (n : Shaft) (e i : Nat)
  | ans (n : Shaft) (e i : Nat)
  | blkMem (n : Shaft) (m row i : Nat)
  deriving DecidableEq, Repr

/-- A word of a block's window: scope, block, offset. -/
structure BlockWord where
  sc : Nat
  blk : Block
  off : Nat
  deriving DecidableEq, Repr

/-- The block at an offset of a shaft's window (R41), with the block's own offset. -/
def shaftBlockAt (o : Nat) : Option (Block × Nat) :=
  if o < 0x800000 then (shaftBlocks[o / 0x100000]?).map (fun b => (b, 0x100000 * (o / 0x100000)))
  else if o < 0x1000000 then some (.HWR, 0x800000)
  else if o < 0x1100000 then some (.CLM, 0x1000000)
  else if o < 0x2000000 then none
  else if o < 0x2800000 then some (.TLY, 0x2000000)
  else if o < 0x3000000 then some (.QMG, 0x2800000)
  else if o < 0x4000000 then none
  else if o < 0x8000000 then some (.BLK, 0x4000000)
  else if o < 0xC000000 then some (.DIR, 0x8000000)
  else none

/-- R40, R41: the block whose window holds address `a`. -/
def blockAt (a : Nat) : Option BlockWord :=
  if a < 0x10000000 then (devBlocks[a / 0x100000]?).map (fun b => ⟨8, b, a % 0x100000⟩)
  else if 0x100000000 ≤ a ∧ a < 0x180000000 then
    let o := a % 0x10000000
    (shaftBlockAt o).map (fun b => ⟨(a - 0x100000000) / 0x10000000, b.1, o - b.2⟩)
  else none

/-- The word of HWR's storage at an offset (R223). -/
def hwrAt (n : Shaft) (o : Nat) : Option WordAt :=
  if 0x200000 ≤ o ∧ o < 0x400000 then
    let b := decide (0x300000 ≤ o)
    let x := o % 0x100000
    let hi := decide (x % 8 = 4)
    if x < 0x20000 then some (.bank n b .code (x / 8) hi)
    else if x < 0x40000 then some (.bank n b .dispatch ((x - 0x20000) / 8) hi)
    else if x < 0x48000 then
      let y := x - 0x40000
      if y % 128 < 72 then some (.bank n b .template (9 * (y / 128) + y % 128 / 8) hi) else none
    else none
  else if 0x400000 ≤ o ∧ o < 0x600000 then
    let y := o - 0x400000
    if y % 64 < 40 then some (.park n (y / 64) (y % 64 / 4)) else none
  else none

/-- The word of PTL's storage at an offset (R368). -/
def ptlAt (n : Shaft) (o : Nat) : Option WordAt :=
  if 0x20000 ≤ o ∧ o < 0x40000 then some (.fin n ((o - 0x20000) / 16) (o % 16 / 4))
  else if 0x40000 ≤ o ∧ o < 0x40400 then some (.ans n ((o - 0x40000) / 64) (o % 64 / 4))
  else if 0x80000 ≤ o ∧ o < 0x100000 then some (.feg n ((o - 0x80000) / 16) (o % 16 / 4))
  else none

/-- The word of BLK's arrays at an offset (R292, R298). -/
def blkAt (n : Shaft) (o : Nat) : Option WordAt :=
  if 0x80000 ≤ o ∧ o < 0x80000 + 4 * 8192 then some (.reg n.val .BLK_PORT ((o - 0x80000) / 4))
  else if 0x100000 ≤ o ∧ o < 0x100000 + 0x1800 * 8192 then
    let y := o - 0x100000
    some (.blkMem n (y / 0x1800) (y % 0x1800 / 12) (y % 0x1800 % 12 / 4))
  else none

/-- Storage of a shaft's block at an offset. -/
def storageAt (n : Shaft) (b : Block) (o : Nat) : Option WordAt :=
  match b with
  | .SHF => if o = 8 then some (.reg n.val .SHF_CTL 0)
            else if 0x10000 ≤ o ∧ o < 0x11000 then some (.reg n.val .SHF_ROUTE ((o - 0x10000) / 4)) else none
  | .HWR => hwrAt n o
  | .PTL => ptlAt n o
  | .BLK => blkAt n o
  | .DIR => if 0x400000 ≤ o ∧ o < 0x400000 + 8 * 7340032 then some (.dirEnt n ((o - 0x400000) / 8) (o % 8 / 4)) else none
  | .QMG => if 0x400000 ≤ o ∧ o < 0x800000 then some (.desc n ((o - 0x400000) / 32) (o % 32 / 4)) else none
  | .TLY => if Config.recBase ≤ o ∧ o < Config.recBase + 128 * 32768 then
              some (.tally n ((o - Config.recBase) / 128) ((o - Config.recBase) % 128 / 4)) else none
  | _ => none

/-- What the Survey Table lists at a word of a block's window; a register lies at a multiple of 4 (R39). -/
def wordAt (w : BlockWord) : Option WordAt :=
  if w.off % 4 ≠ 0 then none
  else if w.blk = .SVY then if w.off / 4 < surveyWords then some (.survey (w.off / 4)) else none
  else if w.off = 0 then some (.reg w.sc (if w.blk.ofShaft then .SGATE else .DGATE) w.blk.code)
  else if w.off = 4 then some (.reg w.sc (if w.blk.ofShaft then .SGATE_HITS else .DGATE_HITS) w.blk.code)
  else
    let stored := if h : w.sc < 8 then storageAt ⟨w.sc, h⟩ w.blk w.off else none
    match stored with
    | some x => some x
    | none => (unprinted w.blk w.off).map (fun r => .reg w.sc r.1 r.2)

/-- The block whose gate and layer judge a word. -/
def WordAt.blk (x : WordAt) : Block :=
  match x with
  | .reg _ .SGATE e | .reg _ .SGATE_HITS e | .reg _ .DGATE e | .reg _ .DGATE_HITS e =>
    (allBlocks.find? (fun b => decide (b.code = e))).getD .SVY
  | .reg _ r _ => r.blk
  | .survey _ => .SVY
  | .bank .. | .park .. => .HWR
  | .tally .. => .TLY
  | .desc .. => .QMG
  | .dirEnt .. => .DIR
  | .fin .. | .feg .. | .ans .. => .PTL
  | .blkMem .. => .BLK

/-- The scope of a word: a shaft, or 8. -/
def WordAt.sc (x : WordAt) : Nat :=
  match x with
  | .reg sc _ _ => sc
  | .survey _ => 8
  | .bank n .. | .park n .. | .tally n .. | .desc n .. | .dirEnt n .. | .fin n .. | .feg n .. | .ans n .. | .blkMem n .. => n.val

/-- Is the word a GATE or GATE_HITS register (R56)? -/
def WordAt.isGate (x : WordAt) : Bool :=
  match x with
  | .reg _ r _ => decide (r.blk = .sgate) || decide (r.blk = .dgate)
  | _ => false

/-! ### What a field shows -/

/-- R31: DOZE and thermal cooling hide live stope state. -/
def State.stopeDark (s : State) (n : Shaft) : Bool := decide (2 ≤ s.doze n) || decide (2 ≤ s.thermal n)

/-- RELEASE of a stope, as STP.STAT shows it (R31, R296, R303). -/
def State.released (s : State) (n : Shaft) (k : Nat) : Bool :=
  if s.stopeDark n then false
  else if s.pacerRuns n then s.regB n .STP_STAT_RELEASED k
  else releaseInit (s.stope n k).active

/-- The 13 bits of BLK.PORT[m] (R298, R302): 0 while the stope has no context. -/
def State.blkPort (s : State) (n : Shaft) (m : Nat) : BitVec 13 :=
  let p := (s.stope n (m / 64)).active
  if p = [] ∨ s.seamsOut n then 0 else planePort p (m % 64)

/-- R450: PROGRESS of a shaft's self-test; the spec does not say how that of a test under way grows. -/
def State.testProgress (s : State) (n : Shaft) : Nat :=
  let x := (s.sh n).test
  match x.run with
  | some r => Config.testProgress r.unit r.ext (s.up - r.began) % 101
  | none => x.progress % 101

/-- R450: word 0 of a shaft's self-test status. -/
def State.testWord (s : State) (n : Shaft) : Nat :=
  let x := (s.sh n).test
  let st := match x.st with
    | .idle => 0
    | .draining => 1
    | .running => 2
    | .passed => 3
    | .failed => 4
    | .aborted => 5
    | .refused => 6
  let reason := if x.st = .refused then x.reason else 0
  st + 16 * (x.unit % 16) + 256 * (x.target % 2048) + 2 ^ 19 * bit x.ext + 2 ^ 20 * (reason % 16) + 2 ^ 24 * s.testProgress n

/-- What a field of a shaft's window reads as, where it shows state held elsewhere. -/
def State.shaftField (s : State) (n : Shaft) (f : Fld) (e : Nat) : Nat :=
  let h := s.sh n
  let ptl (g : PortalSt → Nat) : Nat := if hp : e < 8 then g (s.ptl n ⟨e, hp⟩) else 0
  match f with
  | .TLY_COUNT_OPEN => s.openCount n
  | .TLY_CLOCK_NOW => h.clock.toNat
  | .HWR_UNIT_THREADS => s.busyThreads n e
  | .HWR_EPOCH_CNT_COUNT0 => s.epochCount n false
  | .HWR_EPOCH_CNT_COUNT1 => s.epochCount n true
  | .CLM_ENTRY6_OPEN => s.claimOpen n e
  | .PTL_TAGS_IN_USE => ptl (fun x => x.tags.length)
  | .PTL_DL_GATE_OCCUPANCY => ptl (fun x => x.hold.length)
  | .PTL_CROUTE_ROUTE => ((Tbl.get 0 h.formers.croute e).extractLsb' 0 2).toNat
  | .PTL_CROUTE_QUEUE => ((Tbl.get 0 h.formers.croute e).extractLsb' 2 17).toNat
  | .PCE_STOPE_ACTIVE | .PCE_STOPE_RAMPING | .STP_STAT_PAIRED => if s.stopeDark n then 0 else s.reg n f e
  | .STP_SPEC_LINEAGE => if s.stopeDark n then 0 else (s.stope n e).lineage.length
  | .STP_STAT_RELEASED => bit (s.released n e)
  | .BLK_PORT_ASPECT_A => ((s.blkPort n e).extractLsb' 0 4).toNat
  | .BLK_PORT_ASPECT_B => ((s.blkPort n e).extractLsb' 4 4).toNat
  | .BLK_PORT_ROW_A => ((s.blkPort n e).extractLsb' 8 2).toNat
  | .BLK_PORT_ROW_B => ((s.blkPort n e).extractLsb' 10 2).toNat
  | .BLK_PORT_USED => ((s.blkPort n e).extractLsb' 12 1).toNat
  | f => s.reg n f e

/-- What a field reads as (a WO field reads 0). -/
def State.fieldNow (s : State) (sc : Nat) (f : Fld) (e : Nat) : Nat :=
  if f.desc.access = .wo then 0
  else if h : sc < 8 then s.shaftField ⟨sc, h⟩ f e % 2 ^ f.desc.width
  else match f with
    | .EVL_STAT_COUNT => s.log.length
    | .TIM_NOW_LO_NOW_LO => s.fab.toNat % 2 ^ 32
    | .PWR_AVS_CAP_MV => s.dev .GRD_DEV_CAP_MV
    | .BST_STAT_STATUS => if hn : e < 8 then s.testWord ⟨e, hn⟩ else 0
    | f => s.dev f e

/-- The value of a register word. -/
def State.regWord (s : State) (sc : Nat) (r : Reg) (e : Nat) : Word :=
  r.places.foldl (fun a x => a ||| (BitVec.ofNat 32 (s.fieldNow sc x.1 (x.2.mul * e + x.2.add)) <<< x.2.lsb)) 0

/-- A queue descriptor from the 256 bits of R246; EMPTY is not stored. -/
def QDesc.ofBits (b : BitVec 256) (tail : Tub) : QDesc :=
  ⟨b.extractLsb' 0 26, b.extractLsb' 26 5, b.getLsbD 31, b.extractLsb' 32 21, b.extractLsb' 53 21, b.extractLsb' 74 21,
   b.extractLsb' 95 20, b.extractLsb' 115 20, b.getLsbD 135, b.getLsbD 137, b.getLsbD 138, b.getLsbD 139, b.getLsbD 140,
   b.getLsbD 141, b.getLsbD 142, b.getLsbD 143, b.getLsbD 144, b.getLsbD 145, b.getLsbD 146, b.extractLsb' 147 2, b.getLsbD 149,
   b.extractLsb' 150 3, b.getLsbD 153, b.extractLsb' 160 32, b.extractLsb' 192 32, b.extractLsb' 224 32, tail⟩

/-- R234: what the Cage sees of a tally record: tainted SCRATCH reads 0 while SPEC is PENDING. -/
def State.recordSeen (s : State) (n : Shaft) (t : Nat) : BitVec 1024 :=
  let y := s.tally n t
  if y.spec = .pending ∧ y.park.taintS then putBits (s.record n t) (8 * 112) (0 : BitVec 64) else s.record n t

/-- R234: what the Cage sees of a park record: tainted W0 to W3 read 0 while SPEC is PENDING. -/
def State.parkSeen (s : State) (n : Shaft) (t : Nat) : BitVec 320 :=
  let y := s.tally n t
  if y.spec = .pending then
    [0, 1, 2, 3].foldl (fun a i => if y.park.taintW.getLsbD i then putBits a (8 * (8 + 8 * i)) (0 : BitVec 64) else a) y.park.bits
  else y.park.bits

/-- Word `i` of a former entry without the reserved bits [47:45] and [127:123] (R354, R15). -/
def formerWord (i : Nat) (v : Word) : Word :=
  match i with
  | 1 => v &&& ~~~ (0xE000 : Word)
  | 3 => v &&& ~~~ (0xF8000000 : Word)
  | _ => v

/-- What a word reads as. -/
def State.wordValue (s : State) (x : WordAt) : Word :=
  match x with
  | .reg sc r e => s.regWord sc r e
  | .survey i => surveyRead i
  | .bank n b p i hi => ((s.sh n).bank b).half p i hi
  | .park n t i => recWord (s.parkSeen n t) i
  | .tally n t i => recWord (s.recordSeen n t) i
  | .desc n q i => recWord (s.queue n q).bits i
  | .dirEnt n e i => recWord (if (s.sh n).quarantined.contains e then Config.lostEntry n.val e else (Tbl.get DirEnt.zero (s.sh n).dir e).bits) i
  | .fin n e i => formerWord i (recWord (Tbl.get 0 (s.sh n).formers.fin e) i)
  | .feg n e i => formerWord i (recWord (Tbl.get 0 (s.sh n).formers.feg e) i)
  | .ans n e i => recWord (Tbl.get 0 (s.sh n).formers.ans e) i
  | .blkMem n m row i =>
    if i = 2 then (memGet 0 (s.sh n).blk (blkByte m row 8)).setWidth 32
    else BitVec.ofNat 32 (leNat (memTake 0 (s.sh n).blk (blkByte m row (4 * i)) 4))

/-! ### Reserved encodings (R16) -/

/-- The bits of a field in a written word. -/
def fieldOf (v : Word) (f : Fld) (x : Place) : Nat := (v.extractLsb' x.lsb f.desc.width).toNat

/-- Is `x` a reserved encoding of field `f`? -/
def Fld.reserved (f : Fld) (x : Nat) : Bool :=
  match f with
  | .CGE_CFG_SILENCE_MS => decide (x = 0)
  | .PCE_STOPE_TEMPO => decide (x < 16)
  | .PCE_STOPE_DIV => decide (x < 2) || decide (64 < x)
  | .TIM_CFG_PERIOD_US => decide (x < 10) || decide (10000 < x)
  | .SHF_ROUTE_TARGET => decide (2 ≤ x) && decide (x ≤ 7)
  | .SHF_CTL_SLICE => decide (x = 3)
  | .TLY_CFG_DEADLINE_US => decide (x < 100) || decide (1800 < x)
  | .TLY_CFG_RESERVE => decide (x < 16) || decide (4096 < x)
  | .TLY_CFG2_DRAIN_US => decide (x < 100) || decide (2000 < x)
  | .CLM_CMD_OP => decide (x = 0) || decide (4 ≤ x)
  | .DIR_CFG_BCAST_GROUPS => decide (x = 0)
  | .HWR_CFG_STEP_LIMIT => decide (x < 16)
  | .HWR_RETIRE_HEWER => decide (52 ≤ x)
  | .QMG_CMD_OP => decide (x = 0) || decide (5 ≤ x)
  | .QMG_HOST_CMD_OP => decide (x = 0) || decide (6 ≤ x)
  | .CTX_CMD_OP => decide (x = 0) || decide (5 ≤ x)
  | .CTX_RB_CTL_PLANE => decide (x = 3)
  | .LNE_CFG_MAX_RATE => decide (6 ≤ x)
  | .PTL_CFG_WIDTH | .PTL_CFG_MIN_WIDTH => decide (5 ≤ x)
  | .PTL_CFG_ROLE => decide (x = 3)
  | .PTL_SLEEP_IDLE_US => decide (x = 0)
  | .PTL_CROUTE_ROUTE => decide (x = 3)
  | .IMG_CMD_OP => decide (x = 0) || decide (6 ≤ x)
  | .IMG_SETCMD_OP => decide (x = 0) || decide (x = 3)
  | .CAN_CTL_LAYER => decide (5 ≤ x)
  | .PWR_CFG_FIXED_MV => decide (x < 680) || decide (800 < x)
  | _ => false

/-- R264: CLASS of QMG.HOST_CMD is reserved for an OP it does not suit. -/
def hostClassReserved (v : Word) : Bool :=
  let op := (v.extractLsb' 17 3).toNat
  let c := (v.extractLsb' 20 4).toNat
  if op = 1 then decide (c ≠ 6) && decide (c ≠ 9) else decide (c ≠ 0)

/-- R16: does a written word hold a reserved encoding? -/
def Reg.reservedIn (r : Reg) (v : Word) : Bool :=
  r.places.any (fun x => x.1.reserved (fieldOf v x.1 x.2)) || (decide (r = .QMG_HOST_CMD) && hostClassReserved v)

end Sys2Proof.Machine
end

