-- ==== Sys2Proof/Machine/SelfTest.lean ====
section
/-! DEFINITION. Self-test (R443 to R450): admission, the save and restore of each unit, the end of a test and its abort. -/

namespace Sys2Proof.Machine

/-- UNIT codes (R443). -/
def Bst.LODE_BLOCK : Nat := 1
def Bst.HEWER : Nat := 2
def Bst.STOPE : Nat := 3
def Bst.PLAN_SLOT : Nat := 4
def Bst.LANE : Nat := 5
def Bst.ABORT : Nat := 15

/-- Change a shaft's self-test record. -/
def State.updTest (s : State) (n : Shaft) (f : SelfTest → SelfTest) : State := s.updSh n (fun h => { h with test := f h.test })

/-- The test on its way in a shaft. -/
def State.testRun (s : State) (n : Shaft) : Option TestRun := (s.sh n).test.run

/-- The tests on their way in the device. -/
def State.testsRunning (s : State) : Nat := (Oct.indices.filter (fun n => (s.testRun n).isSome)).length

/-- The draw of a test in mW (R445). -/
def testDraw (unit : Nat) : Nat :=
  match unit with
  | 1 => 800
  | 2 => 250
  | 3 => 400
  | 4 => 100
  | _ => 900

/-- TARGETs of a unit (R443). -/
def testTargets (unit : Nat) : Nat :=
  match unit with
  | 1 => 2040
  | 2 => 52
  | 3 => 128
  | 4 => 1024
  | 5 => 16
  | 15 => 1
  | _ => 0

/-! ### Spare Lode blocks -/

/-- The spare blocks of a shaft that serve: for retired blocks, or for a block under test. -/
def State.sparesUsed (s : State) (n : Shaft) : List Nat :=
  ((s.sh n).retiredBlocks.filterMap (fun e => e.2)) ++
    (match s.testRun n with
     | some r => if r.unit = Bst.LODE_BLOCK then r.spare.toList else []
     | none => [])

/-- The lowest free spare block, 2,040 to 2,047. -/
def State.freeSpare (s : State) (n : Shaft) : Option Nat := lowestFree (s.sparesUsed n) 2040 8

/-- BST.CNT2.SPARES follows the free spares of all shafts (R451). -/
def State.countSpares (s : State) : State :=
  s.setDev .BST_CNT2_SPARES (Oct.indices.foldl (fun a n => a + (8 - (s.sparesUsed n).length)) 0)

/-! ### Admission (R444) -/

/-- The partner of a paired stope. -/
def State.testPartner (s : State) (n : Shaft) (k : Nat) : List Nat :=
  if s.regB n .STP_STAT_PAIRED k then [(k + 64) % 128] else []

/-- The stopes of a STOPE test: the named one, and its paired partner. -/
def State.testStopes (s : State) (n : Shaft) (k : Nat) : List Nat := k :: s.testPartner n k

/-- RELEASED of a stope, as STP.STAT shows it (R296). -/
def State.letsGo (s : State) (n : Shaft) (k : Nat) : Bool :=
  if s.pacerRuns n then s.regB n .STP_STAT_RELEASED k else releaseInit (s.stope n k).active

/-- Check 2: a state of the shaft that refuses a test. -/
def State.testShaftOut (s : State) (n : Shaft) : Bool :=
  (s.sh n).inReset || decide (s.slice n ≠ 0) || decide (s.doze n ≠ 0) || decide (s.thermal n ≠ 0) || (s.sh n).coldHeld || s.actNames n

/-- 95 °C in the code of CAN.TEMP. -/
def hotByte : Nat := 95 + 64

/-- Check 5: the CAP code is not 0, or an effective value or estimate is at or above 95 °C. -/
def State.testTooHot (s : State) (n : Shaft) : Bool :=
  decide (s.dev .CAN_SHAFT_CAP n.val ≠ 0) ||
    (List.range 5).any (fun l => decide (hotByte ≤ s.dev .CAN_TEMP_EFFECTIVE (5 * n.val + l))
      || decide (hotByte ≤ s.dev .CAN_TEMP_ESTIMATE (5 * n.val + l)))

/-- Check 6. -/
def overPower (w : PowerNow) (draw : Nat) : Bool := decide (420000 < w.device + draw) || decide (52500 < w.shaft + draw)

/-- Check 7. -/
def State.testNoSpare (s : State) (n : Shaft) (unit target : Nat) : Bool :=
  match unit with
  | 1 => decide (s.freeSpare n = none)
  | 2 => decide (s.hewRole n target = 0) && decide (s.clusterSpare n target = none)
  | _ => false

/-- Check 9. -/
def State.testInUse (s : State) (n : Shaft) (unit target : Nat) : Bool :=
  match unit with
  | 2 => decide (2 ≤ s.hewRole n target) || !(s.sh n).retiring.isEmpty
  | 3 => (s.testStopes n target).any (fun k => decide (s.shState n k = Shd.PRELOADED) || s.inSwap n k)
  | 4 => decide (s.reg n .CTX_SLOT_STATE target ≠ Slt.EMPTY)
  | 5 => (s.lanePortal n target).isSome
  | _ => false

/-- R444: REASON of the first check that fails; 0 when the test is admitted. -/
def State.testReason (s : State) (n : Shaft) (unit target : Nat) (w : PowerNow) : Nat :=
  if s.devGated .BST then 1
  else if s.testShaftOut n then 2
  else if (s.testRun n).isSome then 3
  else if 2 ≤ s.testsRunning then 4
  else if s.testTooHot n then 5
  else if overPower w (testDraw unit) then 6
  else if s.testNoSpare n unit target then 7
  else if decide (unit = Bst.STOPE) && (s.testStopes n target).any (fun k => !s.letsGo n k) then 8
  else if s.testInUse n unit target then 9
  else 0

/-! ### Start -/

/-- The unit is taken: the spare that serves in its place, and whether its hewer must drain first. -/
def State.takeUnitOf (s : State) (n : Shaft) (unit target : Nat) : State × Option Nat × Bool :=
  match unit with
  | 1 => (s, s.freeSpare n, false)
  | 2 =>
    if s.hewRole n target = 1 then (s.setReg n .HWR_UNIT_ROLE 4 target, none, false)
    else
      match s.clusterSpare n target with
      | some g => ((s.setReg n .HWR_UNIT_ROLE 0 g).setReg n .HWR_UNIT_ROLE 2 target, some g, true)
      | none => (s, none, false)
  | 3 =>
    ((s.testStopes n target).foldl (fun (a : State) k => (a.emptyShadow n k).updStope n k (fun x => { x with testHold := true })) s,
     none, false)
  | _ => (s, none, false)

/-- R444, R450: a start: refused with its reason recorded, or begun. The second value says whether it was admitted. -/
def State.testStart (s : State) (n : Shaft) (unit target : Nat) (ext : Bool) (w : PowerNow) : State × Bool :=
  let r := s.testReason n unit target w
  if r ≠ 0 then
    let s1 := s.updTest n (fun x => { x with st := .refused, unit := unit, target := target, ext := ext, reason := r })
    (if s.devGated .BST then s1 else s1.addDev .BST_CNT2_REFUSED, false)
  else
    let t := s.takeUnitOf n unit target
    let drains := t.2.2
    (((t.1.updTest n (fun _ =>
        { SelfTest.zero with
          st := if drains then .draining else .running
          unit := unit, target := target, ext := ext, start := s.fab
          run := some ⟨unit, target, ext, drains, s.up, t.2.1⟩ })).countSpares), true)

/-- HEWER_UNDER_TEST (R446): the hewer that drains for a test has no running thread. -/
def State.hewerUnderTest (s : State) (n : Shaft) : State :=
  match s.testRun n with
  | none => s
  | some r =>
    if !r.draining ∨ 0 < s.busyThreads n r.target then s
    else (s.setReg n .HWR_UNIT_ROLE 4 r.target).updTest n (fun x => { x with st := .running, run := some { r with draining := false } })

/-- HEWER_UNDER_TEST. -/
def execHewerUnderTest (sh : Shaft) (s : State) : Out := .next (s.hewerUnderTest sh)

/-! ### Restore -/

/-- R316: what a STOPE reset does to a stope's design. -/
def State.initStope (s : State) (n : Shaft) (k : Nat) : State :=
  (((s.updStope n k (fun x => { x with ff := Config.ffInit x.active, last := none })).emptyShadow n k).setReg n .STP_SPEC_STAINED 0
    k).pacerSettle n k

/-- The unit of a test goes back to service, as on a pass or on a fail (R445 to R447). -/
def State.restoreUnit (s : State) (n : Shaft) (r : TestRun) (failed : Bool) : State :=
  match r.unit with
  | 1 =>
    match failed, r.spare with
    | true, some g =>
      (s.updSh n (fun h => { h with retiredBlocks := Tbl.set none h.retiredBlocks r.target (some g) })).shEvent n 0x0C08 Sev.warning
        r.target (detail (g % 256))
    | _, _ => s
  | 2 =>
    if failed then
      (s.setReg n .HWR_UNIT_ROLE 3 r.target).shEvent n 0x0402 Sev.warning r.target (detail (3 + 256 * r.spare.getD 0xFF))
    else s.setReg n .HWR_UNIT_ROLE 1 r.target
  | 3 => (s.testStopes n r.target).foldl (fun (a : State) k => (a.initStope n k).updStope n k (fun x => { x with testHold := false })) s
  | 4 => if failed then s.setReg n .CTX_SLOT_STATE Slt.BAD r.target else s
  | _ => s

/-- BST counters stand still while BST is gated. -/
def State.countTest (s : State) (f : Fld) : State := if s.devGated .BST then s else s.addDev f

/-- BST_DONE's event (R453). -/
def State.testEvent (s : State) (n : Shaft) (r : TestRun) (state : Nat) : State :=
  s.shEvent n 0x0C06 Sev.info r.target (detail (state + 256 * r.unit))

/-- R449: the test ends with its faults. -/
def State.testEnd (s : State) (n : Shaft) (faults first : Nat) : State :=
  match s.testRun n with
  | none => s
  | some r =>
    if r.draining then s
    else
      let failed := decide (0 < faults)
      let s1 := (s.updTest n (fun x =>
        { x with
          st := if failed then .failed else .passed
          progress := 100, elapsed := s.up - r.began, faults := faults % 2 ^ 32, first := first % 2 ^ 32, run := none })).restoreUnit n r failed
      let s2 := s1.countSpares.testEvent n r (if failed then 4 else 3)
      (if failed then
        ((s2.countTest .BST_CNT_FAILED).setReg n .SHF_ATTN_BST_FAIL 1).shEvent n 0x0C07 Sev.warning r.target
          (detail (256 * r.unit) faults first)
      else s2.countTest .BST_CNT_PASSED).dozeTry n

/-- BST_DONE. -/
def execBstDone (sh : Shaft) (faults first : Nat) (s : State) : Out := .next (s.testEnd sh faults first)

/-- The test's STATE becomes ABORTED, and BST_DONE is raised (R448). -/
def State.testAborted (s : State) (n : Shaft) (r : TestRun) : State :=
  ((s.updTest n (fun x => { x with st := .aborted, progress := s.testProgress n, elapsed := s.up - r.began, run := none })).countSpares).testEvent
    n r 5

/-- R448: a running test is aborted, its unit restored as on a pass. -/
def State.testAbort (s : State) (n : Shaft) : State :=
  match s.testRun n with
  | none => s
  | some r => ((s.testAborted n r).restoreUnit n r false).dozeTry n

/-- R448: a SHAFT reset ends the test without a restore, but for the roles of R221. -/
def State.testCutShort (s : State) (n : Shaft) : State :=
  match s.testRun n with
  | none => s
  | some r => let s1 := s.testAborted n r; if r.unit = Bst.HEWER then s1.setReg n .HWR_UNIT_ROLE 1 r.target else s1

/-- R448: the test of stope `k`, its own or its partner's, is aborted. -/
def State.testAbortStope (s : State) (n : Shaft) (k : Nat) : State :=
  match s.testRun n with
  | none => s
  | some r => if r.unit = Bst.STOPE ∧ (s.testStopes n r.target).contains k then s.testAbort n else s

/-! ### Status (R450) -/

/-- Elapsed µs of the last test admitted. -/
def State.testElapsed (s : State) (n : Shaft) : Nat :=
  match s.testRun n with
  | some r => s.up - r.began
  | none => (s.sh n).test.elapsed

/-- Words 1 to 7 of a shaft's status; headroom is what device power leaves of 420 W. -/
def State.testStatus (s : State) (n : Shaft) (word0 : Word) (w : PowerNow) : List Word :=
  let x := (s.sh n).test
  [word0, x.start.setWidth 32, (x.start >>> (32 : Nat)).setWidth 32, BitVec.ofNat 32 (s.testElapsed n), BitVec.ofNat 32 x.faults,
   BitVec.ofNat 32 x.first, BitVec.ofNat 32 (s.testsRunning + 2 ^ 16 * (((420000 - w.device) / 1000) % 2 ^ 16)), 0]

end Sys2Proof.Machine
end

