-- ==== Sys2Proof/Machine/Power.lean ====
section
/-! DEFINITION. The voltage governor (R406 to R408), DOZE (R409, R410), and the cold hold of a start (R424). -/

namespace Sys2Proof.Machine

/-! ### The governor -/

/-- R406: the needs that count: those of shafts whose Seams work. -/
def State.liveNeeds (s : State) (l : List Nat) : List Nat :=
  (Oct.indices.filter (fun n => !s.seamsOut n)).map (fun n => l.getD n.val 0)

/-- The highest of a list of numbers, 0 of none. -/
def maxOf (l : List Nat) : Nat := l.foldl max 0

/-- R406: the request that follows the needs, before it is clipped, and whether it is the step of 5 mV down. -/
def State.followNeeds (s : State) (g : GovNeeds) : Nat × Bool :=
  let cur := s.dev .PWR_AVS_REQ_MV
  let hi := maxOf (s.liveNeeds g.needs)
  let down := decide (hi ≤ cur) && decide (s.lowerAt + 100 ≤ s.up) && (decide (680 ≤ cur - 5) || g.light)
  let r := if cur < hi then min hi (cur + 25) else if down then cur - 5 else cur
  let r1 := if r < 680 ∧ !g.light then 680 else r
  (if s.station48 then max r1 (cur + 25) else r1, down && !s.station48)

/-- R406, R407: the next request, and whether it is a step down. -/
def State.nextRequest (s : State) (g : GovNeeds) : Nat × Bool :=
  let cap := s.dev .GRD_DEV_CAP_MV
  if s.devB .PWR_CFG_GOV_EN then
    let r := s.followNeeds g
    (min cap (max 620 r.1), r.2)
  else (min cap (s.dev .PWR_CFG_FIXED_MV), false)

/-- R408: the transaction failed four times. -/
def State.avsFault (s : State) : State :=
  ((s.setDev .PWR_AVS_AVS_FAULT 1).setDev .DEV_ATTN_AVS_FAULT 1).devEvent 0x0B08 Sev.warning 0xFFFF (detail (s.dev .PWR_AVS_REQ_MV))

/-- GOVERNOR_UPDATE: the governor issues nothing while PWR is gated or AVS_FAULT is set (R408, R425). -/
def State.governor (s : State) (g : GovNeeds) : State :=
  let s1 := s.setDev .PWR_AVS_MON_MV g.mon
  let s2 := { s1 with station48 := false }
  if s.por then s
  else if s.devGated .PWR || s.devB .PWR_AVS_AVS_FAULT then s2
  else if !g.answered then s2.avsFault
  else
    let r := s.nextRequest g
    { s2.setDev .PWR_AVS_REQ_MV r.1 with lowerAt := if r.2 then s.up else s.lowerAt }

/-- GOVERNOR_UPDATE. -/
def execGovernorUpdate (n : GovNeeds) (s : State) : Out := .next (s.governor n)

/-! ### Temperatures -/

/-- A number of quarter degrees as the byte of R425, °C + 64. -/
def tempByte (q : Int) : Nat := (max 0 (min 255 (Int.fdiv q 4 + 64))).toNat

/-- The reading of sensor `i` of layer `l` in quarter degrees (R425). -/
def State.sensorNow (s : State) (n : Shaft) (l i : Nat) : Int := (BitVec.ofNat 12 (s.dev .CAN_SENSOR_VALUE (30 * n.val + 6 * l + i))).toInt

/-- The healthy sensors of a layer. -/
def State.healthy (s : State) (n : Shaft) (l : Nat) : List Nat :=
  (List.range 6).filter (fun i => !s.devB .CAN_SENSOR_BROKEN (30 * n.val + 6 * l + i))

/-- The record of a layer. -/
def State.layerRec (s : State) (n : Shaft) (l : Nat) : LayerRec := Tbl.get LayerRec.zero (s.sh n).thermal.layers l

/-- The healthy readings and the estimate of a layer. -/
def State.layerTemps (s : State) (n : Shaft) (l : Nat) : List Int :=
  (s.healthy n l).map (fun i => s.sensorNow n l i) ++ (s.layerRec n l).est.toList

/-- The lowest of some temperatures by layer, with its layer. -/
def coldest (l : List (Nat × Int)) : Option (Nat × Int) :=
  l.foldl (fun a x => match a with
    | none => some x
    | some y => if x.2 < y.2 then some x else a) none

/-- The highest of some temperatures by layer, with its layer. -/
def hottest (l : List (Nat × Int)) : Option (Nat × Int) :=
  l.foldl (fun a x => match a with
    | none => some x
    | some y => if y.2 < x.2 then some x else a) none

/-- R424: −5 °C. -/
def coldLimit : Int := -20

/-- R424: the layer and value that hold a start, if a healthy sensor or an estimate of the shaft reads below −5 °C. -/
def State.coldStart (s : State) (n : Shaft) : Option (Nat × Int) :=
  match coldest ((List.range 5).flatMap (fun l => (s.layerTemps n l).map (fun q => (l, q)))) with
  | some (l, q) => if q < coldLimit then some (l, q) else none
  | none => none

/-- R424: a layer reads −5 °C or warmer; a layer with no healthy sensor is judged by its estimate. -/
def State.layerWarm (s : State) (n : Shaft) (l : Nat) : Bool :=
  match (s.healthy n l).map (fun i => s.sensorNow n l i) with
  | [] => (s.layerRec n l).est.all (fun q => decide (coldLimit ≤ q))
  | q :: t => (q :: t).any (fun x => decide (coldLimit ≤ x))

/-- COLD_HOLD (R424). -/
def State.coldEvent (s : State) (n : Shaft) (l : Nat) (q : Int) : State := s.shEvent n 0x0B07 Sev.notice l (detail (tempByte q))

/-- Write CAN.SHAFT.THERMAL. -/
def State.setThermal (s : State) (n : Shaft) (v : Nat) : State := s.setDev .CAN_SHAFT_THERMAL v n.val

/-! ### DOZE -/

/-- The write of PWR.SHAFT[n] with this DOZE (R409, R410). -/
def State.dozeWrite (s : State) (n : Shaft) (v : Bool) : State :=
  let s1 := s.setDev .PWR_SHAFT_DOZE (bit v) n.val
  if v then s1.dozeTry n
  else match s.doze n with
    | 1 => s1.setDoze n 0
    | 2 => s1.setDoze n 3
    | _ => s1

/-- DOZE_ENTER (R409, R144): the shaft holds no open tally, so its Seams are gated. -/
def State.dozeEnter (s : State) (n : Shaft) : State :=
  if s.doze n = 1 ∧ !s.anyOpen n then ((s.closeDone n).losePlanes n).setDoze n 2 else s

/-- DOZE_ENTER. -/
def execDozeEnter (sh : Shaft) (s : State) : Out := .next (s.dozeEnter sh)

/-- The end of DOZE (R410): the stopes reload, or the start is held cold. DOZE written meanwhile takes effect now. -/
def State.dozeExit (s : State) (n : Shaft) : State :=
  if s.doze n ≠ 3 ∨ s.thermal n = 4 then s
  else match s.coldStart n with
    | some (l, q) => (s.setThermal n 4).coldEvent n l q
    | none => ((s.setDoze n 0).reloadStopes n).dozeTry n

/-- DOZE_EXIT. -/
def execDozeExit (sh : Shaft) (s : State) : Out := .next (s.dozeExit sh)

end Sys2Proof.Machine
end

