-- ==== Sys2Proof/Machine/Canary.lean ====
section
/-! DEFINITION. The Canary (R411 to R423): sampling, broken and suspect sensors, estimates, WARM, throttling, trips, halts and restarts. -/

namespace Sys2Proof.Machine

/-- Change a shaft's thermal record. -/
def State.updTherm (s : State) (n : Shaft) (f : Thermal → Thermal) : State := s.updSh n (fun h => { h with thermal := f h.thermal })

/-- Counters of CAN.STAT stand still while CAN is gated (R425). -/
def State.canCount (s : State) (f : Fld) (by_ : Nat := 1) : State := if s.devGated .CAN then s else s.addDev f 0 by_

/-! ### Sensors (R413) -/

/-- A sensor becomes broken. -/
def State.breakSensor (s : State) (n : Shaft) (l i cause : Nat) : State :=
  let j := 30 * n.val + 6 * l + i
  (((s.setDev .CAN_SENSOR_BROKEN 1 j).setDev .CAN_SENSOR_CAUSE cause j).setReg n .SHF_ATTN_SENSOR_BROKEN 1).shEvent n 0x0B05
    Sev.warning (6 * l + i) (detail cause)

/-- The energy over a run of samples, newest first, and the time it took: what came after the oldest of them. -/
def runEnergy (l : List (Nat × Nat)) : Nat × Nat :=
  ((l.dropLast.map (fun x => x.2)).foldl (· + ·) 0, (l.headD (0, 0)).1 - (l.getLastD (0, 0)).1)

/-- R413: of 1,000 samples with one reading, do the energy rates of the first and the last 100 differ by more than 10 %? -/
def stuckSensor (l : List (Nat × Nat)) : Bool :=
  let a := runEnergy (l.drop 900)
  let b := runEnergy (l.take 100)
  decide (a.1 * b.2 < 10 * absDiff (a.1 * b.2) (b.1 * a.2))

/-- One sensor is sampled: its reading in quarter degrees, and the energy its layer took since the sample before. -/
def State.sampleSensor (s : State) (n : Shaft) (l i : Nat) (q : Int) (e : Nat) : State :=
  let j := 30 * n.val + 6 * l + i
  let x := Tbl.get SensorRec.zero (s.sh n).thermal.sensors (6 * l + i)
  let again := x.last.head?.any (fun y => decide (y.val = q))
  let y : SensorRec :=
    { same := if again then x.same + 1 else 1
      energy := ((s.up, e) :: (if again then x.energy else [])).take 1000
      last := (⟨s.up, q⟩ :: x.last).take 4 }
  let s1 := (s.setDev .CAN_SENSOR_VALUE (BitVec.ofInt 12 q).toNat j).updTherm n
    (fun t => { t with sensors := Tbl.set SensorRec.zero t.sensors (6 * l + i) y })
  if s.devB .CAN_SENSOR_BROKEN j then s1
  else if q < -160 ∨ 600 < q then s1.breakSensor n l i 1
  else if 1000 ≤ y.same ∧ stuckSensor y.energy then s1.breakSensor n l i 2
  else s1

/-- SENSOR_SELF_CHECK: each sensor's offset from the reference in quarter degrees. -/
def State.selfCheck (s : State) (n : Shaft) (off : List Int) : State :=
  if s.por then s else
  (List.range 30).foldl (fun (a : State) k =>
    let d := off.getD k 0
    let l := k / 6
    if d < -8 ∨ 8 < d then
      if a.devB .CAN_SENSOR_BROKEN (30 * n.val + k) then a else a.breakSensor n l (k % 6) 3
    else if a.devB .CAN_TEMP_SUSPECT (5 * n.val + l) then
      a.updTherm n (fun t =>
        { t with layers := Tbl.upd LayerRec.zero t.layers l (fun x => { x with passed := x.passed ||| (1#6 <<< (k % 6)) }) })
    else a) s

/-- SENSOR_SELF_CHECK. -/
def execSensorSelfCheck (sh : Shaft) (off : List Int) (s : State) : Out := .next (s.selfCheck sh off)

/-- The write of CAN.CTL with REARM 1: the broken sensors of a layer count as healthy until they fail again. -/
def State.rearm (s : State) (n : Shaft) (l : Nat) : State :=
  (List.range 6).foldl (fun (a : State) i =>
    let j := 30 * n.val + 6 * l + i
    if a.devB .CAN_SENSOR_BROKEN j then
      ((a.setDev .CAN_SENSOR_BROKEN 0 j).setDev .CAN_SENSOR_CAUSE 0 j).updTherm n
        (fun t => { t with sensors := Tbl.upd SensorRec.zero t.sensors (6 * l + i) (fun x => { x with same := 0, energy := [] }) })
    else a) s

/-! ### Layers (R414, R416) -/

/-- 102 °C. -/
def hot102 : Int := 408

/-- The mean of the healthy sensors of a layer; 102 °C when it has none. -/
def State.layerMean (s : State) (n : Shaft) (l : Nat) : Int :=
  match (s.healthy n l).map (fun i => s.sensorNow n l i) with
  | [] => hot102
  | q :: t => Int.fdiv ((q :: t).foldl (· + ·) 0) (q :: t).length

/-- E_L, in quarter degrees rounded down; none while no CANARY part is in force. -/
def State.estimateOf (s : State) (n : Shaft) (l e dt : Nat) : Option Int :=
  if s.canary = [] then none
  else
    let c (i : Nat) : Int := Config.canaryCoef s.canary l i
    let below := if l = 0 then 0 else s.layerMean n (l - 1)
    let above := if l = 4 then 0 else s.layerMean n (l + 1)
    some (Int.fdiv ((c 0 * below + c 1 * above + 4 * c 3) * dt + 4 * c 2 * e) (4096 * dt))

/-- The highest healthy reading of a layer. -/
def State.readingOf (s : State) (n : Shaft) (l : Nat) : Option Int :=
  match (s.healthy n l).map (fun i => s.sensorNow n l i) with
  | [] => none
  | q :: t => some (t.foldl max q)

/-- How far a layer's estimate lies above its reading. -/
def LayerRec.gap (x : LayerRec) : Option Int :=
  match x.est, x.reading with
  | some a, some b => some (a - b)
  | _, _ => none

/-- The gap check has failed: more than 6 °C. -/
def LayerRec.gapBad (x : LayerRec) : Bool := x.gap.any (fun g => decide (24 < g))

/-- The effective value of a layer (R414). -/
def State.effective (s : State) (n : Shaft) (l : Nat) : Int :=
  let x := s.layerRec n l
  match s.devB .CAN_TEMP_SUSPECT (5 * n.val + l), x.reading with
  | false, some q => q
  | _, _ => max hot102 (x.est.getD hot102)

/-- The record of a layer after a sample. -/
def State.layerNext (s : State) (n : Shaft) (l e dt : Nat) : LayerRec :=
  let x := s.layerRec n l
  let y := { x with est := s.estimateOf n l e dt, reading := s.readingOf n l }
  { y with
    gaps := if y.gapBad && s.devB .CAN_SHAFT_FAST n.val then x.gaps + 1 else 0
    calm := if y.gap.any (fun g => decide (g ≤ 12)) then x.calm + 1 else 0
    last := match y.est with
      | some q => (⟨s.up, q⟩ :: x.last).take 4
      | none => x.last }

/-- R416: a layer's group becomes SUSPECT, or normal again. -/
def State.suspectStep (s : State) (n : Shaft) (l : Nat) : State :=
  let k := 5 * n.val + l
  let x := s.layerRec n l
  if s.devB .CAN_TEMP_SUSPECT k then
    if 1000 ≤ x.calm ∧ x.passed = 0x3F then s.setDev .CAN_TEMP_SUSPECT 0 k else s
  else if 3 ≤ x.gaps then
    (((s.setDev .CAN_TEMP_SUSPECT 1 k).canCount .CAN_STAT_SUSPECTS).updTherm n
      (fun t => { t with layers := Tbl.set LayerRec.zero t.layers l { x with calm := 0, passed := 0 } })).shEvent n 0x0B06 Sev.warning l
      (detail (tempByte (x.reading.getD 0) + 256 * tempByte (x.est.getD 0)))
  else s

/-- One layer is estimated and judged. -/
def State.sampleLayer (s : State) (n : Shaft) (l e dt : Nat) : State :=
  let k := 5 * n.val + l
  let x := s.layerNext n l e dt
  let s1 := (s.updTherm n (fun t => { t with layers := Tbl.set LayerRec.zero t.layers l x })).suspectStep n l
  ((s1.setDev .CAN_TEMP_READING (x.reading.elim 0 tempByte) k).setDev .CAN_TEMP_ESTIMATE (x.est.elim 0 tempByte) k).setDev
    .CAN_TEMP_EFFECTIVE (tempByte (s1.effective n l)) k

/-! ### Fast sampling (R411), throttling (R417) and WARM (R415) -/

/-- The effective values and estimates of a shaft, by layer. -/
def State.shaftTemps (s : State) (n : Shaft) : List (Nat × Int) :=
  (List.range 5).flatMap (fun l => (l, s.effective n l) :: ((s.layerRec n l).est.toList.map (fun q => (l, q))))

/-- R411: a reason for fast sampling. -/
def State.fastReason (s : State) (n : Shaft) : Bool :=
  let odd (q : Int) : Bool := decide (368 ≤ q) || decide (q ≤ 52)
  s.devB .CAN_CFG_FAST_ALL || (List.range 5).any (fun l =>
    (List.range 6).any (fun i => odd (s.sensorNow n l i)) || (s.layerRec n l).est.any odd || (s.layerRec n l).gapBad)

/-- R411: FAST follows its reasons; it ends 10 ms after the last. -/
def State.sampleRate (s : State) (n : Shaft) : State :=
  if s.fastReason n then (s.setDev .CAN_SHAFT_FAST 1 n.val).updTherm n (fun t => { t with fastReasonAt := s.up })
  else if (s.sh n).thermal.fastReasonAt + 10000 ≤ s.up then s.setDev .CAN_SHAFT_FAST 0 n.val
  else s

/-- R417: the CAP code of a temperature. -/
def capCode (q : Int) : Nat :=
  if q < 400 then 0 else if q < 404 then 1 else if q < 408 then 2 else if q < 412 then 3 else if q < 416 then 4 else 5

/-- R417: the CAP code moves; THERM_THROTTLE when it leaves 0. -/
def State.throttle (s : State) (n : Shaft) : State :=
  match hottest (s.shaftTemps n) with
  | none => s
  | some (l, q) =>
    let old := s.dev .CAN_SHAFT_CAP n.val
    let c := capCode q
    if old < c then
      let s1 := s.setDev .CAN_SHAFT_CAP c n.val
      if old = 0 then s1.limEvent n 0x0B01 Sev.notice l (fun _ => detail c) else s1
    else if c < old ∧ (s.sh n).thermal.capRoseAt + 1000 ≤ s.up then
      (s.setDev .CAN_SHAFT_CAP (old - 1) n.val).updTherm n (fun t => { t with capRoseAt := s.up })
    else s

/-- R417: the pacer handle acts while the hottest layer is the Plan or a Seam; what it holds the pacers to changes by R104. -/
def State.pacerHandle (s : State) (n : Shaft) : State :=
  let v := match hottest (s.shaftTemps n) with
    | some (l, _) => if 2 ≤ l then capPct (s.dev .CAN_SHAFT_CAP n.val) else 100
    | none => 100
  if v = (s.sh n).thermal.pacerPct then s
  else (List.range 128).foldl (fun (a : State) k => a.pacerRetarget n k (s.pacerTarget n k)) (s.updTherm n (fun t => { t with pacerPct := v }))

/-- R425: THROTTLE_MS counts whole milliseconds during which any shaft is throttled. -/
def State.throttleTime (s : State) : State :=
  let any_ := Oct.indices.any (fun n => decide (s.dev .CAN_SHAFT_CAP n.val ≠ 0))
  match s.throttledAt with
  | none => if any_ then { s with throttledAt := some s.up } else s
  | some t =>
    let k := (s.up - t) / 1000
    { s.canCount .CAN_STAT_THROTTLE_MS k with throttledAt := if any_ then some (t + 1000 * k) else none }

/-- R415: the WARM condition begins, with THERM_WARN. -/
def State.warmStart (s : State) (n : Shaft) (l : Nat) (why : Nat) (q : Int) : State :=
  (s.updTherm n (fun t => { t with warm := true })).shEvent n 0x0B0A Sev.notice l (detail (why + 256 * tempByte q))

/-- R415: the WARM condition begins or ends. -/
def State.warmStep (s : State) (n : Shaft) : State :=
  let l := s.shaftTemps n
  let cap := s.dev .CAN_SHAFT_CAP n.val
  match hottest l, coldest l with
  | some h, some c =>
    if (s.sh n).thermal.warm then
      if cap = 0 ∧ h.2 < 376 ∧ 24 < c.2 then s.updTherm n (fun t => { t with warm := false }) else s
    else if 380 ≤ h.2 then s.warmStart n h.1 1 h.2
    else if c.2 ≤ 20 then s.warmStart n c.1 2 c.2
    else if cap ≠ 0 then s.warmStart n h.1 3 h.2
    else s
  | _, _ => s

/-! ### Indications (R418) -/

/-- The indications of a shaft, each by its last samples, newest first. -/
def State.indications (s : State) (n : Shaft) : List (List Sample) :=
  (List.range 5).flatMap (fun l =>
    (s.healthy n l).map (fun i => (Tbl.get SensorRec.zero (s.sh n).thermal.sensors (6 * l + i)).last) ++
      (if (s.layerRec n l).est.isSome then [(s.layerRec n l).last] else []))

/-- Σ of a function of samples. -/
def sumOf (l : List Sample) (f : Sample → Int) : Int := l.foldl (fun a x => a + f x) 0

/-- The least-squares slope of four samples, as a numerator and a denominator. -/
def slopeOf (l : List Sample) : Int × Int :=
  let t (x : Sample) : Int := x.at_
  (4 * sumOf l (fun x => t x * x.val) - sumOf l t * sumOf l Sample.val, 4 * sumOf l (fun x => t x * t x) - sumOf l t * sumOf l t)

/-- Is an indication predicted to reach 112 °C in less than `lim` µs, or, with `eq`, in exactly `lim`? -/
def predicted (lim : Int) (eq : Bool) (l : List Sample) : Bool :=
  match l with
  | [] => false
  | x :: _ =>
    if 448 ≤ x.val then true
    else if l.length < 4 then false
    else
      let r := slopeOf l
      decide (0 < r.1) && (decide ((448 - x.val) * r.2 < lim * r.1) || (eq && decide ((448 - x.val) * r.2 = lim * r.1)))

/-- Do two indications meet a test? -/
def State.twoOf (s : State) (n : Shaft) (p : List Sample → Bool) : Bool := decide (2 ≤ ((s.indications n).filter p).length)

/-- Is an indication's last value at or above `q`? -/
def reached (q : Int) (l : List Sample) : Bool := l.head?.any (fun x => decide (q ≤ x.val))

/-! ### Trip (R419 to R421) -/

/-- R420: the running threads end. -/
def State.loseThreads (s : State) (n : Shaft) : State :=
  ((s.sh n).tallies.filter (fun e => decide (e.2.run ≠ none))).foldl (fun (a : State) e => a.endThread n e.1) s

/-- The stop of a trip is complete: the tallies still open ended by R420, the Seams gated, THERM_TRIP written with the time of the trip.
`how`: 1 orderly, 2 immediate. -/
def State.tripStop (s : State) (n : Shaft) (how : Nat) : State :=
  let open_ := (s.sh n).tallies.filter (fun e => decide (e.2.st = .opn) || decide (e.2.st = .wait))
  let s1 := open_.foldl (fun (a : State) e => a.expireWith n e.1 Ans.RETRY) s
  let s2 := (((s1.loseThreads n).losePlanes n).setThermal n 2).updTherm n (fun t => { t with coolSince := none })
  let r := { s2 with fab := (s.sh n).thermal.tripTime }.shEvent n 0x0B02 Sev.warning (s.sh n).thermal.tripLayer
    (detail how open_.length)
  { r with fab := s.fab }

/-- The shaft trips (R419): an activation that stages for it reverts (R396), a self-test is aborted (R448). -/
def State.trip (s : State) (n : Shaft) (immediate : Bool) : State :=
  let l := (hottest (s.shaftTemps n)).elim 0 (fun x => x.1)
  let s1 := ((s.setThermal n 1).canCount .CAN_STAT_TRIPS).updTherm n
    (fun t => { t with tripAt := s.up, tripTime := s.fab, tripLayer := l })
  let s2 := if s.doze n = 1 then s1.setDoze n 0 else s1
  let s3 := s2.testAbort n
  let s4 := s3.revertIf (s3.actNames n) Icf.NOT_READY
  if immediate then s4.tripStop n 2 else s4

/-- ORDERLY_STOP_END: the 800 µs of an orderly stop are over. -/
def State.orderlyEnd (s : State) (n : Shaft) : State :=
  if s.thermal n = 1 ∧ (s.sh n).thermal.tripAt + 800 ≤ s.up then s.tripStop n 1 else s

/-- ORDERLY_STOP_END. -/
def execOrderlyStopEnd (sh : Shaft) (s : State) : Out := .next (s.orderlyEnd sh)

/-- R422: the shaft halts. The spec names no LINK_DOWN cause for it. -/
def State.halt (s : State) (n : Shaft) : State :=
  let l := (hottest (s.shaftTemps n)).elim 0 (fun x => x.1)
  let s1 := s.eachPortal (fun p a =>
    if a.pst n p = Pst.DISABLED then a
    else
      let r := a.free
      r.2.takeDown n p Pst.DETECT (Config.freeValue r.1 % 256))
  (s1.setThermal n 3).shEvent n 0x0B04 Sev.fault l

/-- R423: every layer's reading and every estimate at or below 85 °C, leaving aside broken sensors and SUSPECT groups. -/
def State.cool (s : State) (n : Shaft) : Bool :=
  (List.range 5).all (fun l =>
    let x := s.layerRec n l
    x.est.all (fun q => decide (q ≤ 340)) &&
      (match s.devB .CAN_TEMP_SUSPECT (5 * n.val + l), x.reading with
       | false, some q => decide (q ≤ 340)
       | _, _ => x.est.isSome))

/-- What a sample decides: a trip, an orderly stop that becomes immediate, a halt, and since when a stopped shaft has been cool. -/
def State.judge (s : State) (n : Shaft) : State :=
  match s.thermal n with
  | 0 =>
    if decide (s.doze n < 2) && s.twoOf n (predicted 2000 true) then s.trip n (s.twoOf n (predicted 1000 false)) else s
  | 1 => if s.twoOf n (reached 448) then s.tripStop n 2 else s
  | 4 => s
  | t =>
    let s1 := if t = 2 ∧ s.twoOf n (reached 480) then s.halt n else s
    s1.updTherm n (fun t => { t with coolSince := if s.cool n then t.coolSince.orElse (fun _ => some s.up) else none })

/-- CANARY_SAMPLE: 30 readings in quarter degrees, and the energy of the five layers since the last sample in µJ. -/
def State.canarySample (s : State) (n : Shaft) (r : List Int) (e : List Nat) : State :=
  if s.por then s
  else
    let dt := max 1 (s.up - (s.sh n).thermal.sampledAt)
    let s1 := (List.range 30).foldl (fun (a : State) k => a.sampleSensor n (k / 6) (k % 6) (r.getD k 0) (e.getD (k / 6) 0)) s
    let s2 := (List.range 5).foldl (fun (a : State) l =>
      a.setDev .PWR_ENERGY_UJ (a.dev .PWR_ENERGY_UJ (5 * n.val + l) + e.getD l 0) (5 * n.val + l)) s1
    let s3 := (List.range 5).foldl (fun (a : State) l => a.sampleLayer n l (e.getD l 0) dt) s2
    let s4 := ((((s3.sampleRate n).throttle n).pacerHandle n).throttleTime.warmStep n).updTherm n (fun t => { t with sampledAt := s.up })
    s4.judge n

/-- CANARY_SAMPLE. -/
def execCanarySample (sh : Shaft) (r : List Int) (e : List Nat) (s : State) : Out := .next (s.canarySample sh r e)

/-! ### Restart (R423) -/

/-- The portals of a halted shaft retrain. -/
def State.unhalt (s : State) (n : Shaft) : State :=
  s.eachPortal (fun p a => if a.pst n p = Pst.DISABLED then a else a.enterDetect n p)

/-- R417, R423: admission resumes with CAP code 3; THERM_THROTTLE when the cap was at 100 %. -/
def State.restartCap (s : State) (n : Shaft) : State :=
  let s1 := (s.setDev .CAN_SHAFT_CAP 3 n.val).updTherm n (fun t => { t with capRoseAt := s.up })
  (if s.dev .CAN_SHAFT_CAP n.val = 0 then
    s1.limEvent n 0x0B01 Sev.notice ((hottest (s.shaftTemps n)).elim 0 (fun x => x.1)) (fun _ => detail 3)
  else s1).pacerHandle n

/-- The restart goes on: the stopes reload, admission resumes at CAP code 3. -/
def State.restartGo (s : State) (n : Shaft) : State :=
  (((s.restartCap n).setThermal n 0).reloadStopes n).shEvent n 0x0B03 Sev.info 0xFFFF
    (detail64 (s.fab - (s.sh n).thermal.tripTime).toNat)

/-- THERM_RESTART: cool for 100 ms. A shaft whose DOZE is 1 enters DOZE; one below −5 °C is held (R424). -/
def State.thermRestart (s : State) (n : Shaft) : State :=
  if (s.thermal n = 2 ∨ s.thermal n = 3) ∧ (s.sh n).thermal.coolSince.any (fun t => decide (t + 100000 ≤ s.up)) then
    let s1 := if s.thermal n = 3 then (s.setThermal n 2).unhalt n else s
    if s.devB .PWR_SHAFT_DOZE n.val then (s1.setThermal n 0).setDoze n 2
    else match s1.coldStart n with
      | some (l, q) => (s1.setThermal n 4).coldEvent n l q
      | none => s1.restartGo n
  else s

/-- THERM_RESTART. -/
def execThermRestart (sh : Shaft) (s : State) : Out := .next (s.thermRestart sh)

end Sys2Proof.Machine
end

