-- ==== Sys2Proof/Machine/Claims.lean ====
section
/-! DEFINITION. Claim commands (R154), sweeps (R158), recalls that waited for the reserve (R175, R176) and the directory patrol (R180). -/

namespace Sys2Proof.Machine

/-- RESULT of a claim command. -/
def ClmRes.DONE : Nat := 1
def ClmRes.IN_USE : Nat := 2
def ClmRes.MAPPED : Nat := 3
def ClmRes.NOT_VALID : Nat := 4
def ClmRes.NOT_MAPPED : Nat := 5

/-- ENTRIES or OPEN of a claim is above 0. -/
def State.claimInUse (s : State) (n : Shaft) (c : Nat) : Bool := decide (0 < s.reg n .CLM_ENTRY5_ENTRIES c) || decide (0 < s.claimOpen n c)

/-- LOAD: the staged words become words +0x00 to +0x10 of claim `c`. -/
def State.clmLoad (s : State) (n : Shaft) (c : Nat) : State × Nat :=
  let moves := decide (s.reg n .CLM_STAGE0_PORTAL ≠ s.reg n .CLM_ENTRY0_PORTAL c)
    || decide (s.reg n .CLM_STAGE1_BASE_GIB ≠ s.reg n .CLM_ENTRY1_BASE_GIB c)
    || (s.regB n .CLM_ENTRY0_VALID c && !s.regB n .CLM_STAGE0_VALID)
  if moves && s.claimInUse n c then (s, ClmRes.IN_USE)
  else
    ([(Fld.CLM_STAGE0_VALID, Fld.CLM_ENTRY0_VALID), (.CLM_STAGE0_CACHEABLE, .CLM_ENTRY0_CACHEABLE),
      (.CLM_STAGE0_SPECULABLE, .CLM_ENTRY0_SPECULABLE), (.CLM_STAGE0_PORTAL, .CLM_ENTRY0_PORTAL),
      (.CLM_STAGE1_BASE_GIB, .CLM_ENTRY1_BASE_GIB), (.CLM_STAGE2_READ, .CLM_ENTRY2_READ), (.CLM_STAGE3_WRITE, .CLM_ENTRY3_WRITE),
      (.CLM_STAGE4_CACHE, .CLM_ENTRY4_CACHE)].foldl (fun a e => a.setReg n e.2 (s.reg n e.1) c) s, ClmRes.DONE)

/-- Granule `g` maps claim `c`. -/
def State.joinGranule (s : State) (n : Shaft) (c g : Nat) : State :=
  (((s.setReg n .CLM_MAP_CLAIM c g).setReg n .CLM_MAP_VALID 1 g).setReg n .CLM_ENTRY6_GRANULE g c).setReg n .CLM_ENTRY6_MAPPED 1 c

/-- MAP. -/
def State.clmMap (s : State) (n : Shaft) (c g : Nat) : State × Nat :=
  if s.regB n .CLM_ENTRY6_MAPPED c || s.regB n .CLM_MAP_VALID g then (s, ClmRes.MAPPED)
  else if !s.regB n .CLM_ENTRY0_VALID c then (s, ClmRes.NOT_VALID)
  else (s.joinGranule n c g, ClmRes.DONE)

/-- UNMAP. -/
def State.clmUnmap (s : State) (n : Shaft) (g : Nat) : State × Nat :=
  let c := s.reg n .CLM_MAP_CLAIM g
  if !s.regB n .CLM_MAP_VALID g then (s, ClmRes.NOT_MAPPED)
  else if s.claimInUse n c then (s, ClmRes.IN_USE)
  else ((s.setReg n .CLM_MAP_VALID 0 g).setReg n .CLM_ENTRY6_MAPPED 0 c, ClmRes.DONE)

/-- The write of CLM.CMD with GO 1 (R154): the command runs, and is dropped with LOST while another runs (R156). -/
def State.clmCmd (s : State) (n : Shaft) (op c g : Nat) : State :=
  if s.regB n .CLM_CMD_STAT_BUSY then s.setReg n .CLM_CMD_STAT_LOST 1
  else if op = 0 ∨ 4 ≤ op then s
  else (s.setReg n .CLM_CMD_STAT_BUSY 1).updSh n (fun h => { h with claimCmd := some ⟨op, c, g⟩ })

/-- The claim command that runs ends: it acts, BUSY clears, and RESULT holds the outcome. -/
def State.clmEnd (s : State) (n : Shaft) : State :=
  match (s.sh n).claimCmd with
  | none => s
  | some x =>
    let r := match x.op with
      | 1 => s.clmLoad n x.claim
      | 2 => s.clmMap n x.claim x.granule
      | _ => s.clmUnmap n x.granule
    ((r.1.setReg n .CLM_CMD_STAT_RESULT r.2).setReg n .CLM_CMD_STAT_BUSY 0).updSh n (fun h => { h with claimCmd := none })

/-! ### Sweeps (R158) -/

/-- The write of CLM.SWEEP with GO 1 (R156, R158). -/
def State.sweepGo (s : State) (n : Shaft) (c : Nat) : State :=
  if s.regB n .CLM_SWEEP_STAT_BUSY then s.setReg n .CLM_SWEEP_STAT_LOST 1
  else
    ((s.setReg n .CLM_SWEEP_STAT_BUSY 1).setReg n .CLM_SWEEP_CNT_RECALLS 0).updSh n (fun h => { h with sweep := some ⟨c, 0, []⟩ })

/-- The number of sets times ways. -/
def dirWays : Nat := 14 * 2 ^ 19

/-- The sweep may open one more recall: fewer than RESERVE ÷ 2 are open, and the reserve has a tally that no earlier recall waits for. -/
def State.sweepMay (s : State) (n : Shaft) (w : Sweep) : Bool :=
  decide (w.recalls.length < s.reg n .TLY_CFG_RESERVE / 2) && decide ((s.sh n).recallWait = []) && decide (s.freeReserve n ≠ none)

/-- Does the sweep recall this way: in use, of its claim, with no recall in progress? -/
def State.sweepTakes (s : State) (n : Shaft) (c set w : Nat) : Bool :=
  !s.wayFree n set w && !s.quarantine n set w && decide (s.recallOf n set w = none) && decide (tagClaim (s.ent n set w).tag = c)

/-- The sweep has passed way `i`. -/
def State.sweepPast (s : State) (n : Shaft) (i : Nat) : State :=
  s.updSh n (fun h => { h with sweep := h.sweep.map (fun x => { x with next := i + 1 }) })

/-- Read `k` ways of a set, from the sweep's next one on; stop where it pauses. -/
def State.sweepWays (s : State) (n : Shaft) : Nat → State
  | 0 => s
  | k + 1 =>
    match (s.sh n).sweep with
    | none => s
    | some x =>
      let set := x.next / 14
      let w := x.next % 14
      if s.sweepTakes n x.claim set w then
        match s.freeReserve n with
        | some t => if s.sweepMay n x then ((s.sweepPast n x.next).openRecall n t set w .sweep).sweepWays n k else s
        | none => s
      else (s.sweepPast n x.next).sweepWays n k

/-- SWEEP_SET_READ: the sweep reads the rest of its set. -/
def State.sweepSet (s : State) (n : Shaft) : State :=
  match (s.sh n).sweep with
  | none => s
  | some x => if s.engineWorks n && decide (x.next < dirWays) then s.sweepWays n (14 - x.next % 14) else s

/-- SWEEP_SET_READ. -/
def execSweepSetRead (sh : Shaft) (s : State) : Out := .next (s.sweepSet sh)

/-- CLM_SWEEP_DONE: every set passed, every recall FREE. -/
def State.sweepDone (s : State) (n : Shaft) : State :=
  match (s.sh n).sweep with
  | none => s
  | some x =>
    if x.next = dirWays ∧ x.recalls = [] then
      ((s.setReg n .CLM_SWEEP_STAT_BUSY 0).updSh n (fun h => { h with sweep := none })).shEvent n 0x0303 Sev.info x.claim
        (detail (s.reg n .CLM_SWEEP_CNT_RECALLS) (s.reg n .CLM_SWEEP_STAT_FAILS))
    else s

/-- CLM_SWEEP_DONE. -/
def execClmSweepDone (sh : Shaft) (s : State) : Out := .next (s.sweepDone sh)

/-! ### Recalls that waited (R175) -/

/-- R175: the recall at the head of the wait is tried again with reserve tally `t`: the victim of an allocation is chosen anew. -/
def State.recallAgain (s : State) (n : Shaft) (t : Nat) (r : RecallWait) : State :=
  match r with
  | .alloc set =>
    if s.setQ n set = [] then s
    else match s.victim n set with
      | some w => s.openRecall n t set w .victim
      | none => (s.addReg n .DIR_STAT2_SET_STALL).limEvent n 0x0304 Sev.notice 0xFFFF (fun _ => detail set)
  | .evict set w =>
    if s.wayFree n set w || s.quarantine n set w || decide (s.recallOf n set w ≠ none) then s else s.openRecall n t set w .evict

/-- RECALL_OPEN: a reserve tally is FREE for the first recall that waits. -/
def State.recallOpen (s : State) (n : Shaft) : State :=
  match (s.sh n).recallWait, s.freeReserve n with
  | r :: rest, some t => if s.engineWorks n then (s.updSh n (fun h => { h with recallWait := rest })).recallAgain n t r else s
  | _, _ => s

/-- RECALL_OPEN. -/
def execRecallOpen (sh : Shaft) (s : State) : Out := .next (s.recallOpen sh)

/-- DIR_PATROL: the patrol reads a set. -/
def execDirPatrol (sh : Shaft) (set : Nat) (u : List DirCheck) (s : State) : Out :=
  .next (if s.engineWorks sh && decide (set < 2 ^ 19) then u.foldl (fun (a : State) x => a.dirCheck sh set x) s else s)

end Sys2Proof.Machine
end

