-- ==== Sys2Proof/Machine/Scrub.lean ====
section
/-! DEFINITION. The scrubbers (R318 to R325): the frame pass, the Plan patrol, the vote of a scrubber's control state, its restart. -/

namespace Sys2Proof.Machine

/-- Set STATE of scrubber `i`. -/
def State.setScb (s : State) (n : Shaft) (i : Bool) (v : Nat) : State := s.setReg n (scbFld i) v

/-- The control state of scrubber `i`. -/
def State.scrubber (s : State) (n : Shaft) (i : Bool) : Scrubber := if i then (s.sh n).scrub1 else (s.sh n).scrub0

/-- Change the control state of scrubber `i`. -/
def State.updScrub (s : State) (n : Shaft) (i : Bool) (f : Scrubber → Scrubber) : State :=
  s.updSh n (fun h => if i then { h with scrub1 := f h.scrub1 } else { h with scrub0 := f h.scrub0 })

/-- The first stope of scrubber `i`'s range (R318). -/
def scbFirst (i : Bool) : Nat := if i then 64 else 0

/-- Do the scrubbers of a shaft work: SCB not gated, the shaft in service? -/
def State.scrubs (s : State) (n : Shaft) : Bool := !s.shGated n .SCB && !(s.sh n).inReset && !s.por

/-! ### Stopping and restarting (R324, R325) -/

/-- Scrubber `i` stops: no two of its copies agree. Its partner, unless stopped too, covers both ranges. -/
def State.scbStop (s : State) (n : Shaft) (i : Bool) : State :=
  let s1 := s.setScb n i Scb.STOPPED
  let s2 := if s.scb n (!i) = Scb.STOPPED then s1
    else (s1.setScb n (!i) Scb.COVERING).updScrub n (!i) (fun x =>
        { x with stope := scbFirst i, frame := 0, began := s.up, skipped := [], returned := false })
  s2.shEvent n 0x0808 Sev.warning (bit i) (detail 1)

/-- R324: the vote of scrubber `i`'s control state. The second value says whether it goes on. -/
def State.scbVote (s : State) (n : Shaft) (i : Bool) (v : Vote) : State × Bool :=
  match v with
  | .agree => (s, true)
  | .oneDiffers => (s.addReg n .SCB_CNT_VOTE_CORR, true)
  | .noneAgree => (s.scbStop n i, false)

/-- R325: RESTART of scrubber `i`: a stopped one is rebuilt and its partner returns to its own range; with the partner stopped, it covers
both. -/
def State.scbRestart (s : State) (n : Shaft) (i : Bool) : State :=
  if s.scb n i ≠ Scb.STOPPED then s
  else
    let s1 := s.updScrub n i (fun _ => ⟨scbFirst i, 0, s.up, [], [], false⟩)
    if s.scb n (!i) = Scb.STOPPED then s1.setScb n i Scb.COVERING
    else ((s1.setScb n i Scb.RUN).setScb n (!i) Scb.RUN).updScrub n (!i) (fun x =>
      if scrubberOf x.stope = bit (!i) then x else { x with stope := scbFirst (!i), frame := 0, began := s.up, skipped := [], returned := false })

/-- The write of SCB.CTL. -/
def State.scbCtl (s : State) (n : Shaft) (r0 r1 : Bool) : State :=
  let s1 := if r0 then s.scbRestart n false else s
  if r1 then s1.scbRestart n true else s1

/-! ### The frame pass (R319 to R321) -/

/-- The pass of scrubber `i` has ended. -/
def State.passEnds (s : State) (n : Shaft) (i : Bool) : State :=
  ((s.addReg n .SCB_PASS_PASSES (bit i)).setReg n .SCB_PASS_LAST_US (min (s.up - (s.scrubber n i).began) 0xFFFF) (bit i)).updScrub n i
    (fun x => { x with began := s.up })

/-- The stope after `k` in the range of scrubber `i`, and whether the range ends with `k`. A covering scrubber begins with the stopped one's
range. -/
def State.nextStope (s : State) (n : Shaft) (i : Bool) (k : Nat) : Nat × Bool :=
  if s.scb n i = Scb.COVERING then ((k + 1) % 128, decide ((k + 1) % 128 = scbFirst (!i)))
  else (scbFirst i + (k + 1) % 64, decide (k % 64 = 63))

/-- The stope a pass of scrubber `i` begins with. -/
def State.passFirst (s : State) (n : Shaft) (i : Bool) : Nat := if s.scb n i = Scb.COVERING then scbFirst (!i) else scbFirst i

/-- R319: scrubber `i` has come to the end of its range, or of a stope it has returned to: it returns to the next stope it had skipped, or its pass ends. -/
def State.scbReturn (s : State) (n : Shaft) (i : Bool) : State :=
  match (s.scrubber n i).skipped with
  | k :: t => s.updScrub n i (fun x => { x with stope := k, frame := 0, skipped := t, returned := true })
  | [] => (s.updScrub n i (fun x => { x with stope := s.passFirst n i, frame := 0, returned := false })).passEnds n i

/-- Scrubber `i` goes on to the next stope. -/
def State.scbNextStope (s : State) (n : Shaft) (i : Bool) : State :=
  let x := s.scrubber n i
  let r := s.nextStope n i x.stope
  if x.returned || r.2 then s.scbReturn n i else s.updScrub n i (fun x => { x with stope := r.1, frame := 0 })

/-- R319: scrubber `i` skips its stope, to return to it after its range; one it has returned to waits for the next pass. -/
def State.scbSkip (s : State) (n : Shaft) (i : Bool) : State :=
  (s.updScrub n i (fun x => if x.returned then x else { x with skipped := x.skipped ++ [x.stope] })).scbNextStope n i

/-- Scrubber `i` goes on to the next frame. -/
def State.scbNextFrame (s : State) (n : Shaft) (i : Bool) : State :=
  let x := s.scrubber n i
  if x.frame = 1023 then s.scbNextStope n i else s.updScrub n i (fun x => { x with frame := x.frame + 1 })

/-- The numbers of the bits that are 1. -/
def bitsOf (x : BitVec 1024) : List Nat := (List.range 1024).filter (fun i => x.getLsbD i)

/-- How often bit `b` of frame `a` has been wrong at the verify, up to 3. -/
def State.wrongs (s : State) (n : Shaft) (i : Bool) (a b : Nat) : Nat := Tbl.get 0 (s.scrubber n i).wrong (1024 * a + b)

/-- R321: the bits of frame `a` still wrong at the verify; the third failure of a bit records the frame as stuck, unless another bit has already. -/
def State.verify (s : State) (n : Shaft) (i : Bool) (a : Nat) (wrong : List Nat) : State :=
  let s1 := s.updScrub n i (fun x => { x with wrong := x.wrong.filter (fun e => decide (e.1 / 1024 ≠ a) || wrong.contains (e.1 % 1024)) })
  let s2 := s1.updScrub n i (fun x =>
    { x with wrong := wrong.foldl (fun (t : Tbl Nat) b => Tbl.set 0 t (1024 * a + b) (min (s.wrongs n i a b + 1) 3)) x.wrong })
  match wrong.find? (fun b => decide (s.wrongs n i a b = 2)) with
  | none => s2
  | some b =>
    if wrong.any (fun b => decide (s.wrongs n i a b = 3)) then s2
    else ((s2.addReg n .SCB_CNT3_STUCK).setReg n .SHF_ATTN_SCB_STUCK 1).shEvent n 0x0809 Sev.warning (bit i) (detail a b)

/-- R285: the detector releases the segments of which two enables are set no longer. -/
def State.releaseSegments (s : State) (n : Shaft) (k : Nat) : State :=
  s.updStope n k (fun x => { x with contended := x.contended.filter (fun g => decide (2 ≤ (driveEnabled x.active g).length)) })

/-- R319 steps 2 to 5: the active frame `f` of stope `k` is compared with golden frame `a` and corrected. -/
def State.compareFrame (s : State) (n : Shaft) (i : Bool) (k f a : Nat) (upset stays : BitVec 1024) : State :=
  let golden := Tbl.get 0 (s.sh n).plan a
  let diff := Tbl.get 0 (s.stope n k).active f ^^^ upset ^^^ golden
  if diff = 0 then s.verify n i a []
  else
    let left := stays &&& diff
    let s1 := (s.keepSegments n k).updStope n k (fun x => { x with active := Tbl.set 0 x.active f (golden ^^^ left) })
    let c := popCount diff
    let s2 := ((s1.addReg n .SCB_CNT_CORR 0 c).limEvent n 0x0804 Sev.info (bit i) (fun x => detail x) 0x0804 c).verify n i a (bitsOf left)
    if left = diff then s2 else s2.releaseSegments n k

/-- A scrubber skips a stope with a preload, a swap or a self-test in progress, and one without a context. -/
def State.scbSkips (s : State) (n : Shaft) (k : Nat) : Bool :=
  s.preloading n k || (s.sh n).swaps.any (fun w => !w.armed && w.members.contains k) || (s.stope n k).testHold
    || decide ((s.stope n k).active = [])

/-- What the read of the golden frame found. The second value says whether the frame may be compared. -/
def State.readGolden (s : State) (n : Shaft) (a : Nat) (u : ScrubCheck) : State × Bool :=
  if (s.sh n).suspect.contains a then (s, false)
  else match u.golden with
    | .good => (s, true)
    | .corrected => (s.addReg n .SCB_CNT2_PLAN_CORR, true)
    | _ => (s.planUncorr n a u.word, false)

/-- SCRUB_FRAME: scrubber `i` visits its next frame. -/
def State.scrubFrame (s : State) (n : Shaft) (i : Bool) (u : ScrubCheck) : State :=
  if !s.scrubs n || s.seamsOut n || decide (s.scb n i = Scb.STOPPED) then s
  else
    let v := s.scbVote n i u.vote
    if !v.2 then v.1
    else
      let x := v.1.scrubber n i
      let a := frameAddr x.stope (s.reg n .CTX_STOPE_ACTIVE x.stope) x.frame
      if s.scbSkips n x.stope then v.1.scbSkip n i
      else
        let r := v.1.readGolden n a u
        (if r.2 then r.1.compareFrame n i x.stope x.frame a u.upset u.stays else r.1).scbNextFrame n i

/-- SCRUB_FRAME. -/
def execScrubFrame (sh : Shaft) (i : Bool) (u : ScrubCheck) (s : State) : Out := .next (s.scrubFrame sh i u)

/-! ### The patrol (R322) -/

/-- Does scrubber `i` patrol the Plan region of stope `k`? -/
def State.patrols (s : State) (n : Shaft) (i : Bool) (k : Nat) : Bool :=
  decide (s.scb n i = Scb.COVERING) || (decide (s.scb n i = Scb.RUN) && decide (scrubberOf k = bit i))

/-- SCRUB_PATROL: the patrol of scrubber `i` reads word `w` of frame `a`. -/
def State.scrubPatrol (s : State) (n : Shaft) (i : Bool) (a w : Nat) (u : StoreCheck) : State :=
  if !s.scrubs n || decide (2 ^ 20 ≤ a) || decide (16 ≤ w) || !s.patrols n i (a / 8192) then s
  else match u with
    | .good => s
    | .corrected => s.addReg n .SCB_CNT2_PLAN_CORR
    | _ => s.planUncorr n a w

/-- SCRUB_PATROL. -/
def execScrubPatrol (sh : Shaft) (i : Bool) (a w : Nat) (u : StoreCheck) (s : State) : Out := .next (s.scrubPatrol sh i a w u)

end Sys2Proof.Machine
end

