-- ==== Sys2Proof/Machine/Gate.lean ====
section
/-! DEFINITION. A portal's egress: the egress queue and the deadline lane, the Daylight gate (R235 to R237), the egress guard (R439 to
R442), what a link-down portal does (R349, R159, R351), and the way on to the flit mover. -/

namespace Sys2Proof.Machine

/-! ### The guard -/

/-- R440: the buckets of a guard refill with time: RATE tubs per µs and class, MGT_KTPS thousandths of a tub per µs. -/
def State.guardFill (s : State) (n : Shaft) (p : Portal) : State :=
  let e := portalE n p
  s.updPtl n p (fun x =>
    { x with
      buckets := Tbl.mapAll 0 (fun c u => u - s.dev .GRD_RATE_RATE (16 * e + c) * (s.up - x.tokensAt)) x.buckets
      mgt := x.mgt - s.dev .GRD_PORT2_MGT_KTPS e * (s.up - x.tokensAt)
      tokensAt := s.up })

/-- R440: does an address lie in a window of memory-facing portal `e`? -/
def State.inWindow (s : State) (e : Nat) (a : Nat) : Bool :=
  (List.range 32).any (fun w =>
    let b := s.dev .GRD_WIN0_BASE_GIB (32 * e + w)
    let z := s.dev .GRD_WIN1_SIZE_GIB (32 * e + w)
    decide (b * 2 ^ 30 ≤ a) && decide (a < (b + z) * 2 ^ 30))

/-- R440: LAST_CAUSE of the limit a tub breaks, 0 for none. -/
def State.guardCause (s : State) (n : Shaft) (p : Portal) (t : Tub) : Nat :=
  let e := portalE n p
  let c := t.cls.toNat
  let a := t.dstAgent.toNat
  if t.wdog then 0
  else if s.dev .GRD_RATE_RATE (16 * e + c) = 0 ∨ s.dev .GRD_RATE_BURST (16 * e + c) ≤ Tbl.get 0 (s.ptl n p).buckets c then 1
  else if (t.cls = Cls.SNP ∨ t.cls = Cls.RSP) ∧ (a < s.dev .GRD_PORT_AGENT_LO e ∨ s.dev .GRD_PORT_AGENT_HI e < a) then 2
  else if t.cls = Cls.MEM ∧ s.role n p = Role.MEM ∧ !s.inWindow e t.addr.toNat then 3
  else if t.cls = Cls.MGT ∧ 1000 * s.dev .GRD_PORT2_MGT_KTPS e < (s.ptl n p).mgt + 1000 then 4
  else 0

/-- A tub that passes takes its tokens; one with WDOG 1 takes none. -/
def State.guardSpend (s : State) (n : Shaft) (p : Portal) (t : Tub) : State :=
  if t.wdog then s
  else s.updPtl n p (fun x =>
    { x with buckets := Tbl.upd 0 x.buckets t.cls.toNat (fun u => u + 1), mgt := if t.cls = Cls.MGT then x.mgt + 1000 else x.mgt })

/-- R441, R442: a tub that breaks a limit is dropped and counted. -/
def State.guardDrop (s : State) (n : Shaft) (p : Portal) (cause : Nat) : State :=
  let e := portalE n p
  let s1 := s.setDev .GRD_STAT2_LAST_CAUSE cause e
  if s.guardCounts then
    let s2 := s1.addDev .GRD_STAT_DROPS e
    (s2.setDev .GRD_HIT_SHAFT (s2.dev .GRD_HIT_SHAFT ||| 2 ^ n.val)).limEvent n 0x0C04 Sev.warning p.val (fun k => detail cause k)
  else s1

/-! ### Answers of the hard units -/

/-- R129: the answer of a tally passes its gate, or is discarded there or by a link-down portal. -/
def State.answerPassed (s : State) (n : Shaft) (t : Tub) : State :=
  let y := s.tally n t.tally.toNat
  if t.ans ∧ t.tv ∧ y.gen = t.gen ∧ y.st ≠ .free then s.answerGone n t.tally.toNat else s

/-- R159: the MRS answer to a MEM tub. The queue manager's own accesses (TV 0) end by DEEP_RING_REPLY. -/
def State.memError (s : State) (n : Shaft) (t : Tub) : State :=
  let s1 := s.addReg n .CLM_STAT2_MEM_UNREACHABLE
  if t.tv then
    s1.inject n { s1.answerTub n Ans.MEM_ERROR t.body false with tv := true, tally := t.tally, gen := t.gen, seq := t.seq }
      (.unit .adit) Layer.lode.dest .tallyStore
  else s1

/-- R351: the SNP_LOST answer to a snoop of a tally. -/
def State.snpLost (s : State) (n : Shaft) (p : Portal) (t : Tub) : State :=
  let y := s.tally n t.tally.toNat
  let o : Portal := if t.tv ∧ y.gen = t.gen then y.portal else p
  let s1 := s.addReg n .PTL_STAT4_SNP_UNREACHABLE o.val
  if t.tv then
    s1.inject n { s1.answerTub n Ans.SNP_LOST t.body false with tv := true, tally := t.tally, gen := t.gen, seq := t.seq }
      (.unit .adit) Layer.lode.dest .tallyStore
  else s1

/-- R349: is the tub an answer to a request of this portal? -/
def State.answersHere (s : State) (n : Shaft) (p : Portal) (t : Tub) : Bool :=
  let y := s.tally n t.tally.toNat
  (t.ans || decide (t.cls = Cls.RSP) || decide (t.cls = Cls.DAT)) &&
    (if t.tv then decide (y.gen = t.gen) && decide (y.portal = p) else t.wdog || t.ans)

/-- R349: a link-down portal disposes of a tub. -/
def State.downTub (s : State) (n : Shaft) (p : Portal) (t : Tub) : State :=
  if t.cls = Cls.MEM then s.memError n t
  else if t.cls = Cls.SNP then s.snpLost n p t
  else if s.answersHere n p t then (s.addReg n .TLY_STAT4_NO_PORTAL).answerPassed n t
  else (s.addReg n .PTL_STAT2_DOWN_DROP p.val).answerPassed n t

/-! ### The gate (R235) -/

/-- What the gate decides. -/
inductive Verdict | pass | ticket | hold | stale | discard
  deriving DecidableEq, Repr

/-- R235: the first row that applies. -/
def State.verdict (s : State) (n : Shaft) (t : Tub) : Verdict :=
  let y := s.tally n t.tally.toNat
  if !t.tv then .pass
  else if y.st = .free ∨ y.gen ≠ t.gen then .stale
  else if y.expired ∧ !t.wdog then .stale
  else if t.wdog then .pass
  else if y.spec = .pending ∧ t.spc then
    if t.cls = Cls.MEM ∧ t.seq = y.sp.ticketSeq ∧ 0 < y.sp.tickets then .ticket else .hold
  else if y.spec = .aborted ∧ t.spc then .discard
  else .pass

/-- R236: hold a tub in a tub slot, when one is free, or discard it and abort its tally when the store is full. -/
def State.holdTub (s : State) (n : Shaft) (p : Portal) (t : Tub) : State :=
  if 512 ≤ (s.ptl n p).hold.length then
    (((s.specAbort n t.tally.toNat).addReg n .PTL_DL_GATE_HOLD_FULL p.val).limEvent n 0x0501 Sev.notice p.val (fun k => detail k)).answerPassed n t
  else
    let i := s.freeSlot n
    let s1 := match i with
      | some j => s.takeSlot n j t
      | none => s
    (s1.updPtl n p (fun x => { x with hold := x.hold ++ [⟨t, i⟩] })).addReg n .PTL_DL_GATE2_HELD p.val

/-- A tub the gate has passed goes through the guard to the former or the flit mover. -/
def State.egressTub (s : State) (n : Shaft) (p : Portal) (t : Tub) : State :=
  if t.cls = Cls.MEM ∧ s.role n p ≠ Role.MEM then s.memError n t
  else
    let c := s.guardCause n p t
    let s1 :=
      if c ≠ 0 then (s.guardDrop n p c).dropHead n p t
      else
        let s2 := s.guardSpend n p t
        if (s.ptl n p).cfg.drift then s2.toTx n p (s2.driftItem n p t) else s2.formTub n p t
    s1.answerPassed n t

/-- A ticket is used (row 5). -/
def State.useTicket (s : State) (n : Shaft) (t : Tub) : State :=
  s.updTally n t.tally.toNat (fun y => { y with sp := { y.sp with tickets := y.sp.tickets - 1 } })

/-- R235: the gate of a link-up portal judges a tub. -/
def State.gateTub (s : State) (n : Shaft) (p : Portal) (t : Tub) : State :=
  match s.verdict n t with
  | .pass => s.egressTub n p t
  | .ticket => (s.useTicket n t).egressTub n p t
  | .hold => s.holdTub n p t
  | .stale => (s.addReg n .TLY_STAT2_STALE).dropHead n p t
  | .discard => ((s.addReg n .PTL_DL_GATE2_DISCARDED p.val).dropHead n p t).answerPassed n t

/-! ### What comes next -/

/-- Is the tub a DAT tub of a line of haul parent `t`? -/
def State.datOf (s : State) (n : Shaft) (t : Nat) (x : Tub) : Bool :=
  let y := s.tally n x.tally.toNat
  decide (x.cls = Cls.DAT) && x.tv && decide (y.gen = x.gen) && decide (y.kind = .haulLine) && y.childOf t (s.tally n t).gen

/-- The tubs a queue with its ring in tub slots holds. -/
def State.queued (s : State) (n : Shaft) (q : Nat) : List Tub :=
  let d := s.queue n q
  if d.place then [] else (List.range d.depth).map (fun i => s.slot n (d.base.toNat + d.slot (d.rd + BitVec.ofNat 21 i)))

/-- R135: a haul's completion in the deadline lane waits while a DAT tub of the haul is on its way to this portal. -/
def State.datsAhead (s : State) (n : Shaft) (p : Portal) (t : Tub) : Bool :=
  let h := s.sh n
  let x := s.ptl n p
  let of_ := s.datOf n t.tally.toNat
  t.tv && decide ((s.tally n t.tally.toNat).kind = .haulParent) &&
    (h.flights.any (fun f => of_ f.tub && decide (f.act = .egress p))
      || h.qops.any (fun o => match o.op with
        | .push y => of_ y
        | _ => false)
      || h.pushWaits.any (fun w => of_ w.tub)
      || (s.queued n (s.reg n .PTL_EQ_QUEUE p.val)).any of_
      || x.eqGot.any of_ || x.hold.any (fun i => of_ i.tub) || x.released.any of_)

/-- Fetch the next entry of PTL.EQ[p], when none has been fetched. -/
def State.fetchEgress (s : State) (n : Shaft) (p : Portal) : State :=
  let q := s.reg n .PTL_EQ_QUEUE p.val
  let d := s.queue n q
  let busy := (s.sh n).ringOps.any (fun r => decide (r.by_ = .egress p))
  if (s.ptl n p).eqGot ≠ [] ∨ busy ∨ !d.valid ∨ d.depth = 0 ∨ !s.works n .QMG then s
  else
    let r := s.popNow n q
    r.1.handPop n q (.egress p) r.2

/-- The next tub at the portal's gate, and the state without it: the deadline lane goes ahead of every other egress tub (R141), tubs released by a
confirmation go ahead of the egress queue (R237, R239). A tub of the egress queue leaves TRANSIT here (R235). -/
def State.gateNext (s : State) (n : Shaft) (p : Portal) : Option (Tub × State) :=
  let x := s.ptl n p
  match takeFirst (fun t => !s.datsAhead n p t) x.lane with
  | some (t, rest) => some (t, s.updPtl n p (fun y => { y with lane := rest }))
  | none =>
    match x.released with
    | t :: rest => some (t, s.updPtl n p (fun y => { y with released := rest }))
    | [] =>
      match x.eqGot with
      | t :: rest => some (t, (s.updPtl n p (fun y => { y with eqGot := rest })).leaveTransit n t)
      | [] => none

/-- R358 step 4: does the tub that would pass have to wait for a tag? -/
def State.waitsForTag (s : State) (n : Shaft) (p : Portal) (t : Tub) : Bool :=
  let v := s.verdict n t
  s.linkUp n p && !(s.ptl n p).cfg.drift && (decide (v = .pass) || decide (v = .ticket)) &&
    !(decide (t.cls = Cls.MEM) && decide (s.role n p ≠ Role.MEM)) && decide (s.guardCause n p t = 0) && s.tagShort n p t

/-- R358 step 4: the egress queue waits; the wait is counted once. -/
def State.startTagWait (s : State) (n : Shaft) (p : Portal) : State :=
  if (s.ptl n p).tagWait then s
  else (s.updPtl n p (fun x => { x with tagWait := true })).addReg n .PTL_TAGS_TAG_WAIT p.val

/-- The flit mover's buffer has room. -/
def State.txRoom (s : State) (n : Shaft) (p : Portal) : Bool := decide ((s.ptl n p).txq.length < 64)

/-- The tub that is next is decided. -/
def State.decideNext (s : State) (n : Shaft) (p : Portal) : State :=
  match s.gateNext n p with
  | none => s
  | some (t, s1) =>
    let s2 := s1.updPtl n p (fun x => { x with tagWait := false })
    if !s2.linkUp n p then s2.downTub n p t
    else s2.gateTub n p t

/-- GATE_DECISION: the next tub reaches the gate of portal `p`. -/
def State.gateDecision (s : State) (n : Shaft) (p : Portal) : State :=
  if !s.txRoom n p then s
  else
    let s0 := (s.fetchEgress n p).guardFill n p
    match s0.gateNext n p with
    | none => s0
    | some (t, _) =>
      if s0.waitsForTag n p t then
        let s1 := s0.tagRoom n p
        if s1.waitsForTag n p t then s1.startTagWait n p else s1.decideNext n p
      else s0.decideNext n p

/-- GATE_DECISION. -/
def execGateDecision (sh : Shaft) (p : Portal) (s : State) : Out := .next (s.gateDecision sh p)

end Sys2Proof.Machine
end

