-- ==== Sys2Proof/Machine/Gates.lean ====
section
/-! DEFINITION. Gates (R55 to R58): a block is asked to stop, halts, and returns to service. -/

namespace Sys2Proof.Machine

/-- A block of scope `sc` that has a gate. -/
def gateAt (sc : Nat) (b : Block) : Bool := !b.ungateable && (if b.ofShaft then decide (sc < 8) else decide (sc = 8))

/-- R57: has the block met its condition to halt (R100, R143, R183, R224, R266: no open tally; R326: the end of a frame; R400)? -/
def State.mayHalt (s : State) (sc : Nat) (b : Block) : Bool :=
  match b with
  | .IMG => decide (s.img = Img.IDLE) || decide (s.img = Img.REFUSED) || decide (s.img = Img.ARMED)
  | .SCB => true
  | _ => !s.anyOpen (shaftOf sc)

/-- What stopping a block at once does: PTL disables the shaft's portals (R368), PCE stops its pacers (R104), BST ends the tests (R448). -/
def State.gateStops (s : State) (sc : Nat) (b : Block) : State :=
  match b with
  | .PTL => s.eachPortal (fun p a => a.portalDown (shaftOf sc) p)
  | .PCE => s.pacersStop (shaftOf sc)
  | .BST => s.eachShaft (fun n a => a.testAbort n)
  | _ => s

/-- The write of 1 to GATE.EN (R55, R57). A block on its way back from a gate stays halted. -/
def State.gateOn (s : State) (sc : Nat) (b : Block) : State :=
  if !gateAt sc b || s.gateEn sc b then s
  else if s.returning.contains (sc, b) then { s.setGate sc b true true with returning := s.returning.filter (fun x => x != (sc, b)) }
  else if b.haltsLater then s.setGate sc b true false
  else (s.gateStops sc b).setGate sc b true true

/-- The write of 0 to GATE.EN (R57): it cancels a gate that has not halted; a halted block begins its return. -/
def State.gateOff (s : State) (sc : Nat) (b : Block) : State :=
  if !gateAt sc b || !s.gateEn sc b then s
  else if s.gated sc b then { s.setGate sc b false true with returning := s.returning ++ [(sc, b)] }
  else s.setGate sc b false false

/-- BLOCK_HALT (R57); the wait for no open tally ends by R144. -/
def State.blockHalt (s : State) (sc : Nat) (b : Block) : State :=
  if gateAt sc b && b.haltsLater && s.gateEn sc b && !s.gated sc b && s.mayHalt sc b then
    let s1 := if b = .IMG ∨ b = .SCB then s else s.closeDone (shaftOf sc)
    s1.setGate sc b true true
  else s

/-- BLOCK_HALT. -/
def execBlockHalt (sc : Nat) (b : Block) (s : State) : Out := .next (s.blockHalt sc b)

/-- BLOCK_RETURN (R57); as PTL returns, every portal with ENABLE 1 is checked and enters DETECT (R368). -/
def State.blockReturn (s : State) (sc : Nat) (b : Block) : State :=
  if s.returning.contains (sc, b) then
    let s1 := { s.setGate sc b false false with returning := s.returning.filter (fun x => x != (sc, b)) }
    if b = .PTL then
      s1.eachPortal (fun p a => if a.regB (shaftOf sc) .PTL_CFG_ENABLE p.val then a.portalUp (shaftOf sc) p else a)
    else s1
  else s

/-- BLOCK_RETURN. -/
def execBlockReturn (sc : Nat) (b : Block) (s : State) : Out := .next (s.blockReturn sc b)

end Sys2Proof.Machine
end

