-- ==== Sys2Proof/Machine/Kept.lean ====
section
/-! DEFINITION. The reset classes of the register fields (R15, R429): every field by its number, and what a reset takes back to its reset
value. -/

namespace Sys2Proof.Machine

/-- Fields numbered from 0. -/
def Fld.part0 : List Fld :=
  [.SHF_PLANE_ID, .SHF_ROUTE_TARGET, .SHF_FWD_STAT_ROUTE_MISS, .SHF_FWD_STAT2_LATE_ANSWER, .SHF_CTL_DEEP_OPEN, .SHF_CTL_KEY,
   .DEV_CTL_DEEP_OPEN, .DEV_CTL_KEY, .SGATE_EN, .DGATE_EN, .SGATE_HALTED, .DGATE_HALTED, .SGATE_HITS_HITS, .DGATE_HITS_HITS,
   .CGE_CFG_DDR, .CGE_CFG_SILENCE_MS, .CGE_STAT_BAD_HDR, .CGE_STAT_BAD_DATA, .CGE_LAST_FAIL_WORD, .CGE_LAST_FAIL_OUTCOME,
   .EVL_STAT_COUNT, .EVL_STAT_DROPPED, .HAU_STAT_CORR, .HAU_STAT_UNCORR, .HAU_STAT2_LAYER_ABSENT, .HAU_STAT2_CREDIT_HOLD,
   .HAU_VLINK_RETIRED, .PCE_STOPE_TEMPO, .PCE_STOPE_SRC, .PCE_STOPE_DIV, .PCE_STOPE_AUTO_FB, .PCE_STOPE_ACTIVE, .PCE_STOPE_RAMPING,
   .PCE_STOPE_FORCED, .PCE_SLIP_SLIP, .PCE_SLIP_STRETCH, .PCE_TPLL_LOCK, .CLK_CFG_AUTO_RETURN, .CLK_CFG_RETURN_NOW,
   .CLK_CFG_REFSEL]

/-- Fields numbered from 40. -/
def Fld.part1 : List Fld :=
  [.CLK_CFG_REF_OK, .CLK_STATE_SHAFT, .CLK_QUAL_QUAL, .CLK_QUAL_LOOP_LANE, .CLK_STAT_LOSSES, .TIM_CFG_SOURCE, .TIM_CFG_SHAFT,
   .TIM_CFG_PORT, .TIM_CFG_PERIOD_US, .TIM_NOW_LO_NOW_LO, .TIM_NOW_HI_NOW_HI, .TIM_ASYM_ASYM_NS, .TIM_OFFSET_OFFSET,
   .TIM_STAT_LOCKED, .TIM_STAT_STEPS, .TLY_CFG_DEADLINE_US, .TLY_CFG_RESERVE, .TLY_CFG2_DRAIN_US, .TLY_COUNT_OPEN, .TLY_COUNT_PEAK,
   .TLY_CLOCK_NOW, .TLY_STAT_EXPIRED, .TLY_STAT_NO_TALLY, .TLY_STAT2_STALE, .TLY_STAT2_LATE, .TLY_STAT3_ABANDONED,
   .TLY_STAT3_BAD_CLASS, .TLY_STAT3_BAD_HAUL, .TLY_STAT4_NO_PORTAL, .TLY_STAT4_OVER_QUOTA, .TLY_STAT5_NO_SLOT, .TLY_QUOTA_QUOTA,
   .TLY_KILL_TALLY, .TLY_KILL_GO, .CLM_ENTRY0_VALID, .CLM_ENTRY0_CACHEABLE, .CLM_ENTRY0_SPECULABLE, .CLM_ENTRY0_PORTAL,
   .CLM_ENTRY1_BASE_GIB, .CLM_ENTRY2_READ]

/-- Fields numbered from 80. -/
def Fld.part2 : List Fld :=
  [.CLM_ENTRY3_WRITE, .CLM_ENTRY4_CACHE, .CLM_ENTRY5_ENTRIES, .CLM_ENTRY6_OPEN, .CLM_ENTRY6_GRANULE, .CLM_ENTRY6_MAPPED,
   .CLM_MAP_CLAIM, .CLM_MAP_VALID, .CLM_STAGE0_VALID, .CLM_STAGE0_CACHEABLE, .CLM_STAGE0_SPECULABLE, .CLM_STAGE0_PORTAL,
   .CLM_STAGE1_BASE_GIB, .CLM_STAGE2_READ, .CLM_STAGE3_WRITE, .CLM_STAGE4_CACHE, .CLM_CMD_CLAIM, .CLM_CMD_GRANULE, .CLM_CMD_OP,
   .CLM_CMD_GO, .CLM_CMD_STAT_BUSY, .CLM_CMD_STAT_LOST, .CLM_CMD_STAT_RESULT, .CLM_SWEEP_CLAIM, .CLM_SWEEP_GO,
   .CLM_SWEEP_STAT_BUSY, .CLM_SWEEP_STAT_LOST, .CLM_SWEEP_STAT_FAILS, .CLM_SWEEP_CNT_RECALLS, .CLM_STAT_UNMAPPED,
   .CLM_STAT_RIGHTS_DENIED, .CLM_STAT2_MEM_UNREACHABLE, .DIR_CFG_RECALL_OP, .DIR_CFG_BCAST_GROUPS, .DIR_NEED_NEED,
   .DIR_PRESENT_PRESENT, .DIR_STAT_RECALLS, .DIR_STAT_RECALL_FAIL, .DIR_STAT2_SET_STALL, .DIR_STAT2_CORR]

/-- Fields numbered from 120. -/
def Fld.part3 : List Fld :=
  [.DIR_STAT3_UNCORR, .DIR_STAT3_QUARANTINED, .HWR_CFG_STEP_LIMIT, .HWR_EPOCH_CURRENT, .HWR_EPOCH_LOADED0, .HWR_EPOCH_LOADED1,
   .HWR_EPOCH_ARMED, .HWR_EPOCH_CNT_COUNT0, .HWR_EPOCH_CNT_COUNT1, .HWR_FLIP_GO, .HWR_FLIP_STAT_RESULT, .HWR_BANK_CTL_BANK,
   .HWR_BANK_CTL_SEAL, .HWR_BANK_CRC_CRC, .HWR_BANK_STAT_BUSY, .HWR_BANK_STAT_RESULT, .HWR_BANK_STAT_LOST, .HWR_RETIRE_HEWER,
   .HWR_RETIRE_FORCE, .HWR_RETIRE_GO, .HWR_RETIRE_STAT_BUSY, .HWR_RETIRE_STAT_RESULT, .HWR_STAT_TRAPS, .HWR_STAT_NO_HANDLER,
   .HWR_STAT2_STORE_CORR, .HWR_STAT2_STORE_REFETCH, .HWR_STAT3_THREAD_WAIT, .HWR_TRAP_LOG0_CAUSE, .HWR_TRAP_LOG0_HEWER,
   .HWR_TRAP_LOG0_THREAD, .HWR_TRAP_LOG0_EPOCH, .HWR_TRAP_LOG0_PC, .HWR_TRAP_LOG0_HELD, .HWR_TRAP_LOG1_TALLY, .HWR_TRAP_LOG1_KEY,
   .HWR_TRAP_LOG2_INSTR_LO, .HWR_TRAP_LOG3_INSTR_HI, .HWR_UNIT_ROLE, .HWR_UNIT_THREADS, .HWR_UNIT_REG_CORR]

/-- Fields numbered from 160. -/
def Fld.part4 : List Fld :=
  [.HWR_UNIT_TRAPS, .HWR_CTR_COUNT, .PTL_DL_STAT_STARTED, .PTL_DL_STAT_CONFIRMED, .PTL_DL_STAT2_ABORTED, .PTL_DL_STAT2_DECLINED,
   .PTL_DL_STAT3_REWIND_FAIL, .PTL_DL_STAT3_PORT_ABORT, .PTL_DL_GATE_OCCUPANCY, .PTL_DL_GATE_HOLD_FULL, .PTL_DL_GATE2_HELD,
   .PTL_DL_GATE2_DISCARDED, .STP_SPEC_EXPOSE, .STP_SPEC_STAINED, .STP_SPEC_LINEAGE, .STP_SPEC_STAIN_DROP, .QMG_CFG_RING_SLOTS,
   .QMG_STAGE0_BASE, .QMG_STAGE0_SIZE, .QMG_STAGE0_PLACE, .QMG_STAGE1_HWM, .QMG_STAGE2_LWM, .QMG_STAGE3_VALID, .QMG_STAGE3_MODE,
   .QMG_STAGE3_WAIT, .QMG_STAGE3_PIN, .QMG_STAGE3_PIN_EN, .QMG_STAGE3_CR_PORTAL, .QMG_STAGE3_CR_EN, .QMG_CMD_QUEUE, .QMG_CMD_OP,
   .QMG_CMD_GO, .QMG_CMD_STAT_BUSY, .QMG_CMD_STAT_LOST, .QMG_CMD_STAT_RESULT, .QMG_HOST_CMD_QUEUE, .QMG_HOST_CMD_OP,
   .QMG_HOST_CMD_CLASS, .QMG_HOST_CMD_GO, .QMG_HOST_STAT_BUSY]

/-- Fields numbered from 200. -/
def Fld.part5 : List Fld :=
  [.QMG_HOST_STAT_LOST, .QMG_HOST_STAT_RESULT, .QMG_HOST_STAT_CLASS, .QMG_HOST_TUB_DATA, .QMG_FC_PINS, .QMG_STAT_DROPS,
   .QMG_STAT_UNDERRUNS, .QMG_STAT2_MARKS_LOST, .QMG_STAT2_REWIND_REFUSED, .QMG_STAT3_PENDING, .QMG_STAT3_INVALID_Q,
   .QMG_STAT4_DEEP_ERR, .QMG_STAT4_WAITS, .STP_CFG_SYNC3, .STP_STAT_COMPAT, .STP_STAT_PAIRED, .STP_STAT_PAIR_FAULT,
   .STP_STAT_RELEASED, .STP_STAT_CONTENDED, .STP_STAT_CONTENTIONS, .STP_CONT_LOG_SEGMENT, .STP_CONT_LOG_VALID, .STP_STAT2_VC2_DROP,
   .BLK_PORT_ASPECT_A, .BLK_PORT_ASPECT_B, .BLK_PORT_ROW_A, .BLK_PORT_ROW_B, .BLK_PORT_USED, .BLK_STAT_COLL, .CTX_STOPE_ACTIVE,
   .CTX_STOPE_SHADOW, .CTX_STOPE_SH_STATE, .CTX_STOPE_GANG, .CTX_STOPE_GANG_EN, .CTX_STOPE_BOOT, .CTX_STOPE_ID, .CTX_SLOT_STATE,
   .CTX_CMD_STOPE, .CTX_CMD_CONTEXT, .CTX_CMD_GANG]

/-- Fields numbered from 240. -/
def Fld.part6 : List Fld :=
  [.CTX_CMD_OP, .CTX_CMD_GO, .CTX_CMD_STAT_BUSY, .CTX_CMD_STAT_LOST, .CTX_CMD_STAT_RESULT, .CTX_LOAD_STAT_RESULT,
   .CTX_LOAD_STAT_CAUSE, .CTX_LOAD_ADDR_FRAME_ADDR, .CTX_RB_CTL_FRAME_ADDR, .CTX_RB_CTL_PLANE, .CTX_RB_CTL_GO, .CTX_RB_STAT_BUSY,
   .CTX_RB_STAT_VALID, .CTX_RB_STAT_UNCORR, .CTX_RB_STAT_CHECK_OK, .CTX_RB_DATA_DATA, .CTX_RB_CHECK_CHECK, .CTX_STAT_SWAPS,
   .CTX_STAT_REFUSED, .CTX_STAT2_PRELOADS, .CTX_STAT2_RELOADS, .SCB_STAT_STATE0, .SCB_STAT_STATE1, .SCB_CTL_RESTART0,
   .SCB_CTL_RESTART1, .SCB_PASS_PASSES, .SCB_PASS_LAST_US, .SCB_CNT_CORR, .SCB_CNT_VOTE_CORR, .SCB_CNT2_PLAN_CORR,
   .SCB_CNT2_PLAN_UNCORR, .SCB_CNT3_RECOVERED, .SCB_CNT3_LOST, .SCB_CNT3_STUCK, .SCB_LOST_LOG_FRAME_ADDR, .SCB_LOST_LOG_VALID,
   .LNE_CFG_MAX_RATE, .LNE_CFG_SLEEP_EN, .LNE_CFG_TX_SWING, .LNE_CFG_TX_PRE]

/-- Fields numbered from 280. -/
def Fld.part7 : List Fld :=
  [.LNE_CFG_TX_POST, .LNE_STAT_RATE, .LNE_STAT_CDR_LOCK, .LNE_STAT_TX_SLEEP, .LNE_STAT_RX_SLEEP, .LNE_STAT_SLIP_POS,
   .LNE_STAT_SLIP_IGNORED, .LNE_SLIP_GO, .LNE_SLIP_DIR, .LNE_ERR_FEC_CORR, .LNE_ERR_FEC_UNCORR, .PTL_CFG_ENABLE, .PTL_CFG_WIDTH,
   .PTL_CFG_FIRST_LANE, .PTL_CFG_ROLE, .PTL_CFG_ORIENT, .PTL_CFG_MODE, .PTL_CFG_HOLD, .PTL_CFG_SLEEP_EN, .PTL_CFG_MIN_WIDTH,
   .PTL_SLEEP_IDLE_US, .PTL_STATE_STATE, .PTL_STATE_TRAINED, .PTL_STATE_PRESENT, .PTL_STATE_RATE, .PTL_STATE_CFG_ERR,
   .PTL_STATE_FAILS, .PTL_AGENT_BASE, .PTL_AGENT_COUNT, .PTL_INQ_QUEUE, .PTL_EQ_QUEUE, .PTL_CROUTE_ROUTE, .PTL_CROUTE_QUEUE,
   .PTL_TAGS_IN_USE, .PTL_TAGS_TAG_WAIT, .PTL_STAT_BAD_AGENT, .PTL_STAT_UNKNOWN_MSG, .PTL_STAT2_STALE_TAG, .PTL_STAT2_DOWN_DROP,
   .PTL_STAT3_REPLAYS]

/-- Fields numbered from 320. -/
def Fld.part8 : List Fld :=
  [.PTL_STAT3_RETRAINS, .PTL_STAT4_COOL_RETRY, .PTL_STAT4_SNP_UNREACHABLE, .IMG_CMD_OP, .IMG_CMD_GO, .IMG_CMD_STAT_BUSY,
   .IMG_CMD_STAT_LOST, .IMG_CMD_STAT_RESULT, .IMG_STATE_STATE, .IMG_FAIL_CAUSE, .IMG_FAIL_DETAIL, .IMG_FAIL_PART_PART,
   .IMG_STREAM_NEXT, .IMG_WHEN_LO_WHEN_LO, .IMG_WHEN_HI_WHEN_HI, .IMG_SLOTS_ACTIVE, .IMG_SLOTS_PROBATION, .IMG_SLOTS_RUNNING,
   .IMG_SLOTS_FALLBACK, .IMG_SLOTS_ROLLED_BACK, .IMG_SLOTS_PARTIAL_LIVE, .IMG_SLOTS_CHARTER_PENDING, .IMG_ID_LO_ID_LO,
   .IMG_ID_HI_ID_HI, .IMG_INFO_SLOT_64K, .IMG_INFO_KEYS, .IMG_SETCMD_OP, .IMG_SETCMD_GO, .IMG_SETREC0_ADDR_LO,
   .IMG_SETREC1_ADDR_HI, .IMG_SETREC2_VALUE, .IMG_SETREC3_MASK, .IMG_SETSTAT_BUSY, .IMG_SETSTAT_RESULT, .IMG_SETSTAT_COUNT,
   .IMG_SETSTAT_SKIPPED, .CAN_CFG_FAST_ALL, .CAN_CTL_SHAFT, .CAN_CTL_LAYER, .CAN_CTL_REARM]

/-- Fields numbered from 360. -/
def Fld.part9 : List Fld :=
  [.CAN_TEMP_READING, .CAN_TEMP_ESTIMATE, .CAN_TEMP_EFFECTIVE, .CAN_TEMP_SUSPECT, .CAN_SENSOR_VALUE, .CAN_SENSOR_BROKEN,
   .CAN_SENSOR_CAUSE, .CAN_SHAFT_CAP, .CAN_SHAFT_FAST, .CAN_SHAFT_THERMAL, .CAN_STAT_TRIPS, .CAN_STAT_SUSPECTS,
   .CAN_STAT_THROTTLE_MS, .PWR_CFG_GOV_EN, .PWR_CFG_FIXED_MV, .PWR_AVS_REQ_MV, .PWR_AVS_MON_MV, .PWR_AVS_CAP_MV,
   .PWR_AVS_AVS_FAULT, .PWR_SHAFT_DOZE, .PWR_SHAFT_STATE, .PWR_ENERGY_UJ, .GRD_HIT_SHAFT, .GRD_RATE_RATE, .GRD_RATE_BURST,
   .GRD_PORT_AGENT_LO, .GRD_PORT_AGENT_HI, .GRD_PORT_LINK_RESETS, .GRD_PORT2_MGT_KTPS, .GRD_WIN0_BASE_GIB, .GRD_WIN1_SIZE_GIB,
   .GRD_LANE_SWING_CAP, .GRD_LANE_PRE_CAP, .GRD_LANE_POST_CAP, .GRD_DEV_CAP_MV, .GRD_TPL0_READ, .GRD_TPL1_WRITE, .GRD_TPL2_CACHE,
   .GRD_STAT_DROPS, .GRD_STAT_LINK_DEFER]

/-- Fields numbered from 400. -/
def Fld.part10 : List Fld :=
  [.GRD_STAT2_CLIPS, .GRD_STAT2_LAST_CAUSE, .BST_STAT_STATUS, .BST_CNT_PASSED, .BST_CNT_FAILED, .BST_CNT2_REFUSED,
   .BST_CNT2_SPARES, .SHF_CTL_SLICE, .SHF_SLICE_STAT_STATE, .SHF_SLICE_STAT_LAYER, .SHF_SLICE_STAT_LOST, .SHF_ATTN_TALLY_ABANDONED,
   .SHF_ATTN_DIR_UNCORR, .SHF_ATTN_SCB_STUCK, .SHF_ATTN_SCB_FRAME_LOST, .SHF_ATTN_SENSOR_BROKEN, .SHF_ATTN_BST_FAIL,
   .SHF_ATTN_LODE_UNCORR, .SHF_RST_SHAFT_RESETS, .SHF_RST_SLICE_RESETS, .DEV_ATTN_FORE_UNPLANNED, .DEV_ATTN_BOOT_FALLBACK,
   .DEV_ATTN_PROBATION_ROLLBACK, .DEV_ATTN_AVS_FAULT, .DEV_ATTN_SETTING_SKIPPED]

/-- Every field, in the order of their numbers. -/
def Fld.all : List Fld :=
  Fld.part0 ++ Fld.part1 ++ Fld.part2 ++ Fld.part3 ++ Fld.part4 ++ Fld.part5 ++ Fld.part6 ++ Fld.part7 ++ Fld.part8 ++ Fld.part9 ++ Fld.part10

/-- A reset kind's bit in the KEPT mask (R49). -/
def ResetKind.bit : ResetKind → Nat
  | .por => 0
  | .cold => 1
  | .shaft => 2
  | .stope => 3
  | .fore => 4
  | .therm => 5
  | .portal => 6
  | .doze => 7
  | .txs => 8
  | .rxs => 9

/-- Is a stored setting of this field kept across a reset of kind `k`? A field whose entry is a dash holds none. -/
def Fld.keeps (f : Fld) (k : ResetKind) : Bool := f.desc.kept.testBit k.bit

/-- The field, the scope and the element an entry of `State.regs` stands for. -/
def regEntry (key : Nat) : Option (Fld × Nat × Nat) := (Fld.all[key % 512]?).map (fun f => (f, key / 512 % 16, key / 8192))

/-- A reset takes the fields it covers back to their reset values. -/
def State.dropFields (s : State) (drop : Fld → Nat → Nat → Bool) : State :=
  { s with
    regs := s.regs.filter (fun x =>
      match regEntry x.1 with
      | some (f, sc, e) => !drop f sc e
      | none => true) }

end Sys2Proof.Machine
end

