-- ==== Sys2Proof/Machine/Slices.lean ====
section
/-! DEFINITION. Layer-slice resets (R432 to R434), up to the reload of the Lode. -/

namespace Sys2Proof.Machine

/-- SLICE_RESET (R453): `layer` 1 Lode, 2 Adit; the tallies discarded; the duration. -/
def State.sliceEnds (s : State) (n : Shaft) (layer tallies : Nat) : State :=
  ((s.setReg n .SHF_SLICE_STAT_STATE 0).addReg n .SHF_RST_SLICE_RESETS).shEvent n 0x0C02 Sev.notice 0xFFFF
    (detail layer tallies (s.up - (s.sh n).sliceAt))

/-- A slice reset begins. -/
def State.sliceBegins (s : State) (n : Shaft) (st layer : Nat) : State :=
  ((s.setReg n .SHF_SLICE_STAT_STATE st).setReg n .SHF_SLICE_STAT_LAYER layer).updSh n
    (fun h => { h with sliceAt := s.up, sliceTallies := 0 })

/-! ### Adit (R434) -/

/-- The Daylight gate of portal `p` is cleared: every held tub is discarded, and its tally aborted as by SPAB. -/
def State.clearGate (s : State) (n : Shaft) (p : Portal) : State :=
  let aborted := (s.ptl n p).hold.foldl (fun (a : State) i => if i.tub.tv then a.specAbort n i.tub.tally.toNat else a) s
  let left := (aborted.ptl n p).hold
  ((aborted.updPtl n p (fun x => { x with hold := [] })).giveSlots n (left.filterMap (fun i => i.slot))).addReg n .PTL_DL_GATE2_DISCARDED p.val
    left.length

/-- An Adit slice reset at one portal: a PORTAL reset; its mover, tag store, answer builder and guard checker are cleared. The answers that stood at its
gate are discarded (R129). -/
def State.aditClear (s : State) (n : Shaft) (p : Portal) : State :=
  let s1 := (s.portalReset n p).clearGate n p
  let x := s1.ptl n p
  (x.lane ++ x.released ++ x.eqGot).foldl (fun a t => a.answerPassed n t) (s1.updPtl n p (fun x =>
    { x.down with tags := [], lane := [], eqGot := [], released := [], buckets := [], mgt := 0, tokensAt := s.up }))

/-- The write of SHF.CTL with SLICE 0b10. -/
def State.aditSlice (s : State) (n : Shaft) : State := (s.eachPortal (fun p a => a.aditClear n p)).sliceBegins n 2 1

/-- ADIT_SLICE_DONE. -/
def State.aditDone (s : State) (n : Shaft) : State := if s.slice n ≠ 0 ∧ s.sliceAdit n then s.sliceEnds n 2 0 else s

/-- ADIT_SLICE_DONE. -/
def execAditSliceDone (sh : Shaft) (s : State) : Out := .next (s.aditDone sh)

/-! ### Lode (R433) -/

/-- R432: the write of SHF.CTL with SLICE `v`. -/
def State.sliceWrite (s : State) (n : Shaft) (v : Nat) : State :=
  if v = 0 then s
  else if s.slice n ≠ 0 then s.setReg n .SHF_SLICE_STAT_LOST 1
  else if v = 1 then s.sliceBegins n 1 0
  else s.aditSlice n

/-- A producer that waits through a slice reset: a stope or the host. -/
def Producer.stays (p : Producer) : Bool :=
  match p with
  | .stope _ _ | .host => true
  | _ => false

/-- The Lode content of a shaft is cleared; operations of stopes and of the host wait. Quarantined ways stay so (R180). -/
def ShaftSt.clearLode (h : ShaftSt) : ShaftSt :=
  { h with
    tallies := [], slots := [], pool := [], locks := [], dir := [], recalls := [], setWait := [], recallWait := [], sweep := none, claimCmd := none
    queues := [], blk := [], dispatchQ := [], threads := []
    formers := { h.formers with fin := [], feg := [] }
    qops := h.qops.filter (fun o => o.by_.stays)
    pushWaits := h.pushWaits.filter (fun o => o.by_.stays)
    ringOps := h.ringOps.filter (fun o => o.by_.stays)
    portals := h.portals.mapAll (fun _ x => { x with inGot := [] }) }

/-- The claim table and the granule map. -/
def Fld.claimTable (f : Fld) : Bool :=
  match f with
  | .CLM_ENTRY0_VALID | .CLM_ENTRY0_CACHEABLE | .CLM_ENTRY0_SPECULABLE | .CLM_ENTRY0_PORTAL | .CLM_ENTRY1_BASE_GIB | .CLM_ENTRY2_READ
  | .CLM_ENTRY3_WRITE | .CLM_ENTRY4_CACHE | .CLM_ENTRY5_ENTRIES | .CLM_ENTRY6_OPEN | .CLM_ENTRY6_GRANULE | .CLM_ENTRY6_MAPPED
  | .CLM_MAP_CLAIM | .CLM_MAP_VALID => true
  | _ => false

/-- RESETTING: every open tally discarded, speculation that is pending aborted first; the Lode's content cleared. -/
def State.lodeClear (s : State) (n : Shaft) : State :=
  let lost := ((s.sh n).tallies.filter (fun e => e.2.isOpen)).length
  let pend := ((s.sh n).tallies.filter (fun e => decide (e.2.spec = .pending))).map (fun e => e.1)
  let s1 := pend.foldl (fun (a : State) t => a.specAbort n t) s
  let s2 := (s1.updSh n ShaftSt.clearLode).dropFields (fun f sc _ => decide (sc = n.val) && f.claimTable)
  (((s2.setReg n .CLM_SWEEP_STAT_BUSY 0).setReg n .CLM_CMD_STAT_BUSY 0).updSh n (fun h => { h with sliceTallies := lost })).fcPins n

/-- R433 step 1: may DRAINING end? -/
def State.sliceDrained (s : State) (n : Shaft) : Bool :=
  (!(s.sh n).tallies.any (fun e => decide (e.2.st = .opn) || decide (e.2.st = .wait)) &&
    Oct.indices.all (fun p => (s.ptl n p).lane.isEmpty)) || decide ((s.sh n).sliceAt + 2000 ≤ s.up)

/-- SLICE_DRAIN_END. -/
def State.drainEnd (s : State) (n : Shaft) : State :=
  if s.slice n = 1 ∧ !s.sliceAdit n ∧ s.sliceDrained n then (s.lodeClear n).setReg n .SHF_SLICE_STAT_STATE 2 else s

/-- SLICE_DRAIN_END. -/
def execSliceDrainEnd (sh : Shaft) (s : State) : Out := .next (s.drainEnd sh)

/-- LODE_CLEAR_DONE. -/
def execLodeClearDone (sh : Shaft) (s : State) : Out :=
  .next (if s.slice sh = 2 ∧ !s.sliceAdit sh then s.setReg sh .SHF_SLICE_STAT_STATE 3 else s)

end Sys2Proof.Machine
end

