-- ==== Sys2Proof/Machine/Hooks.lean ====
section
/-! DEFINITION. What a write of a register or of a word of storage does once it has been judged (R12, R53), and what a read of it does,
for every block but IMG, whose commands come later. -/

namespace Sys2Proof.Machine

/-! ### Fields -/

/-- Write a field where it is held. -/
def State.putField (s : State) (sc : Nat) (f : Fld) (e v : Nat) : State :=
  let route (o w : Nat) : State :=
    if h : sc < 8 then
      s.updSh ⟨sc, h⟩ (fun x =>
        { x with formers := { x.formers with croute := Tbl.upd 0 x.formers.croute e (fun b => putBits b o (BitVec.ofNat w v)) } })
    else s
  match f with
  | .PTL_CROUTE_ROUTE => route 0 2
  | .PTL_CROUTE_QUEUE => route 2 17
  | f => s.setF f sc e v

/-- R12: what writing `v` makes of a field. -/
def State.storeField (s : State) (sc : Nat) (f : Fld) (e v : Nat) : State :=
  match f.desc.access with
  | .rw => s.putField sc f e v
  | .w1c => s.setF f sc e (s.getF f sc e - (s.getF f sc e &&& v))
  | .w1s => s.setF f sc e (s.getF f sc e ||| v)
  | _ => s

/-- The element of a field that register element `e` holds. -/
def Place.elem (x : Place) (e : Nat) : Nat := x.mul * e + x.add

/-- Store a written word into the fields of a register. -/
def State.storeReg (s : State) (sc : Nat) (r : Reg) (e : Nat) (v : Word) : State :=
  r.places.foldl (fun (a : State) x => a.storeField sc x.1 (x.2.elem e) (fieldOf v x.1 x.2)) s

/-! ### Effects -/

/-- The value a word written to register `r` has in field `f` of it. -/
def Reg.part (r : Reg) (v : Word) (f : Fld) : Nat := ((r.places.find? (fun x => decide (x.1 = f))).map (fun x => fieldOf v f x.2)).getD 0

/-- R347, R349, R339: the write of PTL.CFG[p]. Before the shaft's boot is done the settings are only stored (R384). -/
def State.portalEffect (old s : State) (n : Shaft) (p : Portal) : State :=
  let was (f : Fld) : Bool := old.regB n f p.val
  let is (f : Fld) : Bool := s.regB n f p.val
  if (s.sh n).boot ≠ .done ∨ (s.sh n).inReset then s
  else
    let s1 := if !was .PTL_CFG_ENABLE && is .PTL_CFG_ENABLE then s.portalUp n p
      else if was .PTL_CFG_ENABLE && !is .PTL_CFG_ENABLE then s.portalDown n p else s
    if !was .PTL_CFG_HOLD && is .PTL_CFG_HOLD then s1.holdOn n p
    else if was .PTL_CFG_HOLD && !is .PTL_CFG_HOLD then s1.holdOff n p else s1

/-- R441: the write of LNE.CFG[l] of a lane of an enabled portal. -/
def State.laneEffect (s : State) (n : Shaft) (l : Nat) : State :=
  match s.lanePortal n l with
  | some p => s.countClips n p l
  | none => s

/-- What the write of word `v` to register `r` of a shaft does beyond its fields. -/
def State.shaftEffect (old s : State) (n : Shaft) (r : Reg) (e : Nat) (v : Word) : State :=
  let g (f : Fld) : Nat := r.part v f
  let on (f : Fld) : Bool := decide (g f ≠ 0)
  match r with
  | .SHF_CTL => s.sliceWrite n (g .SHF_CTL_SLICE)
  | .PCE_STOPE => s.pacerRetarget n e (old.pacerTarget n e)
  | .TLY_KILL => if on .TLY_KILL_GO then s.killTally n (g .TLY_KILL_TALLY) else s
  | .CLM_CMD => if on .CLM_CMD_GO then s.clmCmd n (g .CLM_CMD_OP) (g .CLM_CMD_CLAIM) (g .CLM_CMD_GRANULE) else s
  | .CLM_SWEEP => if on .CLM_SWEEP_GO then s.sweepGo n (g .CLM_SWEEP_CLAIM) else s
  | .HWR_FLIP => if on .HWR_FLIP_GO then s.flipCmd n else s
  | .HWR_BANK_CTL => if on .HWR_BANK_CTL_SEAL then s.sealCmd n (on .HWR_BANK_CTL_BANK) else s
  | .HWR_RETIRE => if on .HWR_RETIRE_GO then s.retireCmd n (g .HWR_RETIRE_HEWER) (on .HWR_RETIRE_FORCE) else s
  | .QMG_CMD => if on .QMG_CMD_GO then s.qmgCmd n (g .QMG_CMD_OP) (g .QMG_CMD_QUEUE) else s
  | .QMG_HOST_CMD =>
    if on .QMG_HOST_CMD_GO then s.hostCmd n (g .QMG_HOST_CMD_OP) (g .QMG_HOST_CMD_QUEUE) (BitVec.ofNat 4 (g .QMG_HOST_CMD_CLASS)) else s
  | .CTX_CMD => if on .CTX_CMD_GO then s.ctxCmd n (g .CTX_CMD_OP) (g .CTX_CMD_STOPE) (g .CTX_CMD_CONTEXT) (g .CTX_CMD_GANG) else s
  | .CTX_RB_CTL => if on .CTX_RB_CTL_GO then s.readback n (g .CTX_RB_CTL_FRAME_ADDR) (g .CTX_RB_CTL_PLANE) false else s
  | .SCB_CTL => s.scbCtl n (on .SCB_CTL_RESTART0) (on .SCB_CTL_RESTART1)
  | .LNE_SLIP => if on .LNE_SLIP_GO then s.laneSlip n e (on .LNE_SLIP_DIR) else s
  | .LNE_CFG => s.laneEffect n e
  | .PTL_CFG => if h : e < 8 then old.portalEffect s n ⟨e, h⟩ else s
  | _ => s

/-- The same for a register of the device-common window. AUTO_RETURN 1 returns toward REF whenever REFCLK stands restored (R111). -/
def State.devEffect (s : State) (r : Reg) (e : Nat) (v : Word) : State :=
  let g (f : Fld) : Nat := r.part v f
  match r with
  | .CLK_CFG => if g .CLK_CFG_RETURN_NOW ≠ 0 ∨ g .CLK_CFG_AUTO_RETURN ≠ 0 then s.returnNow else s
  | .CAN_CTL => if g .CAN_CTL_REARM ≠ 0 then s.rearm (shaftOf (g .CAN_CTL_SHAFT)) (g .CAN_CTL_LAYER) else s
  | .PWR_SHAFT => s.dozeWrite (shaftOf e) (decide (g .PWR_SHAFT_DOZE ≠ 0))
  | _ => s

/-- The block a GATE register belongs to, by its code. -/
def blockOf (code : Nat) : Block := (allBlocks.find? (fun b => decide (b.code = code))).getD .SVY

/-- R54: a write that sets DEEP_OPEN without 0xD5 in KEY. -/
def keyWrong (r : Reg) (v : Word) : Bool :=
  (decide (r = .SHF_CTL) || decide (r = .DEV_CTL)) && v.getLsbD 0 && decide (v.extractLsb' 8 8 ≠ 0xD5)

/-- The write of word `v` to a register: its fields, then its effect. Whoever writes it, a write R54 refuses leaves the register as it is. -/
def State.writeReg (s : State) (sc : Nat) (r : Reg) (e : Nat) (v : Word) : State :=
  match r with
  | .SGATE | .DGATE => if v.getLsbD 0 then s.gateOn sc (blockOf e) else s.gateOff sc (blockOf e)
  | r =>
    if keyWrong r v then s else
    let s1 := s.storeReg sc r e v
    if h : sc < 8 then s.shaftEffect s1 ⟨sc, h⟩ r e v else s1.devEffect r e v

/-- Replace word `i` of a record. -/
def putWord {w : Nat} (x : BitVec w) (i : Nat) (v : Word) : BitVec w := putBits x (32 * i) v

/-- Change a shaft's formers. -/
def State.updFormers (s : State) (n : Shaft) (f : Formers → Formers) : State := s.updSh n (fun h => { h with formers := f h.formers })

/-- A word of block memory written (R292). -/
def blkPut (m : List Host.Cell) (mem row i : Nat) (v : Word) : List Host.Cell :=
  if i = 2 then memSet 0 m (blkByte mem row 8) (v.setWidth 8)
  else memPut 0 ((List.range 4).map (fun b => v.extractLsb' (8 * b) 8)) (blkByte mem row (4 * i)) m

/-- The write of a word of storage by the Cage; words that are RO to it do not change. -/
def State.writeStore (s : State) (x : WordAt) (v : Word) : State :=
  match x with
  | .bank n b p i hi => s.bankPut n b p i hi v
  | .fin n e i => s.updFormers n (fun f => { f with fin := Tbl.upd 0 f.fin e (fun y => putWord y i (formerWord i v)) })
  | .feg n e i => s.updFormers n (fun f => { f with feg := Tbl.upd 0 f.feg e (fun y => putWord y i (formerWord i v)) })
  | .ans n e i => s.updFormers n (fun f => { f with ans := Tbl.upd 0 f.ans e (fun y => putWord y i v) })
  | .blkMem n m row i => s.updSh n (fun h => { h with blk := blkPut h.blk m row i v })
  | _ => s

/-- The write of a word that stands at an address. -/
def State.writeWord (s : State) (x : WordAt) (v : Word) : State :=
  match x with
  | .reg sc r e => s.writeReg sc r e v
  | x => s.writeStore x v

/-! ### Writes by the Foreman (R377, R386) -/

/-- A SHAFT_SETTINGS entry stores RO fields too; a field that only shows state follows that state. -/
def State.imageField (s : State) (sc : Nat) (f : Fld) (e v : Nat) : State :=
  if f.desc.access = .ro ∧ !f.desc.live then s.setF f sc e v else s.storeField sc f e v

/-- The write of a word by a SHAFT_SETTINGS entry. Tally and park records are no settings. -/
def State.imageWord (s : State) (x : WordAt) (v : Word) : State :=
  match x with
  | .reg sc .PTL_CFG e => s.storeReg sc .PTL_CFG e v
  | .reg sc .SGATE e => s.writeReg sc .SGATE e v
  | .reg sc r e =>
    if keyWrong r v then s else
    let s1 := r.places.foldl (fun (a : State) y => a.imageField sc y.1 (y.2.elem e) (fieldOf v y.1 y.2)) s
    if h : sc < 8 then s.shaftEffect s1 ⟨sc, h⟩ r e v else s1
  | .desc n q i =>
    let d := s.queue n q
    s.setQueue n q (QDesc.ofBits (putWord d.bits i v) d.tail)
  | .dirEnt n e i =>
    s.updSh n (fun h => { h with dir := Tbl.upd DirEnt.zero h.dir e (fun d => DirEnt.ofBits (putWord d.bits i v)) })
  | x => s.writeStore x v

/-! ### Reads (R12) -/

/-- A counter of what no command reports (R342) has risen, before a read of it, by a number that stays open. -/
def State.countUnseen (s : State) (f : Fld) (sc e : Nat) : State := let r := s.free; r.2.addF f sc e (Config.freeValue r.1)

/-- The state in which a read meets a word. -/
def State.beforeRead (s : State) (x : WordAt) : State :=
  match x with
  | .reg sc .LNE_ERR e => (s.countUnseen .LNE_ERR_FEC_CORR sc e).countUnseen .LNE_ERR_FEC_UNCORR sc e
  | _ => s

/-- What reading a register does: RC fields clear; reading TIM.NOW_LO latches TIM.NOW_HI (R116). -/
def State.readReg (s : State) (sc : Nat) (r : Reg) (e : Nat) : State :=
  match r with
  | .TIM_NOW_LO => s.setDev .TIM_NOW_HI_NOW_HI (s.fab.toNat / 2 ^ 32)
  | r => r.places.foldl (fun (a : State) x => if x.1.desc.access = .rc then a.setF x.1 sc (x.2.elem e) 0 else a) s

/-- What reading the word that stands at an address does. -/
def State.readWord (s : State) (x : WordAt) : State :=
  match x with
  | .reg sc r e => s.readReg sc r e
  | _ => s

end Sys2Proof.Machine
end

