-- ==== Sys2Proof/Machine/ImageFormat.lean ====
section
/-! DEFINITION. The flash and what it holds (R369 to R381): pointer block, header, manifest, parts and their checks, record streams. -/

namespace Sys2Proof.Machine

/-! ### Flash (R369, R370) -/

/-- What a byte of flash holds that nothing has programmed: erased flash. -/
def erasedByte : Byte := 0xFF

/-- Bytes of flash. -/
def flashTake (m : List Host.Cell) (a k : Nat) : List Byte := memTake erasedByte m a k

/-- A little-endian number in flash. -/
def flashLe (m : List Host.Cell) (a k : Nat) : Nat := leNat (flashTake m a k)

/-- Are `k` bytes of flash 0? -/
def flashZero (m : List Host.Cell) (a k : Nat) : Bool := (flashTake m a k).all (fun b => b == 0)

/-! ### Pointer block (R371) -/

/-- Two slots and the first 64 KiB do not overlap, and lie within the flash. -/
def PtrBlk.fits (p : PtrBlk) : Bool :=
  decide (0x10000 ≤ p.slotA) && decide (0x10000 ≤ p.slotB) && decide (p.slotA + p.size ≤ Config.flashSize)
    && decide (p.slotB + p.size ≤ Config.flashSize) && (decide (p.slotA + p.size ≤ p.slotB) || decide (p.slotB + p.size ≤ p.slotA))

/-- Copy `i` of the pointer block, if it is good. -/
def ptrCopy (m : List Host.Cell) (i : Nat) : Option PtrBlk :=
  let a := 0x1000 * i
  let active := flashLe m (a + 20) 1
  let prob := flashLe m (a + 21) 1
  let p : PtrBlk :=
    ⟨flashLe m (a + 4) 4, flashLe m (a + 8) 4, flashLe m (a + 12) 4, flashLe m (a + 16) 4, decide (active = 1), decide (prob = 1)⟩
  if flashLe m a 4 = 0x484C4644 ∧ flashLe m (a + 60) 4 = (crc32 (flashTake m a 60)).toNat ∧ active ≤ 1 ∧ prob ≤ 1 ∧ p.fits then some p
  else none

/-- The copy in force and its number. -/
def ptrInForce (m : List Host.Cell) : Option (Nat × PtrBlk) :=
  match ptrCopy m 0, ptrCopy m 1 with
  | some a, some b => if a.generation < b.generation then some (1, b) else some (0, a)
  | some a, none => some (0, a)
  | none, some b => some (1, b)
  | none, none => none

/-- The bytes of a pointer block copy: 64 bytes, then 0xFF. -/
def PtrBlk.bytes (p : PtrBlk) : List Byte :=
  let w (v : Nat) : List Byte := leBytes 4 (BitVec.ofNat 32 v)
  let head := w 0x484C4644 ++ w p.generation ++ w p.slotA ++ w p.slotB ++ w p.size
    ++ [BitVec.ofNat 8 (bit p.activeB), BitVec.ofNat 8 (bit p.probation)] ++ List.replicate 38 (0 : Byte)
  head ++ leBytes 4 (crc32 head)

/-- Base of a slot. -/
def State.slotBase (s : State) (b : Bool) : Nat :=
  match ptrInForce s.flash with
  | some (_, p) => if b then p.slotB else p.slotA
  | none => if b then Config.lostSlots.2.1 else Config.lostSlots.1

/-- SLOT_SIZE. -/
def State.slotSize (s : State) : Nat :=
  match ptrInForce s.flash with
  | some (_, p) => p.size
  | none => Config.lostSlots.2.2

/-- The inactive slot: the one the device does not run from; after a failed boot the one the pointer block does not name, or slot B (R382). -/
def State.inactiveB (s : State) : Bool :=
  if s.boot = .failed then
    match ptrInForce s.flash with
    | some (_, p) => !p.activeB
    | none => true
  else !s.devB .IMG_SLOTS_RUNNING

/-! ### Header (R374) -/

/-- The image header at `b`. -/
def hdrAt (m : List Host.Cell) (b : Nat) : ImgHdr :=
  ⟨flashLe m (b + 14) 1, flashLe m (b + 15) 1, flashLe m (b + 16) 8, flashLe m (b + 24) 4, flashLe m (b + 28) 4, flashTake m (b + 32) 48,
   flashTake m (b + 80) 16, flashTake m (b + 96) 40, flashLe m (b + 136) 8⟩

/-- The bytes of a key record (R370, R373): the ECDSA key, then the ML-DSA key. -/
def keyRecord (m : List Host.Cell) (i : Nat) : List Byte := flashTake m (0x2000 + 0x1000 * i) 2049

/-- R373: is key slot `i` usable? -/
def usable (m : List Host.Cell) (i : Nat) : Bool := decide (i < 4) && Config.keyUsable i (keyRecord m i)

/-- R375 check 3. -/
def hdrShape (m : List Host.Cell) (b size : Nat) (h : ImgHdr) : Bool :=
  (decide (h.kind = 1) || decide (h.kind = 2)) && decide (4096 < h.length) && decide (h.length ≤ size)
    && decide (h.manOffset % 64 = 0) && decide (4096 ≤ h.manOffset) && decide (64 ≤ h.manLength) && decide (h.manLength % 96 = 64)
    && decide (h.manOffset + h.manLength ≤ h.length) && decide (flashLe m (b + 12) 2 < 16) && flashZero m (b + 144) 112
    && flashZero m (b + 3661) 435

/-- R375 checks 1 to 6: the cause of the first that fails, NONE when they pass. -/
def headerCause (m : List Host.Cell) (b size : Nat) : Nat :=
  let h := hdrAt m b
  let key := keyRecord m h.signer
  let signed := flashTake m b 256
  if flashLe m b 4 ≠ 0x474D4944 ∨ flashLe m (b + 4) 2 ≠ 1 ∨ flashLe m (b + 6) 2 ≠ 4096 then Icf.BAD_HEADER
  else if flashLe m (b + 8) 4 ≠ 0xAF08 ∨ !(flashLe m (b + 12) 2).testBit 3 then Icf.WRONG_PART
  else if !hdrShape m b size h then Icf.BAD_HEADER
  else if !usable m h.signer then Icf.BAD_KEY
  else if !Config.ecdsaVerifies (key.take 97) signed (flashTake m (b + 256) 96) then Icf.BAD_SIGNATURE
  else if !Config.mldsaVerifies (key.drop 97) signed (flashTake m (b + 352) 3309) then Icf.BAD_SIGNATURE
  else Icf.NONE

/-! ### Manifest (R376 to R378) -/

/-- The manifest entry at `a`. -/
def entAt (m : List Host.Cell) (a : Nat) : ManEnt :=
  ⟨flashLe m a 1, flashLe m (a + 1) 1, flashLe m (a + 2) 1, flashLe m (a + 4) 4, flashLe m (a + 8) 4, flashLe m (a + 12) 4,
   flashLe m (a + 16) 8, flashLe m (a + 24) 8, flashTake m (a + 32) 48⟩

/-- Where entry `i` lies. -/
def entAddr (b : Nat) (h : ImgHdr) (i : Nat) : Nat := b + h.manOffset + 64 + 96 * i

/-- The entries of an image. -/
def entsOf (m : List Host.Cell) (b : Nat) (h : ImgHdr) : List ManEnt :=
  (List.range ((h.manLength - 64) / 96)).map (fun i => entAt m (entAddr b h i))

/-- Part types (R377). -/
def Part.FOREMAN : Nat := 1
def Part.LANE : Nat := 2
def Part.MICROCODE : Nat := 3
def Part.CONTEXTS : Nat := 4
def Part.BLOCK_MEMORY : Nat := 5
def Part.CANARY : Nat := 6
def Part.CHARTER : Nat := 7
def Part.SHAFT_SETTINGS : Nat := 8
def Part.FORMER : Nat := 9
def Part.REGION : Nat := 10

/-- Is a part of this type shaft-wide? -/
def ofShaft (t : Nat) : Bool := [Part.MICROCODE, Part.CONTEXTS, Part.BLOCK_MEMORY, Part.SHAFT_SETTINGS, Part.FORMER, Part.REGION].contains t

/-- R377: is the entry's class allowed for its type? -/
def classOk (e : ManEnt) : Bool :=
  if e.type = Part.LANE ∨ e.type = Part.FORMER then e.cls = 1
  else if e.type = Part.MICROCODE ∨ e.type = Part.CONTEXTS ∨ e.type = Part.REGION then e.cls = 1 || e.cls = 2
  else e.cls = 2

/-- R377, R378: may this entry stand in an image of this kind at all? -/
def entAllowed (full : Bool) (e : ManEnt) : Bool :=
  decide (1 ≤ e.type) && decide (e.type ≤ 10) && classOk e && (if ofShaft e.type then decide (e.shaft < 8) else decide (e.shaft = 0xFF))
    && (full || (decide (e.type ≠ Part.SHAFT_SETTINGS) && decide (e.type ≠ Part.BLOCK_MEMORY)))

/-- How many parts of a type an image holds for a scope. -/
def partsOf (l : List ManEnt) (t sc : Nat) : List ManEnt := l.filter (fun e => decide (e.type = t) && decide (e.shaft = sc))

/-- R378: the parts an image of this kind holds. -/
def kindOk (full : Bool) (l : List ManEnt) : Bool :=
  let n (t sc : Nat) : Nat := (partsOf l t sc).length
  let shafts := List.range 8
  let regionOk (sc : Nat) : Bool :=
    (partsOf l Part.REGION sc).all (fun r => (partsOf l Part.CONTEXTS sc).all (fun c => decide (c.cls = r.cls)))
  if full then
    [Part.FOREMAN, Part.LANE, Part.CANARY, Part.CHARTER].all (fun t => decide (n t 0xFF = 1)) &&
      shafts.all (fun sc => [Part.MICROCODE, Part.CONTEXTS, Part.SHAFT_SETTINGS, Part.FORMER].all (fun t => decide (n t sc = 1))
        && decide (n Part.BLOCK_MEMORY sc ≤ 1) && decide (n Part.REGION sc ≤ 1) && regionOk sc)
  else
    [Part.FOREMAN, Part.LANE, Part.CANARY, Part.CHARTER].all (fun t => decide (n t 0xFF ≤ 1)) &&
      shafts.all (fun sc => [Part.MICROCODE, Part.CONTEXTS, Part.FORMER, Part.REGION].all (fun t => decide (n t sc ≤ 1))
        && decide (n Part.REGION sc = n Part.CONTEXTS sc) && regionOk sc) && !l.isEmpty

/-- Do two ranges of bytes overlap? -/
def clash (a b : Nat × Nat) : Bool := decide (a.1 < b.1 + b.2) && decide (b.1 < a.1 + a.2)

/-- Does no range of a list overlap another of it? -/
def apart : List (Nat × Nat) → Bool
  | [] => true
  | x :: t => t.all (fun y => !clash x y) && apart t

/-- Segments are numbered without gaps from `k`. -/
def segmentsRun : Nat → List ManEnt → Bool
  | _, [] => true
  | k, e :: t => decide (e.firstSegment = k) && segmentsRun (k + e.segments) t

/-- 1 MiB. -/
def mib : Nat := 2 ^ 20

/-- R376: the lengths and reserved bytes of an entry at `a`. -/
def entShape (m : List Host.Cell) (a : Nat) (e : ManEnt) : Bool :=
  decide (0 < e.plain) && decide (0 < e.segments) && decide (e.segments = (e.plain + mib - 1) / mib)
    && decide (e.stored = e.plain + 16 * e.segments) && flashZero m (a + 3) 1 && flashZero m (a + 80) 16

/-- R376: does the manifest keep its rules? -/
def manifestShape (m : List Host.Cell) (b : Nat) (h : ImgHdr) (l : List ManEnt) : Bool :=
  let a := b + h.manOffset
  let areas := (0, 4096) :: (h.manOffset, h.manLength) :: l.map (fun e => (e.offset, e.stored))
  decide (flashLe m a 4 = 0x4E414D44) && decide (flashLe m (a + 4) 2 = 1) && decide (flashLe m (a + 6) 2 = l.length)
    && decide (1 ≤ l.length) && decide (l.length ≤ 1024) && decide (flashLe m (a + 8) 4 = (l.map ManEnt.segments).foldl (· + ·) 0)
    && decide (flashLe m (a + 12) 8 = h.id) && flashZero m (a + 20) 44
    && (List.range l.length).all (fun i => entShape m (entAddr b h i) (entAt m (entAddr b h i))) && segmentsRun 0 l
    && l.all (fun e => decide (e.offset + e.stored ≤ h.length)) && apart areas

/-- R375 checks 7 and 8: the cause, and the part it names. -/
def manifestCause (m : List Host.Cell) (b : Nat) (h : ImgHdr) : Nat × Nat :=
  let l := entsOf m b h
  let full := decide (h.kind = 1)
  if Config.sha384 (flashTake m (b + h.manOffset) h.manLength) ≠ h.manHash ∨ !manifestShape m b h l then (Icf.BAD_MANIFEST, noPart)
  else match l.findIdx? (fun e => !entAllowed full e) with
    | some i => (Icf.WRONG_KIND, i)
    | none => if kindOk full l then (Icf.NONE, noPart) else (Icf.WRONG_KIND, noPart)

/-! ### Segments (R379) -/

/-- The key of segment `i`. -/
def segKey (h : ImgHdr) : Nat → List Byte
  | 0 => Config.unwrapKey h.wrapped
  | i + 1 => Config.hkdf (segKey h i) h.nonce ([0x44, 0x53, 0x45, 0x47] ++ leBytes 4 (BitVec.ofNat 32 (i + 1)))

/-- The plaintext of segment `j` of a part, when its tag verifies. -/
def segPlain (m : List Host.Cell) (b : Nat) (h : ImgHdr) (ent : Nat) (e : ManEnt) (j : Nat) : Option (List Byte) :=
  let i := e.firstSegment + j
  let a := b + e.offset + j * (mib + 16)
  let k := min mib (e.plain - j * mib)
  Config.gcmOpen (segKey h i) (leBytes 4 (BitVec.ofNat 32 i) ++ List.replicate 8 0) (flashTake m (entAddr b h ent) 96) (flashTake m a k)
    (flashTake m (a + k) 16)

/-- A refused part: cause and DETAIL. -/
abbrev PartFail := Nat × Nat

/-- The segments of a part from `j` on. -/
def segsPlain (m : List Host.Cell) (b : Nat) (h : ImgHdr) (ent : Nat) (e : ManEnt) (j : Nat) : Nat → Except PartFail (List Byte)
  | 0 => .ok []
  | k + 1 =>
    match segPlain m b h ent e j with
    | none => .error (Icf.BAD_SEGMENT, (e.firstSegment + j) % 2 ^ 16)
    | some x =>
      match segsPlain m b h ent e (j + 1) k with
      | .error c => .error c
      | .ok y => .ok (x ++ y)

/-- A part's plaintext: every segment's tag, then the part's hash. -/
def partPlain (m : List Host.Cell) (b : Nat) (h : ImgHdr) (ent : Nat) (e : ManEnt) : Except PartFail (List Byte) :=
  match segsPlain m b h ent e 0 e.segments with
  | .error c => .error c
  | .ok x => if Config.sha384 x = e.hash then .ok x else .error (Icf.BAD_PART, 0)

/-! ### Records (R380, R381) -/

/-- What a record writes: frames at their addresses, or a memory's rows (memory, row, data bytes and side byte). -/
inductive RecWrite
  | frame (a : Nat) (x : BitVec 1024)
  | row (mem row : Nat) (x : List Byte)
  deriving DecidableEq, Repr

/-- What a record writes to: a frame address, or a row beyond every frame address. -/
def RecWrite.key : RecWrite → Nat
  | .frame a _ => a
  | .row mem r _ => 2 ^ 20 + 512 * mem + r

/-- A frame from its bytes. -/
def frameOf (l : List Byte) : BitVec 1024 := BitVec.ofNat 1024 (leNat l)

/-- A little-endian number in a part. -/
def le (l : List Byte) (i k : Nat) : Nat := leNat ((l.drop i).take k)

/-- One record at the head of a stream: what it writes and what follows; none when it is refused. -/
def recordAt (l : List Byte) : Option (List RecWrite × List Byte) :=
  let type := le l 0 1
  let count := le l 2 2
  let addr := le l 4 4
  let body := l.drop 8
  let rest (k : Nat) : Option (List Byte) := if k ≤ body.length then some (body.drop k) else none
  if l.length < 8 ∨ le l 1 1 ≠ 0 ∨ count = 0 then none
  else match type with
    | 1 =>
      if 2 ^ 20 ≤ addr ∨ addr / 8192 ≠ (addr + count - 1) / 8192 then none
      else (rest (128 * count)).map (fun r =>
        ((List.range count).map (fun i => .frame (addr + i) (frameOf ((body.drop (128 * i)).take 128))), r))
    | 2 =>
      let at_ (i : Nat) : Nat := le body (128 + 4 * i) 4
      if addr ≠ 0 ∨ (List.range count).any (fun i => decide (2 ^ 20 ≤ at_ i)) then none
      else (rest (128 + 4 * count)).map (fun r => ((List.range count).map (fun i => .frame (at_ i) (frameOf (body.take 128))), r))
    | 3 =>
      if 2 ^ 20 ≤ addr ∨ addr / 8192 ≠ (addr + count - 1) / 8192 then none
      else some ((List.range count).map (fun i => .frame (addr + i) 0), body)
    | 4 =>
      let row := addr / 2 ^ 13
      if 2 ^ 22 ≤ addr ∨ 512 < row + count then none
      else (rest (9 * count)).map (fun r =>
        ((List.range count).map (fun i => .row (addr % 2 ^ 13) (row + i) ((body.drop (9 * i)).take 9)), r))
    | _ => none

/-- Every record of a stream; `fuel` bounds their number. -/
def recordsOf : Nat → List Byte → Option (List RecWrite)
  | _, [] => some []
  | 0, _ => none
  | fuel + 1, l =>
    match recordAt l with
    | none => none
    | some (w, r) => (recordsOf fuel r).map (fun t => w ++ t)

/-- No number of a list stands in it twice. -/
def distinct : List Nat → Bool
  | [] => true
  | x :: t => !t.contains x && distinct t

/-- The slots, as 8k + c, that frame writes address, each once. -/
def slotsIn (l : List RecWrite) : List Nat :=
  l.foldl (fun a w => match w with
    | .frame x _ => if a.contains (x / 1024) then a else a ++ [x / 1024]
    | .row .. => a) []

/-- R381: the writes of a CONTEXTS part, or of a BLOCK_MEMORY part. -/
def streamOf (contexts : Bool) (l : List Byte) : Option (List RecWrite) :=
  match recordsOf (l.length + 1) l with
  | none => none
  | some w =>
    let kinds := w.all (fun x => match x with
      | .frame .. => contexts
      | .row .. => !contexts)
    let whole := (slotsIn w).all (fun c => decide ((w.filter (fun x => decide (x.key / 1024 = c))).length = 1024))
    if kinds && distinct (w.map RecWrite.key) && (!contexts || whole) then some w else none

/-- The context that frame writes give slot `c` (8k + c): its frames. -/
def contextIn (l : List RecWrite) (c : Nat) : Tbl (BitVec 1024) :=
  l.foldl (fun t w => match w with
    | .frame a x => if a / 1024 = c then Tbl.set 0 t (a % 1024) x else t
    | .row .. => t) []

/-! ### Content (R375) -/

/-- CTX.LOAD_STAT.CAUSE (R328). -/
def Lst.OUT_OF_REGION : Nat := 1
def Lst.ACTIVE_SLOT : Nat := 2
def Lst.DRIVER_CONFLICT : Nat := 3
def Lst.BAD_ENCODING : Nat := 4
def Lst.RESERVED_FRAME : Nat := 5
def Lst.COMPAT_MISMATCH : Nat := 6

/-- The fields of CONTROL that R303 leaves reserved. -/
def controlReserved : BitVec 1024 := ~~~ (0xFFFFFFFF000007FF : BitVec 1024)

/-- A reserved aspect or read-on-write mode in the settings of a block memory (R287, R289). -/
def portBad (x : BitVec 13) : Bool :=
  let aspect (v : BitVec 4) : Bool := v == 7 || decide (0xC ≤ v.toNat)
  aspect (x.extractLsb' 0 4) || aspect (x.extractLsb' 4 4) || x.extractLsb' 8 2 == 3 || x.extractLsb' 10 2 == 3

/-- R304: why a context for stope `k` is refused, with the frame at fault. -/
def contextFault (k : Nat) (p : Tbl (BitVec 1024)) : Option (Nat × Nat) :=
  let mem := (List.range 64).find? (fun i => portBad (planePort p i))
  match p.find? (fun e => decide (968 ≤ e.1) && decide (e.1 ≤ 1021)) with
  | some e => some (Lst.RESERVED_FRAME, e.1)
  | none =>
    if control p &&& controlReserved ≠ 0 then some (Lst.RESERVED_FRAME, 1022)
    else if (control p).getLsbD 9 ≠ decide (k < 8) then some (Lst.COMPAT_MISMATCH, 1022)
    else match mem with
      | some i => some (Lst.BAD_ENCODING, 960 + i / 8)
      | none =>
        if minTempo p < 16 then some (Lst.BAD_ENCODING, 1022)
        else if k < 8 then (driverConflict p).map (fun f => (Lst.DRIVER_CONFLICT, f))
        else none

/-- R304: the first context of a part that is refused: its cause and frame address. -/
def contextsFault (l : List RecWrite) : Option (Nat × Nat) :=
  (slotsIn l).findSome? (fun c => (contextFault (c / 8) (contextIn l c)).map (fun x => (x.1, 1024 * c + x.2)))

/-- R306: the first frame of a partial image's contexts outside its REGION part. -/
def outOfRegion (region : List Byte) (l : List RecWrite) : Option Nat :=
  l.findSome? (fun w => match w with
    | .frame a _ => if (region.getD (a / 8192) 0xFF).toNat = a / 1024 % 8 then none else some a
    | .row .. => none)

/-- Why a CONTEXTS part is refused, with the frame address at fault: R306 for each record as it is read, then R304. -/
def contextsCause (region : Option (List Byte)) (l : List RecWrite) : Option (Nat × Nat) :=
  match region.bind (fun r => outOfRegion r l) with
  | some a => some (Lst.OUT_OF_REGION, a)
  | none => contextsFault l

/-- A SHAFT_SETTINGS entry (R377): block code, offset and value. -/
structure Setting where
  blk : Nat
  off : Nat
  val : Word
  deriving DecidableEq, Repr

/-- The entries of a SHAFT_SETTINGS part. -/
def settingsOf (l : List Byte) : List Setting :=
  (List.range (l.length / 12)).map (fun i => ⟨le l (12 * i) 2, le l (12 * i + 4) 4, BitVec.ofNat 32 (le l (12 * i + 8) 4)⟩)

/-- The word a SHAFT_SETTINGS entry names in the window of shaft `n`. -/
def settingAt (n : Nat) (x : Setting) : Option WordAt :=
  match (shaftBlocks ++ [Block.HWR, .CLM, .TLY, .QMG, .BLK, .DIR]).find? (fun b => decide (b.code = x.blk)) with
  | some b => if x.off % 4 = 0 then wordAt ⟨n, b, x.off⟩ else none
  | none => none

/-- R377, R248: is a SHAFT_SETTINGS entry refused? -/
def settingBad (n : Nat) (x : Setting) : Bool :=
  match settingAt n x with
  | some (.reg _ r _) => r.reservedIn x.val || (decide (r = .QMG_CFG) && decide (88 < r.part x.val .QMG_CFG_RING_SLOTS))
  | _ => false

/-- R354: a former entry that is refused: its copies reach past a tub or a message, or (ingress) write tub bytes 24 to 27; AGENT_W, TAG_W,
or a reserved bit. -/
def formBad (ingress : Bool) (e : FormEnt) : Bool :=
  let copies := [0, 1, 2].any (fun i =>
    let c := e.copy i
    decide (0 < c.2.2) && (decide (512 < c.1 + c.2.2) || decide (1024 < c.2.1 + c.2.2)
      || (ingress && decide (c.1 < 224) && decide (192 < c.1 + c.2.2))))
  copies || decide (12 < e.agentW) || decide (16 < e.tagW) || decide (e.get 45 3 ≠ 0) || decide (e.get 123 5 ≠ 0)

/-- The classes an ingress entry may give (R354). -/
def formClasses : List (BitVec 4) := [Cls.REQ, Cls.SNP, Cls.RSP, Cls.DAT, Cls.MRS, Cls.MGT, Cls.USR]

/-- R354: the entries of a FORMER part that are refused. -/
def formersBad (f : Formers) : Bool :=
  f.fin.any (fun e => formBad true e.2 || !formClasses.contains (FormEnt.cls e.2))
    || f.feg.any (fun e => formBad false e.2 || decide (0xD ≤ (FormEnt.channel e.2).toNat)
        || (FormEnt.tagAlloc e.2 && (decide (FormEnt.tagW e.2 < 12) || decide (FormEnt.answers e.2 = 0))))
    || f.croute.any (fun e => decide (e.2.extractLsb' 0 2 = 3))

/-- The fields of GRD the charter gives, with how many elements each has (R440, R442). -/
def charterFields : List (Fld × Nat) :=
  [(.GRD_RATE_RATE, 1024), (.GRD_RATE_BURST, 1024), (.GRD_PORT_AGENT_LO, 64), (.GRD_PORT_AGENT_HI, 64), (.GRD_PORT_LINK_RESETS, 64),
   (.GRD_PORT2_MGT_KTPS, 64), (.GRD_WIN0_BASE_GIB, 2048), (.GRD_WIN1_SIZE_GIB, 2048), (.GRD_LANE_SWING_CAP, 128),
   (.GRD_LANE_PRE_CAP, 128), (.GRD_LANE_POST_CAP, 128), (.GRD_DEV_CAP_MV, 1), (.GRD_TPL0_READ, 2048), (.GRD_TPL1_WRITE, 2048),
   (.GRD_TPL2_CACHE, 2048)]

/-- R440: the silicon bound of a limit. -/
def boundOk (f : Fld) (v : Nat) : Bool :=
  decide (v < 2 ^ f.desc.width) && (match f with
    | .GRD_RATE_BURST => decide (1 ≤ v)
    | .GRD_PORT_LINK_RESETS => decide (1 ≤ v) && decide (v ≤ 4)
    | .GRD_DEV_CAP_MV => decide (680 ≤ v) && decide (v ≤ 800)
    | _ => true)

/-- R440: does a charter keep the silicon bounds? -/
def charterOk (l : List Byte) : Bool :=
  Config.charterForm l && charterFields.all (fun x => (List.range x.2).all (fun e => boundOk x.1 (Config.charterLimit l x.1 e)))

/-- The bytes of a MICROCODE part (R377): CODE, DISPATCH, 256 templates with their control words. -/
def microcodeBytes : Nat := 8 * 16384 + 4 * 32768 + 72 * 256

/-- The records and the content of a part, checked: cause and DETAIL, NONE when they pass. -/
def contentCause (region : Option (List Byte)) (e : ManEnt) (l : List Byte) : PartFail :=
  let bad (b : Bool) : PartFail := if b then (Icf.BAD_CONTENT, 0) else (Icf.NONE, 0)
  match e.type with
  | 3 => bad (decide (l.length ≠ microcodeBytes))
  | 4 =>
    match streamOf true l with
    | none => (Icf.BAD_RECORD, 0)
    | some w =>
      match contextsCause region w with
      | some x => (Icf.BAD_CONTENT, x.1)
      | none => (Icf.NONE, 0)
  | 5 => if (streamOf false l).isNone then (Icf.BAD_RECORD, 0) else (Icf.NONE, 0)
  | 6 => bad (!Config.canaryForm l)
  | 7 => bad (!charterOk l)
  | 8 => bad (decide (l.length % 12 ≠ 0) || (settingsOf l).any (settingBad e.shaft))
  | 9 => bad (formersBad (Config.formerPart l))
  | 10 => bad (decide (l.length ≠ 128) || l.any (fun b => decide (8 ≤ b.toNat) && decide (b ≠ 0xFF)))
  | _ => (Icf.NONE, 0)

/-- The plaintext of entry `i`, when it opens. -/
def partText (m : List Host.Cell) (b : Nat) (h : ImgHdr) (l : List ManEnt) (i : Nat) : Option (List Byte) :=
  match l[i]? with
  | none => none
  | some e =>
    match partPlain m b h i e with
    | .error _ => none
    | .ok x => some x

/-- The plaintext of the part of a type and scope. -/
def textOf (m : List Host.Cell) (b : Nat) (h : ImgHdr) (l : List ManEnt) (t sc : Nat) : Option (List Byte) :=
  (l.findIdx? (fun e => decide (e.type = t) && decide (e.shaft = sc))).bind (partText m b h l)

/-- R306, R378: the declared region of a CONTEXTS part of a partial image. -/
def regionOf (m : List Host.Cell) (b : Nat) (h : ImgHdr) (l : List ManEnt) (e : ManEnt) : Option (List Byte) :=
  if h.kind = 2 ∧ e.type = Part.CONTEXTS then textOf m b h l Part.REGION e.shaft else none

/-- R375 check 9 of part `i`: its plaintext, or cause and DETAIL. -/
def partChecked (m : List Host.Cell) (b : Nat) (h : ImgHdr) (l : List ManEnt) (i : Nat) (e : ManEnt) : Except PartFail (List Byte) :=
  match partPlain m b h i e with
  | .error c => .error c
  | .ok x =>
    let c := contentCause (regionOf m b h l e) e x
    if c.1 = Icf.NONE then .ok x else .error c

/-- R375 check 9 of the parts `p` accepts, from number `i` on. -/
def partsCause (m : List Host.Cell) (b : Nat) (h : ImgHdr) (l : List ManEnt) (p : ManEnt → Bool) : Nat → List ManEnt → Nat × Nat × Nat
  | _, [] => (Icf.NONE, 0, noPart)
  | i, e :: t =>
    if !p e then partsCause m b h l p (i + 1) t
    else match partChecked m b h l i e with
      | .error c => (c.1, c.2, i)
      | .ok _ => partsCause m b h l p (i + 1) t

/-- R375 in order, with check 9 for the parts `p` accepts: cause, DETAIL and PART, NONE when the image passes. -/
def imageCause (m : List Host.Cell) (b size : Nat) (p : ManEnt → Bool) : Nat × Nat × Nat :=
  let c := headerCause m b size
  let h := hdrAt m b
  let l := entsOf m b h
  if c ≠ Icf.NONE then (c, 0, noPart)
  else
    let d := manifestCause m b h
    if d.1 ≠ Icf.NONE then (d.1, 0, d.2) else partsCause m b h l p 0 l

end Sys2Proof.Machine
end

