-- ==== Sys2Proof/Machine/Load.lean ====
section
/-! DEFINITION. Placing the parts of an image (R377, R383): charter (R399, R440), contexts (R304 to R306), microcode, block memories, formers,
settings, setting records (R386), and the boot contexts (R315). -/

namespace Sys2Proof.Machine

/-! ### Images in flash -/

/-- An image: where it lies, its header, its entries. -/
structure Image where
  base : Nat
  hdr : ImgHdr
  ents : List ManEnt

/-- The image of a slot. -/
def State.imageIn (s : State) (b : Bool) : Image :=
  let a := s.slotBase b
  let h := hdrAt s.flash a
  ⟨a, h, entsOf s.flash a h⟩

/-- The image the device runs. -/
def State.running (s : State) : Image := s.imageIn (s.devB .IMG_SLOTS_RUNNING)

/-- The plaintext of the part of a type and scope, empty when the image has none. -/
def State.text (s : State) (g : Image) (t sc : Nat) : List Byte := (textOf s.flash g.base g.hdr g.ents t sc).getD []

/-- The number of the entry of a type and scope. -/
def Image.entNo (g : Image) (t sc : Nat) : Nat := (g.ents.findIdx? (fun e => decide (e.type = t) && decide (e.shaft = sc))).getD noPart

/-- R375 for the image of a slot. -/
def State.slotCause (s : State) (b : Bool) (p : ManEnt → Bool) : Nat × Nat × Nat := imageCause s.flash (s.slotBase b) s.slotSize p

/-! ### Charter (R399, R440) -/

/-- The value a charter gives a limit. -/
def limitOf (l : List Byte) (x : Fld × Nat) : Nat := Config.charterLimit l x.1 x.2 % 2 ^ x.1.desc.width

/-- Set some limits to a charter's values. -/
def State.setLimits (s : State) (l : List Byte) (xs : List (Fld × Nat)) : State :=
  xs.foldl (fun (a : State) x => a.setDev x.1 (limitOf l x) x.2) s

/-- A charter taken in full. -/
def State.charterFull (s : State) (l : List Byte) : State :=
  charterFields.foldl (fun (a : State) x => a.setLimits l ((List.range x.2).map (fun e => (x.1, e)))) s

/-- From `x` on, up to `stop`, do windows (base, size) leave no gap? -/
def windowsCover (w : List (Nat × Nat)) (stop : Nat) : Nat → Nat → Bool
  | 0, x => decide (stop ≤ x)
  | k + 1, x =>
    if stop ≤ x then true
    else match w.find? (fun y => decide (y.1 ≤ x) && decide (x < y.1 + y.2)) with
      | some y => windowsCover w stop k (y.1 + y.2)
      | none => false

/-- Is the union of windows `a` within the union of windows `b`? -/
def windowsWithin (a b : List (Nat × Nat)) : Bool := a.all (fun x => decide (x.2 = 0) || windowsCover b (x.1 + x.2) (b.length + 1) x.1)

/-- A limit of R440: its fields, and how a new value narrows it. -/
inductive LimitKind | le | subset | agents | windows
  deriving DecidableEq, Repr

/-- The limits of a charter. -/
def charterLimits : List (List (Fld × Nat) × LimitKind) :=
  ((List.range 1024).map (fun e => ([(Fld.GRD_RATE_RATE, e), (.GRD_RATE_BURST, e)], LimitKind.le))) ++
  ((List.range 64).map (fun e => ([(Fld.GRD_PORT_AGENT_LO, e), (.GRD_PORT_AGENT_HI, e)], LimitKind.agents))) ++
  ((List.range 64).map (fun e =>
    ((List.range 32).flatMap (fun w => [(Fld.GRD_WIN0_BASE_GIB, 32 * e + w), (.GRD_WIN1_SIZE_GIB, 32 * e + w)]), LimitKind.windows))) ++
  ((List.range 64).flatMap (fun e => [([(Fld.GRD_PORT_LINK_RESETS, e)], LimitKind.le), ([(.GRD_PORT2_MGT_KTPS, e)], .le)])) ++
  ((List.range 128).flatMap (fun e =>
    [([(Fld.GRD_LANE_SWING_CAP, e)], LimitKind.le), ([(.GRD_LANE_PRE_CAP, e)], .le), ([(.GRD_LANE_POST_CAP, e)], .le)])) ++
  [([(Fld.GRD_DEV_CAP_MV, 0)], LimitKind.le)] ++
  ((List.range 2048).flatMap (fun e =>
    [([(Fld.GRD_TPL0_READ, e)], LimitKind.subset), ([(.GRD_TPL1_WRITE, e)], .subset), ([(.GRD_TPL2_CACHE, e)], .subset)]))

/-- Numbers in pairs. -/
def pairUp : List Nat → List (Nat × Nat)
  | a :: b :: t => (a, b) :: pairUp t
  | _ => []

/-- Does a new value permit nothing that the present value forbids? -/
def narrowing (k : LimitKind) (new old : List Nat) : Bool :=
  match k with
  | .le => (new.zip old).all (fun x => decide (x.1 ≤ x.2))
  | .subset => (new.zip old).all (fun x => decide (x.1 &&& x.2 = x.1))
  | .agents =>
    match new, old with
    | [lo, hi], [lo', hi'] => decide (hi < lo) || (decide (lo' ≤ lo) && decide (hi ≤ hi'))
    | _, _ => false
  | .windows => windowsWithin (pairUp new) (pairUp old)

/-- R399: one limit of a new charter: a narrowing value takes effect, any other changed value waits for the next POR. -/
def State.takeLimit (s : State) (l : List Byte) (x : List (Fld × Nat) × LimitKind) : State :=
  let new := x.1.map (limitOf l)
  let old := x.1.map (fun y => s.dev y.1 y.2)
  if new = old then s
  else if narrowing x.2 new old then s.setLimits l x.1
  else s.setDev .IMG_SLOTS_CHARTER_PENDING 1

/-- R399: a new charter is compared with the one in force. -/
def State.charterNarrow (s : State) (l : List Byte) : State := charterLimits.foldl (fun (a : State) x => a.takeLimit l x) s

/-- R429: a boot's charter: in full at POR, when none is in force (LINK_RESETS of every charter is at least 1); else by R399. -/
def State.charterBoot (s : State) (l : List Byte) : State :=
  if s.dev .GRD_PORT_LINK_RESETS = 0 then s.charterFull l else s.charterNarrow l

/-! ### Contexts (R304 to R306) -/

/-- CTX.LOAD_STAT and CTX_LOAD_STOPPED: a context load is stopped. -/
def State.loadStopped (s : State) (n : Shaft) (cause a : Nat) : State :=
  (((s.setReg n .CTX_LOAD_STAT_RESULT 2).setReg n .CTX_LOAD_STAT_CAUSE cause).setReg n .CTX_LOAD_ADDR_FRAME_ADDR a).shEvent n 0x0802
    Sev.warning 0xFFFF (detail cause a)

/-- CTX.LOAD_STAT: a context load is done. -/
def State.loadDone (s : State) (n : Shaft) : State := (s.setReg n .CTX_LOAD_STAT_RESULT 1).setReg n .CTX_LOAD_STAT_CAUSE 0

/-- CTX.LOAD_STAT of a CONTEXTS part that check 9 refused. -/
def State.noteLoad (s : State) (g : Image) (i : Nat) : State :=
  match g.ents[i]? with
  | none => s
  | some e =>
    if e.type ≠ Part.CONTEXTS then s
    else match ((partText s.flash g.base g.hdr g.ents i).bind (streamOf true)).bind
        (contextsCause (regionOf s.flash g.base g.hdr g.ents e)) with
      | some x => s.loadStopped (shaftOf e.shaft) x.1 x.2
      | none => s

/-- Slot `j` (8k + c) takes a context: its frames, their frame checks (R300), and where they came from (R323); it reads VALID (R305). -/
def State.placeContext (s : State) (n : Shaft) (j : Nat) (p : Tbl (BitVec 1024)) (from_ : SlotSource) : State :=
  ((s.emptySlot n (j / 8) (j % 8)).updSh n (fun h =>
    { h with
      plan := p.foldl (fun (t : Tbl (BitVec 1024)) e => Tbl.set 0 t (1024 * j + e.1) e.2) h.plan
      planCheck := (List.range 1024).foldl
        (fun (t : Tbl (BitVec 32)) f => Tbl.set 0 t (1024 * j + f) (frameCheck (Tbl.get 0 p f))) h.planCheck
      slotSource := Tbl.set none h.slotSource j (some from_) })).setReg n .CTX_SLOT_STATE Slt.VALID j

/-- Every slot of a CONTEXTS part written. -/
def State.placeContexts (s : State) (n : Shaft) (w : List RecWrite) (from_ : SlotSource) : State :=
  ((slotsIn w).foldl (fun (a : State) j => a.placeContext n j (contextIn w j) from_) s).loadDone n

/-- The writes of a record stream, empty when it is refused. -/
def writesOf (contexts : Bool) (l : List Byte) : List RecWrite := (streamOf contexts l).getD []

/-! ### The other parts of a shaft -/

/-- A table of `k` entries. -/
def tblOf {α : Type} [DecidableEq α] (d : α) (k : Nat) (f : Nat → α) : Tbl α := (List.range k).foldl (fun t i => Tbl.set d t i (f i)) []

/-- The bank a MICROCODE part gives (R377). -/
def bankOf (l : List Byte) : Bank :=
  { code := tblOf 0 16384 (fun i => BitVec.ofNat 64 (le l (8 * i) 8))
    dispatch := tblOf 0 32768 (fun i => BitVec.ofNat 32 (le l (131072 + 4 * i) 4))
    body := tblOf 0 256 (fun i => BitVec.ofNat 512 (le l (262144 + 72 * i) 64))
    control := tblOf 0 256 (fun i => BitVec.ofNat 64 (le l (262144 + 72 * i + 64) 8)) }

/-- Bank `b` takes a MICROCODE part and is LOADED. -/
def State.loadBank (s : State) (n : Shaft) (b : Bool) (l : List Byte) : State :=
  (s.updBank n b (fun _ => bankOf l)).setLoaded n b true

/-- The rows of a BLOCK_MEMORY part (R293). -/
def State.loadBlocks (s : State) (n : Shaft) (w : List RecWrite) : State :=
  s.updSh n (fun h => { h with blk := w.foldl (fun (m : List Host.Cell) x => match x with
    | .frame .. => m
    | .row mem row y => memPut 0 y (blkByte mem row 0) m) h.blk })

/-- The entries of a SHAFT_SETTINGS part that `p` accepts, in order (R377). -/
def State.loadSettings (s : State) (n : Shaft) (l : List Byte) (p : WordAt → Bool) : State :=
  (settingsOf l).foldl (fun (a : State) x => match settingAt n.val x with
    | some w => if p w then a.imageWord w x.val else a
    | none => a) s

/-- R383 step 7: the Plan slots of a shaft. -/
def State.loadPlan (s : State) (g : Image) (b : Bool) (n : Shaft) : State :=
  s.placeContexts n (writesOf true (s.text g Part.CONTEXTS n.val)) ⟨b, g.entNo Part.CONTEXTS n.val⟩

/-- R383 step 8 but for the boot contexts: settings, bank 0, block memories, formers. -/
def State.loadRest (s : State) (g : Image) (n : Shaft) : State :=
  let s1 := (s.loadSettings n (s.text g Part.SHAFT_SETTINGS n.val) (fun _ => true)).loadBank n false (s.text g Part.MICROCODE n.val)
  (s1.loadBlocks n (writesOf false (s.text g Part.BLOCK_MEMORY n.val))).updSh n
    (fun h => { h with formers := Config.formerPart (s.text g Part.FORMER n.val) })

/-- R315: every stope takes its boot context; without Seam power it is only made ACTIVE, and the reload that follows takes it (R317). -/
def State.bootStopes (s : State) (n : Shaft) : State :=
  let take (a : State) (k : Nat) : State :=
    let c := a.reg n .CTX_STOPE_BOOT k
    if !s.seamsOut n && decide (a.reg n .CTX_SLOT_STATE (8 * k + c) = Slt.VALID) then a.takeContext n k c
    else a.setReg n .CTX_STOPE_ACTIVE c k
  let s1 := (List.range 128).foldl take s
  (List.range 64).foldl (fun (a : State) p => a.evalPair n p) s1

/-- R384: the shaft's boot is done, and its enabled portals leave electrical idle. -/
def State.shaftUp (s : State) (n : Shaft) : State :=
  let s1 := s.updSh n (fun h => { h with boot := .done, coldHeld := false })
  (s1.eachPortal (fun p a => if a.regB n .PTL_CFG_ENABLE p.val && !a.shGated n .PTL then a.portalUp n p else a)).dozeTry n

/-! ### Setting records (R386) -/

/-- The setting records in flash, up to the first that reads all 0xFF. -/
def State.records (s : State) : List (List Byte) :=
  ((List.range 2560).map (fun i => flashTake s.flash (0x6000 + 16 * i) 16)).takeWhile (fun l => l.any (fun b => b != 0xFF))

/-- The address of a record. -/
def recordAddr (l : List Byte) : Nat := le l 0 5

/-- Byte 5 and the CRC of a record are right. -/
def recordGood (l : List Byte) : Bool := decide (le l 5 1 = 0x5A) && decide (le l 6 2 = (crc16 (l.take 6 ++ l.drop 8)).toNat)

/-- The word a record writes. -/
def recordWord (l : List Byte) : Option WordAt :=
  let a := recordAddr l
  if a < 2 ^ 36 ∧ a % 4 = 0 then (blockAt a).bind wordAt else none

/-- What a record makes of a word. -/
def State.recordValue (s : State) (x : WordAt) (l : List Byte) : Word :=
  let mask := BitVec.ofNat 32 (le l 12 4)
  (s.wordValue x &&& ~~~ mask) ||| (BitVec.ofNat 32 (le l 8 4) &&& mask)

/-- Is a record skipped? -/
def State.recordSkipped (s : State) (l : List Byte) : Bool :=
  let barred := match blockAt (recordAddr l) with
    | some w => [Block.SVY, .GRD, .IMG].contains w.blk
    | none => false
  !recordGood l || barred || (match recordWord l with
    | some (.reg sc r e) => r.reservedIn (s.recordValue (.reg sc r e) l)
    | _ => false)

/-- One record, for the scopes `p` accepts; with it the number of records skipped so far. A record with a bad byte 5 or CRC names no window;
`all` counts it. -/
def State.applyRecord (p : Nat → Bool) (all : Bool) (x : State × Nat) (l : List Byte) : State × Nat :=
  let s := x.1
  let mine := if recordGood l then (match blockAt (recordAddr l) with
    | some w => p w.sc
    | none => false) else all
  if !mine then x
  else if s.recordSkipped l then (s, x.2 + 1)
  else match recordWord l with
    | some w => (s.writeWord w (s.recordValue w l), x.2)
    | none => x

/-- The records of the scopes `p` accepts, in flash order; SETTING_SKIPPED when some are skipped. -/
def State.applyRecords (s : State) (p : Nat → Bool) (all : Bool) : State :=
  let r := s.records.foldl (State.applyRecord p all) (s, 0)
  if r.2 = 0 then r.1
  else ((r.1.addDev .IMG_SETSTAT_SKIPPED 0 r.2).setDev .DEV_ATTN_SETTING_SKIPPED 1).devEvent 0x0A0A Sev.notice 0xFFFF (detail r.2)

end Sys2Proof.Machine
end

