-- ==== Sys2Proof/Machine/Boot.lean ====
section
/-! DEFINITION. The boot of the device (R382 to R386) and of a shaft (R385), the end of a cold hold (R424), the reload of a Lode (R433), golden
recovery (R323), and the Foreman's return (R438). -/

namespace Sys2Proof.Machine

/-! ### The device (R382 to R384) -/

/-- R382: an attempt to load a slot: its cause, NONE when the slot holds a FULL image that passes R375. -/
def State.bootCause (s : State) (b : Bool) : Nat × Nat × Nat :=
  let c := s.slotCause b (fun _ => true)
  if c.1 = Icf.NONE ∧ (s.imageIn b).hdr.kind ≠ 1 then (Icf.WRONG_KIND, 0, noPart) else c

/-- The slot an attempt ran from, or the causes of the attempts that were refused. -/
structure BootPick where
  slotB : Option Bool
  fellBack : Bool
  cause : Nat

/-- R382: slot `first` is tried, then the other. -/
def State.pickSlot (s : State) (first : Bool) : BootPick :=
  let c := s.bootCause first
  if c.1 = Icf.NONE then ⟨some first, false, 0⟩
  else
    let d := s.bootCause !first
    if d.1 = Icf.NONE then ⟨some !first, true, c.1⟩ else ⟨none, false, d.1⟩

/-- A refused attempt records what it met of a context load (R304). -/
def State.noteRefused (s : State) (b : Bool) : State :=
  let c := s.bootCause b
  if c.1 = Icf.NONE then s else s.noteLoad (s.imageIn b) c.2.2

/-- R424: a shaft's start that a cold junction holds: its Plan slots are loaded, no more. -/
def State.holdStart (s : State) (n : Shaft) (x : Nat × Int) : State :=
  (((s.setThermal n 4).coldEvent n x.1 x.2)).updSh n (fun h => { h with boot := .coldHeld, coldHeld := true })

/-- R383, R424: a shaft's parts at the boot of the device. -/
def State.bootShaft (s : State) (g : Image) (b : Bool) (n : Shaft) : State :=
  let s1 := s.loadPlan g b n
  match s.coldStart n with
  | some x => s1.holdStart n x
  | none => s1.loadRest g n

/-- Is a shaft held by a cold start? -/
def State.held (s : State) (n : Shaft) : Bool := (s.sh n).coldHeld

/-- Fold a change over the shafts a cold start does not hold. -/
def State.eachStarted (s : State) (f : Shaft → State → State) : State := s.eachShaft (fun n a => if a.held n then a else f n a)

/-- R383: the device loads the image of slot `b`; LOADING ends (R384). -/
def State.bootFrom (s : State) (b : Bool) : State :=
  let g := s.imageIn b
  let s1 := s.charterBoot (s.text g Part.CHARTER 0xFF)
  let s2 := { s1 with foreUp := true, foreCause := 0, foreDropped := 0, canary := s.text g Part.CANARY 0xFF }
  let s3 := s2.eachShaft (fun n a => a.bootShaft g b n)
  let s4 := s3.applyRecords (fun sc => if h : sc < 8 then !s3.held ⟨sc, h⟩ else true) true
  let s5 := s4.eachStarted (fun n a => a.bootStopes n)
  let s6 := { (s5.setDev .IMG_SLOTS_RUNNING (bit b)).setDev .IMG_ID_LO_ID_LO g.hdr.id with boot := .done }
  (s6.setDev .IMG_ID_HI_ID_HI (g.hdr.id / 2 ^ 32)).eachStarted (fun n a => a.shaftUp n)

/-- What the registers show of flash and fuses (R400). -/
def State.showFlash (s : State) : State :=
  let keys := (List.range 4).foldl (fun a i => a + if usable s.flash i then 2 ^ i else 0) 0
  let s1 := (s.setDev .IMG_INFO_KEYS keys).setDev .IMG_SETSTAT_COUNT s.records.length
  let s2 := s1.setDev .IMG_INFO_SLOT_64K (s.slotSize / 65536)
  match ptrInForce s.flash with
  | some (_, p) => (s2.setDev .IMG_SLOTS_ACTIVE (bit p.activeB)).setDev .IMG_SLOTS_PROBATION (bit p.probation)
  | none => s2

/-- BOOT_FAILED of the device. -/
def State.bootFails (s : State) (cause : Nat) : State :=
  (({ s with boot := .failed }).eachShaft (fun n a => a.updSh n (fun h => { h with boot := .failed }))).devEvent 0x0A09 Sev.fault 0xFFFF
    (detail cause)

/-- R382: what follows a boot from slot `b`: FALLBACK, ROLLED_BACK, the events, and the pointer block to be rewritten. -/
def State.bootReport (s : State) (p : PtrBlk) (b : Bool) (x : BootPick) : State :=
  let s1 := (s.setDev .IMG_SLOTS_FALLBACK (bit x.fellBack)).setDev .IMG_SLOTS_ROLLED_BACK (bit (p.probation && b != p.activeB))
  let s2 := if p.probation || x.fellBack then { s1 with pointerDue := some ⟨b, false, false⟩ } else s1
  if p.probation then (s2.setDev .DEV_ATTN_PROBATION_ROLLBACK 1).devEvent 0x0A08 Sev.warning 0xFFFF (detail (bit b))
  else if x.fellBack then
    (s2.setDev .DEV_ATTN_BOOT_FALLBACK 1).devEvent 0x0A07 Sev.warning 0xFFFF (detail (bit b + 256 * x.cause))
  else s2

/-- R113: is the start of a shaft held because REFCLK was lost before any lane trained? -/
def State.startHeld (s : State) (n : Shaft) : Bool := decide (s.timing n = Tmg.START_HOLD)

/-- R113: a held start of any shaft holds the start of the device. -/
def State.anyStartHeld (s : State) : Bool := (List.finRange 8).any (fun n => s.startHeld n)

/-- BOOT (R382): the device chooses a slot and loads it; it waits in START_HOLD (R113). The spec names no cause for a boot that finds no
pointer block. -/
def State.bootDevice (s : State) : State :=
  if s.boot ≠ .due ∨ s.por ∨ s.anyStartHeld then s
  else
    let s0 := s.showFlash
    match ptrInForce s.flash with
    | none =>
      let r := s0.free
      r.2.bootFails (Config.freeValue r.1 % 256)
    | some (_, p) =>
      let first := if p.probation then !p.activeB else p.activeB
      let x := s.pickSlot first
      let s1 := s0.noteRefused first
      match x.slotB with
      | none => (s1.noteRefused !first).bootFails x.cause
      | some b => (s1.bootFrom b).bootReport p b x

/-- BOOT. -/
def execBoot (s : State) : Out := .next s.bootDevice

/-! ### One shaft -/

/-- The rest of a shaft's boot: settings and the rest, its setting records, its boot contexts, its portals. -/
def State.finishBoot (s : State) (g : Image) (n : Shaft) : State :=
  (((s.loadRest g n).applyRecords (fun sc => decide (sc = n.val)) false).bootStopes n).shaftUp n

/-- SHAFT_RESET (R430, R453): the reset of a shaft is over. -/
def State.shaftResetEnds (s : State) (n : Shaft) : State :=
  (s.addReg n .SHF_RST_SHAFT_RESETS).shEvent n 0x0C01 Sev.info 0xFFFF (detail (s.sh n).sliceTallies)

/-- SHAFT_BOOT (R385): the Foreman boots a shaft from the RUNNING slot; it waits while the Foreman restarts (R438), while the shaft is held
cold (R424) and in START_HOLD (R113). -/
def State.shaftBoot (s : State) (n : Shaft) : State :=
  if !(s.sh n).inReset ∨ (s.sh n).boot ≠ .due ∨ s.boot ≠ .done ∨ !s.foreUp ∨ s.thermal n = 4 ∨ s.startHeld n then s
  else
    let b := s.devB .IMG_SLOTS_RUNNING
    let g := s.running
    let c := s.slotCause b (fun e => decide (e.shaft = n.val))
    if c.1 ≠ Icf.NONE then
      ((s.noteLoad g c.2.2).updSh n (fun h => { h with boot := .failed })).shEvent n 0x0A09 Sev.fault 0xFFFF (detail c.1)
    else (((s.updSh n (fun h => { h with inReset := false })).loadPlan g b n).finishBoot g n).shaftResetEnds n

/-- SHAFT_BOOT. -/
def execShaftBoot (sh : Shaft) (s : State) : Out := .next (s.shaftBoot sh)

/-- COLD_HOLD_END (R424): every layer reads −5 °C or warmer; the start that was held goes on. -/
def State.coldHoldEnd (s : State) (n : Shaft) : State :=
  if s.thermal n ≠ 4 ∨ !(List.range 5).all (fun l => s.layerWarm n l) then s
  else if (s.sh n).inReset then s.setThermal n 0
  else if s.held n then (s.setThermal n 0).finishBoot s.running n
  else if s.doze n = 3 then (((s.setThermal n 0).setDoze n 0).reloadStopes n).dozeTry n
  else s.restartGo n

/-- COLD_HOLD_END. -/
def execColdHoldEnd (sh : Shaft) (s : State) : Out := .next (s.coldHoldEnd sh)

/-! ### The Lode (R433) -/

/-- What RELOADING rewrites of a SHAFT_SETTINGS part: the claim table, the granule map and the queue descriptors. -/
def WordAt.reloads (x : WordAt) : Bool :=
  match x with
  | .reg _ r _ => r.places.any (fun y => y.1.claimTable)
  | .desc .. => true
  | _ => false

/-- The parts RELOADING reads. -/
def reloadParts (n : Shaft) (e : ManEnt) : Bool :=
  decide (e.shaft = n.val) && [Part.SHAFT_SETTINGS, Part.FORMER, Part.BLOCK_MEMORY].contains e.type

/-- SLICE_RESET (R433): RELOADING ends. The spec says nothing of a reload whose read fails: it does not end. -/
def State.sliceReload (s : State) (n : Shaft) : State :=
  if s.slice n ≠ 3 ∨ s.sliceAdit n ∨ !s.foreUp then s
  else if (s.slotCause (s.devB .IMG_SLOTS_RUNNING) (reloadParts n)).1 ≠ Icf.NONE then s
  else
    let g := s.running
    let f := Config.formerPart (s.text g Part.FORMER n.val)
    let s1 := (s.loadSettings n (s.text g Part.SHAFT_SETTINGS n.val) WordAt.reloads).loadBlocks n
      (writesOf false (s.text g Part.BLOCK_MEMORY n.val))
    let s2 := (s1.updFormers n (fun x => { x with fin := f.fin, feg := f.feg, ans := f.ans })).updSh n
      (fun h => { h with portals := h.portals.mapAll (fun _ x => { x with tags := [] }) })
    (s2.sliceEnds n 1 (s.sh n).sliceTallies).fcPins n

/-- SLICE_RESET. -/
def execSliceReset (sh : Shaft) (s : State) : Out := .next (s.sliceReload sh)

/-! ### Golden recovery (R323) -/

/-- Step 1: the frame as the flash slot and part that supplied its slot give it, when the part still passes and the frame check matches. -/
def State.frameFromFlash (s : State) (n : Shaft) (a : Nat) : Option (BitVec 1024) :=
  match Tbl.get none (s.sh n).slotSource (a / 1024) with
  | none => none
  | some x =>
    let g := s.imageIn x.flashB
    match (partText s.flash g.base g.hdr g.ents x.part).bind (streamOf true) with
    | none => none
    | some w =>
      let y := Tbl.get 0 (contextIn w (a / 1024)) (a % 1024)
      if (slotsIn w).contains (a / 1024) && decide (frameCheck y = s.storedCheck n a) then some y else none

/-- Step 2: the frame as the active plane holds it, when the slot is ACTIVE and the check matches. -/
def State.frameFromPlane (s : State) (n : Shaft) (a : Nat) : Option (BitVec 1024) :=
  let k := a / 8192
  let x := Tbl.get 0 (s.stope n k).active (a % 1024)
  if decide (s.reg n .CTX_STOPE_ACTIVE k = a / 1024 % 8) && !s.seamsOut n && decide (frameCheck x = s.storedCheck n a) then some x else none

/-- The frame is recovered, `how` 1 from flash, 2 from the active plane. -/
def State.frameBack (s : State) (n : Shaft) (r : Recovery) (x : BitVec 1024) (how : Nat) : State :=
  ((s.updSh n (fun h =>
    { h with plan := Tbl.set 0 h.plan r.frame x, suspect := h.suspect.filter (fun y => y != r.frame) })).addReg n .SCB_CNT3_RECOVERED).shEvent
    n 0x0806 Sev.info r.scrubber (detail r.frame how)

/-- The frame is lost: its slot is BAD. -/
def State.frameLost (s : State) (n : Shaft) (r : Recovery) : State :=
  (((((s.setReg n .CTX_SLOT_STATE Slt.BAD (r.frame / 1024)).addReg n .SCB_CNT3_LOST).setReg n .SCB_LOST_LOG_FRAME_ADDR r.frame).setReg n
    .SCB_LOST_LOG_VALID 1).setReg n .SHF_ATTN_SCB_FRAME_LOST 1).shEvent n 0x0807 Sev.fault r.scrubber (detail r.frame)

/-- GOLDEN_RECOVERY_DONE: the recovery of frame `a` ends; it waits while the Foreman restarts (R438), while IMG is gated (R400) and while SCB is (R326). -/
def State.goldenDone (s : State) (n : Shaft) (a : Nat) : State :=
  match takeFirst (fun r : Recovery => decide (r.frame = a)) (s.sh n).recoveries with
  | none => s
  | some (r, rest) =>
    if !s.foreUp || s.devGated .IMG || s.shGated n .SCB then s
    else
      let s1 := s.updSh n (fun h => { h with recoveries := rest })
      match s.frameFromFlash n a, s.frameFromPlane n a with
      | some x, _ => s1.frameBack n r x 1
      | none, some x => s1.frameBack n r x 2
      | none, none => s1.frameLost n r

/-- GOLDEN_RECOVERY_DONE. -/
def execGoldenRecoveryDone (sh : Shaft) (a : Nat) (s : State) : Out := .next (s.goldenDone sh a)

/-! ### The Foreman -/

/-- FOREMAN_READY (R438): a restart ends: FORE_RESTART, and the Foreman is in service. -/
def State.foremanReady (s : State) : State :=
  if s.foreUp ∨ s.boot ≠ .done ∨ s.por then s else { s.foreEvent with foreUp := true, foreDropped := 0 }

/-- FOREMAN_READY. -/
def execForemanReady (s : State) : Out := .next s.foremanReady

end Sys2Proof.Machine
end

