-- ==== Sys2Proof/Machine/Flits.lean ====
section
/-! DEFINITION. The flit movers (R342 to R344, R90, R91) and portal ingress: class routes (R360), the ingress former (R353, R355), relayed
snoops (R352), the cooling responder (R366), EPOCH_MARK (R394), sleep and wake (R340). -/

namespace Sys2Proof.Machine

/-! ### Drift flits (R342) -/

/-- The bits of a Drift flit. -/
abbrev Flit := BitVec 4096

def Flit.fseq (f : Flit) : BitVec 12 := f.extractLsb' 0 12
def Flit.ftype (f : Flit) : Nat := (f.extractLsb' 12 4).toNat
def Flit.ack (f : Flit) : BitVec 12 := f.extractLsb' 16 12
def Flit.nak (f : Flit) : Bool := f.getLsbD 28
def Flit.credit (f : Flit) (vc : Nat) : Nat := (f.extractLsb' (32 + 16 * vc) 16).toNat
def Flit.code (f : Flit) : BitVec 8 := f.extractLsb' 128 8
def Flit.arg (f : Flit) : BitVec 64 := f.extractLsb' 136 64

/-- FTYPE values. -/
def Ft.IDLE : Nat := 0
def Ft.DATA : Nat := 1
def Ft.CONTROL : Nat := 2

/-- The first 504 bytes of a flit. -/
def Flit.covered (f : Flit) : List Byte := (List.range 504).map (fun i => f.extractLsb' (8 * i) 8)

/-- The flit with its CRC. -/
def Flit.sealed (f : Flit) : Flit := putBits f 4032 (crc64 f.covered)

/-- Is the CRC right? -/
def Flit.good (f : Flit) : Bool := decide (f.extractLsb' 4032 64 = crc64 f.covered)

/-- What a slot of a flit carries (R342): a tub with its CLASS, LINE, POISON and body, the ANSWER bit, FTALLY and FGEN. -/
structure Slot where
  tub : Tub
  answer : Bool
  ftally : BitVec 15
  fgen : BitVec 4
  deriving DecidableEq, Repr

/-- Slot `i`, when its VALID is 1. -/
def Flit.slot (f : Flit) (i : Nat) : Option Slot :=
  let b := 8 * (16 + 68 * i)
  if f.getLsbD (b + 4) then
    some
      { tub :=
          { Tub.zero with
            cls := f.extractLsb' b 4, poison := f.getLsbD (b + 6), line := f.extractLsb' (b + 7) 6, body := f.extractLsb' (b + 32) 512 }
        answer := f.getLsbD (b + 5), ftally := f.extractLsb' (b + 13) 15, fgen := f.extractLsb' (b + 28) 4 }
  else none

/-- Write slot `i`. -/
def Flit.putSlot (f : Flit) (i : Nat) (x : Slot) : Flit :=
  let b := 8 * (16 + 68 * i)
  let h : BitVec 32 := (x.tub.cls.setWidth 32) ||| 0x10 ||| (if x.answer then 0x20 else 0) ||| (if x.tub.poison then 0x40 else 0)
    ||| (x.tub.line.setWidth 32 <<< 7) ||| (x.ftally.setWidth 32 <<< 13) ||| (x.fgen.setWidth 32 <<< 28)
  putBits (putBits f b h) (b + 32) x.tub.body

/-- Write the slots from slot `i` on. -/
def Flit.putSlots (f : Flit) (i : Nat) : List Slot → Flit
  | [] => f
  | x :: rest => (f.putSlot i x).putSlots (i + 1) rest

/-! ### Credits (R90, R261, R362) -/

/-- Do the flit movers of two portals feed the same Adit station? Which station a portal's flit mover feeds is left open, so it is a free value of the
part (assumption 111). -/
def sameStation (p q : Portal) : Bool := decide (Config.portalStation p % 16 = Config.portalStation q % 16)

/-- The tubs that wait at the Adit station of portal `p`: from every flit mover that feeds it, until haulage, or the queue they are bound for, has taken
them (R90, R257). -/
def State.station (s : State) (n : Shaft) (p : Portal) : Nat :=
  let h := s.sh n
  let mine (f : Flight) : Bool := f.via.any (sameStation p) && (match f.pos with
    | .unit .adit => true
    | .station .adit _ => true
    | _ => false)
  let feeds (x : Producer) : Bool := match x with
    | .portal q => sameStation p q
    | _ => false
  (h.flights.filter mine).length + (h.qops.filter (fun o => feeds o.by_)).length + (h.pushWaits.filter (fun w => feeds w.by_)).length

/-- R90: credits are withheld from 48 tubs on until 32. -/
def State.creditCheck (s : State) (n : Shaft) (p : Portal) : State :=
  let k := s.station n p
  if (s.ptl n p).creditHold then (if k ≤ 32 then s.updPtl n p (fun x => { x with creditHold := false }) else s)
  else if 48 ≤ k then
    { (s.updPtl n p (fun x => { x with creditHold := true })).addReg n .HAU_STAT2_CREDIT_HOLD with station48 := true }
  else s

/-- R90, R261, R417: are the request credits of portal `p` withheld? -/
def State.withholds (s : State) (n : Shaft) (p : Portal) : Bool := (s.ptl n p).creditHold || s.queueHoldsCredits n p || s.capHolds n

/-- Add to entry `i` of three counts. -/
def addAt (l : List Nat) (i v : Nat) : List Nat := (List.range 3).map (fun k => if k = i then l.getD k 0 + v else l.getD k 0)

/-! ### The cooling responder (R366) -/

/-- R366, R100, R143, R183, R224, R266, R409, R419, R433: does the cooling responder answer new requests? A shaft that R98 takes out of service answers
them too (assumption 120). -/
def State.cooling (s : State) (n : Shaft) : Bool :=
  s.seamsOut n || decide (s.doze n ≠ 0) || decide (s.thermal n ≠ 0) || s.gateEn n.val .HAU || s.shGated n .HAU || s.linksDead n || [Block.TLY, .CLM, .DIR, .HWR, .QMG].any (fun b => s.shGated n b)
    || (decide (s.slice n ≠ 0) && !s.sliceAdit n)

/-- R366: one RETRY by the deadline lane. -/
def State.coolRetry (s : State) (n : Shaft) (p : Portal) (t : Tub) : State :=
  (s.addReg n .PTL_STAT4_COOL_RETRY p.val).lane n p (s.answerTub n Ans.RETRY t.body true)

/-! ### Class routes (R360) -/

/-- An answer of portal `p`'s answer builder that goes to its own egress queue. -/
def State.ownAnswer (s : State) (n : Shaft) (p : Portal) (t : Tub) (i : Nat) : State :=
  s.inject n { s.answerTub n i t.body false with ans := true } (.unit .adit) Layer.lode.dest (.egress p) none (some p)

/-- A tub from the ingress of portal `p` on its way into the Lode. -/
def State.inward (s : State) (n : Shaft) (p : Portal) (t : Tub) (a : Arrive) : State :=
  s.inject n t (.unit .adit) Layer.lode.dest a none (some p)

/-- A tub from the ingress of portal `p` to the Foreman: one crossing of the Adit's stations (R92). -/
def State.toAdit (s : State) (n : Shaft) (p : Portal) (t : Tub) : State :=
  s.inject n t (.station .adit 0) Layer.adit.dest .foreman none (some p)

/-- A tub from the ingress of portal `p` goes where the message it belongs to went. -/
def State.sendOn (s : State) (n : Shaft) (p : Portal) (t : Tub) (a : Arrive) : State :=
  match a with
  | .foreman => s.toAdit n p t
  | _ => s.inward n p t a

/-- R352, R433: a SNP that cannot be relayed. -/
def State.snpBack (s : State) (n : Shaft) (p : Portal) (t : Tub) : State :=
  (s.addReg n .PTL_STAT4_SNP_UNREACHABLE p.val).ownAnswer n p t Ans.SNP_LOST

/-- R352: a SNP from a device-to-device portal is relayed under a FORWARD tally to the portal that holds its agent. -/
def State.snpRelay (s : State) (n : Shaft) (p : Portal) (t : Tub) : State :=
  match s.agentPortal n t.dstAgent, s.freeTally n with
  | some q, some i =>
    if t.fwd || s.admissionShut n || s.lodeOut n || !s.linkUp n q then s.snpBack n p t
    else
      let c := (s.sh n).clock
      let s1 := s.openTally n i
        { kind := .forward, portal := p, agent := t.srcAgent, lineAddr := t.addr
          deadline := c + BitVec.ofNat 32 (s.reg n .TLY_CFG_DEADLINE_US), stamp := c, parent := none, lines := 1, linesLeft := 0
          request := t.body, epoch := s.epoch n, quota := 0, pending := 1 }
      let g := (s1.tally n i).gen
      let x := { t with tv := true, tally := BitVec.ofNat 15 i, gen := g }
      (s1.updTally n i (fun y => { y with fwdPortal := q })).lodeSend n q (x.put 1 0 (1 : BitVec 1))
  | _, _ => s.snpBack n p t

/-- ROUTE and QUEUE of a class route (R360). -/
def State.croute (s : State) (n : Shaft) (p : Portal) (c : BitVec 4) : Nat × Nat :=
  let v : BitVec 19 := Tbl.get 0 (s.sh n).formers.croute (16 * p.val + c.toNat)
  ((v.extractLsb' 0 2).toNat, (v.extractLsb' 2 17).toNat)

/-- A tub of no personality. -/
def State.unknown (s : State) (n : Shaft) (p : Portal) : State := s.addReg n .PTL_STAT_UNKNOWN_MSG p.val

/-- R360, route DIRECT; the second value says where the DAT tubs of the message go. -/
def State.direct (s : State) (n : Shaft) (p : Portal) (t : Tub) : State × Follow :=
  if t.cls = Cls.REQ then (s.inward n p t (.ingress p), .go (.ingress p))
  else if t.cls = Cls.SNP ∧ s.role n p = Role.D2D then (s.snpRelay n p t, .drop)
  else if t.cls = Cls.MGT then (s.toAdit n p t, .drop)
  else (s.unknown n p, .drop)

/-- R360: the class route of a tub with TV 0. A request is answered by the cooling responder first (R366), and one for the Foreman is
answered RETRY while the Foreman restarts (R438). Reserved classes are discarded where they are injected (R121). -/
def State.classRoute (s : State) (n : Shaft) (p : Portal) (t : Tub) : State × Follow :=
  let r := s.croute n p t.cls
  if Cls.reserved t.cls then (s.inward n p t .sink, .drop)
  else if t.cls = Cls.REQ ∧ s.cooling n then (s.coolRetry n p t, .drop)
  else match r.1 with
    | 0 => s.direct n p t
    | 1 => (s.inward n p t (.queue r.2 p), .go (.queue r.2 p))
    | 2 =>
      if t.cls = Cls.REQ ∧ !s.foreUp then (s.ownAnswer n p t Ans.RETRY, .drop) else (s.toAdit n p t, .go .foreman)
    | _ => (s.unknown n p, .drop)

/-- How many DAT tubs follow a message tub. -/
def followCount (t : Tub) : Nat := if t.data then (if t.haul then t.lines.toNat else 1) else 0

/-- The DAT tubs that follow are sent where the message went. -/
def State.setFollow (s : State) (n : Shaft) (p : Portal) (k : Nat) (f : Follow) : State :=
  s.updPtl n p (fun x => { x with follow := if k = 0 then none else some (k, f) })

/-- A DAT tub with TV 0: it follows its message, or has a class route of its own. -/
def State.rxDat (s : State) (n : Shaft) (p : Portal) (t : Tub) : State :=
  match (s.ptl n p).follow with
  | some (k, f) =>
    let s1 := s.setFollow n p (k - 1) f
    match f with
    | .go a => s1.sendOn n p t a
    | .drop => s1
  | none => (s.classRoute n p t).1

/-- R394: the epoch a REQ opens with that arrived between the two devices' flips. -/
def State.rxEpoch (s : State) (n : Shaft) (p : Portal) : Option Bool :=
  if (s.ptl n p).markWait then some (!(s.epoch n)) else (s.ptl n p).partnerEpoch

/-- R125: what acceptance writes into a REQ. -/
def State.accept (s : State) (n : Shaft) (p : Portal) (t : Tub) : Tub :=
  if t.cls = Cls.REQ then { t.put 24 0 (s.sh n).clock with ep := s.rxEpoch n p } else t

/-! ### Drift ingress -/

/-- R359, R478: a tub with slot ANSWER 1 takes its tally from FTAG, or from the slot header. -/
def State.rxAnswer (s : State) (n : Shaft) (p : Portal) (x : Slot) : State :=
  let t := x.tub
  if t.cls = Cls.DAT then
    let g := (s.tally n x.ftally.toNat).gen
    if g.extractLsb' 0 4 = x.fgen then s.inward n p { t with tv := true, tally := x.ftally, gen := g } .tallyStore
    else s.addReg n .TLY_STAT2_STALE
  else
    s.inward n p { t with tv := true, tally := t.ftag.extractLsb' 0 15, gen := t.ftag.extractLsb' 15 8, seq := t.ftag.extractLsb' 23 8 }
      .tallyStore

/-- One tub of a received flit. TIM tubs are left to the steps of the time exchange. -/
def State.rxSlot (s : State) (n : Shaft) (p : Portal) (x : Slot) : State :=
  let t := s.accept n p { x.tub with line := if x.tub.cls = Cls.DAT then x.tub.line else 0
                                     poison := x.tub.poison && decide (x.tub.cls = Cls.DAT) }
  let s1 := s.updPtl n p (fun y => { y with creditsDue := addAt y.creditsDue (Cls.vc t.cls).toNat 1 })
  if t.cls = Cls.TIM then s1
  else if x.answer then s1.rxAnswer n p { x with tub := t }
  else if t.cls = Cls.DAT then s1.rxDat n p t
  else
    let r := s1.classRoute n p t
    r.1.setFollow n p (followCount t) r.2

/-- R340: SLEEP halves the width that receives: the receivers of the lanes given up sleep, those of them that may. -/
def State.rxSleep (s : State) (n : Shaft) (p : Portal) : State :=
  let w := (s.ptl n p).rxWidth
  if w = 0 then s else s.rxHalve n p (s.lanesFrom n p (w - 1) w) (w - 1)

/-- R340: WAKE doubles the width that receives. RX Sleep froze the CDR and kept its lock, so CDR_LOCK stays 1 and the 1 ms of R108 runs from when the
lock was gained: the spec does not say that it starts afresh after RX Sleep (assumption 112). -/
def State.rxWake (s : State) (n : Shaft) (p : Portal) : State :=
  let w := (s.ptl n p).rxWidth
  if s.reg n .PTL_STATE_TRAINED p.val ≤ w then s
  else
    ((s.lanesFrom n p w (w + 1)).foldl (fun (a : State) i => a.setReg n .LNE_STAT_RX_SLEEP 0 i) s).updPtl n p (fun x => { x with rxWidth := w + 1 })

/-- IMG.WHEN. -/
def State.imgWhen (s : State) : BitVec 64 := BitVec.ofNat 64 (s.dev .IMG_WHEN_LO_WHEN_LO + 2 ^ 32 * s.dev .IMG_WHEN_HI_WHEN_HI)

/-- R394: the partner has switched. A marker after the own flip ends the wait for it; one before names the new epoch for later requests,
when the receiver has a STAGED activation (STATE 6) of the same instant that flips this shaft. -/
def State.epochMark (s : State) (n : Shaft) (p : Portal) (when_ : BitVec 64) : State :=
  if when_ ≠ s.imgWhen then s
  else if (s.ptl n p).markWait then s.updPtl n p (fun x => { x with markWait := false })
  else
    let flips := match s.act with
      | some a => a.scheduled && a.banks.any (fun b => decide (b.1 = n.val))
      | none => false
    if decide (s.dev .IMG_STATE_STATE = 6) && flips then s.updPtl n p (fun x => { x with partnerEpoch := some (!(s.epoch n)) }) else s

/-- A CONTROL flit. The codes of training act in the training steps; the others are reserved. -/
def State.rxControl (s : State) (n : Shaft) (p : Portal) (f : Flit) : State :=
  if f.code = Ctl.SLEEP then s.rxSleep n p
  else if f.code = Ctl.WAKE then s.rxWake n p
  else if f.code = Ctl.EPOCH_MARK then s.epochMark n p f.arg
  else s

/-- Is sequence number `a` at or before `b`, of the last 2,048? -/
def seqUpTo (a b : BitVec 12) : Bool := !(b - a).msb

/-- R343: ACK frees flits; NAK asks for a replay, and a fifth one of the same FSEQ makes the portal retrain. The second value says whether the
portal is still UP. -/
def State.rxAck (s : State) (n : Shaft) (p : Portal) (f : Flit) : State × Bool :=
  let x := s.ptl n p
  let rest := x.unacked.filter (fun e => !seqUpTo e.1 f.ack)
  let s1 := s.updPtl n p (fun y =>
    { y with unacked := rest, replays := if rest.length < x.unacked.length then 0 else y.replays })
  match f.nak, rest with
  | true, (q, _) :: _ =>
    if 4 ≤ (s1.ptl n p).replays then (s1.retrain n p, false)
    else (s1.updPtl n p (fun y => { y with replayAt := some q, replays := y.replays + 1 }), true)
  | _, _ => (s1, true)

/-- R341: has a WAKE of portal `p` still to be sent, or to be acknowledged by the partner? -/
def PortalSt.wakes (x : PortalSt) : Bool :=
  x.txq.contains (.control Ctl.WAKE 0) || x.unacked.any (fun e => decide (Flit.ftype e.2 = Ft.CONTROL) && decide (Flit.code e.2 = Ctl.WAKE))

/-- R341: the partner has completed a wake: in Drift mode it has acknowledged every WAKE, in PCIe mode a flit of the widened link has passed its
check. -/
def State.wakeDone (s : State) (n : Shaft) (p : Portal) : State :=
  s.updPtl n p (fun x => if x.cfg.drift && x.wakes then x else { x with wakeAt := none })

/-- CREDITS of a flit. -/
def State.rxCredits (s : State) (n : Shaft) (p : Portal) (f : Flit) : State :=
  s.updPtl n p (fun y => { y with credits := (List.range 3).map (fun k => y.credits.getD k 0 + f.credit k) })

/-- The receiver asks for a replay with its next flit. -/
def State.askReplay (s : State) (n : Shaft) (p : Portal) : State := s.updPtl n p (fun x => { x with nakDue := true })

/-- R342, R343: a Drift flit arrives. -/
def State.rxDrift (s : State) (n : Shaft) (p : Portal) (f : Flit) : State :=
  if !f.good then s.askReplay n p
  else
    let r := s.rxAck n p f
    let s1 := (r.1.wakeDone n p).rxCredits n p f
    if !r.2 ∨ (f.ftype ≠ Ft.DATA ∧ f.ftype ≠ Ft.CONTROL) then s1
    else
      let x := s1.ptl n p
      if f.fseq ≠ x.expFseq then (if seqUpTo f.fseq x.expFseq then s1 else s1.askReplay n p)
      else
        let s2 := s1.updPtl n p (fun y => { y with expFseq := y.expFseq + 1 })
        if f.ftype = Ft.CONTROL then s2.rxControl n p f
        else ((List.range 7).filterMap f.slot).foldl (fun a t => a.rxSlot n p t) s2

/-! ### PCIe ingress -/

/-- R350: the agent of a message and whether it is refused. Memory-facing portals have no agents. -/
def State.rxAgent (s : State) (n : Shaft) (p : Portal) (e : FormEnt) (m : Msg) : BitVec 10 × Bool :=
  if s.role n p = Role.MEM then (0, false)
  else
    let v := (m.bits.extractLsb' e.agentPos e.agentW).toNat
    (BitVec.ofNat 10 (s.reg n .PTL_AGENT_BASE p.val + v), decide (s.reg n .PTL_AGENT_COUNT p.val ≤ v))

/-- R355: the tub of a message: its copies, then the fields the former sets. A tub of class DAT is the line itself. -/
def State.formIn (s : State) (n : Shaft) (p : Portal) (e : FormEnt) (m : Msg) : Tub :=
  let b0 := e.copyIn m.bits 0
  let t : Tub := { Tub.zero with cls := e.cls, body := b0 }
  if e.cls = Cls.DAT then { t with body := m.data.getD b0 }
  else
    let t1 := ((((t.put 0 0 e.opcode).put 1 1 (BitVec.ofBool e.isHaul)).put 1 2 (BitVec.ofBool e.inData)).put 2 0 (s.rxAgent n p e m).1).put 6 0
      (BitVec.ofNat 3 p.val)
    let t2 := t1.put 16 0 ((m.bits.extractLsb' e.tagPos e.tagW).setWidth 16)
    s.accept n p (t2.put 24 0 (0 : BitVec 32))

/-- The DAT tub that follows a message with DATA 1 (R357): the same sideband. -/
def followTub (t : Tub) (m : Msg) (e : FormEnt) : List Tub :=
  if e.inData ∧ e.cls ≠ Cls.DAT then (m.data.map (fun b => { t with cls := Cls.DAT, ep := none, body := b })).toList else []

/-- R358: an ingress message with ANSWER 1. -/
def State.rxTagged (s : State) (n : Shaft) (p : Portal) (e : FormEnt) (m : Msg) (t : Tub) : State :=
  let r := s.lookTag n p (m.bits.extractLsb' e.tagPos e.tagW).toNat
  match r.2 with
  | none => r.1
  | some g =>
    let x := { t with tv := true, tally := g.tally, gen := g.gen, seq := g.seq, line := g.line }
    (x :: followTub x m e).foldl (fun a y => a.inward n p y .tallyStore) r.1

/-- R353, R355: a message of a PCIe-mode flit. -/
def State.rxMsg (s : State) (n : Shaft) (p : Portal) (m : Msg) : State :=
  let e := s.ingressEntry n p m
  if !e.valid then s.unknown n p
  else
    let t := s.formIn n p e m
    let s := s.updPtl n p (fun y => { y with creditsDue := addAt y.creditsDue (Cls.vc e.cls).toNat 1 })
    if (s.rxAgent n p e m).2 then
      let s1 := s.addReg n .PTL_STAT_BAD_AGENT p.val
      if e.cls = Cls.REQ then s1.ownAnswer n p t Ans.ERROR else s1
    else if e.isAnswer then s.rxTagged n p e m t
    else
      let r := s.classRoute n p t
      (followTub t m e).foldl (fun a y => a.rxDat n p y) (r.1.setFollow n p (followTub t m e).length r.2)

/-! ### The steps -/

/-- Does the flit mover of a portal work? -/
def State.moverUp (s : State) (n : Shaft) (p : Portal) : Bool := decide (s.pst n p = Pst.UP) && !s.aditOut n && !s.shGated n .PTL && !s.por

/-- FLIT_RECEIVE. A PCIe-mode flit that fails its link check is replayed by that mode's own link layer; where that ends in Recovery, the portal
enters RECOVERY (R344). -/
def State.flitReceive (s : State) (n : Shaft) (p : Portal) (x : RxFlit) : State :=
  if !s.moverUp n p then s
  else match x, (s.ptl n p).cfg.drift with
    | .drift b, true => (s.rxDrift n p b).creditCheck n p
    | .pcie l, false => (l.foldl (fun a m => a.rxMsg n p m) (s.wakeDone n p)).creditCheck n p
    | .pcieRecovery, false => s.retrain n p
    | _, _ => s

/-- FLIT_RECEIVE. -/
def execFlitReceive (sh : Shaft) (p : Portal) (x : RxFlit) (s : State) : Out := .next (s.flitReceive sh p x)

/-- The items of the buffer that the next DATA flit takes: up to seven tubs, each of VC 0 and VC 1 with a credit, in order. -/
def takeSlots : Nat → List Nat → List TxItem → List Slot × List Nat × List TxItem
  | 0, c, l => ([], c, l)
  | _ + 1, c, [] => ([], c, [])
  | k + 1, c, .tub t a y g :: rest =>
    let v := (Cls.vc t.cls).toNat
    if v = 2 ∨ 0 < c.getD v 0 then
      let r := takeSlots k (if v = 2 then c else c.set v (c.getD v 0 - 1)) rest
      (⟨t, a, y, g⟩ :: r.1, r.2.1, r.2.2)
    else ([], c, .tub t a y g :: rest)
  | _ + 1, c, x :: rest => ([], c, x :: rest)

/-- Time stamps of a TIM tub are taken as the flit leaves (R117): t1 of a request, t3 of a reply. -/
def State.stampTime (s : State) (x : Slot) : Slot :=
  if x.tub.cls ≠ Cls.TIM then x
  else if x.tub.opcode = 1 then { x with tub := x.tub.put 8 0 s.fab }
  else { x with tub := x.tub.put 24 0 s.fab }

/-- The head of the next flit: FSEQ and FTYPE, ACK and NAK, the credits returned. -/
def State.flitHead (s : State) (n : Shaft) (p : Portal) (ftype : Nat) : Flit :=
  let x := s.ptl n p
  let cr (i : Nat) : BitVec 16 := if i < 2 ∧ s.withholds n p then 0 else BitVec.ofNat 16 (min (x.creditsDue.getD i 0) 65535)
  let f0 : Flit := if ftype = Ft.IDLE then 0 else putBits 0 0 x.nextFseq
  let f1 := putBits f0 12 (BitVec.ofNat 4 ftype)
  let f2 := putBits (putBits f1 16 (x.expFseq - 1)) 28 (BitVec.ofBool x.nakDue)
  putBits (putBits (putBits f2 32 (cr 0)) 48 (cr 1)) 64 (cr 2)

/-- The head has gone out: credits and NAK with it. -/
def State.headSent (s : State) (n : Shaft) (p : Portal) : State :=
  let w := s.withholds n p
  s.updPtl n p (fun x =>
    { x with
      nakDue := false
      creditsDue := (List.range 3).map (fun i => if i < 2 ∧ w then x.creditsDue.getD i 0 else x.creditsDue.getD i 0 - 65535) })

/-- A DATA or CONTROL flit leaves and is kept until it is acknowledged. -/
def State.sendFlit (s : State) (n : Shaft) (p : Portal) (f : Flit) : State :=
  (s.headSent n p).updPtl n p (fun x => { x with unacked := x.unacked ++ [(x.nextFseq, f.sealed)], nextFseq := x.nextFseq + 1 })

/-- Note the t1 of the time request a flit carries: the follower's outstanding request. -/
def State.noteRequest (s : State) (l : List Slot) : State :=
  match l.find? (fun x => decide (x.tub.cls = Cls.TIM) && decide (x.tub.opcode = 1)) with
  | none => s
  | some x => { s with timeSent := some (x.tub.field 8 0 64) }

/-- A flit boundary of a Drift portal: a replay goes first (R343); then a control flit or up to seven tubs; else IDLE (R91). -/
def State.txDrift (s : State) (n : Shaft) (p : Portal) : State :=
  let x := s.ptl n p
  match x.replayAt with
  | some q =>
    let later := (x.unacked.dropWhile (fun e => e.1 != q)).drop 1
    (s.updPtl n p (fun y => { y with replayAt := later.head?.map (fun e => e.1) })).addReg n .PTL_STAT3_REPLAYS p.val
  | none =>
    if 256 ≤ x.unacked.length then s.headSent n p
    else match x.txq with
      | .control c a :: rest =>
        (s.updPtl n p (fun y => { y with txq := rest })).sendFlit n p (putBits (putBits (s.flitHead n p Ft.CONTROL) 128 c) 136 a)
      | _ =>
        let r := takeSlots 7 x.credits x.txq
        let l := r.1.map s.stampTime
        if l = [] then s.headSent n p
        else
          ((s.updPtl n p (fun y => { y with credits := r.2.1, txq := r.2.2 })).sendFlit n p ((s.flitHead n p Ft.DATA).putSlots 0 l)).noteRequest l

/-- FLIT_TRANSMIT. A PCIe-mode portal sends the next message in the flits of its own link layer, and its credits go back by PCIe flow control, unless R90
withholds them. -/
def State.flitTransmit (s : State) (n : Shaft) (p : Portal) : State :=
  if !s.moverUp n p then s
  else
    let s1 := s.creditCheck n p
    if (s.ptl n p).cfg.drift then s1.txDrift n p else (s1.headSent n p).updPtl n p (fun x => { x with txq := x.txq.drop 1 })

/-- FLIT_TRANSMIT. -/
def execFlitTransmit (sh : Shaft) (p : Portal) (s : State) : Out := .next (s.flitTransmit sh p)

end Sys2Proof.Machine
end

