-- ==== Sys2Proof/Machine/Time.lean ====
section
/-! DEFINITION. The time exchange between devices (R117 to R119). -/

namespace Sys2Proof.Machine

/-- A portal that carries time tubs: device-to-device, up, the TIM block not gated. -/
def State.timePortal (s : State) (n : Shaft) (p : Portal) : Bool :=
  decide (s.role n p = Role.D2D) && decide (s.pst n p = Pst.UP) && !s.devGated .TIM

/-- The shaft and the portal TIM.CFG names. -/
def State.timeShaft (s : State) : Shaft := Fin.ofNat 8 (s.dev .TIM_CFG_SHAFT)
def State.timePort (s : State) : Portal := Fin.ofNat 8 (s.dev .TIM_CFG_PORT)

/-- PERIOD_US of TIM.CFG. -/
def State.timePeriod (s : State) : Nat := s.dev .TIM_CFG_PERIOD_US

/-- A TIM tub (R124). -/
def timeTub (op : BitVec 8) (t1 t2 : BitVec 64) : Tub :=
  (({ Tub.zero with cls := Cls.TIM }.put 0 0 op).put 8 0 t1).put 16 0 t2

/-- TIME_EXCHANGE (R117): the follower sends a request; the flit mover stamps t1 as it leaves. -/
def State.timeExchange (s : State) : State :=
  if s.devB .TIM_CFG_SOURCE && s.timePortal s.timeShaft s.timePort && decide (s.timeSentAt + s.timePeriod ≤ s.up) then
    { (s.guardFill s.timeShaft s.timePort).egressTub s.timeShaft s.timePort (timeTub 1 0 0) with timeSentAt := s.up }
  else s

/-- TIME_EXCHANGE. -/
def execTimeExchange (s : State) : Out := .next s.timeExchange

/-- TIME_REQUEST_ANSWER (R117): a request stamped `t1` came in `dwell` ns ago, and the device, on its own timing source, answers it; the flit
mover stamps t3 as the reply leaves. -/
def State.timeAnswer (s : State) (n : Shaft) (p : Portal) (t1 : BitVec 64) (dwell : Nat) : State :=
  if !s.devB .TIM_CFG_SOURCE && s.timePortal n p then
    (s.guardFill n p).egressTub n p (timeTub 2 t1 (s.fab - BitVec.ofNat 64 dwell))
  else s

/-- TIME_REQUEST_ANSWER. -/
def execTimeRequestAnswer (sh : Shaft) (p : Portal) (t1 : BitVec 64) (dwell : Nat) (s : State) : Out := .next (s.timeAnswer sh p t1 dwell)

/-- A signed value saturated to ±(2^31 − 1), as 32 bits (TIM.OFFSET). -/
def satOffset (x : Int) : Nat := (BitVec.ofInt 32 (max (-2147483647) (min 2147483647 x))).toNat

/-- R118: the correction of an offset in ns. -/
def State.correct (s : State) (x : Int) : State :=
  if 10000 < x then ({ s with fab := s.fab + BitVec.ofInt 64 x, slew := 0 }).addDev .TIM_STAT_STEPS
  else if x < -10000 then { s with slew := x }.devEvent 0x0108 Sev.notice 0xFFFF (detail64 (BitVec.ofInt 64 x).toNat)
  else { s with slew := x }

/-- The offset of an exchange (R117). -/
def State.offsetOf (s : State) (t1 t2 t3 t4 : BitVec 64) : Int :=
  Int.tdiv (((t2.toNat : Int) - t1.toNat) - ((t4.toNat : Int) - t3.toNat)) 2 + (BitVec.ofNat 16 (s.dev .TIM_ASYM_ASYM_NS)).toInt

/-- TIME_REPLY (R118, R119): the reply to the outstanding request. -/
def State.timeReply (s : State) (t1 t2 t3 : BitVec 64) : State :=
  if s.devB .TIM_CFG_SOURCE && decide (s.timeSent = some t1) && !s.devGated .TIM then
    let x := s.offsetOf t1 t2 t3 s.fab
    let l := (x :: s.offsets).take 4
    let s1 := ({ s with timeSent := none, timeReplyAt := s.up, timeOffset := x, offsets := l }).correct x
    (s1.setDev .TIM_OFFSET_OFFSET (satOffset x)).setDev .TIM_STAT_LOCKED
      (bit (decide (l.length = 4) && l.all (fun y => decide (-40 ≤ y) && decide (y ≤ 40))))
  else s

/-- TIME_REPLY. -/
def execTimeReply (t1 t2 t3 : BitVec 64) (s : State) : Out := .next (s.timeReply t1 t2 t3)

/-- TIME_UNLOCKED (R119): no reply for four periods. An offset still being slewed goes on being slewed. DESIGN CHOICE: R119 says only that the counter runs on
the device's own source (assumption 113). -/
def State.timeUnlocked (s : State) : State :=
  if s.devB .TIM_STAT_LOCKED && decide (s.timeReplyAt + 4 * s.timePeriod ≤ s.up) then
    (s.setDev .TIM_STAT_LOCKED 0).devEvent 0x0107 Sev.notice 0xFFFF (detail64 (BitVec.ofInt 64 s.timeOffset).toNat)
  else s

/-- TIME_UNLOCKED. -/
def execTimeUnlocked (s : State) : Out := .next s.timeUnlocked

end Sys2Proof.Machine
end

