-- ==== Sys2Proof/Machine/Images.lean ====
section
/-! DEFINITION. The update engine (R387 to R400): streaming an image, ARM, ACTIVATE, staging, the commit, CONFIRM, the pointer block, and
the setting commands. -/

namespace Sys2Proof.Machine

/-! ### Flash writes -/

/-- Flash erased from `a` up to `b`. -/
def flashErase (m : List Host.Cell) (a b : Nat) : List Host.Cell := m.filter (fun c => decide (c.1 < a) || decide (b ≤ c.1))

/-- Erased flash programmed from `a` upward. -/
def flashProgram (m : List Host.Cell) (a : Nat) (l : List Byte) : List Host.Cell := memPut erasedByte l a m

/-! ### The stream (R388) -/

/-- What a command answers in the Cage (R71). -/
def Res.OK : Nat := 0
def Res.PARTIAL : Nat := 1
def Res.BUSY : Nat := 2
def Res.DENIED : Nat := 3
def Res.BAD_ADDR : Nat := 4
def Res.BAD_LEN : Nat := 5
def Res.BAD_CRC : Nat := 6
def Res.DATA_CRC : Nat := 7
def Res.UNKNOWN_OP : Nat := 8
def Res.EMPTY : Nat := 9

/-- Bytes in the write buffer. -/
def State.buffered (s : State) : Nat := (s.wbuf.map (fun c => c.bytes.length)).foldl (· + ·) 0

/-- The flash as it will stand once the write buffer has been programmed. -/
def State.flashSoon (s : State) : List Host.Cell :=
  let b := s.slotBase s.inactiveB
  s.wbuf.foldl (fun (m : List Host.Cell) c => flashProgram m (b + c.offset) c.bytes) s.flash

/-- R388: NEXT has reached the end of the header: checks 1 to 6. -/
def State.headerArrived (s : State) : State :=
  let c := headerCause s.flashSoon (s.slotBase s.inactiveB) s.slotSize
  if c = Icf.NONE then s else s.imgRefuse c 0 noPart

/-- UPDATE_STREAM of some words at a byte offset, judged by orders 2 to 6; the second value is the Result. -/
def State.stream (s : State) (addr : Nat) (l : List Word) : State × Nat :=
  let next := s.dev .IMG_STREAM_NEXT
  let k := 4 * l.length
  if s.devGated .IMG || decide (s.img ≠ Img.OPEN) || decide (addr ≠ next) then (s, Res.DENIED)
  else if s.slotSize < addr + k then (s, Res.BAD_ADDR)
  else if 65536 < s.buffered + k then (s, Res.BUSY)
  else
    let s1 := State.setDev { s with wbuf := s.wbuf ++ [⟨addr, l.flatMap (leBytes 4)⟩] } .IMG_STREAM_NEXT (addr + k)
    (if next < 4096 ∧ 4096 ≤ addr + k then s1.headerArrived else s1, Res.OK)

/-- R388: a sector of the slot is erased before its first write after OPEN. -/
def State.eraseSector (s : State) (i : Nat) : State :=
  if s.erased.contains i then s
  else
    let a := s.slotBase s.inactiveB + 65536 * i
    { s with flash := flashErase s.flash a (a + 65536), erased := s.erased ++ [i] }

/-- Where the sectors lie that are being written, and how many bytes they hold: none while no data are buffered. -/
def State.sectorsNow (s : State) : Nat × Nat :=
  match s.wbuf with
  | [] => (0, 0)
  | c :: _ =>
    let first := c.offset / 65536
    (s.slotBase s.inactiveB + 65536 * first, 65536 * ((c.offset + (c.bytes.length - 1)) / 65536 + 1 - first))

/-- R463: writing that a reset or an error cuts short leaves its sectors undetermined. -/
def State.cutFlash (s : State) : State :=
  let x := s.sectorsNow
  if x.2 = 0 then s
  else
    { s with
      flash := memPut erasedByte ((List.range x.2).map (fun i => Config.lostFlash s.freeCtr i)) x.1 s.flash
      freeCtr := s.freeCtr + 1 }

/-- What the `k` bytes of flash from `a` on hold when the writing of them is cut short: undetermined (R463). -/
def State.spoil (s : State) (a k : Nat) : State :=
  { s with flash := memPut erasedByte ((List.range k).map (fun i => Config.lostFlash s.freeCtr i)) a s.flash, freeCtr := s.freeCtr + 1 }

/-- R372, R463: a reset cuts a setting command short: the subsector an APPEND programs is undetermined; of those a CLEAR erases, one is, and each
of the others is erased or is not. -/
def State.cutSetting (s : State) : State :=
  match s.setJob with
  | none => s
  | some (.append _) => s.spoil (0x6000 + 4096 * (s.dev .IMG_SETSTAT_COUNT / 256)) 4096
  | some .clear =>
    let r := s.free
    let v := Config.freeValue r.1
    let s1 := (List.range 10).foldl (fun (a : State) i =>
      if v.testBit i then { a with flash := flashErase a.flash (0x6000 + 4096 * i) (0x7000 + 4096 * i) } else a) r.2
    s1.spoil (0x6000 + 4096 * (v / 1024 % 10)) 4096

/-- R371, R463: a reset meets a rewrite of the pointer block that is due; whether it had begun is left open, and one that had leaves the subsector
of the copy not in force undetermined. -/
def State.cutPointer (s : State) : State :=
  if s.pointerDue.isNone || !s.foreUp then s
  else
    let r := s.free
    if (Config.freeValue r.1).testBit 0 then
      r.2.spoil (match ptrInForce s.flash with
        | some (i, _) => 0x1000 * (1 - i)
        | none => 0) 4096
    else r.2

/-- R463: POR or COLD ends every write to the flash. -/
def State.cutWrites (s : State) : State := s.cutFlash.cutSetting.cutPointer

/-- FLASH_PROGRAM_DONE: the oldest piece of buffered data is programmed, or the flash reports an error. -/
def State.programDone (s : State) (ok : Bool) : State :=
  match s.wbuf with
  | [] => s
  | c :: rest =>
    if ok then
      let first := c.offset / 65536
      let last := (c.offset + (c.bytes.length - 1)) / 65536
      let s1 := (List.range (last + 1 - first)).foldl (fun (a : State) i => a.eraseSector (first + i)) s
      { s1 with flash := flashProgram s1.flash (s.slotBase s.inactiveB + c.offset) c.bytes, wbuf := rest }
    else
      let s1 := { s.cutFlash with wbuf := [] }
      if s.img = Img.OPEN ∨ s.img = Img.VALIDATING then s1.imgRefuse Icf.FLASH 0 noPart else s1

/-- FLASH_PROGRAM_DONE. -/
def execFlashProgramDone (ok : Bool) (s : State) : Out := .next (s.programDone ok)

/-! ### OPEN and ARM (R387, R389) -/

/-- The result of IMG.CMD. -/
def State.imgResult (s : State) (ok : Bool) : State := s.setDev .IMG_CMD_STAT_RESULT (if ok then 1 else 2)

/-- OPEN is refused while PROBATION is 1; not after a failed boot, which lets an image be streamed (R382). -/
def State.mayOpen (s : State) : Bool :=
  (decide (s.img = Img.IDLE) || decide (s.img = Img.REFUSED) || decide (s.img = Img.ARMED)) &&
    (!s.devB .IMG_SLOTS_PROBATION || decide (s.boot = .failed))

/-- OPEN: the inactive slot will be overwritten, so no Plan slot can be recovered from it any more (R398). -/
def State.imgOpen (s : State) : State :=
  let b := s.inactiveB
  let s1 := ({ s with wbuf := [], erased := [], armOpen := false }.setDev .IMG_STREAM_NEXT 0).setDev .IMG_SLOTS_PARTIAL_LIVE 0
  (s1.setImg Img.OPEN).eachShaft (fun n a => a.updSh n (fun h =>
    { h with slotSource := h.slotSource.filter (fun e => match e.2 with
      | some x => decide (x.flashB ≠ b)
      | none => true) }))

/-- ARM. -/
def State.imgArm (s : State) : State := { s with armOpen := decide (s.img = Img.OPEN) }.setImg Img.VALIDATING

/-- ARM_DONE: validation ends, once the data buffered before ARM are in flash. -/
def State.armDone (s : State) : State :=
  if s.img ≠ Img.VALIDATING ∨ s.wbuf ≠ [] then s
  else
    let g := s.imageIn s.inactiveB
    if s.armOpen ∧ s.dev .IMG_STREAM_NEXT < max 4096 g.hdr.length then s.imgRefuse Icf.INCOMPLETE 0 noPart
    else
      let c := s.slotCause s.inactiveB (fun _ => true)
      if c.1 ≠ Icf.NONE then s.imgRefuse c.1 c.2.1 c.2.2
      else (s.setImg Img.ARMED).devEvent 0x0A02 Sev.info 0xFFFF (detail64 g.hdr.id)

/-- ARM_DONE. -/
def execArmDone (s : State) : Out := .next s.armDone

/-! ### ACTIVATE (R390) -/

/-- Check 3: is a named shaft not ready? After a failed boot only a FULL image, which boots the device, can be activated. -/
def State.notReady (s : State) (g : Image) : Bool :=
  if s.boot = .done then
    Oct.indices.any (fun n => entsName g.ents n && ((s.sh n).inReset || decide (s.doze n ≠ 0) || decide (s.thermal n ≠ 0)))
  else decide (g.hdr.kind ≠ 1)

/-- The first check of ACTIVATE that fails, NONE when they pass. -/
def State.activateCause (s : State) (g : Image) : Nat :=
  let scheduled := g.ents.any (fun e => decide (e.cls = 1))
  if scheduled && decide (s.imgWhen.toNat < s.fab.toNat + 1000000) then Icf.LATE
  else if scheduled && s.devB .TIM_CFG_SOURCE && !s.devB .TIM_STAT_LOCKED then Icf.TIME_UNLOCKED
  else if s.notReady g then Icf.NOT_READY
  else Icf.NONE

/-- The activation of an image begins. -/
def State.newActivation (s : State) (g : Image) : Activation where
  slotB := s.inactiveB
  id := g.hdr.id
  full := decide (g.hdr.kind = 1)
  scheduled := g.ents.any (fun e => decide (e.cls = 1))
  boots := decide (s.boot ≠ .done)
  ents := g.ents
  loading := false
  plan := []
  shadows := []
  banks := []
  swaps := []
  formers := []
  charter := none
  canary := none
  lane := false
  foreman := false
  cause := 0
  detail := 0
  part := noPart
  refuse := false

/-- Does an activation hold a MICROCODE part for shaft `n`? -/
def Activation.flips (a : Activation) (n : Shaft) : Bool :=
  !a.boots && a.ents.any (fun e => decide (e.type = Part.MICROCODE) && decide (e.shaft = n.val))

/-- Change the activation. -/
def State.updAct (s : State) (f : Activation → Activation) : State := { s with act := s.act.map f }

/-- R305: the first frame written to a slot that is active. -/
def State.activeFrame (s : State) (n : Shaft) (w : List RecWrite) : Option Nat :=
  w.findSome? (fun x => match x with
    | .frame a _ => if s.reg n .CTX_STOPE_ACTIVE (a / 8192) = a / 1024 % 8 then some a else none
    | .row .. => none)

/-- R305: a shadow that was preloaded from slot `j` is discarded before the slot is written. -/
def State.dropShadow (s : State) (n : Shaft) (j : Nat) : State :=
  if (s.shState n (j / 8) = Shd.PRELOADED ∨ s.shState n (j / 8) = Shd.PREVIOUS) ∧ s.reg n .CTX_STOPE_SHADOW (j / 8) = j % 8 then
    s.emptyShadow n (j / 8)
  else s

/-- R305: the loader begins to write slot `j`: it reads LOADING, and the activation has written it (R306). -/
def State.slotLoading (s : State) (n : Shaft) (j : Nat) : State :=
  (((s.dropShadow n j).emptySlot n (j / 8) (j % 8)).setReg n .CTX_SLOT_STATE Slt.LOADING j).updAct
    (fun a => { a with plan := a.plan ++ [(n.val, j / 8, j % 8)] })

/-- The slots a CONTEXTS part writes before a record or a context that stops the load (R304 to R306). -/
def State.slotsWritten (s : State) (n : Shaft) (region : Option (List Byte)) (w : List RecWrite) : List Nat :=
  let ok := w.takeWhile (fun x => (match region with
    | some r => (outOfRegion r [x]).isNone
    | none => true) && (s.activeFrame n [x]).isNone)
  (slotsIn ok).takeWhile (fun c => (contextFault (c / 8) (contextIn w c)).isNone)

/-- R391 step 3 begins: every slot the image writes reads LOADING. -/
def State.stageBegin (s : State) (a : Activation) : State :=
  let g := s.imageIn a.slotB
  if a.loading then s
  else a.ents.zipIdx.foldl (fun (x : State) e =>
    if e.1.type ≠ Part.CONTEXTS then x
    else match partText s.flash g.base g.hdr g.ents e.2 with
      | none => x
      | some l =>
        let n := shaftOf e.1.shaft
        (s.slotsWritten n (regionOf s.flash g.base g.hdr g.ents e.1) (writesOf true l)).foldl (fun y j => y.slotLoading n j) x)
    (s.updAct (fun a => { a with loading := true }))

/-- Have the idle banks an activation waits for become IDLE (R391 step 2)? -/
def State.banksReady (s : State) (a : Activation) : Bool := !Oct.indices.any (fun n => a.flips n && !s.bankIdle n (!s.epoch n))

/-- ACTIVATE: STAGING begins, flips are armed, self-tests of named shafts are aborted (R448). -/
def State.imgActivate (s : State) : State :=
  let g := s.imageIn s.inactiveB
  let c := s.activateCause g
  if c ≠ Icf.NONE then (s.imgFail c 0 noPart).devEvent 0x0A05 Sev.warning 0xFFFF (failDetail c 0 noPart)
  else
    let a := s.newActivation g
    let s1 := { s.setImg Img.STAGING with act := some a }
    let s2 := s1.eachShaft (fun n x => if a.flips n then x.setReg n .HWR_EPOCH_ARMED 1 else x)
    let s3 := s2.eachShaft (fun n x => if entsName a.ents n then x.testAbort n else x)
    if a.boots || !s3.banksReady a then s3 else s3.stageBegin a

/-! ### Staging (R391) -/

/-- A CONTEXTS part is staged. -/
def State.stageContexts (s : State) (n : Shaft) (i : Nat) (b : Bool) (l : List Byte) : State × Option (Nat × Nat × Nat) :=
  let w := writesOf true l
  match s.activeFrame n w with
  | some a => (s.loadStopped n Lst.ACTIVE_SLOT a, some (Icf.BAD_CONTENT, Lst.ACTIVE_SLOT, i))
  | none =>
    let s1 := (slotsIn w).foldl (fun (a : State) x => a.dropShadow n x) s
    (s1.placeContexts n w ⟨b, i⟩, none)

/-- Step 3 for one part: what it is staged to, or the cause, DETAIL and part of the failure. -/
def State.stagePart (s : State) (g : Image) (b : Bool) (i : Nat) (e : ManEnt) : State × Option (Nat × Nat × Nat) :=
  match partChecked s.flash g.base g.hdr g.ents i e with
  | .error c => (s.noteLoad g i, some (c.1, c.2, i))
  | .ok l =>
    let n := shaftOf e.shaft
    match e.type with
    | 2 => (s.updAct (fun a => { a with lane := true }), none)
    | 3 =>
      let k := !s.epoch n
      ((s.loadBank n k l).updAct (fun a => { a with banks := a.banks ++ [(n.val, bit k)] }), none)
    | 4 => s.stageContexts n i b l
    | 6 => (s.updAct (fun a => { a with canary := some l }), none)
    | 7 => (s.updAct (fun a => { a with charter := some l }), none)
    | 9 => (s.updAct (fun a => { a with formers := a.formers ++ [(n.val, Config.formerPart l)] }), none)
    | _ => (s, none)

/-- Step 3: the parts from number `i` on. -/
def State.stageParts (g : Image) (b : Bool) : Nat → List ManEnt → State → State × Option (Nat × Nat × Nat)
  | _, [], s => (s, none)
  | i, e :: t, s =>
    let r := s.stagePart g b i e
    match r.2 with
    | some c => (r.1, some c)
    | none => State.stageParts g b (i + 1) t r.1

/-- R308, R309: stope `k` is preloaded from slot `c`, `bad` naming a frame (of a shaft, by its address) met uncorrectable; RESULT of a preload that is
refused. -/
def State.stagePreload (bad : Option (Shaft × Nat)) (s : State) (n : Shaft) (k c : Nat) : State × Option Nat :=
  let met := (bad.filter (fun x => decide (x.1 = n) && decide (x.2 / 1024 = 8 * k + c))).map (fun x => x.2 % 1024)
  match s.preloadBars n k c with
  | some r => (s, some r)
  | none =>
    match met.orElse (fun _ => s.suspectIn n k c) with
    | some f => (s.preloadFails n k c f, some CtxRes.PLAN_UNCORR)
    | none => ((s.shadowFrom n k c).updAct (fun a => { a with shadows := a.shadows ++ [(n.val, k)] }), none)

/-- The stopes a REGION part swaps, with their slots. -/
def regionMembers (l : List Byte) : List (Nat × Nat) :=
  (List.range 128).filterMap (fun k => let x := (l.getD k 0xFF).toNat; if x < 8 then some (k, x) else none)

/-- Fold a change that may be refused. -/
def foldTry {α : Type} (f : State → α → State × Option Nat) : List α → State → State × Option Nat
  | [], s => (s, none)
  | x :: t, s =>
    let r := f s x
    match r.2 with
    | some c => (r.1, some c)
    | none => foldTry f t r.1

/-- Step 4 in one shaft: its REGION stopes are preloaded and checked, and their swap is armed. -/
def State.stageSwap (bad : Option (Shaft × Nat)) (s : State) (g : Image) (n : Shaft) : State × Option Nat :=
  let l := regionMembers (s.text g Part.REGION n.val)
  if l = [] then (s, none)
  else
    let m := l.map (fun x => x.1)
    let r := foldTry (fun a x => State.stagePreload bad a n x.1 x.2) l s
    match r.2 with
    | some c => (r.1, some c)
    | none =>
      let q := r.1.swapStart n m none true
      match q.2 with
      | some c => (q.1, some c)
      | none =>
        let s1 := q.1.updAct (fun a => { a with swaps := a.swaps ++ m.map (fun k => (n.val, k)) })
        match s1.shadowFails n m with
        | some k => ((s1.emptyShadow n k).swapRefused n CtxRes.SHADOW_CHECK k none, some CtxRes.SHADOW_CHECK)
        | none => (s1, none)

/-- STAGED. -/
def State.staged (s : State) (a : Activation) : State := (s.setImg Img.STAGED).devEvent 0x0A03 Sev.info 0xFFFF (detail64 a.id)

/-- Steps 3 and 4 are done: with a FOREMAN part the Foreman restarts on it (step 5); else STAGED. -/
def State.stagedParts (s : State) (a : Activation) : State :=
  if a.ents.any (fun e => decide (e.type = Part.FOREMAN)) then
    (s.foreRestart Fcause.ACTIVATION).updAct (fun x => { x with foreman := true })
  else s.staged a

/-- A frame that a preload of staging may meet uncorrectable. UNVERIFIED (assumption 122): whether there is one is a free
value. -/
def State.stagingUpset (s : State) : Option (Shaft × Nat) × State :=
  let r := s.free
  let v := Config.freeValue r.1
  (if v.testBit 0 then some (shaftOf (v / 2), v / 16 % 2 ^ 20) else none, r.2)

/-- Steps 3 and 4: every part is checked again and staged, every swap armed; a failure reverts. -/
def State.stageAll (s : State) (a : Activation) : State :=
  let g := s.imageIn a.slotB
  let r := State.stageParts g a.slotB 0 g.ents (s.stageBegin a)
  match r.2 with
  | some c => r.1.revert c.1 c.2.1 c.2.2
  | none =>
    let m := r.1.stagingUpset
    let q := foldTry (fun x n => State.stageSwap m.1 x g n) Oct.indices m.2
    match q.2 with
    | some c => q.1.revert Icf.SWAP_REFUSED c noPart
    | none => q.1.stagedParts a

/-- STAGING_DONE: staging takes its steps as far as it can: the parts once the idle banks are IDLE (step 2), STAGED once a restarted
Foreman is ready. -/
def State.stagingDone (s : State) : State :=
  match s.act with
  | none => s
  | some a =>
    if s.img ≠ Img.STAGING then s
    else if a.boots then s.staged a
    else if a.foreman then if s.foreUp then s.staged a else s
    else if !s.banksReady a then s
    else s.stageAll a

/-- STAGING_DONE. -/
def execStagingDone (s : State) : Out := .next s.stagingDone

/-- STAGING_LATE (R391): a scheduled activation has not reached STAGED by IMG.WHEN − 100 µs. -/
def execStagingLate (s : State) : Out :=
  .next (match s.act with
    | none => s
    | some a =>
      if a.scheduled ∧ s.img = Img.STAGING ∧ s.imgWhen.toNat ≤ s.fab.toNat + 100000 then s.revert Icf.LATE 0 noPart else s)

/-- FOREMAN_START (R391): the Foreman is not ready within 500 ms of its restart. -/
def execForemanStart (s : State) : Out :=
  .next (match s.act with
    | none => s
    | some a =>
      if s.img = Img.STAGING ∧ a.foreman ∧ !s.foreUp ∧ s.foreAt + 500000 ≤ s.up then s.revert Icf.FOREMAN_START 0 noPart else s)

/-! ### The commit (R392) -/

/-- Step 1 in one shaft: its armed gang swaps, or is refused; the RESULT of a refusal. -/
def State.commitGang (s : State) (u : Option (Shaft × ShadowUpset)) (n : Shaft) : State × Option Nat :=
  match (s.sh n).swaps.find? (fun w => w.armed) with
  | none => (s, none)
  | some w =>
    if s.ctxRefuses n then (s.swapRefused n CtxRes.BUSY (w.members.headD 0) w.gang, some CtxRes.BUSY)
    else match s.failing n w.members 2, s.failing n w.members 3 with
      | some k, _ => (s.swapRefused n CtxRes.NO_SHADOW k w.gang, some CtxRes.NO_SHADOW)
      | none, some k => (s.swapRefused n CtxRes.TEMPO k w.gang, some CtxRes.TEMPO)
      | none, none =>
        (match u with
        | some x => if x.1 = n then s.upsetShadow n x.2 else s
        | none => s).swapFinish n w

/-- An upset of a shadow plane that check 4 of the commit may meet. UNVERIFIED (assumption 122): whether there is one is a
free value. -/
def State.commitUpset (s : State) : Option (Shaft × ShadowUpset) × State :=
  let r := s.free
  let v := Config.freeValue r.1
  (if v.testBit 0 then some (shaftOf (v / 2), ⟨v / 16 % 128, v / 2048 % 1024, BitVec.ofNat 1024 (v / 2 ^ 21)⟩) else none, r.2)

/-- Step 1: every gang, with the first refusal and the shafts that have swapped. -/
def State.commitGangs (s : State) (u : Option (Shaft × ShadowUpset)) (a : Activation) : State × Option Nat × List Shaft :=
  Oct.indices.foldl (fun x n =>
    if !a.swaps.any (fun e => decide (e.1 = n.val)) then x
    else
      let r := x.1.commitGang u n
      match r.2 with
      | some c => (r.1, some (x.2.1.getD c), x.2.2)
      | none => (r.1, x.2.1, x.2.2 ++ [n])) (s, none, [])

/-- The stopes an activation swaps in a shaft. -/
def Activation.members (a : Activation) (n : Shaft) : List Nat := (a.swaps.filter (fun e => decide (e.1 = n.val))).map (fun e => e.2)

/-- R395: members that swapped at step 1 swap back. -/
def State.swapBack (s : State) (a : Activation) (n : Shaft) : State :=
  let m := a.members n
  let s1 := m.foldl (fun (x : State) k => x.swapOne n k) s
  ((List.range 64).filter (fun p => m.contains p || m.contains (64 + p))).foldl (fun (x : State) p => x.evalPair n p) s1

/-- Step 3 in one shaft with MICROCODE: the flip; from now on its device-to-device portals wait for their partners' EPOCH_MARK, but where it
has come already (R394). -/
def State.commitFlip (s : State) (a : Activation) (n : Shaft) : State :=
  let s1 := (s.flipNow n).setReg n .HWR_EPOCH_ARMED 0
  if !a.scheduled then s1
  else s1.eachPortal (fun p x =>
    if (x.ptl n p).cfg.drift && x.linkUp n p then
      x.updPtl n p (fun y => if y.partnerEpoch.isSome then { y with partnerEpoch := none } else { y with markWait := true })
    else x)

/-- Step 4 at one portal: the switch. The tag store keeps its entries (R393). -/
def State.commitMark (s : State) (n : Shaft) (p : Portal) : State :=
  if (s.ptl n p).cfg.drift && s.linkUp n p then s.toTx n p (.control Ctl.EPOCH_MARK s.imgWhen) else s

/-- Step 4 in one shaft: former tables, class routes and answer templates switch, and the portals with a FORMER or LANE change mark it. -/
def State.commitFormers (s : State) (a : Activation) (n : Shaft) : State :=
  match a.formers.find? (fun e => decide (e.1 = n.val)) with
  | some e => (s.updSh n (fun h => { h with formers := e.2 })).eachPortal (fun p x => x.commitMark n p)
  | none => if a.lane then s.eachPortal (fun p x => x.commitMark n p) else s

/-- Steps 3 and 4. -/
def State.commitAll (s : State) (a : Activation) : State :=
  let s1 := s.eachShaft (fun n x => if a.flips n then x.commitFlip a n else x)
  let s2 := match a.charter with
    | some l => s1.charterNarrow l
    | none => s1
  let s3 := match a.canary with
    | some l => { s2 with canary := l }
    | none => s2
  s3.eachShaft (fun n x => x.commitFormers a n)

/-- Step 5 and what follows it: IDLE, IMG_ACTIVATED; a FULL image runs from now on and goes on probation, a PARTIAL one is live (R398). -/
def State.commitEnds (s : State) (a : Activation) : State :=
  let s1 := { s.setImg Img.IDLE with act := none }.devEvent 0x0A04 Sev.info 0xFFFF (detail64 a.id (if a.scheduled then 2 else 1))
  let s2 := if a.full then
      { ((s1.setDev .IMG_SLOTS_RUNNING (bit a.slotB)).setDev .IMG_ID_LO_ID_LO a.id).setDev .IMG_ID_HI_ID_HI (a.id / 2 ^ 32) with
        pointerDue := some ⟨a.slotB, true, false⟩ }
    else s1.setDev .IMG_SLOTS_PARTIAL_LIVE 1
  s2.dozeAll

/-- The commit of an image activated after a failed boot: a full boot from it (R382), or a revert when it no longer passes. -/
def State.commitBoot (s : State) (a : Activation) : State :=
  let c := s.bootCause a.slotB
  if c.1 ≠ Icf.NONE then s.revert c.1 c.2.1 c.2.2 else (s.bootFrom a.slotB).commitEnds a

/-- COMMIT: at IMG.WHEN, or at once for an image with no SCHEDULED part; check 4 of a gang meets an upset `u`. -/
def State.commit (s : State) : State :=
  match s.act with
  | none => s
  | some a =>
    if s.img ≠ Img.STAGED ∨ (a.scheduled ∧ s.fab.toNat < s.imgWhen.toNat) then s
    else if a.boots then s.commitBoot a
    else
      let m := s.commitUpset
      let r := m.2.commitGangs m.1 a
      match r.2.1 with
      | some c => (r.2.2.foldl (fun (x : State) n => x.swapBack a n) r.1).revert Icf.SWAP_REFUSED c noPart
      | none => (r.1.commitAll a).commitEnds a

/-- COMMIT. -/
def execCommit (s : State) : Out := .next s.commit

/-! ### The pointer block (R371, R372, R397) -/

/-- The pointer block a rewrite writes, and the number of its copy: the copy not in force; copy 0 when none is in force. -/
def State.nextPointer (s : State) (d : PtrDue) : Nat × PtrBlk :=
  match ptrInForce s.flash with
  | some (i, p) => (1 - i, { p with generation := p.generation + 1, activeB := d.slotB, probation := d.probation })
  | none => (0, ⟨1, Config.lostSlots.1, Config.lostSlots.2.1, Config.lostSlots.2.2, d.slotB, d.probation⟩)

/-- POINTER_BLOCK_WRITE: the Foreman rewrites the pointer block. -/
def State.pointerWrite (s : State) : State :=
  match s.pointerDue with
  | none => s
  | some d =>
    if !s.foreUp then s
    else
      let x := s.nextPointer d
      let a := 0x1000 * x.1
      let s1 := { s with flash := flashProgram (flashErase s.flash a (a + 0x1000)) a x.2.bytes, pointerDue := none }
      let s2 := (s1.setDev .IMG_SLOTS_ACTIVE (bit d.slotB)).setDev .IMG_SLOTS_PROBATION (bit d.probation)
      if d.confirm then
        s2.devEvent 0x0A06 Sev.info 0xFFFF (detail64 (s.dev .IMG_ID_LO_ID_LO + 2 ^ 32 * s.dev .IMG_ID_HI_ID_HI))
      else s2

/-- POINTER_BLOCK_WRITE. -/
def execPointerBlockWrite (s : State) : Out := .next s.pointerWrite

/-! ### IMG.CMD -/

/-- CANCEL. -/
def State.imgCancel (s : State) : State :=
  if s.img = Img.ARMED then s.setImg Img.IDLE else s.revert Icf.CANCELLED 0 noPart

/-- CONFIRM: the pointer block is to be rewritten with PROBATION 0; a rewrite that is due already keeps its slot. -/
def State.imgConfirm (s : State) : State :=
  { s with pointerDue := some ⟨(s.pointerDue.map (fun d => d.slotB)).getD (s.devB .IMG_SLOTS_ACTIVE), false, true⟩ }

/-- Is a command allowed in the present state (R387)? -/
def State.imgAllows (s : State) (op : Nat) : Bool :=
  match op with
  | 1 => s.mayOpen
  | 2 => decide (s.img = Img.IDLE) || decide (s.img = Img.OPEN) || decide (s.img = Img.REFUSED)
  | 3 => decide (s.img = Img.ARMED)
  | 4 => decide (s.img = Img.ARMED) || s.staging
  | 5 => s.devB .IMG_SLOTS_PROBATION
  | _ => false

/-- The write of IMG.CMD with GO 1, dropped with LOST while a command is being taken (R400). The command acts at once; BUSY stands until the
µs ends. A reserved OP is no command (R42, R16). -/
def State.imgCmd (s : State) (op : Nat) : State :=
  if s.devB .IMG_CMD_STAT_BUSY then s.setDev .IMG_CMD_STAT_LOST 1
  else if !s.imgAllows op then (s.imgResult false).setDev .IMG_CMD_STAT_BUSY 1
  else
    let s1 := (s.imgResult true).setDev .IMG_CMD_STAT_BUSY 1
    match op with
    | 1 => s1.imgOpen
    | 2 => s1.imgArm
    | 3 => s1.imgActivate
    | 4 => s1.imgCancel
    | 5 => s1.imgConfirm
    | _ => s1

/-! ### IMG.SETCMD (R372, R386) -/

/-- The record IMG.SETREC0 to SETREC3 give. -/
def State.newRecord (s : State) : List Byte :=
  let w (k : Nat) (f : Fld) : List Byte := leBytes k (BitVec.ofNat (8 * k) (s.dev f))
  let head := w 4 .IMG_SETREC0_ADDR_LO ++ w 1 .IMG_SETREC1_ADDR_HI ++ [0x5A]
  let tail := w 4 .IMG_SETREC2_VALUE ++ w 4 .IMG_SETREC3_MASK
  head ++ leBytes 2 (crc16 (head ++ tail)) ++ tail

/-- APPEND of a record. -/
def State.settingAppend (s : State) (record : List Byte) : State :=
  let k := s.records.length
  if 2560 ≤ k then s.setDev .IMG_SETSTAT_RESULT 2
  else ({ s with flash := flashProgram s.flash (0x6000 + 16 * k) record }.setDev .IMG_SETSTAT_RESULT 1).setDev .IMG_SETSTAT_COUNT (k + 1)

/-- CLEAR. -/
def State.settingClear (s : State) : State :=
  ({ s with flash := flashErase s.flash 0x6000 0x10000 }.setDev .IMG_SETSTAT_RESULT 1).setDev .IMG_SETSTAT_COUNT 0

/-- The write of IMG.SETCMD with GO 1: the command runs until the µs ends (R400). While one runs, another is dropped: the spec gives SETSTAT no
LOST bit and says nothing of it. DESIGN CHOICE (assumption 121). -/
def State.setCmd (s : State) (op : Nat) : State :=
  if s.devB .IMG_SETSTAT_BUSY then s
  else match op with
    | 1 => { s with setJob := some (.append s.newRecord) }.setDev .IMG_SETSTAT_BUSY 1
    | 2 => { s with setJob := some .clear }.setDev .IMG_SETSTAT_BUSY 1
    | _ => s

/-- The µs ends: a setting command ends with it, and IMG.CMD_STAT.BUSY is 0 (R400). -/
def State.imgUs (s : State) : State :=
  let s1 := if s.devB .IMG_CMD_STAT_BUSY then s.setDev .IMG_CMD_STAT_BUSY 0 else s
  match s.setJob with
  | none => s1
  | some j =>
    let s2 := { s1 with setJob := none }.setDev .IMG_SETSTAT_BUSY 0
    match j with
    | .append r => s2.settingAppend r
    | .clear => s2.settingClear

end Sys2Proof.Machine
end

