-- ==== Sys2Proof/Machine/Access.lean ====
section
/-! DEFINITION. A Cage access to one word (R42): its outcome by gate, layer, address, level and reserved encodings (R16, R31, R50 to R58), and
what it does. -/

namespace Sys2Proof.Machine

/-- The outcome of a word (R42). -/
inductive WordOut | ok | byGate | busy | denied | badAddr
  deriving DecidableEq, Repr

/-- The Result code of an outcome (R43, R71, R72). -/
def WordOut.result : WordOut → Nat
  | .ok | .byGate => Res.OK
  | .busy => Res.BUSY
  | .denied => Res.DENIED
  | .badAddr => Res.BAD_ADDR

/-- Did a word succeed (R43)? -/
def WordOut.good : WordOut → Bool
  | .ok | .byGate => true
  | _ => false

/-! ### The level (R50 to R54) -/

/-- DEEP_OPEN of a scope. -/
def State.deepOpen (s : State) (sc : Nat) : Bool := if sc < 8 then s.getF .SHF_CTL_DEEP_OPEN sc 0 != 0 else s.devB .DEV_CTL_DEEP_OPEN

/-- R51: would writing `v` to a field count as a change of it? -/
def State.changes (s : State) (sc : Nat) (f : Fld) (e v : Nat) : Bool :=
  match f.desc.access with
  | .rw => decide (v ≠ s.fieldNow sc f e)
  | .w1c | .w1s | .wo => decide (v ≠ 0)
  | .ro | .rc => false

/-- R50, R51: would the write of a register change a Deep field? -/
def State.changesDeep (s : State) (sc : Nat) (r : Reg) (e : Nat) (v : Word) : Bool :=
  r.places.any (fun x => decide (x.1.desc.level = .deep) && s.changes sc x.1 (x.2.elem e) (fieldOf v x.1 x.2))

/-- R42: does a register hold only RO, RC and reserved fields? The GATE registers of ungateable blocks do (R58). -/
def Reg.readOnly (r : Reg) (e : Nat) : Bool :=
  r.places.all (fun x => decide (x.1.desc.access = .ro) || decide (x.1.desc.access = .rc))
    || ((decide (r = .SGATE) || decide (r = .DGATE)) && (blockOf e).ungateable)

/-! ### What no level opens -/

/-- R361: the portals of a shaft whose ENABLE is 1 bar writes of these formers. -/
def State.formersBarred (s : State) (n : Shaft) (p : Nat) : Bool := s.regB n .PTL_CFG_ENABLE p

/-- R361: any portal of the shaft has ENABLE 1. -/
def State.anyEnabled (s : State) (n : Shaft) : Bool := Oct.indices.any (fun p => s.regB n .PTL_CFG_ENABLE p.val)

/-- R396: IMG.WHEN may not be written from STAGING to COMMITTING. -/
def State.whenBarred (s : State) (r : Reg) : Bool :=
  (decide (r = .IMG_WHEN_LO) || decide (r = .IMG_WHEN_HI)) && decide (Img.STAGING ≤ s.img) && decide (s.img ≤ Img.COMMITTING)

/-- A register write that is refused whatever the level. -/
def State.regBarred (s : State) (sc : Nat) (r : Reg) (e : Nat) (v : Word) : Bool :=
  r.readOnly e || r.reservedIn v || keyWrong r v || s.whenBarred r
    || (if h : sc < 8 then decide (r = .PTL_CROUTE) && s.formersBarred ⟨sc, h⟩ (e / 16) else false)

/-- A write of storage that is refused whatever the level: what is RO to the Cage, a bank that is not IDLE (R213), formers of a portal with
ENABLE 1 (R361). -/
def State.storeBarred (s : State) (x : WordAt) : Bool :=
  match x with
  | .bank n b _ _ _ => !s.bankOpen n b
  | .fin n e _ => s.formersBarred n (e / 1024)
  | .feg n e _ => s.formersBarred n (e / 4096)
  | .ans n _ _ => s.anyEnabled n
  | .blkMem .. => false
  | _ => true

/-- Does the write of a word of storage count as a change? That of a bank always does (R213). -/
def State.changesStore (s : State) (x : WordAt) (v : Word) : Bool :=
  match x with
  | .bank .. => true
  | .blkMem _ _ _ 2 => decide (s.wordValue x ≠ v &&& 0xFF)
  | x => decide (s.wordValue x ≠ v)

/-- Is the write of a word DENIED? `hdr` is the state when the frame's header was accepted, whose DEEP_OPEN governs (R52). -/
def State.writeDenied (hdr s : State) (x : WordAt) (v : Word) : Bool :=
  match x with
  | .reg sc r e => s.regBarred sc r e v || (s.changesDeep sc r e v && !hdr.deepOpen sc)
  | x => s.storeBarred x || (s.changesStore x v && !hdr.deepOpen x.sc)

/-! ### The gate rule and BUSY (R31, R55 to R57) -/

/-- The outcome of every word of a block's window while it is gated or out of service; gates are those of when the header was accepted. A block
that returns from its gate answers BUSY, though HALTED is still 1 (R57). -/
def State.windowOut (hdr : State) (sc : Nat) (b : Block) : Option WordOut :=
  if hdr.gated sc b && !hdr.returning.contains (sc, b) then some .byGate else if hdr.blockBusy sc b then some .busy else none

/-- The same for a word; GATE and GATE_HITS answer normally (R56). -/
def State.shut (hdr : State) (x : WordAt) : Option WordOut := if x.isGate then none else hdr.windowOut x.sc x.blk

/-- GATE_HITS counts a word answered by the gate rule. -/
def State.gateHit (s : State) (sc : Nat) (b : Block) : State :=
  s.addF (if b.ofShaft then .SGATE_HITS_HITS else .DGATE_HITS_HITS) sc b.code

/-- What an address holds, as a frame accepted in state `hdr` meets it: the outcome when the window, or the absence of a word, decides it; else
the word. -/
inductive Meet
  | out (o : WordOut) (sc : Nat) (b : Block)
  | word (x : WordAt)
  deriving DecidableEq, Repr

/-- R42: the order of the outcomes, up to the level. -/
def State.meet (hdr : State) (a : Nat) : Meet :=
  match blockAt a with
  | none => .out .badAddr 8 .SVY
  | some w =>
    match wordAt w with
    | none =>
      match hdr.windowOut w.sc w.blk with
      | some o => .out o w.sc w.blk
      | none => .out .badAddr w.sc w.blk
    | some x =>
      match hdr.shut x with
      | some o => .out o w.sc w.blk
      | none => .word x

/-! ### Writing -/

/-- The write of a word that has been accepted. -/
def State.cageWrite (s : State) (x : WordAt) (v : Word) : State :=
  let s1 := s.writeWord x v
  match x with
  | .reg _ .IMG_CMD _ => if v.getLsbD 31 then s1.imgCmd (Reg.part .IMG_CMD v .IMG_CMD_OP) else s1
  | .reg _ .IMG_SETCMD _ => if v.getLsbD 31 then s1.setCmd (Reg.part .IMG_SETCMD v .IMG_SETCMD_OP) else s1
  | _ => s1

/-- A write at an address, in a frame whose header was accepted in state `hdr`. -/
def State.writeAt (hdr s : State) (a : Nat) (v : Word) : State × WordOut :=
  match hdr.meet a with
  | .out o sc b => (if o = .byGate then s.gateHit sc b else s, o)
  | .word x => if State.writeDenied hdr s x v then (s, .denied) else (s.cageWrite x v, .ok)

/-- The write of a word by a frame of its own, known by its register instead of its address: what it does, by outcome. -/
def State.writeAlone (s : State) (x : WordAt) (v : Word) (f : State → State) : State :=
  match s.shut x with
  | some o => if o = .byGate then s.gateHit x.sc x.blk else s
  | none => if State.writeDenied s s x v then s else f s

/-- The write of a register by a frame of its own. -/
def State.regWrite (s : State) (sc : Nat) (r : Reg) (e : Nat) (v : Word) : State :=
  s.writeAlone (.reg sc r e) v (fun a => a.cageWrite (.reg sc r e) v)

/-- A register word with these fields, the others 0. -/
def Reg.make (r : Reg) (l : List (Fld × Nat)) : Word :=
  r.places.foldl (fun a x =>
    a ||| (BitVec.ofNat 32 (((l.find? (fun y => decide (y.1 = x.1))).map (fun y => y.2 % 2 ^ x.1.desc.width)).getD 0) <<< x.2.lsb)) 0

/-- The word a register holds, with one field changed. -/
def State.regWith (s : State) (sc : Nat) (r : Reg) (e : Nat) (f : Fld) (v : Nat) : Word :=
  r.make (r.places.map (fun x => (x.1, if x.1 = f then v else s.fieldNow sc x.1 (x.2.elem e))))

/-! ### Reading -/

/-- A read at an address: the state after it, the word returned, the outcome. -/
def State.readAt (hdr s : State) (a : Nat) : State × Word × WordOut :=
  match hdr.meet a with
  | .out o sc b => (if o = .byGate then s.gateHit sc b else s, 0, o)
  | .word x => ((s.beforeRead x).readWord x, (s.beforeRead x).wordValue x, .ok)

end Sys2Proof.Machine
end

