-- ==== Sys2Proof/Machine/Resets.lean ====
section
/-! DEFINITION. The reset kinds (R403, R426 to R430, R437): POR, COLD, SHAFT, STOPE, PORTAL and FORE. -/

namespace Sys2Proof.Machine

/-- The ask of a Cage RESET is taken up. -/
def State.takeAsk (s : State) (r : ResetAsk) : State := { s with resetsDue := s.resetsDue.filter (fun x => x != r) }

/-! ### POR (R403) -/

/-- What POR leaves: everything at its reset value but the flash (R463), the strap and the commands that wait. The log is empty. -/
def State.porState (s : State) : State :=
  { State.reset with
    pending := s.pending, flash := s.cutWrites.flash, refsel := s.refsel, freeCtr := s.cutWrites.freeCtr, por := true, goodSince := 0, log := [], seq := 0
    rails := s.rails, resetN := s.resetN }

/-- Is every rail at or above its POR threshold? -/
def State.railsHold (s : State) : Bool := s.rails.all (fun r => decide (r ≠ 0))

/-! ### COLD (R427, R429) -/

/-- Fields that show state which COLD leaves alone: temperatures, the time follower, the AVSBus request. -/
def Fld.coldLive (f : Fld) : Bool :=
  match f with
  | .TIM_OFFSET_OFFSET | .TIM_STAT_LOCKED | .CAN_TEMP_READING | .CAN_TEMP_ESTIMATE | .CAN_TEMP_EFFECTIVE | .CAN_SENSOR_VALUE
  | .CAN_SHAFT_CAP | .CAN_SHAFT_FAST | .PWR_AVS_REQ_MV | .PWR_AVS_MON_MV => true
  | _ => false

/-- Is a field kept across COLD? The charter in force is held in the VAUX domain until the boot rebuilds it (R429). -/
def Fld.coldKept (f : Fld) : Bool := f.keeps .cold || f.coldLive || charterFields.any (fun x => decide (x.1 = f))

/-- The scrubbers' first pass begins (R320). -/
def ShaftSt.scrubFrom (h : ShaftSt) (now : Nat) : ShaftSt :=
  { h with scrub0 := { h.scrub0 with began := now }, scrub1 := { h.scrub1 with began := now } }

/-- A shaft after COLD: what the Canary knows of its sensors stays. -/
def ShaftSt.cold (h : ShaftSt) (now : Nat) : ShaftSt :=
  { ShaftSt.reset.scrubFrom now with
    thermal := { h.thermal with tripAt := 0, tripTime := 0, tripLayer := 0, coolSince := none }, limits := h.limits }

/-- COLD: the device is reset with VAUX held. A HOST_SILENT that stands is forgotten: no HOST_BACK follows for it. DESIGN CHOICE: R84 does not say
(assumption 110). -/
def State.cold (s : State) (source : Nat) (strap : Bool) : State :=
  let s1 := s.dropFields (fun f _ _ => !f.coldKept)
  let s2 : State :=
    { State.reset with
      pending := s.pending, regs := s1.regs, shafts := s.shafts.mapAll (fun _ h => h.cold s.up), up := s.up, fab := s.fab, frac := s.frac
      slew := s.slew, log := s.log, seq := s.seq, dropped := s.dropped, limits := s.limits, flash := s.cutWrites.flash, rails := s.rails
      resetN := true, refsel := strap, refFrom := s.up, offsets := s.offsets, timeSent := s.timeSent, timeSentAt := s.timeSentAt
      timeReplyAt := s.timeReplyAt, timeOffset := s.timeOffset, throttledAt := s.throttledAt, lowerAt := s.lowerAt, freeCtr := s.cutWrites.freeCtr
      cage := ⟨false, 0, false, none, none, s.up, false⟩ }
  (s2.setDev .CLK_CFG_REFSEL (bit strap)).devEvent 0x0002 Sev.info 0xFFFF (detail source)

/-- COLD_RESET: by RESET_N, or asked for by the Cage. -/
def State.coldReset (s : State) (pin strap : Bool) : State :=
  if s.por then s
  else if pin then s.cold 1 strap
  else if s.resetsDue.contains .cold then s.cold 2 strap
  else s

/-- COLD_RESET. -/
def execColdReset (pin strap : Bool) (s : State) : Out := .next (s.coldReset pin strap)

/-- POR: a rail falls below its threshold; or RESET_N is held low, which with every rail at or above its threshold is a COLD reset (R427) that samples
the strap (R107). A rail told between its threshold and its range, or back in range, is no POR; outside its range it stops every shaft (R29). -/
def State.porAssert (s : State) (c : PorCause) : State :=
  match c with
  | .rail i level =>
    if 7 ≤ i then s
    else if level = 0 then { s.porState with rails := s.rails.set i 0 }
    else { s with rails := s.rails.set i (min level 2), goodSince := if 2 ≤ level then s.goodSince else s.up }
  | .resetN strap =>
    if s.por then { s with resetN := false, refsel := strap, goodSince := s.up } else if s.railsHold then s.cold 1 strap else s

/-- POR. -/
def execPor (c : PorCause) (s : State) : Out := .next (s.porAssert c)

/-- POR_RELEASE: every rail has been in range with RESET_N high for 1 ms: POWER_ON is the first entry of the log (R80). -/
def State.porEnd (s : State) (strap : Bool) : State :=
  if s.por ∧ s.goodSince + 1000 ≤ s.up then
    ({ s with
        por := false, rails := [2, 2, 2, 2, 2, 2, 2], resetN := true, refsel := strap, refFrom := s.up, fab := 0, frac := 0, slew := 0
        shafts := s.shafts.mapAll (fun _ (h : ShaftSt) => { h.scrubFrom s.up with clock := 0 }) }.setDev
      .CLK_CFG_REFSEL
      (bit strap)).devEvent 0x0001 Sev.info
  else s

/-- POR_RELEASE. -/
def execPorRelease (strap : Bool) (s : State) : Out := .next (s.porEnd strap)

/-! ### SHAFT (R430) -/

/-- Every portal of the shaft goes link-down. The spec names no LINK_DOWN cause for it. -/
def State.portalsDown (s : State) (n : Shaft) : State :=
  s.eachPortal (fun p a =>
    if a.pst n p = Pst.DISABLED then a
    else
      let r := a.free
      r.2.takeDown n p Pst.DISABLED (Config.freeValue r.1 % 256))

/-- R221: a hewer that drains for a retirement becomes RETIRED. -/
def State.retireDraining (s : State) (n : Shaft) : State :=
  (s.sh n).retiring.foldl (fun (a : State) r => a.setReg n .HWR_UNIT_ROLE 3 r.hewer) s

/-- Is a shaft's field set back by a SHAFT reset? The lock of the tempo PLL shows a state the reset leaves alone. -/
def Fld.shaftDropped (f : Fld) : Bool := !f.keeps .shaft && decide (f ≠ .PCE_TPLL_LOCK)

/-- The shaft after a SHAFT reset, `lost` open tallies discarded: what R429 keeps, and what belongs to the device. -/
def ShaftSt.afterReset (h : ShaftSt) (lost now : Nat) : ShaftSt :=
  { ShaftSt.reset.scrubFrom now with
    retiredBlocks := h.retiredBlocks, thermal := h.thermal, test := h.test, holdoverAt := h.holdoverAt, steering := h.steering
    limits := h.limits, sliceTallies := lost, inReset := true }

/-- SHAFT_RESET: steps 1 to 4 of R430; the boot is due. -/
def State.shaftReset (s : State) (n : Shaft) : State :=
  if !s.resetsDue.contains (.shaft n.val) ∨ s.por then s
  else
    let s1 := ((s.takeAsk (.shaft n.val)).testCutShort n).revertIf true Icf.RESET
    let s2 := (s1.portalsDown n).retireDraining n
    let lost := ((s.sh n).tallies.filter (fun e => e.2.isOpen)).length
    let s3 := (s2.dropFields (fun f sc _ => decide (sc = n.val) && f.shaftDropped)).updSh n (fun h => h.afterReset lost s.up)
    let s4 := if s.doze n = 0 then s3 else s3.setDoze n 0
    ({ s4.setDev .PWR_SHAFT_DOZE 0 n.val with returning := s4.returning.filter (fun x => decide (x.1 ≠ n.val)) }.countSpares).fcPins n

/-- SHAFT_RESET. -/
def execShaftReset (sh : Shaft) (s : State) : Out := .next (s.shaftReset sh)

/-! ### STOPE (R316) -/

/-- Is a field set back by a STOPE reset of its stope? -/
def Fld.stopeDropped (f : Fld) : Bool :=
  [Block.STP, .CTX, .PCE].contains f.desc.blk && f.keeps .fore && !f.keeps .stope

/-- A started swap that stope `k` takes part in ends with RESET (R310). -/
def State.resetSwaps (s : State) (n : Shaft) (k : Nat) : State :=
  ((s.sh n).swaps.filter (fun w => !w.armed && w.members.contains k)).foldl (fun (a : State) w => a.swapAbort n w CtxRes.RESET k) s

/-- A preload of stope `k` ends with RESET. -/
def State.resetPreload (s : State) (n : Shaft) (k : Nat) : State :=
  if s.preloading n k then (s.updSh n (fun h => { h with preloads := Tbl.set none h.preloads k none })).ctxResult n CtxRes.RESET else s

/-- STOPE_RESET. -/
def State.stopeReset (s : State) (n : Shaft) (k : Nat) : State :=
  if !s.resetsDue.contains (.stope n.val k) ∨ 128 ≤ k ∨ s.por then s
  else
    let s1 := (((s.takeAsk (.stope n.val k)).testAbortStope n k).resetSwaps n k).resetPreload n k
    let s2 := (s1.revertIf (s1.actMember n k) Icf.RESET).dropFields (fun f sc e => decide (sc = n.val) && decide (e = k) && f.stopeDropped)
    s2.initStope n k

/-- STOPE_RESET. -/
def execStopeReset (sh : Shaft) (k : Nat) (s : State) : Out := .next (s.stopeReset sh k)

/-! ### PORTAL and FORE -/

/-- PORTAL_RESET (R426). -/
def execPortalReset (sh : Shaft) (p : Portal) (s : State) : Out :=
  .next (if s.resetsDue.contains (.portal sh.val p.val) then (s.takeAsk (.portal sh.val p.val)).portalReset sh p else s)

/-- FORE_RESTART (R437): a FORE reset reverts an activation that stages or is staged (R396). -/
def State.foreReset (s : State) (c : ForeCause) : State :=
  match c with
  | .asked =>
    if s.resetsDue.contains .fore then
      let s1 := s.takeAsk .fore
      if s.boot = .done then (s1.revertIf true Icf.RESET).foreRestart Fcause.CAGE else s1
    else s
  | .lockstep => if s.foreUp then (s.revertIf true Icf.RESET).foreRestart Fcause.LOCKSTEP else s
  | .heartbeat => if s.foreUp then (s.revertIf true Icf.RESET).foreRestart Fcause.HEARTBEAT else s

/-- FORE_RESTART. -/
def execForeRestart (c : ForeCause) (s : State) : Out := .next (s.foreReset c)

end Sys2Proof.Machine
end

