-- ==== Sys2Proof/Machine/Lamp.lean ====
section
/-! DEFINITION. The Lamp and the attention mask (R77 to R79). -/

namespace Sys2Proof.Machine

/-- Lamp values (R77). -/
def Lamp.CLEAR : Nat := 0x0
def Lamp.NOTICE : Nat := 0x1
def Lamp.ARMED : Nat := 0x2
def Lamp.ATTENTION : Nat := 0x3
def Lamp.DEGRADED : Nat := 0x4
def Lamp.HANDOVER : Nat := 0x5
def Lamp.WARM : Nat := 0x6
def Lamp.HOLD : Nat := 0x7
def Lamp.LOADING : Nat := 0x8
def Lamp.COOLING : Nat := 0x9
def Lamp.GUARD : Nat := 0xA
def Lamp.FAULT : Nat := 0xB

/-- The sticky causes of a shaft (R452). -/
def State.shaftAttn (s : State) (n : Shaft) : Bool :=
  [Fld.SHF_ATTN_TALLY_ABANDONED, .SHF_ATTN_DIR_UNCORR, .SHF_ATTN_SCB_STUCK, .SHF_ATTN_SCB_FRAME_LOST, .SHF_ATTN_SENSOR_BROKEN,
   .SHF_ATTN_BST_FAIL, .SHF_ATTN_LODE_UNCORR].any (fun f => s.regB n f)

/-- The device-common sticky causes (R453). -/
def State.devAttn (s : State) : Bool :=
  [Fld.DEV_ATTN_FORE_UNPLANNED, .DEV_ATTN_BOOT_FALLBACK, .DEV_ATTN_PROBATION_ROLLBACK, .DEV_ATTN_AVS_FAULT, .DEV_ATTN_SETTING_SKIPPED].any
    (fun f => s.devB f)

/-- Has the shaft a retired hewer (R218)? -/
def State.hewerRetired (s : State) (n : Shaft) : Bool := (List.range 52).any (fun h => decide (s.hewRole n h = 3))

/-- R219: has a cluster of the shaft a hewer out of service that no spare covers: fewer than 12 ACTIVE? -/
def State.clusterShort (s : State) (n : Shaft) : Bool :=
  (List.range 4).any (fun c => decide (((List.range 13).filter (fun i => decide (s.hewRole n (13 * c + i) = 0))).length < 12))

/-- Scrubber states: is one stopped, are both (R324)? -/
def State.oneStopped (s : State) (n : Shaft) : Bool := decide (s.scb n false = Scb.STOPPED) || decide (s.scb n true = Scb.STOPPED)
def State.bothStopped (s : State) (n : Shaft) : Bool := decide (s.scb n false = Scb.STOPPED) && decide (s.scb n true = Scb.STOPPED)

/-- R98: are the four links of a group retired? -/
def State.groupRetired (s : State) (n : Shaft) : Bool :=
  (List.range 4).any (fun g => decide (s.reg n .HAU_VLINK_RETIRED / 2 ^ (4 * g) % 16 = 15))

/-- R323: is a stope out of service because the slot of its active context is BAD and could not be reloaded? -/
def State.stopeLost (s : State) (n : Shaft) : Bool :=
  decide ((s.sh n).boot = .done) && !s.seamsOut n && (List.range 128).any (fun k =>
    decide ((s.stope n k).active = []) && decide (s.reg n .CTX_SLOT_STATE (8 * k + s.reg n .CTX_STOPE_ACTIVE k) = Slt.BAD))

/-- R414: a broken sensor or a SUSPECT group of the shaft. -/
def State.sensorDoubt (s : State) (n : Shaft) : Bool :=
  (List.range 30).any (fun k => s.devB .CAN_SENSOR_BROKEN (30 * n.val + k)) || (List.range 5).any (fun l => s.devB .CAN_TEMP_SUSPECT (5 * n.val + l))

/-- The conditions of a shaft. -/
def State.shaftConditions (s : State) (n : Shaft) : List (Nat × Bool) :=
  let h := s.sh n
  let t := s.timing n
  [(Lamp.ATTENTION, s.shaftAttn n),
   (Lamp.DEGRADED, s.hewerRetired n || s.oneStopped n || !h.retiredBlocks.isEmpty || !h.quarantined.isEmpty
      || decide (s.reg n .HAU_VLINK_RETIRED ≠ 0) || decide (t = Tmg.LOOP) || decide (t = Tmg.HOLDOVER)
      || s.sensorDoubt n),
   (Lamp.HANDOVER, h.flipAt.isSome),
   (Lamp.WARM, h.thermal.warm),
   (Lamp.HOLD, decide (t = Tmg.START_HOLD) || decide (s.thermal n = 4)),
   (Lamp.COOLING, decide (1 ≤ s.thermal n) && decide (s.thermal n ≤ 3)),
   (Lamp.GUARD, (s.dev .GRD_HIT_SHAFT).testBit n.val),
   (Lamp.FAULT, s.clusterShort n || s.bothStopped n || s.groupRetired n || decide (t = Tmg.ADRIFT) || decide (s.thermal n = 3)
      || (decide (h.boot = .failed) && decide (s.boot ≠ .failed)) || s.stopeLost n)]

/-- The conditions of the device. -/
def State.devConditions (s : State) : List (Nat × Bool) :=
  [(Lamp.NOTICE, !s.log.isEmpty),
   (Lamp.ARMED, decide (s.img = Img.ARMED) || s.devB .IMG_SLOTS_PROBATION),
   (Lamp.ATTENTION, s.devAttn),
   (Lamp.HANDOVER, decide (Img.STAGING ≤ s.img) && decide (s.img ≤ Img.COMMITTING)),
   (Lamp.LOADING, decide (s.boot = .due) && !s.anyStartHeld),
   (Lamp.FAULT, decide (s.boot = .failed))]

/-- The highest value present of some conditions. -/
def highest (l : List (Nat × Bool)) : Nat := maxOf ((l.filter (fun x => x.2)).map (fun x => x.1))

/-- The Lamp (R78). -/
def State.lamp (s : State) : BitVec 4 := BitVec.ofNat 4 (highest (s.devConditions ++ Oct.indices.flatMap (fun n => s.shaftConditions n)))

/-- Bit `n` of ATTN (R79). -/
def State.attnBit (s : State) (n : Shaft) : Bool :=
  decide (Lamp.ATTENTION ≤ highest (s.shaftConditions n)) || s.log.any (fun e => decide (e.source.toNat = n.val))

/-- ATTN (R79). -/
def State.attn (s : State) : BitVec 8 := BitVec.ofNat 8 (Oct.indices.foldl (fun a n => if s.attnBit n then a + 2 ^ n.val else a) 0)

/-- R419, R423: is output THERMTRIP_N driven low? While any shaft is STOPPING, COOLING or HALTED. -/
def State.thermtrip (s : State) : Bool := Oct.indices.any (fun n => decide (1 ≤ s.thermal n) && decide (s.thermal n ≤ 3))

/-- R260: is output FC_S<n>_<k>_N driven low? -/
def State.fcLow (s : State) (n : Shaft) (k : Nat) : Bool := (s.reg n .QMG_FC_PINS).testBit k

end Sys2Proof.Machine
end

