-- ==== Sys2Proof/Machine/Cage.lean ====
section
/-! DEFINITION. The Cage (R59 to R84): command frames, the order of their checks, replies, and the opcodes. -/

namespace Sys2Proof.Machine

/-! ### Contact (R84) -/

/-- Since when silence is counted. -/
def CageSt.since (c : CageSt) : Nat := max c.contact c.readyAt

/-- A command phase of at least 24 nibbles is host contact; after HOST_SILENT it writes HOST_BACK. -/
def State.hostContact (s : State) : State :=
  let s1 := if s.cage.silent then s.devEvent 0x0004 Sev.info 0xFFFF (detail64 (1000 * (s.up - s.cage.since))) else s
  { s1 with cage := { s1.cage with contact := s.up, silent := false } }

/-- R84: the contact a command phase shows: its own, when it delivers 24 nibbles, and that of the reply phase before it, which was completed unless
it was cut short (R61, R74). No row says when a reply phase is completed (assumption 95). -/
def State.phaseContact (s : State) (nibbles : Nat) : State := if 24 ≤ nibbles ∨ s.cage.replyDue then s.hostContact else s

/-- R84: a reply phase that is due may have been completed by now, at a moment between the last contact and now that stays open (assumption 95). It
is contact then. -/
def State.replyDone (s : State) : State :=
  if !s.cage.replyDue then s
  else
    let r := s.free
    let gap := s.up - s.cage.since
    let v := Config.freeValue r.1 % (gap + 2)
    if v ≤ gap then { r.2 with cage := { s.cage with contact := s.cage.since + v, replyDue := false } } else r.2

/-- No contact for SILENCE_MS. -/
def State.silence (s : State) : State :=
  let ms := s.dev .CGE_CFG_SILENCE_MS
  if s.cage.ready && !s.cage.silent && decide (s.cage.since + 1000 * ms ≤ s.up) then
    { s.devEvent 0x0003 Sev.notice 0xFFFF (detail ms) with cage := { s.cage with silent := true } }
  else s

/-- HOST_SILENT: silence is counted from the last contact, a completed reply phase included. -/
def State.goSilent (s : State) : State := if s.cage.ready && !s.cage.silent then s.replyDone.silence else s

/-- HOST_SILENT. -/
def execHostSilent (s : State) : Out := .next s.goSilent

/-- CAGE_READY (R469, R76). -/
def State.cageReady (s : State) : State :=
  if s.por || s.cage.ready then s else { s with cage := { s.cage with ready := true, readyAt := s.up, replyDue := false } }

/-- CAGE_READY. -/
def execCageReady (s : State) : Out := .next s.cageReady

/-- REPLY_CUT_SHORT (R74): the reply phase is over; the command's effects stand and the reply stays stored. -/
def execReplyCutShort (s : State) : Out := .next { s with cage := { s.cage with replyDue := false } }

/-! ### What comes before an access (R76) -/

/-- A reset that was asked for begins. The REFSEL pin stands as it was last seen. -/
def State.beginReset (s : State) (r : ResetAsk) : State :=
  match r with
  | .cold => s.coldReset false s.refsel
  | .shaft n => s.shaftReset (shaftOf n)
  | .stope n k => s.stopeReset (shaftOf n) k
  | .fore => s.foreReset .asked
  | .portal n p => if s.resetsDue.contains r then (s.takeAsk r).portalReset (shaftOf n) (portalOf p) else s

/-- R76: a reset begins at the end of the reply phase, at the latest 100 µs after its reply is ready, so before the next command phase is taken. -/
def State.beginResets (s : State) : State := s.resetsDue.foldl State.beginReset s

/-- What the Cage does on an access: nothing while it is not ready (R76, R469), also when a COLD reset that was due begins now. -/
def State.cageTurn (s : State) (f : State → State) : State :=
  if !s.cage.ready then s
  else if s.resetsDue = [] then f s
  else if s.beginResets.cage.ready then f s.beginResets else s.beginResets

/-! ### Opcodes (R65) -/

/-- What the checks need to know of an opcode. -/
structure Opcode where
  code : Byte
  isIn : Bool
  aligned : Bool
  args : Bool
  len : Nat → Bool

/-- The opcodes. -/
def Opc.poll : Opcode := ⟨0x00, false, false, false, fun k => decide (k = 0)⟩
def Opc.read : Opcode := ⟨0x01, false, true, false, fun k => decide (k ≤ 1024)⟩
def Opc.write : Opcode := ⟨0x02, true, true, false, fun k => decide (k ≤ 1024)⟩
def Opc.readFix : Opcode := ⟨0x03, false, true, false, fun k => decide (k ≤ 1024)⟩
def Opc.writeFix : Opcode := ⟨0x04, true, true, false, fun k => decide (k ≤ 1024)⟩
def Opc.eventRead : Opcode := ⟨0x05, false, false, false, fun k => decide (k ≤ 1024) && decide (k % 8 = 0)⟩
def Opc.timeSet : Opcode := ⟨0x06, true, false, false, fun k => decide (k = 0) || decide (k = 2)⟩
def Opc.updateStream : Opcode := ⟨0x07, true, true, false, fun k => decide (k ≤ 1024)⟩
def Opc.reset : Opcode := ⟨0x08, true, false, false, fun k => decide (k ≤ 1)⟩
def Opc.selftestStart : Opcode := ⟨0x09, true, false, false, fun k => decide (k ≤ 1)⟩
def Opc.selftestStatus : Opcode := ⟨0x0A, false, false, true, fun k => decide (k ≤ 8)⟩
def Opc.replay : Opcode := ⟨0x0B, false, false, false, fun k => decide (k ≤ 1)⟩

/-! ### Replies (R69 to R72) -/

/-- LEN of a frame. -/
def Frame.words (f : Frame) : Nat := (f.len.extractLsb' 0 11).toNat

/-- The address of a frame. -/
def Frame.address (f : Frame) : Nat := f.addr.toNat

/-- Bytes 0 to 9 of a frame's header (R63). -/
def Frame.header (f : Frame) (opcode : Byte) : List Byte :=
  [opcode, f.tag] ++ leBytes 5 f.addr ++ leBytes 2 f.len ++ [f.arg]

/-- R68: check 1: at least 24 nibbles, and HCRC the CRC-16 of the header (R63, R64). -/
def Frame.headerGood (f : Frame) (opcode : Byte) : Bool := decide (24 ≤ f.nibbles) && decide (f.hcrc = crc16 (f.header opcode))

/-- R68: checks 1 and 3 to 5: the Result of the first that fails, OK when they pass. -/
def Frame.check (f : Frame) (o : Opcode) : Nat :=
  let k := f.words
  let body := o.isIn && decide (0 < k)
  if !f.headerGood o.code then Res.BAD_CRC
  else if !o.len k || decide (f.len.extractLsb' 11 5 ≠ 0) || decide (f.addr.extractLsb' 36 4 ≠ 0) || (!o.args && decide (f.arg ≠ 0))
      || decide (f.nibbles ≠ 24 + if body then 8 * k + 8 else 0) || (body && decide (f.data.length ≠ k)) then Res.BAD_LEN
  else if body && decide (f.dcrc ≠ crc32 (f.data.flatMap (leBytes 4))) then Res.DATA_CRC
  else if o.aligned && decide (f.address % 4 ≠ 0) then Res.BAD_ADDR
  else Res.OK

/-- Bytes 0 to 5 of a reply (R69). -/
def Reply.header (lamp result : BitVec 4) (attn : BitVec 8) (tag opcode : Byte) (len : BitVec 16) : List Byte :=
  [lamp ++ result, attn, tag, opcode] ++ leBytes 2 len

/-- A reply: LEN counts its data words; its CRCs are those of R64. -/
def Reply.make (lamp result : BitVec 4) (attn : BitVec 8) (tag opcode : Byte) (data : List Word) : Reply :=
  let len := BitVec.ofNat 16 data.length
  ⟨lamp, result, attn, tag, opcode, len, crc16 (Reply.header lamp result attn tag opcode len), data,
   if data = [] then none else some (crc32 (data.flatMap (leBytes 4)))⟩

/-- The bytes of a reply as the device drives them (R61, R69). -/
def Reply.bytes (r : Reply) : List Byte :=
  Reply.header r.lamp r.result r.attn r.tag r.opcode r.len ++ leBytes 2 r.hcrc ++ r.data.flatMap (leBytes 4) ++
    (match r.dcrc with
     | none => []
     | some c => leBytes 4 c)

/-- CGE.LAST_FAIL. -/
def State.lastFail (s : State) (word outcome : Nat) : State := (s.setDev .CGE_LAST_FAIL_WORD word).setDev .CGE_LAST_FAIL_OUTCOME outcome

/-- What an operation leaves: the state, the Result, the words returned, and the word and outcome LAST_FAIL names. -/
structure Done where
  st : State
  res : Nat
  data : List Word
  word : Nat
  outcome : Nat

/-- An operation that succeeds as a whole. -/
def Done.ok (s : State) (data : List Word) : Done := ⟨s, Res.OK, data, 0, 0⟩

/-- An operation with one Result: LAST_FAIL names it unless it is OK or EMPTY. -/
def Done.whole (s : State) (r : Nat) : Done := ⟨s, r, [], 0, if r = Res.OK ∨ r = Res.EMPTY then 0 else r⟩

/-- The reply is built, sent and, but for a frame that failed check 1, stored (R69, R74, R78). -/
def State.answer (s : State) (f : Frame) (code : Byte) (d : Done) (keep : Bool) : State :=
  let s1 := d.st.lastFail d.word d.outcome
  let r := Reply.make s1.lamp (BitVec.ofNat 4 d.res) s1.attn f.tag code d.data
  { s1 with cage := { s1.cage with replyDue := true, sent := some r, stored := if keep then some r else s.cage.stored } }

/-- CGE.STAT counts a frame answered BAD_CRC or DATA_CRC. -/
def State.countBad (s : State) (r : Nat) : State :=
  if r = Res.BAD_CRC then s.addDev .CGE_STAT_BAD_HDR else if r = Res.DATA_CRC then s.addDev .CGE_STAT_BAD_DATA else s

/-- The command phase of a frame (R61 to R72): checked; a poll frame does nothing (R66); else its operation. -/
def State.phase (s : State) (f : Frame) (o : Opcode) (act : State → Done) : State :=
  let s1 := s.phaseContact f.nibbles
  let r := f.check o
  if r ≠ Res.OK then s1.answer f o.code ⟨s1.countBad r, r, [], 0, 0⟩ (decide (r ≠ Res.BAD_CRC))
  else if f.words = 0 then s1.answer f o.code (Done.ok s1 []) true
  else s1.answer f o.code (act s1) true

/-- A command phase with an opcode, as the Cage takes it. -/
def State.frame (s : State) (f : Frame) (o : Opcode) (act : State → Done) : State := s.cageTurn (fun a => a.phase f o act)

/-! ### Words (R42, R43) -/

/-- What a burst has met so far: the state, the words read, the number of words, how many succeeded, and the first that failed. -/
structure Burst where
  st : State
  data : List Word
  count : Nat
  good : Nat
  bad : Option (Nat × Nat)

/-- Nothing yet. -/
def Burst.zero (s : State) : Burst := ⟨s, [], 0, 0, none⟩

/-- One word more. -/
def Burst.add (b : Burst) (s : State) (l : List Word) (o : WordOut) : Burst :=
  ⟨s, b.data ++ l, b.count + 1, b.good + bit o.good, if o.good then b.bad else b.bad.orElse (fun _ => some (b.count, o.result))⟩

/-- The Result of a burst (R43) and what LAST_FAIL shows of it (R72). -/
def Burst.done (b : Burst) : Done :=
  match b.bad with
  | none => ⟨b.st, Res.OK, b.data, 0, 0⟩
  | some (i, r) => ⟨b.st, if 0 < b.good then Res.PARTIAL else r, b.data, i, r⟩

/-- READ and READ_FIX: `k` words at these addresses. -/
def State.readWords (s : State) (l : List Nat) : Done :=
  (l.foldl (fun (b : Burst) a =>
    let r := s.readAt b.st a
    b.add r.1 [r.2.1] r.2.2) (Burst.zero s)).done

/-- WRITE and WRITE_FIX: these words at these addresses. -/
def State.writeWords (s : State) (l : List (Nat × Word)) : Done :=
  (l.foldl (fun (b : Burst) x =>
    let r := s.writeAt b.st x.1 x.2
    b.add r.1 [] r.2) (Burst.zero s)).done

/-- The addresses of a burst; they do not wrap (R42). -/
def Frame.upward (f : Frame) : List Nat := (List.range f.words).map (fun i => f.address + 4 * i)

/-- POLL. -/
def execPoll (f : Frame) (s : State) : Out := .next (s.frame f Opc.poll (fun a => Done.ok a []))

/-- READ. -/
def execRead (f : Frame) (s : State) : Out := .next (s.frame f Opc.read (fun a => a.readWords f.upward))

/-- WRITE. -/
def execWrite (f : Frame) (s : State) : Out := .next (s.frame f Opc.write (fun a => a.writeWords (f.upward.zip f.data)))

/-- READ_FIX. -/
def execReadFix (f : Frame) (s : State) : Out :=
  .next (s.frame f Opc.readFix (fun a => a.readWords (List.replicate f.words f.address)))

/-- WRITE_FIX. -/
def execWriteFix (f : Frame) (s : State) : Out :=
  .next (s.frame f Opc.writeFix (fun a => a.writeWords (f.data.map (fun v => (f.address, v)))))

/-! ### The other opcodes -/

/-- The eight words of a log entry (R81). -/
def LogEntry.words (e : LogEntry) : List Word :=
  let b : BitVec 256 := (0#16 ++ e.dropped) ++ e.detail ++ (e.seq ++ e.unit) ++ (e.source ++ e.severity ++ e.code) ++ e.time
  (List.range 8).map (fun i => b.extractLsb' (32 * i) 32)

/-- EVENT_READ (R83). -/
def State.eventRead (s : State) (k : Nat) : Done :=
  let l := s.log.take (k / 8)
  ⟨{ s with log := s.log.drop (k / 8) }, if l = [] then Res.EMPTY else Res.OK, l.flatMap LogEntry.words, 0, 0⟩

/-- EVENT_READ. -/
def execEventRead (f : Frame) (s : State) : Out := .next (s.frame f Opc.eventRead (fun a => a.eventRead f.words))

/-- TIME_SET (R65, R116): the counter takes the value sent; an offset still being slewed no longer applies. -/
def State.timeSet (s : State) (l : List Word) : Done :=
  if s.devB .TIM_CFG_SOURCE || !s.devB .DEV_CTL_DEEP_OPEN then Done.whole s Res.DENIED
  else Done.whole { s with fab := l.getD 1 0 ++ l.getD 0 0, frac := 0, slew := 0 } Res.OK

/-- TIME_SET. -/
def execTimeSet (f : Frame) (s : State) : Out := .next (s.frame f Opc.timeSet (fun a => a.timeSet f.data))

/-- UPDATE_STREAM (R388). -/
def execUpdateStream (f : Frame) (s : State) : Out :=
  .next (s.frame f Opc.updateStream (fun a =>
    let r := a.stream f.address f.data
    Done.whole r.1 r.2))

/-- REPLAY (R74): the stored reply is sent again unchanged and stays stored; before any command has completed the reply is empty. -/
def State.replayFrame (s : State) (f : Frame) : State :=
  let s1 := s.phaseContact f.nibbles
  let r := f.check Opc.replay
  let own (x : State) (q : Nat) : Reply := Reply.make x.lamp (BitVec.ofNat 4 q) x.attn f.tag Opc.replay.code []
  let s2 := s1.countBad r
  let reply := if r ≠ Res.OK then own s2 r else if f.words = 0 then own s1 Res.OK else s1.cage.stored.getD (own s1 Res.OK)
  { s2 with cage := { s2.cage with replyDue := true, sent := some reply } }

/-- REPLAY. -/
def execReplay (f : Frame) (s : State) : Out := .next (s.cageTurn (fun a => a.replayFrame f))

/-- SELFTEST_STATUS (R450). -/
def State.statusRead (s : State) (f : Frame) (w : PowerNow) : Done :=
  if h : f.arg.toNat < 8 then
    let n : Shaft := ⟨f.arg.toNat, h⟩
    Done.ok s ((s.testStatus n (BitVec.ofNat 32 (s.testWord n)) w).take f.words)
  else ⟨s, Res.DENIED, List.replicate f.words 0, 0, Res.DENIED⟩

/-- SELFTEST_STATUS. -/
def execSelftestStatus (f : Frame) (w : PowerNow) (s : State) : Out :=
  .next (s.frame f Opc.selftestStatus (fun a => a.statusRead f w))

/-! ### RESET (R67, R76) -/

/-- The data word of a frame. -/
def Frame.word (f : Frame) : Word := f.data.headD 0

/-- Does a frame with a data word belong to the row of `kind`? One with a reserved kind belongs to any. -/
def Frame.isKind (f : Frame) (kinds : List Nat) (kind : Nat) : Bool :=
  let k := (f.word.extractLsb' 0 4).toNat
  decide (f.words = 0) || decide (k = kind) || !kinds.contains k

/-- R67: the reset a data word asks for; none when it is refused with DENIED whatever DEEP_OPEN holds. -/
def resetAsked (v : Word) : Option ResetAsk :=
  let n := (v.extractLsb' 4 4).toNat
  let u := (v.extractLsb' 8 7).toNat
  if v.extractLsb' 15 17 ≠ 0 ∨ 8 ≤ n then none
  else match (v.extractLsb' 0 4).toNat with
    | 1 => if n = 0 ∧ u = 0 then some .cold else none
    | 2 => if u = 0 then some (.shaft n) else none
    | 3 => some (.stope n u)
    | 4 => if n = 0 ∧ u = 0 then some .fore else none
    | 5 => if u < 8 then some (.portal n u) else none
    | _ => none

/-- The scope whose DEEP_OPEN a reset needs. -/
def ResetAsk.scope : ResetAsk → Nat
  | .cold | .fore => 8
  | .shaft n | .stope n _ | .portal n _ => n

/-- R428: a PORTAL reset of a shaft in an Adit slice reset, and a STOPE reset of one in a Lode slice reset, are answered BUSY. -/
def State.resetBusy (s : State) (r : ResetAsk) : Bool :=
  match r with
  | .portal n _ => decide (s.slice (shaftOf n) ≠ 0) && s.sliceAdit (shaftOf n)
  | .stope n _ => decide (s.slice (shaftOf n) ≠ 0) && !s.sliceAdit (shaftOf n)
  | _ => false

/-- RESET: judged, and begun after its reply (R76). -/
def State.resetOp (s : State) (v : Word) : Done :=
  match resetAsked v with
  | none => Done.whole s Res.DENIED
  | some r =>
    if !s.deepOpen r.scope then Done.whole s Res.DENIED
    else if s.resetBusy r then Done.whole s Res.BUSY
    else Done.whole { s with resetsDue := if s.resetsDue.contains r then s.resetsDue else s.resetsDue ++ [r] } Res.OK

/-- A RESET frame of one kind. -/
def State.resetFrame (s : State) (f : Frame) (kind : Nat) : State :=
  if f.isKind [1, 2, 3, 4, 5] kind then s.frame f Opc.reset (fun a => a.resetOp f.word) else s

/-- RESET of KIND COLD. -/
def execResetCold (f : Frame) (s : State) : Out := .next (s.resetFrame f 1)

/-- RESET of KIND SHAFT. -/
def execResetShaft (f : Frame) (s : State) : Out := .next (s.resetFrame f 2)

/-- RESET of KIND STOPE. -/
def execResetStope (f : Frame) (s : State) : Out := .next (s.resetFrame f 3)

/-- RESET of KIND FORE. -/
def execResetFore (f : Frame) (s : State) : Out := .next (s.resetFrame f 4)

/-- RESET of KIND PORTAL. -/
def execResetPortal (f : Frame) (s : State) : Out := .next (s.resetFrame f 5)

/-! ### SELFTEST_START (R443, R444, R448) -/

/-- SELFTEST_START with this data word. -/
def State.selftestOp (s : State) (v : Word) (w : PowerNow) : Done :=
  let unit := (v.extractLsb' 0 4).toNat
  let sh := (v.extractLsb' 4 4).toNat
  let target := (v.extractLsb' 8 11).toNat
  if v.extractLsb' 20 12 ≠ 0 ∨ testTargets unit ≤ target then Done.whole s Res.DENIED
  else if h : sh < 8 then
    if unit = Bst.ABORT then Done.whole (s.testAbort ⟨sh, h⟩) Res.OK
    else
      let r := s.testStart ⟨sh, h⟩ unit target (v.getLsbD 19) w
      Done.whole r.1 (if r.2 then Res.OK else Res.BUSY)
  else Done.whole s Res.DENIED

/-- A SELFTEST_START frame of one unit. -/
def State.selftestFrame (s : State) (f : Frame) (unit : Nat) (w : PowerNow) : State :=
  if f.isKind [1, 2, 3, 4, 5, 15] unit then s.frame f Opc.selftestStart (fun a => a.selftestOp f.word w) else s

/-- SELFTEST_START of a Lode block. -/
def execSelftestLodeBlock (f : Frame) (w : PowerNow) (s : State) : Out := .next (s.selftestFrame f Bst.LODE_BLOCK w)

/-- SELFTEST_START of a hewer. -/
def execSelftestHewer (f : Frame) (w : PowerNow) (s : State) : Out := .next (s.selftestFrame f Bst.HEWER w)

/-- SELFTEST_START of a stope. -/
def execSelftestStope (f : Frame) (w : PowerNow) (s : State) : Out := .next (s.selftestFrame f Bst.STOPE w)

/-- SELFTEST_START of a Plan slot. -/
def execSelftestPlanSlot (f : Frame) (w : PowerNow) (s : State) : Out := .next (s.selftestFrame f Bst.PLAN_SLOT w)

/-- SELFTEST_START of a lane. -/
def execSelftestLane (f : Frame) (w : PowerNow) (s : State) : Out := .next (s.selftestFrame f Bst.LANE w)

/-- SELFTEST_START with UNIT ABORT. -/
def execSelftestAbort (f : Frame) (s : State) : Out := .next (s.selftestFrame f Bst.ABORT ⟨0, 0⟩)

/-! ### Damaged headers (R68) -/

/-- DAMAGED_HEADER_FRAME: a frame too short or with a wrong HCRC is answered BAD_CRC; one with a reserved OPCODE, UNKNOWN_OP, and its reply is
stored. A frame with neither fault is none of this row's. -/
def State.damagedFrame (s : State) (opcode : Byte) (f : Frame) : State :=
  let bad := !f.headerGood opcode
  if !bad ∧ opcode.toNat ≤ 0x0B then s
  else
    let s1 := s.phaseContact f.nibbles
    let r := if bad then Res.BAD_CRC else Res.UNKNOWN_OP
    s1.answer f opcode ⟨s1.countBad r, r, [], 0, 0⟩ (!bad)

/-- DAMAGED_HEADER_FRAME: the OPCODE and the HCRC are those received. -/
def execDamagedHeaderFrame (opcode : Byte) (hcrc : BitVec 16) (f : Frame) (s : State) : Out :=
  .next (s.cageTurn (fun a => a.damagedFrame opcode { f with hcrc := hcrc }))

end Sys2Proof.Machine
end

