-- ==== Sys2Proof/Machine/Commands.lean ====
section
/-! DEFINITION. The commands that are the write or the read of one word: each is a Cage access of its own, judged by R42 and then carried out
(R12), once the Cage takes one (R76). Rows that name a field build the register's word: a command register's other fields as the row gives them, a settings register's other
fields as they stand. -/

namespace Sys2Proof.Machine

/-- A written word with one field of it read back. -/
def Reg.asks (r : Reg) (v : Word) (f : Fld) (x : Nat) : Bool := decide (r.part v f = x)

/-- REGISTER_WRITE (R42). -/
def execRegisterWrite (addr : Nat) (v : Word) (s : State) : Out := .next (s.cageTurn (fun s => (State.writeAt s s addr v).1))

/-- RC_READ (R12). -/
def execRcRead (addr : Nat) (s : State) : Out := .next (s.cageTurn (fun s => (State.readAt s s addr).1))

/-- The read of a register by a frame of its own. -/
def State.regRead (s : State) (sc : Nat) (r : Reg) (e : Nat) : State :=
  match s.shut (.reg sc r e) with
  | some o => if o = .byGate then s.gateHit sc r.blk else s
  | none => s.readReg sc r e

/-- TIM_NOW_READ (R115, R116). -/
def execTimNowRead (s : State) : Out := .next (s.cageTurn (fun s => s.regRead 8 .TIM_NOW_LO 0))

/-- SHF_DEEP_OPEN (R54). -/
def execShfDeepOpen (sh : Shaft) (v : Word) (s : State) : Out := .next (s.cageTurn (fun s => s.regWrite sh.val .SHF_CTL 0 v))

/-- DEV_DEEP_OPEN (R54). -/
def execDevDeepOpen (v : Word) (s : State) : Out := .next (s.cageTurn (fun s => s.regWrite 8 .DEV_CTL 0 v))

/-- LODE_SLICE_RESET (R433): a write of SHF.CTL whose SLICE is 0b01. -/
def execLodeSliceReset (sh : Shaft) (v : Word) (s : State) : Out :=
  .next (s.cageTurn (fun s => if Reg.asks .SHF_CTL v .SHF_CTL_SLICE 1 then s.regWrite sh.val .SHF_CTL 0 v else s))

/-- ADIT_SLICE_RESET (R434): a write of SHF.CTL whose SLICE is 0b10. -/
def execAditSliceReset (sh : Shaft) (v : Word) (s : State) : Out :=
  .next (s.cageTurn (fun s => if Reg.asks .SHF_CTL v .SHF_CTL_SLICE 2 then s.regWrite sh.val .SHF_CTL 0 v else s))

/-- Is there such a block in the scope? -/
def blockIn (sc : Nat) (b : Block) : Bool := decide (sc ≤ 8) && (b.ofShaft == decide (sc < 8))

/-- The write of a block's GATE register (R55, R57). -/
def State.gateWrite (s : State) (sc : Nat) (b : Block) (v : Word) : State :=
  if blockIn sc b then s.regWrite sc (if b.ofShaft then .SGATE else .DGATE) b.code v else s

/-- GATE_ENABLE (R55). -/
def execGateEnable (sc : Nat) (b : Block) (s : State) : Out := .next (s.cageTurn (fun s => s.gateWrite sc b 1))

/-- GATE_DISABLE (R57). -/
def execGateDisable (sc : Nat) (b : Block) (s : State) : Out := .next (s.cageTurn (fun s => s.gateWrite sc b 0))

/-- The write of an element of a register array that has such an element. -/
def State.elemWrite (s : State) (n : Shaft) (r : Reg) (e : Nat) (v : Word) : State := if e < r.count then s.regWrite n.val r e v else s

/-- PCE_STOPE_WRITE (R104). -/
def execPceStopeWrite (sh : Shaft) (k : Nat) (v : Word) (s : State) : Out := .next (s.cageTurn (fun s => s.elemWrite sh .PCE_STOPE k v))

/-- RETURN_NOW (R111): the write of CLK.CFG with RETURN_NOW 1. -/
def execReturnNow (s : State) : Out := .next (s.cageTurn (fun s => s.regWrite 8 .CLK_CFG 0 (s.regWith 8 .CLK_CFG 0 .CLK_CFG_RETURN_NOW 1)))

/-- A word for a shaft's command register, with GO 1, written. -/
def State.go (s : State) (n : Shaft) (r : Reg) (l : List (Fld × Nat)) : State := s.regWrite n.val r 0 (r.make l)

/-- TLY_KILL (R138). -/
def execTlyKill (sh : Shaft) (t : BitVec 15) (s : State) : Out :=
  .next (s.cageTurn (fun s => s.go sh .TLY_KILL [(.TLY_KILL_TALLY, t.toNat), (.TLY_KILL_GO, 1)]))

/-- BANK_WRITE (R213). -/
def execBankWrite (sh : Shaft) (b : Bool) (part : BankPart) (i : Nat) (hi : Bool) (v : Word) (s : State) : Out :=
  .next (s.cageTurn (fun s => if i < part.words then s.writeAlone (.bank sh b part i hi) v (fun a => a.cageWrite (.bank sh b part i hi) v) else s))

/-- SEAL (R213). -/
def execSeal (sh : Shaft) (b : Bool) (s : State) : Out :=
  .next (s.cageTurn (fun s => s.go sh .HWR_BANK_CTL [(.HWR_BANK_CTL_BANK, bit b), (.HWR_BANK_CTL_SEAL, 1)]))

/-- FLIP (R214). -/
def execFlip (sh : Shaft) (s : State) : Out := .next (s.cageTurn (fun s => s.go sh .HWR_FLIP [(.HWR_FLIP_GO, 1)]))

/-- RETIRE (R218, R219). -/
def execRetire (sh : Shaft) (h : BitVec 6) (force : Bool) (s : State) : Out :=
  .next (s.cageTurn (fun s => s.go sh .HWR_RETIRE [(.HWR_RETIRE_HEWER, h.toNat), (.HWR_RETIRE_FORCE, bit force), (.HWR_RETIRE_GO, 1)]))

/-- A word of CLM.CMD (R154). -/
def State.clmGo (s : State) (n : Shaft) (op : Nat) (c : BitVec 8) (g : BitVec 10) : State :=
  s.go n .CLM_CMD [(.CLM_CMD_OP, op), (.CLM_CMD_CLAIM, c.toNat), (.CLM_CMD_GRANULE, g.toNat), (.CLM_CMD_GO, 1)]

/-- CLM_LOAD (R154). -/
def execClmLoad (sh : Shaft) (c : BitVec 8) (s : State) : Out := .next (s.cageTurn (fun s => s.clmGo sh 1 c 0))

/-- CLM_MAP (R155). -/
def execClmMap (sh : Shaft) (c : BitVec 8) (g : BitVec 10) (s : State) : Out := .next (s.cageTurn (fun s => s.clmGo sh 2 c g))

/-- CLM_UNMAP (R155). -/
def execClmUnmap (sh : Shaft) (g : BitVec 10) (s : State) : Out := .next (s.cageTurn (fun s => s.clmGo sh 3 0 g))

/-- CLM_SWEEP (R158). -/
def execClmSweep (sh : Shaft) (c : BitVec 8) (s : State) : Out :=
  .next (s.cageTurn (fun s => s.go sh .CLM_SWEEP [(.CLM_SWEEP_CLAIM, c.toNat), (.CLM_SWEEP_GO, 1)]))

/-- A word of QMG.CMD (R250). -/
def State.qmgGo (s : State) (n : Shaft) (op : Nat) (q : BitVec 17) : State :=
  s.go n .QMG_CMD [(.QMG_CMD_QUEUE, q.toNat), (.QMG_CMD_OP, op), (.QMG_CMD_GO, 1)]

/-- QUEUE_LOAD (R250). -/
def execQueueLoad (sh : Shaft) (q : BitVec 17) (s : State) : Out := .next (s.cageTurn (fun s => s.qmgGo sh 1 q))

/-- QUEUE_EMPTY (R250). -/
def execQueueEmpty (sh : Shaft) (q : BitVec 17) (s : State) : Out := .next (s.cageTurn (fun s => s.qmgGo sh 2 q))

/-- QUEUE_WM (R250). -/
def execQueueWm (sh : Shaft) (q : BitVec 17) (s : State) : Out := .next (s.cageTurn (fun s => s.qmgGo sh 3 q))

/-- QUEUE_CLEAR (R250). -/
def execQueueClear (sh : Shaft) (q : BitVec 17) (s : State) : Out := .next (s.cageTurn (fun s => s.qmgGo sh 4 q))

/-- A word of QMG.HOST_CMD (R264). -/
def State.hostGo (s : State) (n : Shaft) (op : Nat) (q : BitVec 17) (c : BitVec 4) : State :=
  s.go n .QMG_HOST_CMD [(.QMG_HOST_CMD_QUEUE, q.toNat), (.QMG_HOST_CMD_OP, op), (.QMG_HOST_CMD_CLASS, c.toNat), (.QMG_HOST_CMD_GO, 1)]

/-- HOST_PUSH (R264). -/
def execHostPush (sh : Shaft) (q : BitVec 17) (c : BitVec 4) (s : State) : Out := .next (s.cageTurn (fun s => s.hostGo sh 1 q c))

/-- HOST_POP (R264). -/
def execHostPop (sh : Shaft) (q : BitVec 17) (s : State) : Out := .next (s.cageTurn (fun s => s.hostGo sh 2 q 0))

/-- HOST_MARK (R264). -/
def execHostMark (sh : Shaft) (q : BitVec 17) (s : State) : Out := .next (s.cageTurn (fun s => s.hostGo sh 3 q 0))

/-- HOST_UNMARK (R264). -/
def execHostUnmark (sh : Shaft) (q : BitVec 17) (s : State) : Out := .next (s.cageTurn (fun s => s.hostGo sh 4 q 0))

/-- HOST_REWIND (R264). -/
def execHostRewind (sh : Shaft) (q : BitVec 17) (s : State) : Out := .next (s.cageTurn (fun s => s.hostGo sh 5 q 0))

/-- A word of CTX.CMD (R329). -/
def State.ctxGo (s : State) (n : Shaft) (op k c g : Nat) : State :=
  s.go n .CTX_CMD [(.CTX_CMD_OP, op), (.CTX_CMD_STOPE, k), (.CTX_CMD_CONTEXT, c), (.CTX_CMD_GANG, g), (.CTX_CMD_GO, 1)]

/-- PRELOAD (R308). -/
def execPreload (sh : Shaft) (k : BitVec 7) (c : BitVec 3) (s : State) : Out := .next (s.cageTurn (fun s => s.ctxGo sh 1 k.toNat c.toNat 0))

/-- DISCARD (R329). -/
def execDiscard (sh : Shaft) (k : BitVec 7) (s : State) : Out := .next (s.cageTurn (fun s => s.ctxGo sh 2 k.toNat 0 0))

/-- SWAP_STOPE (R310). -/
def execSwapStope (sh : Shaft) (k : BitVec 7) (s : State) : Out := .next (s.cageTurn (fun s => s.ctxGo sh 3 k.toNat 0 0))

/-- SWAP_GANG (R313). -/
def execSwapGang (sh : Shaft) (g : BitVec 4) (s : State) : Out := .next (s.cageTurn (fun s => s.ctxGo sh 4 0 0 g.toNat))

/-- READBACK (R327). The row also says whether the ECC check of a Plan frame fails. -/
def execReadback (sh : Shaft) (a : BitVec 20) (plane : BitVec 2) (bad : Bool) (s : State) : Out :=
  let v := Reg.make .CTX_RB_CTL [(.CTX_RB_CTL_FRAME_ADDR, a.toNat), (.CTX_RB_CTL_PLANE, plane.toNat), (.CTX_RB_CTL_GO, 1)]
  .next (s.cageTurn (fun s => s.writeAlone (.reg sh.val .CTX_RB_CTL 0) v
    (fun x => (x.storeReg sh.val .CTX_RB_CTL 0 v).readback sh a.toNat plane.toNat bad)))

/-- SCRUBBER_RESTART (R325). -/
def execScrubberRestart (sh : Shaft) (r0 r1 : Bool) (s : State) : Out :=
  .next (s.cageTurn (fun s => s.go sh .SCB_CTL [(.SCB_CTL_RESTART0, bit r0), (.SCB_CTL_RESTART1, bit r1)]))

/-- The write of PTL.CFG[p] with one field changed. -/
def State.ptlCfg (s : State) (n : Shaft) (p : Portal) (f : Fld) (v : Nat) : State :=
  s.regWrite n.val .PTL_CFG p.val (s.regWith n.val .PTL_CFG p.val f v)

/-- PORTAL_ENABLE (R347). -/
def execPortalEnable (sh : Shaft) (p : Portal) (s : State) : Out := .next (s.cageTurn (fun s => s.ptlCfg sh p .PTL_CFG_ENABLE 1))

/-- PORTAL_DISABLE (R349). -/
def execPortalDisable (sh : Shaft) (p : Portal) (s : State) : Out := .next (s.cageTurn (fun s => s.ptlCfg sh p .PTL_CFG_ENABLE 0))

/-- HOLD_SET (R339). -/
def execHoldSet (sh : Shaft) (p : Portal) (s : State) : Out := .next (s.cageTurn (fun s => s.ptlCfg sh p .PTL_CFG_HOLD 1))

/-- HOLD_RELEASE (R339). -/
def execHoldRelease (sh : Shaft) (p : Portal) (s : State) : Out := .next (s.cageTurn (fun s => s.ptlCfg sh p .PTL_CFG_HOLD 0))

/-- LANE_SLIP (R339). -/
def execLaneSlip (sh : Shaft) (l : Nat) (later : Bool) (s : State) : Out :=
  .next (s.cageTurn (fun s => s.elemWrite sh .LNE_SLIP l (Reg.make .LNE_SLIP [(.LNE_SLIP_GO, 1), (.LNE_SLIP_DIR, bit later)])))

/-- A word of IMG.CMD (R387). -/
def State.imgGo (s : State) (op : Nat) : State := s.regWrite 8 .IMG_CMD 0 (Reg.make .IMG_CMD [(.IMG_CMD_OP, op), (.IMG_CMD_GO, 1)])

/-- OPEN (R387). -/
def execImgOpen (s : State) : Out := .next (s.cageTurn (fun s => s.imgGo 1))

/-- ARM (R389). -/
def execArm (s : State) : Out := .next (s.cageTurn (fun s => s.imgGo 2))

/-- ACTIVATE (R390). -/
def execActivate (s : State) : Out := .next (s.cageTurn (fun s => s.imgGo 3))

/-- CANCEL (R398). -/
def execCancel (s : State) : Out := .next (s.cageTurn (fun s => s.imgGo 4))

/-- CONFIRM (R400). -/
def execConfirm (s : State) : Out := .next (s.cageTurn (fun s => s.imgGo 5))

/-- A word of IMG.SETCMD (R372). -/
def State.setGo (s : State) (op : Nat) : State :=
  s.regWrite 8 .IMG_SETCMD 0 (Reg.make .IMG_SETCMD [(.IMG_SETCMD_OP, op), (.IMG_SETCMD_GO, 1)])

/-- SETTING_APPEND (R372). -/
def execSettingAppend (s : State) : Out := .next (s.cageTurn (fun s => s.setGo 1))

/-- SETTING_CLEAR (R372). -/
def execSettingClear (s : State) : Out := .next (s.cageTurn (fun s => s.setGo 2))

/-- DOZE_REQUEST (R409). -/
def execDozeRequest (sh : Shaft) (s : State) : Out :=
  .next (s.cageTurn (fun s => s.regWrite 8 .PWR_SHAFT sh.val (s.regWith 8 .PWR_SHAFT sh.val .PWR_SHAFT_DOZE 1)))

/-- SENSOR_REARM (R413). -/
def execSensorRearm (sh : Shaft) (l : BitVec 3) (s : State) : Out :=
  .next (s.cageTurn (fun s => s.regWrite 8 .CAN_CTL 0 (Reg.make .CAN_CTL [(.CAN_CTL_SHAFT, sh.val), (.CAN_CTL_LAYER, l.toNat), (.CAN_CTL_REARM, 1)])))

end Sys2Proof.Machine
end

