-- ==== Sys2Proof/Machine/HewerAlu.lean ====
section
/-! DEFINITION. The arithmetic, logic, shift, move and bit-field instructions of a hewer (R202 to R204) -/

namespace Sys2Proof.Machine

/-- Wd = `r`, with Z and N from it, C and V cleared (R202). -/
def Hew.logic (c : Hew) (s : State) (r : DWord) : HewRes := .go (c.put s ((c.wd r).logicFlags r))

/-- opB[5:0], the amount of a shift. -/
def Hew.amount (c : Hew) : Nat := c.opB.toNat % 64

/-- The lowest 1 bit of a doubleword; 64 when there is none. -/
def lowestOne (x : DWord) : Nat := ((List.range 64).find? (fun i => x.getLsbD i)).getD 64

/-- ADD: Wd = opA + opB. -/
def hewAdd (c : Hew) (s : State) : HewRes :=
  .go (c.put s ((c.wd (c.opA + c.opB)).addFlags c.opA c.opB))

/-- ADD. -/
def execHewAdd (sh : Shaft) (h t : Nat) (i : HewFields) (u : StepCheck) (s : State) : Out :=
  .next (s.hewStep sh h t 0x01 i u (fun _ => Form.dab) hewAdd)

/-- SUB: Wd = opA − opB. -/
def hewSub (c : Hew) (s : State) : HewRes :=
  .go (c.put s ((c.wd (c.opA - c.opB)).subFlags c.opA c.opB))

/-- SUB. -/
def execHewSub (sh : Shaft) (h t : Nat) (i : HewFields) (u : StepCheck) (s : State) : Out :=
  .next (s.hewStep sh h t 0x02 i u (fun _ => Form.dab) hewSub)

/-- AND: Wd = opA AND opB. -/
def hewAnd (c : Hew) (s : State) : HewRes :=
  c.logic s (c.opA &&& c.opB)

/-- AND. -/
def execHewAnd (sh : Shaft) (h t : Nat) (i : HewFields) (u : StepCheck) (s : State) : Out :=
  .next (s.hewStep sh h t 0x03 i u (fun _ => Form.dab) hewAnd)

/-- OR: Wd = opA OR opB. -/
def hewOr (c : Hew) (s : State) : HewRes :=
  c.logic s (c.opA ||| c.opB)

/-- OR. -/
def execHewOr (sh : Shaft) (h t : Nat) (i : HewFields) (u : StepCheck) (s : State) : Out :=
  .next (s.hewStep sh h t 0x04 i u (fun _ => Form.dab) hewOr)

/-- XOR: Wd = opA XOR opB. -/
def hewXor (c : Hew) (s : State) : HewRes :=
  c.logic s (c.opA ^^^ c.opB)

/-- XOR. -/
def execHewXor (sh : Shaft) (h t : Nat) (i : HewFields) (u : StepCheck) (s : State) : Out :=
  .next (s.hewStep sh h t 0x05 i u (fun _ => Form.dab) hewXor)

/-- SHL: Wd = opA shifted left by opB[5:0]. -/
def hewShl (c : Hew) (s : State) : HewRes :=
  c.logic s (c.opA <<< c.amount)

/-- SHL. -/
def execHewShl (sh : Shaft) (h t : Nat) (i : HewFields) (u : StepCheck) (s : State) : Out :=
  .next (s.hewStep sh h t 0x06 i u (fun _ => Form.dab) hewShl)

/-- SHR: logical shift right. -/
def hewShr (c : Hew) (s : State) : HewRes :=
  c.logic s (c.opA >>> c.amount)

/-- SHR. -/
def execHewShr (sh : Shaft) (h t : Nat) (i : HewFields) (u : StepCheck) (s : State) : Out :=
  .next (s.hewStep sh h t 0x07 i u (fun _ => Form.dab) hewShr)

/-- SAR: arithmetic shift right. -/
def hewSar (c : Hew) (s : State) : HewRes :=
  c.logic s (c.opA.sshiftRight c.amount)

/-- SAR. -/
def execHewSar (sh : Shaft) (h t : Nat) (i : HewFields) (u : StepCheck) (s : State) : Out :=
  .next (s.hewStep sh h t 0x08 i u (fun _ => Form.dab) hewSar)

/-- MOV: Wd = opB. -/
def hewMov (c : Hew) (s : State) : HewRes :=
  c.logic s c.opB

/-- MOV. -/
def execHewMov (sh : Shaft) (h t : Nat) (i : HewFields) (u : StepCheck) (s : State) : Out :=
  .next (s.hewStep sh h t 0x09 i u (fun _ => { d := true, b := true, bi := true }) hewMov)

/-- MOVH: Wd[63:32] = IMM; the immediate form is the only one. -/
def hewMovh (c : Hew) (s : State) : HewRes :=
  c.write s (putBits (c.x.reg c.i.d.toNat) 32 c.i.imm)

/-- MOVH. -/
def execHewMovh (sh : Shaft) (h t : Nat) (i : HewFields) (u : StepCheck) (s : State) : Out :=
  .next (s.hewStep sh h t 0x0A i u (fun _ => { d := true, bi := true, ok := i.bi }) hewMovh)

/-- CMP: flags from opA − opB, T = the condition. -/
def hewCmp (c : Hew) (s : State) : HewRes :=
  .go (c.put s { (c.x.subFlags c.opA c.opB) with t := cmpCond (c.i.x &&& 0xF).toNat c.opA c.opB })

/-- CMP. -/
def execHewCmp (sh : Shaft) (h t : Nat) (i : HewFields) (u : StepCheck) (s : State) : Out :=
  .next (s.hewStep sh h t 0x0B i u (fun _ => Form.cmp i) hewCmp)

/-- SEL: Wd = opA if T is 1, otherwise opB. -/
def hewSel (c : Hew) (s : State) : HewRes :=
  c.write s (if c.x.t then c.opA else c.opB)

/-- SEL. -/
def execHewSel (sh : Shaft) (h t : Nat) (i : HewFields) (u : StepCheck) (s : State) : Out :=
  .next (s.hewStep sh h t 0x0C i u (fun _ => Form.dab) hewSel)

/-- POPC: Wd = number of 1 bits in opA. -/
def hewPopc (c : Hew) (s : State) : HewRes :=
  c.logic s (BitVec.ofNat 64 (popCount c.opA))

/-- POPC. -/
def execHewPopc (sh : Shaft) (h t : Nat) (i : HewFields) (u : StepCheck) (s : State) : Out :=
  .next (s.hewStep sh h t 0x0D i u (fun _ => { d := true, a := true }) hewPopc)

/-- FFS: Wd = index of the lowest 1 bit of opA. -/
def hewFfs (c : Hew) (s : State) : HewRes :=
  c.logic s (BitVec.ofNat 64 (lowestOne c.opA))

/-- FFS. -/
def execHewFfs (sh : Shaft) (h t : Nat) (i : HewFields) (u : StepCheck) (s : State) : Out :=
  .next (s.hewStep sh h t 0x0E i u (fun _ => { d := true, a := true }) hewFfs)

/-- EXT: Wd = a field of opA. -/
def hewExt (c : Hew) (s : State) : HewRes :=
  c.write s ((c.opA >>> c.i.pos) &&& fieldMask 0 c.i.wid)

/-- EXT. -/
def execHewExt (sh : Shaft) (h t : Nat) (i : HewFields) (u : StepCheck) (s : State) : Out :=
  .next (s.hewStep sh h t 0x10 i u (fun _ => Form.field i) hewExt)

/-- INS: a field of Wd = the low bits of opA. -/
def hewIns (c : Hew) (s : State) : HewRes :=
  let m := fieldMask c.i.pos c.i.wid
  c.write s ((c.x.reg c.i.d.toNat &&& ~~~ m) ||| ((c.opA <<< c.i.pos) &&& m))

/-- INS. -/
def execHewIns (sh : Shaft) (h t : Nat) (i : HewFields) (u : StepCheck) (s : State) : Out :=
  .next (s.hewStep sh h t 0x11 i u (fun _ => Form.field i) hewIns)

end Sys2Proof.Machine
end

