-- ==== Sys2Proof/Machine/HewerDirectory.lean ====
section
/-! DEFINITION. The branches of a hewer, its access to the tally record and to M, and the directory instructions (R168, R203, R204) -/

namespace Sys2Proof.Machine

/-- PC = IMM[13:0]. -/
def Hew.target (c : Hew) : BitVec 14 := c.i.imm.setWidth 14

/-- R204: the release state of the line: SETST's value if recorded, the provisional one first (R231), otherwise PRIOR_STATE. -/
def Hew.release (c : Hew) : BitVec 3 :=
  match c.y.prov with
  | some v => v
  | none => c.y.setst.getD c.y.prior

/-- BR: branch if condition X[3:0] holds. -/
def hewBr (c : Hew) (s : State) : HewRes :=
  if c.x.brCond (c.i.x &&& 0xF).toNat then .jump s c.target else .go s

/-- BR. -/
def execHewBr (sh : Shaft) (h t : Nat) (i : HewFields) (u : StepCheck) (s : State) : Out :=
  .next (s.hewStep sh h t 0x18 i u (fun _ => Form.branch 0xF (decide ((i.x &&& 0xF).toNat ≤ 9))) hewBr)

/-- BLS: branch if the bit of X[3:0] for the release state is 1. -/
def hewBls (c : Hew) (s : State) : HewRes :=
  if c.release.toNat < 4 ∧ c.i.x.getLsbD c.release.toNat then .jump s c.target else .go s

/-- BLS. -/
def execHewBls (sh : Shaft) (h t : Nat) (i : HewFields) (u : StepCheck) (s : State) : Out :=
  .next (s.hewStep sh h t 0x19 i u (fun _ => Form.branch 0xF) hewBls)

/-- BCNT: branch if PENDING ≤ X. -/
def hewBcnt (c : Hew) (s : State) : HewRes :=
  if c.y.pending ≤ c.i.x.toNat then .jump s c.target else .go s

/-- BCNT. -/
def execHewBcnt (sh : Shaft) (h t : Nat) (i : HewFields) (u : StepCheck) (s : State) : Out :=
  .next (s.hewStep sh h t 0x1A i u (fun _ => Form.branch 0x3FF) hewBcnt)

/-- JAL: Wd = PC + 1, and jump. -/
def hewJal (c : Hew) (s : State) : HewRes :=
  .jump (c.put s (c.wd (BitVec.ofNat 64 (c.x.pc.toNat + 1)))) c.target

/-- JAL. -/
def execHewJal (sh : Shaft) (h t : Nat) (i : HewFields) (u : StepCheck) (s : State) : Out :=
  .next (s.hewStep sh h t 0x1B i u (fun _ => { d := true, imm := 0x3FFF }) hewJal)

/-- JR: PC = opA. -/
def hewJr (c : Hew) (s : State) : HewRes :=
  if 16383 < c.opA.toNat then .trap Cause.BOUNDS else .jump s (c.opA.setWidth 14)

/-- JR. -/
def execHewJr (sh : Shaft) (h t : Nat) (i : HewFields) (u : StepCheck) (s : State) : Out :=
  .next (s.hewStep sh h t 0x1C i u (fun _ => { a := true }) hewJr)

/-- X[1:0] as a size in bytes. -/
def Hew.size (c : Hew) : Nat := 2 ^ (c.i.x &&& 3).toNat

/-- IMM[6:0]. -/
def Hew.off (c : Hew) : Nat := c.i.imm.toNat % 128

/-- TLD: a field of the tally record. -/
def hewTld (c : Hew) (s : State) : HewRes :=
  if c.off % c.size = 0 ∨ (c.size = 4 ∧ c.off = 42) then
    c.write s ((((s.record c.n c.tp) >>> (8 * c.off)).setWidth 64) &&& fieldMask 0 (8 * c.size))
  else .trap Cause.BOUNDS

/-- Write the low `size` bytes of `v` at byte `off` of SCRATCH. -/
def scratchPut (x : DWord) (off size : Nat) (v : DWord) : DWord :=
  let m := fieldMask (8 * off) (8 * size)
  (x &&& ~~~ m) ||| ((v <<< (8 * off)) &&& m)

/-- R137: a write of DEADLINE takes effect only when the new value is earlier. -/
def State.advance (s : State) (n : Shaft) (t : Nat) (v : BitVec 32) : State :=
  s.updTally n t (fun y => if (v - y.deadline).msb then { y with deadline := v } else y)

/-- TST: SCRATCH, TIMER or DEADLINE (R228); a parent's DEADLINE applies to its line tallies as well (R137). -/
def hewTst (c : Hew) (s : State) : HewRes :=
  let v := c.opA
  if c.off % c.size = 0 ∧ 112 ≤ c.off ∧ c.off < 120 then
    .go (s.updTally c.n c.tp (fun y =>
      { y with scratch := scratchPut y.scratch (c.off - 112) c.size v, park := { y.park with taintS := y.park.taintS || c.pend } }))
  else if c.size = 4 ∧ c.off = 42 then
    if c.pend then .trap Cause.DAYLIGHT else .go (s.updTally c.n c.tp (fun y => { y with timer := v.setWidth 32 }))
  else if c.size = 4 ∧ c.off = 16 then
    if c.pend then .trap Cause.DAYLIGHT
    else
      let l := if c.y.kind = .haulParent then s.children c.n c.tp else []
      .go ((c.tp :: l).foldl (fun a j => a.advance c.n j (v.setWidth 32)) s)
  else .trap Cause.BOUNDS

/-- RECV: the oldest matched tub not yet received; its tub slot is given back. -/
def hewRecv (c : Hew) (s : State) : HewRes :=
  let want (t : Tub) : Bool := !c.i.x.getLsbD 4 || decide (t.cls = c.i.x.setWidth 4)
  match takeFirst (fun j => want (s.slot c.n j)) c.y.rcvd with
  | none => .go (c.put s { c.x with z := true, t := false })
  | some (j, rest) =>
    let t := s.slot c.n j
    let s1 := (s.updTally c.n c.tp (fun y => { y with rcvd := rest })).giveSlots c.n [j]
    .go (c.put s1 { c.wd t.sideband with m := t, mt := c.pend, z := false, t := t.poison })

/-- MPUT: M[IMM[2:0]] = opA. -/
def hewMput (c : Hew) (s : State) : HewRes :=
  .go (c.put s { c.x with m := c.x.m.put (8 * (c.i.imm.toNat % 8)) 0 c.opA, mt := c.pend || c.x.mt })

/-- R180: the directory read of an instruction is checked first. -/
def Hew.dirCheck (c : Hew) (s : State) (e : DirCheck) : State :=
  let l := match c.y.recallRec with
    | some r => r.set
    | none => homeSet c.y.line
  s.dirCheck c.n l e

/-- The entry LOOKUP returns (R168): the tally's own line as its PRIOR_STATE, a recall's own lines as they were when it took them; an
entry that is not there (R180) reads as free. -/
def Hew.entry (c : Hew) (s : State) : DirEnt :=
  match c.y.recallRec with
  | some r =>
    let e := if s.quarantine c.n r.set r.way then DirEnt.zero else s.ent c.n r.set r.way
    { e with st0 := r.line 0, st1 := r.line 1, st2 := r.line 2, st3 := r.line 3 }
  | none =>
    match s.findWay c.n (homeSet c.y.line) (homeTag c.y.line) with
    | some w => (s.ent c.n (homeSet c.y.line) w).setLine (homeIdx c.y.line) c.y.prior
    | none => DirEnt.zero

/-- LOOKUP. -/
def hewLookup (e : DirCheck) (c : Hew) (s : State) : HewRes :=
  let s1 := c.dirCheck s e
  c.write s1 (c.entry s1).bits

/-- A directory change in a RECALL tally is illegal (R209). -/
def Hew.recallRec (c : Hew) : Bool := decide (c.y.kind = .recall)

/-- SETST: records the release state, provisionally while PENDING (R231). -/
def hewSetst (c : Hew) (s : State) : HewRes :=
  let v := c.i.x.setWidth 3
  if c.recallRec then .trap Cause.ILLEGAL
  else if 4 ≤ v.toNat then .trap Cause.DIR
  else .go (s.updTally c.n c.tp (fun y => if c.pend then { y with prov := some v } else { y with setst := some v }))

/-- R230: an effect that must be deferred: a ninth traps, and one that finds no tub slot does not issue yet. -/
def Hew.defer (c : Hew) (s : State) (d : Deferral) : HewRes :=
  if !c.y.deferRoom then .trap Cause.DAYLIGHT
  else if s.freeSlots c.n < c.y.deferNeeds false then .stay s
  else .go (s.addDeferral c.n c.tp d)

/-- ADDSH, REMSH and SETOWN: the agent, and the operation `f`, deferred as `d` while PENDING. -/
def Hew.sharer (c : Hew) (s : State) (e : DirCheck) (d : BitVec 10 → Deferral) (f : State → BitVec 10 → State) : HewRes :=
  let own := c.i.x.getLsbD 0
  let a : BitVec 10 := if own then c.y.agent else c.opA.setWidth 10
  if c.recallRec then .trap Cause.ILLEGAL
  else if !own && decide (1024 ≤ c.opA.toNat) then .trap Cause.BOUNDS
  else if c.pend then c.defer s (d a)
  else .go (f (c.dirCheck s e) a)

/-- ADDSH. -/
def hewAddsh (e : DirCheck) (c : Hew) (s : State) : HewRes := c.sharer s e .addsh (fun z a => z.addSharer c.n c.tp a)

/-- REMSH. -/
def hewRemsh (e : DirCheck) (c : Hew) (s : State) : HewRes := c.sharer s e .remsh (fun z a => z.remSharer c.n c.tp a)

/-- SETOWN. -/
def hewSetown (e : DirCheck) (c : Hew) (s : State) : HewRes := c.sharer s e .setown (fun z a => z.setOwner c.n c.tp a)

/-- EVICT: a recall of the tally's own sector opens, or waits for the reserve, unless one of its way is open. -/
def hewEvict (c : Hew) (s : State) : HewRes :=
  let set := homeSet c.y.line
  if c.recallRec then .trap Cause.ILLEGAL
  else if c.pend then .trap Cause.DAYLIGHT
  else match s.findWay c.n set (homeTag c.y.line) with
    | none => .go s
    | some w => if s.recallOf c.n set w = none then .go (s.recallNow c.n set w .evict (.evict set w)) else .go s

/-- TLD. -/
def execHewTld (sh : Shaft) (h t : Nat) (i : HewFields) (u : StepCheck) (s : State) : Out :=
  .next (s.hewStep sh h t 0x20 i u (fun _ => { d := true, x := 3, imm := 0x7F }) hewTld)

/-- TST. -/
def execHewTst (sh : Shaft) (h t : Nat) (i : HewFields) (u : StepCheck) (s : State) : Out :=
  .next (s.hewStep sh h t 0x21 i u (fun _ => { a := true, x := 3, imm := 0x7F }) hewTst)

/-- RECV. -/
def execHewRecv (sh : Shaft) (h t : Nat) (i : HewFields) (u : StepCheck) (s : State) : Out :=
  .next (s.hewStep sh h t 0x22 i u (fun _ => { d := true, x := if i.x.getLsbD 4 then 0x1F else 0x10 }) hewRecv)

/-- MPUT. -/
def execHewMput (sh : Shaft) (h t : Nat) (i : HewFields) (u : StepCheck) (s : State) : Out :=
  .next (s.hewStep sh h t 0x23 i u (fun _ => { a := true, imm := 7 }) hewMput)

/-- SETST. -/
def execHewSetst (sh : Shaft) (h t : Nat) (i : HewFields) (u : StepCheck) (s : State) : Out :=
  .next (s.hewStep sh h t 0x29 i u (fun _ => { x := 7 }) hewSetst)

/-- EVICT. -/
def execHewEvict (sh : Shaft) (h t : Nat) (i : HewFields) (u : StepCheck) (s : State) : Out :=
  .next (s.hewStep sh h t 0x2D i u (fun _ => {}) hewEvict)

/-- LOOKUP. -/
def execHewLookup (sh : Shaft) (h t : Nat) (i : HewFields) (u : StepCheck) (e : DirCheck) (s : State) : Out :=
  .next (s.hewStep sh h t 0x28 i u (fun _ => { d := true }) (hewLookup e))

/-- ADDSH. -/
def execHewAddsh (sh : Shaft) (h t : Nat) (i : HewFields) (u : StepCheck) (e : DirCheck) (s : State) : Out :=
  .next (s.hewStep sh h t 0x2A i u (fun _ => { a := !i.x.getLsbD 0, x := 1 }) (hewAddsh e))

/-- REMSH. -/
def execHewRemsh (sh : Shaft) (h t : Nat) (i : HewFields) (u : StepCheck) (e : DirCheck) (s : State) : Out :=
  .next (s.hewStep sh h t 0x2B i u (fun _ => { a := !i.x.getLsbD 0, x := 1 }) (hewRemsh e))

/-- SETOWN. -/
def execHewSetown (sh : Shaft) (h t : Nat) (i : HewFields) (u : StepCheck) (e : DirCheck) (s : State) : Out :=
  .next (s.hewStep sh h t 0x2C i u (fun _ => { a := !i.x.getLsbD 0, x := 1 }) (hewSetown e))

end Sys2Proof.Machine
end

