-- ==== Sys2Proof/Machine/HewerSend.lean ====
section
/-! DEFINITION. The sending instructions of a hewer: SEND, SNPX, FWDD, MRD, MRDS, MWR and END (R198, R199, R205 to R207, R227 to R229,
R238). -/

namespace Sys2Proof.Machine

/-! ### Templates -/

/-- The classes whose tubs have the message header (R124). -/
def Cls.header (c : BitVec 4) : Bool :=
  c == Cls.REQ || c == Cls.SNP || c == Cls.RSP || c == Cls.MEM || c == Cls.MRS || c == Cls.MGT

/-- The control word of template IMM[7:0] of the tally's bank. -/
def Hew.control (c : Hew) (s : State) : DWord := Tbl.get 0 ((s.sh c.n).bank c.y.epoch).control (c.i.imm.toNat % 256)

/-- CLASS and EXPECT of a control word. -/
def ctlClass (w : DWord) : BitVec 4 := w.extractLsb' 0 4
def ctlExpect (w : DWord) : Nat := (w.extractLsb' 4 2).toNat

/-- R198: does the template trap, for an instruction that accepts these classes? -/
def badTemplate (w : DWord) (accepts : List (BitVec 4)) : Bool :=
  !accepts.contains (ctlClass w) || (w.getLsbD 8 && w.getLsbD 9) || (w.getLsbD 10 && w.getLsbD 11)
    || w.extractLsb' 6 2 != 0 || w.extractLsb' 16 48 != 0

/-- SEQ of a built tub: IMM[15:8] (R199). -/
def Hew.seq (c : Hew) : BitVec 8 := c.i.imm.extractLsb' 8 8

/-- R199: the sideband of a tub a hewer makes. -/
def Hew.sideband (c : Hew) (t : Tub) : Tub :=
  { t with
    tv := true, tally := BitVec.ofNat 15 c.tp, gen := c.y.gen, seq := c.seq, unconf := false, wdog := false, spc := c.pend, ans := false
    ep := none }

/-- A fill of a template (R198). -/
def Tub.fill {w : Nat} (t : Tub) (on : Bool) (byte : Nat) (v : BitVec w) : Tub := if on then t.put byte 0 v else t

/-- R198, R199: the tub built from template IMM[7:0]. -/
def Hew.build (c : Hew) (s : State) : Tub :=
  let w := c.control s
  let t : Tub := { Tub.zero with cls := ctlClass w, body := Tbl.get 0 ((s.sh c.n).bank c.y.epoch).body (c.i.imm.toNat % 256) }
  let f := (((((((t.fill (w.getLsbD 8) 4 c.y.agent).fill (w.getLsbD 9) 4 (c.opA.setWidth 10)).fill (w.getLsbD 10) 8 c.y.lineAddr).fill
    (w.getLsbD 11) 8 c.opB).fill (w.getLsbD 12) 16 (c.y.request.extractLsb' 128 64)).fill (w.getLsbD 13) 6
    (BitVec.ofNat 3 c.y.portal.val)).fill (w.getLsbD 14) 28 (c.opB.setWidth 32)).fill (w.getLsbD 15) 7 c.y.lines
  c.sideband (f.fill (Cls.header f.cls) 24 (0 : BitVec 32))

/-- R204: F_ADDR_B with a plane address beyond the plane. ADDR is a plane address in the classes SNP and RSP; a backing address of MEM and MRS goes to 52
bits, and that of MGT is free (R124, R150). -/
def Hew.badAddress (c : Hew) (w : DWord) : Bool :=
  w.getLsbD 11 && (ctlClass w == Cls.SNP || ctlClass w == Cls.RSP) && decide (2 ^ 40 ≤ c.opB.toNat)

/-- R206: the rise takes PENDING above 8,191. -/
def Hew.tooMany (c : Hew) (rise : Nat) : Bool := decide (8191 < c.y.pending + rise)

/-- PENDING rises. -/
def Hew.rise (c : Hew) (s : State) (k : Nat) : State := s.updTally c.n c.tp (fun y => { y with pending := y.pending + k })

/-! ### Sending -/

/-- R205: the portal of destination 0b00 or 0b01. -/
def Hew.toPortal (c : Hew) : Portal :=
  if c.i.x.getLsbD 0 then ⟨(c.i.imm.extractLsb' 16 3).toNat, (c.i.imm.extractLsb' 16 3).isLt⟩ else c.y.portal

/-- R134: a DAT tub to the origin portal is the answer of a line tally of a read haul. -/
def Hew.lineAnswer (c : Hew) (t : Tub) (p : Portal) : Bool :=
  decide (c.y.kind = .haulLine) && !c.y.writes && decide (t.cls = Cls.DAT) && decide (p = c.y.portal)

/-- A tub leaves the hewer for the egress queue of portal `p`; made while PENDING, it counts in TRANSIT (R233). -/
def Hew.emit (c : Hew) (s : State) (t : Tub) (p : Portal) : State :=
  let mark := c.lineAnswer t p
  let s1 := if mark then s.updTally c.n c.tp (fun y => { y with ans := .sent }) else s
  (if t.spc then s1.raiseTransit c.n c.tp else s1).inject c.n { t with ans := mark } (.router (hewerRouter c.h)) Layer.lode.dest (.egress p)

/-- R253: the thread's push of `t` onto queue `q`: T says that it was dropped; while it waits for room the thread issues nothing. -/
def Hew.push (c : Hew) (s : State) (q : Nat) (t : Tub) (sets : Bool) : HewRes :=
  let old := c.x.t
  if Cls.reserved t.cls then .go (s.inject c.n t (.router (hewerRouter c.h)) Layer.lode.dest .sink)
  else
    let r := s.pushNow c.n q t true
    match r.2 with
    | .waits => .go ((r.1.addPushWait c.n ⟨q, t, .hewer c.h c.k, sets⟩).updThread c.n c.h c.k (fun x => { x with stall := .push }))
    | o => .go (r.1.updThread c.n c.h c.k (fun x => { x with t := if sets then decide (o ≠ .accepted) else old }))

/-- R230: a push deferred while PENDING. It reports T = 0. -/
def Hew.deferPush (c : Hew) (s : State) (q : Nat) (t : Tub) (rise : Nat) : HewRes :=
  if !c.y.deferRoom then .trap Cause.DAYLIGHT
  else if s.freeSlots c.n < c.y.deferNeeds true then .stay s
  else
    let s1 := (c.rise s rise).addDeferredPush c.n c.tp (BitVec.ofNat 17 q) t
    .go (s1.updThread c.n c.h c.k (fun x => { x with t := false }))

/-- R238: after an abort a tub toward a portal waits while TRANSIT is above 0. -/
def Hew.transitWait (c : Hew) : Bool := decide (c.y.spec = .aborted) && decide (c.y.sp.transit ≠ 0)

/-- The thread waits for TRANSIT. -/
def Hew.holdStep (c : Hew) (s : State) : HewRes := .stay (s.updThread c.n c.h c.k (fun x => { x with stall := .transit }))

/-- R205: send tub `t`, which makes PENDING rise, to destination X[1:0]. -/
def Hew.sendTo (c : Hew) (s : State) (t : Tub) (rise : Nat) : HewRes :=
  if c.i.x.getLsbD 1 then
    let q := c.x.reg c.i.d.toNat
    if 131071 < q.toNat then .trap Cause.BOUNDS
    else if c.tooMany rise then .trap Cause.BOUNDS
    else if c.pend then c.deferPush s q.toNat t rise
    else c.push (c.rise s rise) q.toNat t false
  else if c.tooMany rise then .trap Cause.BOUNDS
  else if c.transitWait then c.holdStep s
  else .go (c.emit (c.rise s rise) t c.toPortal)

/-- The classes SEND accepts (R205). -/
def sendClasses : List (BitVec 4) := [Cls.SNP, Cls.RSP, Cls.DAT, Cls.MEM, Cls.MRS, Cls.MGT, Cls.USR]

/-- SEND: a tub from template IMM[7:0]. -/
def hewSend (c : Hew) (s : State) : HewRes :=
  let w := c.control s
  if badTemplate w sendClasses then .trap Cause.TEMPLATE
  else if c.pend ∧ ctlClass w = Cls.MEM then .trap Cause.DAYLIGHT
  else if c.badAddress w then .trap Cause.BOUNDS
  else c.sendTo s (c.build s) (ctlExpect w)

/-- FWDD: M as a tub of the tally. -/
def hewFwdd (c : Hew) (s : State) : HewRes :=
  if c.pend ∧ c.x.m.cls = Cls.MEM then .trap Cause.DAYLIGHT else c.sendTo s (c.sideband c.x.m) 0

/-! ### Snoops -/

/-- R351: the answer builder of the origin portal answers snoop `x`, which reaches no portal, from template SNP_LOST. -/
def Hew.snoopLost (c : Hew) (s : State) (x : Tub) : State :=
  (s.addReg c.n .PTL_STAT4_SNP_UNREACHABLE c.y.portal.val).inject c.n
    { s.answerTub c.n Ans.SNP_LOST x.body false with tv := true, tally := x.tally, gen := x.gen, seq := x.seq } (.unit .adit)
    Layer.lode.dest .tallyStore

/-- R206, R351: one snoop goes to the portal of its agent. -/
def Hew.snoop (c : Hew) (s : State) (t : Tub) (a : BitVec 10) : State :=
  let x := t.put 4 0 a
  match s.agentPortal c.n a with
  | some p => if s.linkUp c.n p then c.emit s x p else c.snoopLost s x
  | none => c.snoopLost s x

/-- The agents of SNPX: of the live entry, or of the entry image in opB. -/
def Hew.snoopSet (c : Hew) (s : State) : List (BitVec 10) :=
  let e := if c.i.x.getLsbD 1 then DirEnt.ofBits c.opB else c.entry s
  let l := s.expansion c.n e
  if c.i.x.getLsbD 0 then l.filter (fun a => a != c.y.agent) else l

/-- SNPX. -/
def hewSnpx (c : Hew) (s : State) : HewRes :=
  let w := c.control s
  let line := (c.i.imm.extractLsb' 16 2).toNat
  let l := c.snoopSet s
  let rise := l.length * ctlExpect w
  if c.pend then .trap Cause.DAYLIGHT
  else if badTemplate w [Cls.SNP] then .trap Cause.TEMPLATE
  else if (line ≠ 0 ∧ c.y.kind ≠ .recall) ∨ c.badAddress w ∨ c.tooMany rise then .trap Cause.BOUNDS
  else
    let t := (c.build s).put 8 0 (c.y.lineAddr + BitVec.ofNat 64 (64 * line))
    .go (l.foldl (fun a g => c.snoop a t g) (c.put (c.rise s rise) (c.wd (BitVec.ofNat 64 l.length))))

/-! ### Memory -/

/-- R147: the claim of the tally. -/
def Hew.claim (c : Hew) : Nat := c.y.inClaim

/-- The backing address of line X[1:0] (R147, R205). -/
def Hew.backing (c : Hew) (s : State) : DWord :=
  let a := c.y.lineAddr + BitVec.ofNat 64 (64 * (c.i.x &&& 3).toNat)
  BitVec.ofNat 64 (s.reg c.n .CLM_ENTRY1_BASE_GIB c.claim * 2 ^ 30 + (a.extractLsb' 0 30).toNat)

/-- The backing portal (R147). -/
def Hew.backPortal (c : Hew) (s : State) : Portal :=
  ⟨s.reg c.n .CLM_ENTRY0_PORTAL c.claim % 8, Nat.mod_lt _ (by decide)⟩

/-- The MEM tub of MRD, MRDS and MWR: the template's, with the backing address whatever its fill bits. -/
def Hew.memTub (c : Hew) (s : State) : Tub := (c.build s).put 8 0 (c.backing s)

/-- R205, R206: what MRD and MWR check; none lets them go on. -/
def Hew.memCheck (c : Hew) (s : State) : Option Nat :=
  if (c.i.x &&& 3) ≠ 0 ∧ c.y.kind ≠ .recall then some Cause.BOUNDS
  else if c.pend then some Cause.DAYLIGHT
  else if badTemplate (c.control s) [Cls.MEM] then some Cause.TEMPLATE
  else none

/-- EXPECT of the template. -/
def Hew.expect (c : Hew) (s : State) : Nat := ctlExpect (c.control s)

/-- MRD. -/
def hewMrd (c : Hew) (s : State) : HewRes :=
  match c.memCheck s with
  | some k => .trap k
  | none =>
    if c.tooMany (c.expect s) then .trap Cause.BOUNDS else .go (c.emit (c.rise s (c.expect s)) (c.memTub s) (c.backPortal s))

/-- MWR: the MEM tub, followed by M, which must be of class DAT. -/
def hewMwr (c : Hew) (s : State) : HewRes :=
  if c.x.m.cls ≠ Cls.DAT then .trap Cause.ILLEGAL
  else match c.memCheck s with
    | some k => .trap k
    | none =>
      if c.tooMany (c.expect s) then .trap Cause.BOUNDS
      else .go (c.emit (c.emit (c.rise s (c.expect s)) (c.memTub s) (c.backPortal s)) (c.sideband c.x.m) (c.backPortal s))

/-- R229: MRDS of a speculable claim sends the read, T 0; `y` changes the tally. -/
def Hew.ticket (c : Hew) (s : State) (spc : Bool) (f : Tally → Tally) : HewRes :=
  if c.tooMany (c.expect s) then .trap Cause.BOUNDS
  else
    let s1 := (c.put (c.rise s (c.expect s)) { c.x with t := false }).updTally c.n c.tp f
    .go (c.emit s1 { c.memTub s with spc := spc } (c.backPortal s))

/-- MRDS (R229). -/
def hewMrds (c : Hew) (s : State) : HewRes :=
  if c.recallRec then .trap Cause.ILLEGAL
  else if (c.i.x &&& 3) ≠ 0 then .trap Cause.BOUNDS
  else if !s.regB c.n .CLM_ENTRY0_SPECULABLE c.claim then .go (c.put (s.addReg c.n .PTL_DL_STAT2_DECLINED) { c.x with t := true })
  else if badTemplate (c.control s) [Cls.MEM] then .trap Cause.TEMPLATE
  else match c.y.spec with
    | .none =>
      match c.ticket s true (fun y => { y with spec := .pending, sp := { y.sp with tickets := 1, ticketSeq := c.seq } }) with
      | .go a => .go (a.addReg c.n .PTL_DL_STAT_STARTED)
      | r => r
    | .pending =>
      if c.seq ≠ c.y.sp.ticketSeq ∨ 4 ≤ c.y.sp.tickets then .trap Cause.DAYLIGHT
      else c.ticket s true (fun y => { y with sp := { y.sp with tickets := y.sp.tickets + 1 } })
    | _ => c.ticket s false id

/-! ### The end of a handler -/

/-- PENDING after the rise of an END; what a sum beyond the field leaves is not stated. -/
def Hew.endRise (c : Hew) (s : State) (k : Nat) : State :=
  if c.tooMany k then
    let r := s.free
    r.2.updTally c.n c.tp (fun y => { y with pending := Config.freeValue r.1 % 8192 })
  else c.rise s k

/-- R207: what END of a kind uses. -/
def Hew.endForm (c : Hew) : Form :=
  match c.y.kind with
  | .line => { imm := 0xFFFF }
  | .haulLine => { x := 1 }
  | _ => {}

/-- END of a LINE tally: the answer leaves for the origin portal. -/
def Hew.endLine (c : Hew) (s : State) : HewRes :=
  let w := c.control s
  if badTemplate w [Cls.RSP] then .trap Cause.TEMPLATE
  else if c.badAddress w then .trap Cause.BOUNDS
  else if c.transitWait then c.holdStep s
  else
    let s1 := ((c.endRise s (ctlExpect w)).endThread c.n c.tp).tallyDone c.n c.tp
    .released ((s1.answerSent c.n c.tp).inject c.n { c.build s with ans := true } (.router (hewerRouter c.h)) Layer.lode.dest
      (.egress c.y.portal))

/-- END (R207). It does not branch, so it traps BOUNDS at the last address (R208). -/
def hewEnd (c : Hew) (s : State) : HewRes :=
  if c.pend then .trap Cause.SPEC
  else if c.x.pc = 16383 then .trap Cause.BOUNDS
  else match c.y.kind with
    | .line => c.endLine s
    | .haulLine =>
      let s1 := s.endThread c.n c.tp
      if c.i.x.getLsbD 0 then .released (s1.failLine c.n c.tp (.router (hewerRouter c.h)))
      else .released (((s1.tallyDone c.n c.tp).lineDone c.n c.tp).tryFree c.n c.tp)
    | _ => .released (((s.endThread c.n c.tp).tallyDone c.n c.tp).tryFree c.n c.tp)

/-- SEND. -/
def execHewSend (sh : Shaft) (h t : Nat) (i : HewFields) (u : StepCheck) (s : State) : Out :=
  .next (s.hewStep sh h t 0x30 i u (fun _ => Form.send i true 0xFFFF) hewSend)

/-- FWDD. -/
def execHewFwdd (sh : Shaft) (h t : Nat) (i : HewFields) (u : StepCheck) (s : State) : Out :=
  .next (s.hewStep sh h t 0x32 i u (fun _ => Form.send i false 0xFF00) hewFwdd)

/-- SNPX. -/
def execHewSnpx (sh : Shaft) (h t : Nat) (i : HewFields) (u : StepCheck) (s : State) : Out :=
  .next (s.hewStep sh h t 0x31 i u (fun _ => { d := true, b := i.x.getLsbD 1, x := 3, imm := 0x3FFFF }) hewSnpx)

/-- MRD. -/
def execHewMrd (sh : Shaft) (h t : Nat) (i : HewFields) (u : StepCheck) (s : State) : Out :=
  .next (s.hewStep sh h t 0x38 i u (fun _ => { x := 3, imm := 0xFFFF }) hewMrd)

/-- MRDS. -/
def execHewMrds (sh : Shaft) (h t : Nat) (i : HewFields) (u : StepCheck) (s : State) : Out :=
  .next (s.hewStep sh h t 0x39 i u (fun _ => { x := 3, imm := 0xFFFF }) hewMrds)

/-- MWR. -/
def execHewMwr (sh : Shaft) (h t : Nat) (i : HewFields) (u : StepCheck) (s : State) : Out :=
  .next (s.hewStep sh h t 0x3A i u (fun _ => { x := 3, imm := 0xFFFF }) hewMwr)

/-- END. -/
def execHewEnd (sh : Shaft) (h t : Nat) (i : HewFields) (u : StepCheck) (s : State) : Out :=
  .next (s.hewStep sh h t 0x5F i u Hew.endForm hewEnd)


/-- R238: the instruction that waited for TRANSIT issues: SEND, FWDD or END. -/
def State.drained (s : State) (n : Shaft) (h k : Nat) : State :=
  let x := s.thread n h k
  match x.tally with
  | none => s
  | some t =>
    let y := s.tally n t
    if x.stall = .transit ∧ y.sp.transit = 0 then
      let s1 := s.updThread n h k (fun x => { x with stall := .none })
      let w := s.codeWord n y.epoch x.pc.toNat
      let c : Hew := ⟨n, h, k, t, HewFields.ofWord w, { x with stall := .none }, y⟩
      let op := w.extractLsb' 56 8
      if s1.hewReady n h k then
        c.finish s1 w (if op = 0x30 then hewSend c s1 else if op = 0x32 then hewFwdd c s1 else hewEnd c s1)
      else s
    else s

/-- TRANSIT_DRAINED. -/
def execTransitDrained (sh : Shaft) (h t : Nat) (s : State) : Out := .next (s.drained sh h t)

end Sys2Proof.Machine
end

