-- ==== Sys2Proof/Machine/HewerWait.lean ====
section
/-! DEFINITION. The waits of a hewer (R191, R192), the changes of SPEC (R130, R239, R240), its queue operations (R204, R228, R230,
R232), CNT and NOP. -/

namespace Sys2Proof.Machine

/-! ### Waits -/

/-- R191: the park record of the wait. -/
def Hew.parkRecord (c : Hew) : Park :=
  { resume := c.target
    valid := true
    flags := (BitVec.ofNat 5 (bit c.x.z + 2 * bit c.x.n + 4 * bit c.x.c + 8 * bit c.x.v + 16 * bit c.x.t))
    taintW := c.x.wt.setWidth 4
    taintS := c.y.park.taintS
    w0 := c.x.reg 0
    w1 := c.x.reg 1
    w2 := c.x.reg 2
    w3 := c.x.reg 3 }

/-- R191: the tally waits and its thread is released. -/
def Hew.parkOn (c : Hew) (s : State) (w : WaitFor) : HewRes :=
  .released ((s.endThread c.n c.tp).updTally c.n c.tp (fun y => { y with st := .wait, waitFor := w, park := c.parkRecord }))

/-- WAITR. -/
def hewWaitr (c : Hew) (s : State) : HewRes :=
  if c.y.pending ≤ c.i.x.toNat then .jump s c.target else c.parkOn s (.responses c.i.x.toNat)

/-- WAITT: TIMER = tally clock + opB[31:0] µs. -/
def hewWaitt (c : Hew) (s : State) : HewRes :=
  let d : BitVec 32 := (s.sh c.n).clock + c.opB.setWidth 32
  let s1 := s.updTally c.n c.tp (fun y => { y with timer := d })
  if c.y.pending ≤ c.i.x.toNat ∨ s.passed c.n d then .jump s1 c.target else c.parkOn s1 (.timed c.i.x.toNat)

/-! ### Speculation -/

/-- SPST. -/
def hewSpst (c : Hew) (s : State) : HewRes :=
  if c.recallRec then .trap Cause.ILLEGAL
  else if c.y.spec = .none then .go (s.specStart c.n c.tp)
  else .trap Cause.SPEC

/-- SPCF. Where the tally was aborted since the thread's last step, the two may have met in one handshake: then it has no effect and does not trap (R241).
Whether they did stays open. -/
def hewSpcf (c : Hew) (s : State) : HewRes :=
  if c.pend then .go (s.specConfirm c.n c.tp)
  else if c.y.spec = .aborted ∧ c.y.abortAt = some c.x.steps then
    let r := s.free
    if Config.freeValue r.1 % 2 = 0 then .go r.2 else .released (c.trap r.2 Cause.SPEC (c.i.word 0x49))
  else .trap Cause.SPEC

/-- SPAB. -/
def hewSpab (c : Hew) (s : State) : HewRes := if c.pend then .go (s.specAbort c.n c.tp) else .trap Cause.SPEC

/-! ### Queues -/

/-- The queue number in opA, when it is one (R204). -/
def Hew.queueNo (c : Hew) : Option Nat := if c.opA.toNat ≤ 131071 then some c.opA.toNat else none

/-- R123: M as the thread's port pushes it. -/
def Hew.item (c : Hew) : Tub := { c.x.m with wdog := false, ans := false }

/-- QPUSH. -/
def hewQpush (c : Hew) (s : State) : HewRes :=
  match c.queueNo with
  | none => .trap Cause.BOUNDS
  | some q => if c.pend then c.deferPush s q c.item 0 else c.push s q c.item true

/-- What a QPOP of queue `q` leaves in the thread. -/
def Hew.popped (c : Hew) (r : State × Popped) (q : Nat) : HewRes :=
  match r.2 with
  | .tub t u => .go (c.put r.1 { c.x with m := t, mt := c.pend, t := u })
  | .ring i u => .go ((r.1.ringRead c.n q i (.hewer c.h c.k) u).updThread c.n c.h c.k (fun x => { x with stall := .ring }))

/-- Did a pop underrun? -/
def Popped.underran (r : Popped) : Bool :=
  match r with
  | .tub _ u => u
  | .ring _ u => u

/-- R232: a pop of queue `q` while PENDING is recorded; `before` is what the queue's POPPED was. -/
def notePop (l : List PopQ) (q : Nat) (before underran : Bool) : List PopQ :=
  if l.any (fun x => decide (x.queue = q)) then l.map (fun x => if x.queue = q then { x with underran := x.underran + bit underran } else x)
  else l ++ [⟨q, before, bit underran⟩]

/-- QPOP (R232). -/
def hewQpop (c : Hew) (s : State) : HewRes :=
  match c.queueNo with
  | none => .trap Cause.BOUNDS
  | some q =>
    if !c.pend then c.popped (s.popNow c.n q) q
    else
      let known := c.y.sp.popq.any (fun x => decide (x.queue = q))
      if !(s.queue c.n q).markValid || (!known && decide (4 ≤ c.y.sp.popq.length)) then .trap Cause.DAYLIGHT
      else
        let r := s.popNow c.n q true
        c.popped (r.1.updTally c.n c.tp (fun y =>
          { y with sp := { y.sp with popq := notePop y.sp.popq q (s.queue c.n q).popped (r.2.underran) } }), r.2) q

/-- QMARK. -/
def hewQmark (c : Hew) (s : State) : HewRes :=
  match c.queueNo with
  | none => .trap Cause.BOUNDS
  | some q => if c.pend then .trap Cause.DAYLIGHT else .go (s.markNow c.n q (!c.i.x.getLsbD 0)).1

/-- QRWND. -/
def hewQrwnd (c : Hew) (s : State) : HewRes :=
  match c.queueNo with
  | none => .trap Cause.BOUNDS
  | some q =>
    let r := s.rewindNow c.n q
    .go (c.put r.1 { c.x with t := decide (r.2 ≠ .done) })

/-! ### Counters -/

/-- CNT. -/
def hewCnt (c : Hew) (s : State) : HewRes :=
  let k := c.i.imm.toNat % 64
  if c.pend then c.defer s (.cnt c.i.x (BitVec.ofNat 6 k)) else .go (s.addReg c.n .HWR_CTR_COUNT k c.i.x.toNat)

/-- NOP. -/
def hewNop (_c : Hew) (s : State) : HewRes := .go s

/-- WAITR. -/
def execHewWaitr (sh : Shaft) (h t : Nat) (i : HewFields) (u : StepCheck) (s : State) : Out :=
  .next (s.hewStep sh h t 0x40 i u (fun _ => { x := 0x3FF, imm := 0x3FFF }) hewWaitr)

/-- WAITT. -/
def execHewWaitt (sh : Shaft) (h t : Nat) (i : HewFields) (u : StepCheck) (s : State) : Out :=
  .next (s.hewStep sh h t 0x41 i u (fun _ => { b := true, x := 0x3FF, imm := 0x3FFF }) hewWaitt)

/-- SPST. -/
def execHewSpst (sh : Shaft) (h t : Nat) (i : HewFields) (u : StepCheck) (s : State) : Out :=
  .next (s.hewStep sh h t 0x48 i u (fun _ => {}) hewSpst)

/-- SPCF. -/
def execHewSpcf (sh : Shaft) (h t : Nat) (i : HewFields) (u : StepCheck) (s : State) : Out :=
  .next (s.hewStep sh h t 0x49 i u (fun _ => {}) hewSpcf)

/-- SPAB. -/
def execHewSpab (sh : Shaft) (h t : Nat) (i : HewFields) (u : StepCheck) (s : State) : Out :=
  .next (s.hewStep sh h t 0x4A i u (fun _ => {}) hewSpab)

/-- QPUSH. -/
def execHewQpush (sh : Shaft) (h t : Nat) (i : HewFields) (u : StepCheck) (s : State) : Out :=
  .next (s.hewStep sh h t 0x50 i u (fun _ => { a := true }) hewQpush)

/-- QPOP. -/
def execHewQpop (sh : Shaft) (h t : Nat) (i : HewFields) (u : StepCheck) (s : State) : Out :=
  .next (s.hewStep sh h t 0x51 i u (fun _ => { a := true }) hewQpop)

/-- QMARK. -/
def execHewQmark (sh : Shaft) (h t : Nat) (i : HewFields) (u : StepCheck) (s : State) : Out :=
  .next (s.hewStep sh h t 0x52 i u (fun _ => { a := true, x := 1 }) hewQmark)

/-- QRWND. -/
def execHewQrwnd (sh : Shaft) (h t : Nat) (i : HewFields) (u : StepCheck) (s : State) : Out :=
  .next (s.hewStep sh h t 0x53 i u (fun _ => { a := true }) hewQrwnd)

/-- CNT. -/
def execHewCnt (sh : Shaft) (h t : Nat) (i : HewFields) (u : StepCheck) (s : State) : Out :=
  .next (s.hewStep sh h t 0x58 i u (fun _ => { x := 0x3FF, imm := 0x3F }) hewCnt)

/-- NOP; and the step of a reserved opcode, which traps ILLEGAL (R204). -/
def execHewNop (sh : Shaft) (h t : Nat) (i : HewFields) (u : StepCheck) (s : State) : Out :=
  let x := s.thread sh h t
  let b := match x.tally with
    | some y => (s.tally sh y).epoch
    | none => false
  let op := (s.codeWord sh b x.pc.toNat).extractLsb' 56 8
  .next (if hewOpcodes.contains op then s.hewStep sh h t 0x5E i u (fun _ => {}) hewNop
    else s.hewStep sh h t op i u (fun _ => { ok := false }) hewNop)

end Sys2Proof.Machine
end

