-- ==== Sys2Proof/Machine/Dispatch.lean ====
section
/-! DEFINITION. The effect of each command on everything but the queue: one arm per row of the table. -/

namespace Sys2Proof.Machine

def exec (i : Instr) (s : State) : Host.Outcome State Fault Refusal :=
  match i with
  | .poll f => Sys2Proof.Machine.execPoll f s
  | .read f => Sys2Proof.Machine.execRead f s
  | .write f => Sys2Proof.Machine.execWrite f s
  | .readFix f => Sys2Proof.Machine.execReadFix f s
  | .writeFix f => Sys2Proof.Machine.execWriteFix f s
  | .eventRead f => Sys2Proof.Machine.execEventRead f s
  | .timeSet f => Sys2Proof.Machine.execTimeSet f s
  | .updateStream f => Sys2Proof.Machine.execUpdateStream f s
  | .resetCold f => Sys2Proof.Machine.execResetCold f s
  | .resetShaft f => Sys2Proof.Machine.execResetShaft f s
  | .resetStope f => Sys2Proof.Machine.execResetStope f s
  | .resetFore f => Sys2Proof.Machine.execResetFore f s
  | .resetPortal f => Sys2Proof.Machine.execResetPortal f s
  | .selftestLodeBlock f w => Sys2Proof.Machine.execSelftestLodeBlock f w s
  | .selftestHewer f w => Sys2Proof.Machine.execSelftestHewer f w s
  | .selftestStope f w => Sys2Proof.Machine.execSelftestStope f w s
  | .selftestPlanSlot f w => Sys2Proof.Machine.execSelftestPlanSlot f w s
  | .selftestLane f w => Sys2Proof.Machine.execSelftestLane f w s
  | .selftestAbort f => Sys2Proof.Machine.execSelftestAbort f s
  | .selftestStatus f w => Sys2Proof.Machine.execSelftestStatus f w s
  | .replay f => Sys2Proof.Machine.execReplay f s
  | .replyCutShort => Sys2Proof.Machine.execReplyCutShort s
  | .hostSilent => Sys2Proof.Machine.execHostSilent s
  | .cageReady => Sys2Proof.Machine.execCageReady s
  | .registerWrite addr v => Sys2Proof.Machine.execRegisterWrite addr v s
  | .rcRead addr => Sys2Proof.Machine.execRcRead addr s
  | .timNowRead => Sys2Proof.Machine.execTimNowRead s
  | .shfDeepOpen sh v => Sys2Proof.Machine.execShfDeepOpen sh v s
  | .devDeepOpen v => Sys2Proof.Machine.execDevDeepOpen v s
  | .lodeSliceReset sh v => Sys2Proof.Machine.execLodeSliceReset sh v s
  | .aditSliceReset sh v => Sys2Proof.Machine.execAditSliceReset sh v s
  | .gateEnable sc b => Sys2Proof.Machine.execGateEnable sc b s
  | .gateDisable sc b => Sys2Proof.Machine.execGateDisable sc b s
  | .blockHalt sc b => Sys2Proof.Machine.execBlockHalt sc b s
  | .blockReturn sc b => Sys2Proof.Machine.execBlockReturn sc b s
  | .flitHop sh x u => Sys2Proof.Machine.execFlitHop sh x u s
  | .vlinkRetired sh v => Sys2Proof.Machine.execVlinkRetired sh v s
  | .pceStopeWrite sh k v => Sys2Proof.Machine.execPceStopeWrite sh k v s
  | .pacerRampStep sh k tap => Sys2Proof.Machine.execPacerRampStep sh k tap s
  | .pacerForced sh k => Sys2Proof.Machine.execPacerForced sh k s
  | .tempoPllUnlock sh => Sys2Proof.Machine.execTempoPllUnlock sh s
  | .tempoPllRelock sh => Sys2Proof.Machine.execTempoPllRelock sh s
  | .refclkLost fine => Sys2Proof.Machine.execRefclkLost fine s
  | .refclkBack => Sys2Proof.Machine.execRefclkBack s
  | .laneQualified sh l => Sys2Proof.Machine.execLaneQualified sh l s
  | .laneUnqualified sh l c => Sys2Proof.Machine.execLaneUnqualified sh l c s
  | .adrift sh => Sys2Proof.Machine.execAdrift sh s
  | .refReturn sh => Sys2Proof.Machine.execRefReturn sh s
  | .returnNow => Sys2Proof.Machine.execReturnNow s
  | .timeExchange => Sys2Proof.Machine.execTimeExchange s
  | .timeRequestAnswer sh p t1 dwell => Sys2Proof.Machine.execTimeRequestAnswer sh p t1 dwell s
  | .timeReply t1 t2 t3 => Sys2Proof.Machine.execTimeReply t1 t2 t3 s
  | .timeUnlocked => Sys2Proof.Machine.execTimeUnlocked s
  | .flitReceive sh p x => Sys2Proof.Machine.execFlitReceive sh p x s
  | .flitTransmit sh p => Sys2Proof.Machine.execFlitTransmit sh p s
  | .admission sh p u => Sys2Proof.Machine.execAdmission sh p u s
  | .responseMatch sh u => Sys2Proof.Machine.execResponseMatch sh u s
  | .layerAbsentExpiry sh => Sys2Proof.Machine.execLayerAbsentExpiry sh s
  | .tallyTimer sh t => Sys2Proof.Machine.execTallyTimer sh t s
  | .deadlineExpiry sh t => Sys2Proof.Machine.execDeadlineExpiry sh t s
  | .tlyKill sh t => Sys2Proof.Machine.execTlyKill sh t s
  | .tallyAbandoned sh t => Sys2Proof.Machine.execTallyAbandoned sh t s
  | .dispatch sh u => Sys2Proof.Machine.execDispatch sh u s
  | .resume sh => Sys2Proof.Machine.execResume sh s
  | .hewAdd sh h t x u => Sys2Proof.Machine.execHewAdd sh h t x u s
  | .hewSub sh h t x u => Sys2Proof.Machine.execHewSub sh h t x u s
  | .hewAnd sh h t x u => Sys2Proof.Machine.execHewAnd sh h t x u s
  | .hewOr sh h t x u => Sys2Proof.Machine.execHewOr sh h t x u s
  | .hewXor sh h t x u => Sys2Proof.Machine.execHewXor sh h t x u s
  | .hewShl sh h t x u => Sys2Proof.Machine.execHewShl sh h t x u s
  | .hewShr sh h t x u => Sys2Proof.Machine.execHewShr sh h t x u s
  | .hewSar sh h t x u => Sys2Proof.Machine.execHewSar sh h t x u s
  | .hewMov sh h t x u => Sys2Proof.Machine.execHewMov sh h t x u s
  | .hewMovh sh h t x u => Sys2Proof.Machine.execHewMovh sh h t x u s
  | .hewCmp sh h t x u => Sys2Proof.Machine.execHewCmp sh h t x u s
  | .hewSel sh h t x u => Sys2Proof.Machine.execHewSel sh h t x u s
  | .hewPopc sh h t x u => Sys2Proof.Machine.execHewPopc sh h t x u s
  | .hewFfs sh h t x u => Sys2Proof.Machine.execHewFfs sh h t x u s
  | .hewExt sh h t x u => Sys2Proof.Machine.execHewExt sh h t x u s
  | .hewIns sh h t x u => Sys2Proof.Machine.execHewIns sh h t x u s
  | .hewBr sh h t x u => Sys2Proof.Machine.execHewBr sh h t x u s
  | .hewBls sh h t x u => Sys2Proof.Machine.execHewBls sh h t x u s
  | .hewBcnt sh h t x u => Sys2Proof.Machine.execHewBcnt sh h t x u s
  | .hewJal sh h t x u => Sys2Proof.Machine.execHewJal sh h t x u s
  | .hewJr sh h t x u => Sys2Proof.Machine.execHewJr sh h t x u s
  | .hewTld sh h t x u => Sys2Proof.Machine.execHewTld sh h t x u s
  | .hewTst sh h t x u => Sys2Proof.Machine.execHewTst sh h t x u s
  | .hewRecv sh h t x u => Sys2Proof.Machine.execHewRecv sh h t x u s
  | .hewMput sh h t x u => Sys2Proof.Machine.execHewMput sh h t x u s
  | .hewLookup sh h t x u e => Sys2Proof.Machine.execHewLookup sh h t x u e s
  | .hewSetst sh h t x u => Sys2Proof.Machine.execHewSetst sh h t x u s
  | .hewAddsh sh h t x u e => Sys2Proof.Machine.execHewAddsh sh h t x u e s
  | .hewRemsh sh h t x u e => Sys2Proof.Machine.execHewRemsh sh h t x u e s
  | .hewSetown sh h t x u e => Sys2Proof.Machine.execHewSetown sh h t x u e s
  | .hewEvict sh h t x u => Sys2Proof.Machine.execHewEvict sh h t x u s
  | .hewSend sh h t x u => Sys2Proof.Machine.execHewSend sh h t x u s
  | .hewSnpx sh h t x u => Sys2Proof.Machine.execHewSnpx sh h t x u s
  | .hewFwdd sh h t x u => Sys2Proof.Machine.execHewFwdd sh h t x u s
  | .hewMrd sh h t x u => Sys2Proof.Machine.execHewMrd sh h t x u s
  | .hewMrds sh h t x u => Sys2Proof.Machine.execHewMrds sh h t x u s
  | .hewMwr sh h t x u => Sys2Proof.Machine.execHewMwr sh h t x u s
  | .hewWaitr sh h t x u => Sys2Proof.Machine.execHewWaitr sh h t x u s
  | .hewWaitt sh h t x u => Sys2Proof.Machine.execHewWaitt sh h t x u s
  | .hewSpst sh h t x u => Sys2Proof.Machine.execHewSpst sh h t x u s
  | .hewSpcf sh h t x u => Sys2Proof.Machine.execHewSpcf sh h t x u s
  | .hewSpab sh h t x u => Sys2Proof.Machine.execHewSpab sh h t x u s
  | .hewQpush sh h t x u => Sys2Proof.Machine.execHewQpush sh h t x u s
  | .hewQpop sh h t x u => Sys2Proof.Machine.execHewQpop sh h t x u s
  | .hewQmark sh h t x u => Sys2Proof.Machine.execHewQmark sh h t x u s
  | .hewQrwnd sh h t x u => Sys2Proof.Machine.execHewQrwnd sh h t x u s
  | .hewCnt sh h t x u => Sys2Proof.Machine.execHewCnt sh h t x u s
  | .hewNop sh h t x u => Sys2Proof.Machine.execHewNop sh h t x u s
  | .hewEnd sh h t x u => Sys2Proof.Machine.execHewEnd sh h t x u s
  | .transitDrained sh h t => Sys2Proof.Machine.execTransitDrained sh h t s
  | .trapErrorAnswer sh t => Sys2Proof.Machine.execTrapErrorAnswer sh t s
  | .storePatrol sh c b part x u => Sys2Proof.Machine.execStorePatrol sh c b part x u s
  | .bankWrite sh b part x hi v => Sys2Proof.Machine.execBankWrite sh b part x hi v s
  | .seal sh b => Sys2Proof.Machine.execSeal sh b s
  | .sealDone sh => Sys2Proof.Machine.execSealDone sh s
  | .flip sh => Sys2Proof.Machine.execFlip sh s
  | .epochFree sh => Sys2Proof.Machine.execEpochFree sh s
  | .retire sh h force => Sys2Proof.Machine.execRetire sh h force s
  | .hwrRetired sh => Sys2Proof.Machine.execHwrRetired sh s
  | .gateDecision sh p => Sys2Proof.Machine.execGateDecision sh p s
  | .stopeDeliver sh k n => Sys2Proof.Machine.execStopeDeliver sh k n s
  | .stopeInject sh k op => Sys2Proof.Machine.execStopeInject sh k op s
  | .clmLoad sh c => Sys2Proof.Machine.execClmLoad sh c s
  | .clmMap sh c g => Sys2Proof.Machine.execClmMap sh c g s
  | .clmUnmap sh g => Sys2Proof.Machine.execClmUnmap sh g s
  | .clmSweep sh c => Sys2Proof.Machine.execClmSweep sh c s
  | .sweepSetRead sh => Sys2Proof.Machine.execSweepSetRead sh s
  | .clmSweepDone sh => Sys2Proof.Machine.execClmSweepDone sh s
  | .recallOpen sh => Sys2Proof.Machine.execRecallOpen sh s
  | .dirPatrol sh set u => Sys2Proof.Machine.execDirPatrol sh set u s
  | .queueLoad sh q => Sys2Proof.Machine.execQueueLoad sh q s
  | .queueEmpty sh q => Sys2Proof.Machine.execQueueEmpty sh q s
  | .queueWm sh q => Sys2Proof.Machine.execQueueWm sh q s
  | .queueClear sh q => Sys2Proof.Machine.execQueueClear sh q s
  | .queueSlot sh q => Sys2Proof.Machine.execQueueSlot sh q s
  | .pushWaitEnd sh q => Sys2Proof.Machine.execPushWaitEnd sh q s
  | .deepRingReply sh ix x err => Sys2Proof.Machine.execDeepRingReply sh ix x err s
  | .hostPush sh q c => Sys2Proof.Machine.execHostPush sh q c s
  | .hostPop sh q => Sys2Proof.Machine.execHostPop sh q s
  | .hostMark sh q => Sys2Proof.Machine.execHostMark sh q s
  | .hostUnmark sh q => Sys2Proof.Machine.execHostUnmark sh q s
  | .hostRewind sh q => Sys2Proof.Machine.execHostRewind sh q s
  | .stopeContention sh k seg => Sys2Proof.Machine.execStopeContention sh k seg s
  | .preload sh k c => Sys2Proof.Machine.execPreload sh k c s
  | .preloadDone sh k bad => Sys2Proof.Machine.execPreloadDone sh k bad s
  | .discard sh k => Sys2Proof.Machine.execDiscard sh k s
  | .swapStope sh k => Sys2Proof.Machine.execSwapStope sh k s
  | .swapGang sh g => Sys2Proof.Machine.execSwapGang sh g s
  | .swapEdge sh e => Sys2Proof.Machine.execSwapEdge sh e s
  | .readback sh a plane bad => Sys2Proof.Machine.execReadback sh a plane bad s
  | .scrubFrame sh x u => Sys2Proof.Machine.execScrubFrame sh x u s
  | .scrubPatrol sh x a w u => Sys2Proof.Machine.execScrubPatrol sh x a w u s
  | .goldenRecoveryDone sh a => Sys2Proof.Machine.execGoldenRecoveryDone sh a s
  | .scrubberRestart sh r0 r1 => Sys2Proof.Machine.execScrubberRestart sh r0 r1 s
  | .portalEnable sh p => Sys2Proof.Machine.execPortalEnable sh p s
  | .portalDisable sh p => Sys2Proof.Machine.execPortalDisable sh p s
  | .trainingStep sh p r => Sys2Proof.Machine.execTrainingStep sh p r s
  | .trainingFail sh p r => Sys2Proof.Machine.execTrainingFail sh p r s
  | .backoffEnd sh p => Sys2Proof.Machine.execBackoffEnd sh p s
  | .laneSlip sh l later => Sys2Proof.Machine.execLaneSlip sh l later s
  | .holdRelease sh p => Sys2Proof.Machine.execHoldRelease sh p s
  | .widthHalve sh p => Sys2Proof.Machine.execWidthHalve sh p s
  | .widthDouble sh p => Sys2Proof.Machine.execWidthDouble sh p s
  | .recoveryTimeout sh p => Sys2Proof.Machine.execRecoveryTimeout sh p s
  | .linkDown sh p => Sys2Proof.Machine.execLinkDown sh p s
  | .linkDeferEnd sh p => Sys2Proof.Machine.execLinkDeferEnd sh p s
  | .imgOpen => Sys2Proof.Machine.execImgOpen s
  | .arm => Sys2Proof.Machine.execArm s
  | .armDone => Sys2Proof.Machine.execArmDone s
  | .activate => Sys2Proof.Machine.execActivate s
  | .cancel => Sys2Proof.Machine.execCancel s
  | .confirm => Sys2Proof.Machine.execConfirm s
  | .stagingDone => Sys2Proof.Machine.execStagingDone s
  | .stagingLate => Sys2Proof.Machine.execStagingLate s
  | .foremanStart => Sys2Proof.Machine.execForemanStart s
  | .revertDone => Sys2Proof.Machine.execRevertDone s
  | .commit => Sys2Proof.Machine.execCommit s
  | .pointerBlockWrite => Sys2Proof.Machine.execPointerBlockWrite s
  | .settingAppend => Sys2Proof.Machine.execSettingAppend s
  | .settingClear => Sys2Proof.Machine.execSettingClear s
  | .boot => Sys2Proof.Machine.execBoot s
  | .shaftBoot sh => Sys2Proof.Machine.execShaftBoot sh s
  | .por c => Sys2Proof.Machine.execPor c s
  | .porRelease strap => Sys2Proof.Machine.execPorRelease strap s
  | .governorUpdate n => Sys2Proof.Machine.execGovernorUpdate n s
  | .dozeRequest sh => Sys2Proof.Machine.execDozeRequest sh s
  | .dozeEnter sh => Sys2Proof.Machine.execDozeEnter sh s
  | .dozeExit sh => Sys2Proof.Machine.execDozeExit sh s
  | .canarySample sh r e => Sys2Proof.Machine.execCanarySample sh r e s
  | .sensorSelfCheck sh off => Sys2Proof.Machine.execSensorSelfCheck sh off s
  | .sensorRearm sh l => Sys2Proof.Machine.execSensorRearm sh l s
  | .orderlyStopEnd sh => Sys2Proof.Machine.execOrderlyStopEnd sh s
  | .thermRestart sh => Sys2Proof.Machine.execThermRestart sh s
  | .coldHoldEnd sh => Sys2Proof.Machine.execColdHoldEnd sh s
  | .coldReset pin strap => Sys2Proof.Machine.execColdReset pin strap s
  | .shaftReset sh => Sys2Proof.Machine.execShaftReset sh s
  | .stopeReset sh k => Sys2Proof.Machine.execStopeReset sh k s
  | .portalReset sh p => Sys2Proof.Machine.execPortalReset sh p s
  | .foreRestart c => Sys2Proof.Machine.execForeRestart c s
  | .foremanReady => Sys2Proof.Machine.execForemanReady s
  | .sliceDrainEnd sh => Sys2Proof.Machine.execSliceDrainEnd sh s
  | .lodeClearDone sh => Sys2Proof.Machine.execLodeClearDone sh s
  | .sliceReset sh => Sys2Proof.Machine.execSliceReset sh s
  | .aditSliceDone sh => Sys2Proof.Machine.execAditSliceDone sh s
  | .hewerUnderTest sh => Sys2Proof.Machine.execHewerUnderTest sh s
  | .bstDone sh faults first => Sys2Proof.Machine.execBstDone sh faults first s
  | .flashProgramDone ok => Sys2Proof.Machine.execFlashProgramDone ok s
  | .holdSet sh p => Sys2Proof.Machine.execHoldSet sh p s
  | .damagedHeaderFrame opcode hcrc f => Sys2Proof.Machine.execDamagedHeaderFrame opcode hcrc f s

end Sys2Proof.Machine
end

