-- ==== Sys2Proof/Machine/Tick.lean ====
section
/-! DEFINITION. One µs of time: the model's own clock, the tally clocks (R136), fabric time with its slew (R115, R118), the pacer edges of the
stopes (R101 to R103), and the commands that end with a µs (R154, R250, R264, R327, R400). -/

namespace Sys2Proof.Machine

/-- The part of an outstanding offset slewed in one µs: at most 0.5 ns (R118), kept in sixteenths of 2^-12 ns. `slew` is in ns; half a
nanosecond is 32,768 of the 65,536 fractions of one. -/
def slewPart (slew : Int) (frac : BitVec 16) : Int × BitVec 16 × Int :=
  if 0 < slew then
    let f := frac.toNat + 32768
    if f < 65536 then (0, BitVec.ofNat 16 f, slew) else (1, BitVec.ofNat 16 (f - 65536), slew - 1)
  else if slew < 0 then
    if 32768 ≤ frac.toNat then (0, BitVec.ofNat 16 (frac.toNat - 32768), slew)
    else (-1, BitVec.ofNat 16 (frac.toNat + 32768), slew + 1)
  else (0, frac, slew)

/-- The clocks move on by one µs. The tally clocks stand at 0 during POR. -/
def State.clocks (s : State) : State :=
  let r := slewPart s.slew s.frac
  { s with
    up := s.up + 1
    fab := s.fab + 1000 + BitVec.ofInt 64 r.1
    frac := r.2.1
    slew := r.2.2
    shafts := if s.por then s.shafts else s.shafts.mapAll (fun _ h => { h with clock := h.clock + 1 }) }

/-- What a µs brings to the work of a shaft: the edges of its pacers, the end of commands of CLM.CMD, QMG.CMD and
QMG.HOST_CMD and of readbacks, and the wakes of R341 that were not completed. -/
def State.shaftUs (s : State) (n : Shaft) : State := ((((s.edgesOfUs n).clmEnd n).queueBounds n).wakesOver n).readbackUs n

/-- One µs passes. -/
def State.tick (s : State) : State := if s.por then s.clocks else (s.clocks.eachShaft (fun n a => a.shaftUs n)).imgUs

end Sys2Proof.Machine
end

