-- ==== Sys2Proof/Safety.lean ====
section
/-! DEFINITION. What counts as a safe run, and the words the claims are said in: when a hewer thread issues, what one step of it leaves, when
a register write meets none of its refusals. -/

namespace Sys2Proof

/-- The outcome is a next state. The block has no fault (assumption 1) and this model refuses no command. -/
def Safe (o : Host.Outcome Machine.State Machine.Fault Machine.Refusal) : Prop := ∃ t, o = .next t

namespace Machine

/-! ### Register writes -/

/-- The Cage is ready and no reset that was asked for is still to begin (R76, R469). -/
abbrev State.CageFree (s : State) : Prop := s.cage.ready = true ∧ s.resetsDue = []

/-- Nothing turns away a write to block `b` of scope `sc`: the Cage takes it (R76), the block is not gated (R55), its layer is in service and it does
not return from a gate (R31), and the Deep level is open (R50). -/
def State.Open (s : State) (sc : Nat) (b : Block) : Prop := s.CageFree ∧ s.gated sc b = false ∧ s.blockBusy sc b = false ∧ s.deepOpen sc = true

/-! ### What every step keeps -/

/-- The event log holds at most 4,096 entries (R80); every register field holds a value of its width (R12); the flash and the block memories are in their canonical
form, so that equal memories are equal data. -/
def State.Inv (s : State) : Prop :=
  s.log.length ≤ 4096 ∧ (∀ (f : Fld) (sc e : Nat), sc < 16 → s.getF f sc e < 2 ^ f.desc.width) ∧ Memory.wf erasedByte s.flash = true ∧
    ∀ n : Shaft, Memory.wf 0 (s.sh n).blk = true

/-! ### Hewers -/

/-- A hewer step whose checks found no error (R220, R222). -/
def StepCheck.clean : StepCheck := ⟨.good, .good, false, false⟩

/-- A hewer instruction among the commands: shaft, hewer, thread, fields, checks and its opcode (R204). -/
structure HewCall where
  n : Shaft
  h : Nat
  k : Nat
  i : HewFields
  u : StepCheck
  op : BitVec 8

/-- The hewer instruction a command is, if it is one. -/
def hewCall : Instr → Option HewCall
  | .hewAdd s h t i u => some ⟨s, h, t, i, u, 0x01⟩
  | .hewSub s h t i u => some ⟨s, h, t, i, u, 0x02⟩
  | .hewAnd s h t i u => some ⟨s, h, t, i, u, 0x03⟩
  | .hewOr s h t i u => some ⟨s, h, t, i, u, 0x04⟩
  | .hewXor s h t i u => some ⟨s, h, t, i, u, 0x05⟩
  | .hewShl s h t i u => some ⟨s, h, t, i, u, 0x06⟩
  | .hewShr s h t i u => some ⟨s, h, t, i, u, 0x07⟩
  | .hewSar s h t i u => some ⟨s, h, t, i, u, 0x08⟩
  | .hewMov s h t i u => some ⟨s, h, t, i, u, 0x09⟩
  | .hewMovh s h t i u => some ⟨s, h, t, i, u, 0x0A⟩
  | .hewCmp s h t i u => some ⟨s, h, t, i, u, 0x0B⟩
  | .hewSel s h t i u => some ⟨s, h, t, i, u, 0x0C⟩
  | .hewPopc s h t i u => some ⟨s, h, t, i, u, 0x0D⟩
  | .hewFfs s h t i u => some ⟨s, h, t, i, u, 0x0E⟩
  | .hewExt s h t i u => some ⟨s, h, t, i, u, 0x10⟩
  | .hewIns s h t i u => some ⟨s, h, t, i, u, 0x11⟩
  | .hewBr s h t i u => some ⟨s, h, t, i, u, 0x18⟩
  | .hewBls s h t i u => some ⟨s, h, t, i, u, 0x19⟩
  | .hewBcnt s h t i u => some ⟨s, h, t, i, u, 0x1A⟩
  | .hewJal s h t i u => some ⟨s, h, t, i, u, 0x1B⟩
  | .hewJr s h t i u => some ⟨s, h, t, i, u, 0x1C⟩
  | .hewTld s h t i u => some ⟨s, h, t, i, u, 0x20⟩
  | .hewTst s h t i u => some ⟨s, h, t, i, u, 0x21⟩
  | .hewRecv s h t i u => some ⟨s, h, t, i, u, 0x22⟩
  | .hewMput s h t i u => some ⟨s, h, t, i, u, 0x23⟩
  | .hewLookup s h t i u _ => some ⟨s, h, t, i, u, 0x28⟩
  | .hewSetst s h t i u => some ⟨s, h, t, i, u, 0x29⟩
  | .hewAddsh s h t i u _ => some ⟨s, h, t, i, u, 0x2A⟩
  | .hewRemsh s h t i u _ => some ⟨s, h, t, i, u, 0x2B⟩
  | .hewSetown s h t i u _ => some ⟨s, h, t, i, u, 0x2C⟩
  | .hewEvict s h t i u => some ⟨s, h, t, i, u, 0x2D⟩
  | .hewSend s h t i u => some ⟨s, h, t, i, u, 0x30⟩
  | .hewSnpx s h t i u => some ⟨s, h, t, i, u, 0x31⟩
  | .hewFwdd s h t i u => some ⟨s, h, t, i, u, 0x32⟩
  | .hewMrd s h t i u => some ⟨s, h, t, i, u, 0x38⟩
  | .hewMrds s h t i u => some ⟨s, h, t, i, u, 0x39⟩
  | .hewMwr s h t i u => some ⟨s, h, t, i, u, 0x3A⟩
  | .hewWaitr s h t i u => some ⟨s, h, t, i, u, 0x40⟩
  | .hewWaitt s h t i u => some ⟨s, h, t, i, u, 0x41⟩
  | .hewSpst s h t i u => some ⟨s, h, t, i, u, 0x48⟩
  | .hewSpcf s h t i u => some ⟨s, h, t, i, u, 0x49⟩
  | .hewSpab s h t i u => some ⟨s, h, t, i, u, 0x4A⟩
  | .hewQpush s h t i u => some ⟨s, h, t, i, u, 0x50⟩
  | .hewQpop s h t i u => some ⟨s, h, t, i, u, 0x51⟩
  | .hewQmark s h t i u => some ⟨s, h, t, i, u, 0x52⟩
  | .hewQrwnd s h t i u => some ⟨s, h, t, i, u, 0x53⟩
  | .hewCnt s h t i u => some ⟨s, h, t, i, u, 0x58⟩
  | .hewNop s h t i u => some ⟨s, h, t, i, u, 0x5E⟩
  | .hewEnd s h t i u => some ⟨s, h, t, i, u, 0x5F⟩
  | _ => none

/-- Thread `k` of hewer `h` runs tally `t`, waits for nothing, and the word at its PC is instruction `i` of opcode `op` (R190, R200). -/
abbrev State.Fetches (s : State) (n : Shaft) (h k t : Nat) (op : BitVec 8) (i : HewFields) : Prop :=
  s.hewReady n h k = true ∧ (s.thread n h k).tally = some t ∧
    s.codeWord n (s.tally n t).epoch (s.thread n h k).pc.toNat = i.word op

/-- It fetches the instruction and has not used up its steps (R209). -/
abbrev State.Issues (s : State) (n : Shaft) (h k t : Nat) (op : BitVec 8) (i : HewFields) : Prop :=
  s.Fetches n h k t op i ∧ (s.thread n h k).steps < s.reg n .HWR_CFG_STEP_LIMIT

/-- The tally speculates (R130). -/
def State.speculates (s : State) (n : Shaft) (t : Nat) : Bool := decide ((s.tally n t).spec = .pending)

/-- The thread after an instruction that does not branch: PC rises by 1 (R208) and one more step is counted (R209). -/
def Thread.stepped (x : Thread) : Thread := { x with pc := x.pc + 1, steps := x.steps + 1 }

/-- The thread after a jump to `a`. -/
def Thread.jumped (x : Thread) (a : BitVec 14) : Thread := { x with pc := a, steps := x.steps + 1 }

/-- Instruction `c` of opcode `op`, legal by form `f`, changes nothing but its thread, which becomes `r` of what it was, of the instruction
and of whether the tally speculates, and steps on. -/
def ThreadOnly (c : Shaft → Nat → Nat → HewFields → StepCheck → Instr) (op : BitVec 8) (f : HewFields → Form)
    (r : Thread → HewFields → Bool → Thread) : Prop :=
  ∀ (s : State) (n : Shaft) (h k t : Nat) (i : HewFields),
    s.Issues n h k t op i → (f i).legal i = true → (s.thread n h k).pc ≠ 16383 →
    exec (c n h k i .clean) s = .next (s.updThread n h k (fun x => (r x i (s.speculates n t)).stepped))

/-- The conditions under which the other hewer statements hold: instruction `c` of opcode `op` and fields `i` issues for tally `t` of
shaft `n`, is legal by form `f` and does not stand at the last address. -/
abbrev State.Steps (s : State) (n : Shaft) (h k t : Nat) (op : BitVec 8) (i : HewFields) (f : Form) : Prop :=
  s.Issues n h k t op i ∧ f.legal i = true ∧ (s.thread n h k).pc ≠ 16383

/-- The thread's own step, with nothing else of it changed. -/
def State.stepOn (s : State) (n : Shaft) (h k : Nat) : State := s.updThread n h k Thread.stepped

/-- A template's control word allows class `cls` and traps no instruction that accepts one of `accepts` (R198). -/
abbrev ControlOk (w : DWord) (accepts : List (BitVec 4)) : Prop :=
  w.extractLsb' 0 4 ∈ accepts ∧ ¬(w.getLsbD 8 = true ∧ w.getLsbD 9 = true) ∧ ¬(w.getLsbD 10 = true ∧ w.getLsbD 11 = true) ∧
    w.extractLsb' 6 2 = 0 ∧ w.extractLsb' 16 48 = 0

/-- The control word and the body of template IMM[7:0] of the bank of tally `t`. -/
def State.templateControl (s : State) (n : Shaft) (t : Nat) (i : HewFields) : DWord :=
  Tbl.get 0 ((s.sh n).bank (s.tally n t).epoch).control (i.imm.toNat % 256)
def State.templateBody (s : State) (n : Shaft) (t : Nat) (i : HewFields) : BitVec 512 :=
  Tbl.get 0 ((s.sh n).bank (s.tally n t).epoch).body (i.imm.toNat % 256)

/-- `b` is the tub that instruction `i` of tally `t` on thread `k` of hewer `h` builds from template IMM[7:0] (R198, R199), but for its ADDR. -/
def State.Built (s : State) (n : Shaft) (h k t : Nat) (i : HewFields) (b : Tub) : Prop :=
  let y := s.tally n t
  let x := s.thread n h k
  let w := s.templateControl n t i
  b.cls = w.extractLsb' 0 4 ∧ b.tv = true ∧ b.tally = BitVec.ofNat 15 t ∧ b.gen = y.gen ∧ b.seq = i.imm.extractLsb' 8 8 ∧ b.line = 0 ∧
  b.poison = false ∧ b.unconf = false ∧ b.wdog = false ∧ b.spc = s.speculates n t ∧
  b.opcode = (s.templateBody n t i).extractLsb' 0 8 ∧
  (w.getLsbD 8 = true → b.dstAgent = y.agent) ∧
  (w.getLsbD 9 = true → b.dstAgent = (x.opA i).extractLsb' 0 10) ∧
  (w.getLsbD 12 = true → b.ftag = y.request.extractLsb' 128 64) ∧
  (w.getLsbD 13 = true → b.portal = y.portal) ∧
  (w.getLsbD 14 = true → b.status = (x.opB i).extractLsb' 0 32) ∧
  (w.getLsbD 15 = true → b.lines = y.lines)

/-- PENDING of tally `t` rises by `k`; with `spc` the tub just sent counts in TRANSIT (R233). -/
def State.sentBy (s : State) (n : Shaft) (t k : Nat) (spc : Bool) : State :=
  s.updTally n t (fun y =>
    { y with pending := y.pending + k, sp := { y.sp with transit := if spc then y.sp.transit + 1 else y.sp.transit } })

/-- The next deferral slot entry of tally `t` is `e` (R230): in the slot it has, or, at its first deferral, in the lowest free tub slot. -/
def State.Deferred (s : State) (n : Shaft) (t : Nat) (e : BitVec 64) (t' : State) : Prop :=
  let sp := (s.tally n t).sp
  let count (a : State) : State := a.updTally n t (fun y => { y with sp := { y.sp with deferCount := sp.deferCount + 1 } })
  (∃ j, sp.deferSlot = some j ∧ t' = count (s.setSlot n j ((s.slot n j).put (8 * sp.deferCount) 0 e))) ∨
    (sp.deferSlot = none ∧ 1 ≤ s.freeSlots n ∧ ∃ j, s.freeSlot n = some j ∧
      t' = (count ((s.setSlot n j (Tub.zero.put (8 * sp.deferCount) 0 e)).updSh n (fun h => { h with pool := h.pool ++ [j] }))).updTally n t
        (fun y => { y with sp := { y.sp with deferSlot := some j } }))

/-- No operation and no command waits for queue `q`: what comes has the queue's next slot to itself (R251). -/
def State.Alone (s : State) (n : Shaft) (q : Nat) : Prop :=
  (∀ o ∈ (s.sh n).qops, o.queue ≠ q) ∧ ∀ op, (s.sh n).queueCmd ≠ some (op, q)

/-- Tub `b` enters haulage at hewer `h` for the egress queue of portal `p` (R92, R205). -/
def State.toEgress (s : State) (n : Shaft) (h : Nat) (b : Tub) (p : Portal) : State :=
  s.updSh n (fun x =>
    { x with flights := x.flights ++ [⟨b, .router (hewerRouter h), .router (hewerRouter h), 0x81, .egress p, none, none⟩] })

end Machine

end Sys2Proof
end

