-- ==== Sys2Proof/Certificates/Slice0/Obligations.lean ====
section
/-! DEFINITION. The statements for the provers, one `Obligations.<Name>` each, as OBLIGATIONS.json lists them. -/

open Sys2Proof Sys2Proof.Machine

/-- R202, R204: ADD and SUB write the 64-bit result to Wd (tainted while the tally speculates, R194) and set Z, N, C and V from it: C is the carry
of ADD and the borrow of SUB, V says that the signed result does not fit. Everything else of the machine is unchanged. R202, R204: AND, OR, XOR,
SHL, SHR, SAR, MOV, POPC and FFS write their result to Wd, set Z and N from it and clear C and V. R203, R204: MOVH writes IMM to Wd[63:32]; CMP sets
the flags from opA − opB and T from the condition X[3:0]; SEL takes opA when T is 1 and opB otherwise. No other flag changes. R204: EXT writes opA[p
+ w − 1 : p], zero-extended, to Wd, and INS puts opA[w − 1 : 0] at Wd[p + w − 1 : p] and keeps the other bits, with p = IMM[5:0] and w = IMM[14:8].
No flag changes. -/
def Obligations.HewerArithmetic : Prop :=
  (
    ThreadOnly .hewAdd 0x01 (fun _ => Form.dab) (fun x i p =>
      let a := x.opA i
      let b := x.opB i
      { x.setReg i.d (a + b) p with
        z := decide (a + b = 0), n := decide ((a + b).toInt < 0), c := decide (2 ^ 64 ≤ a.toNat + b.toNat)
        v := decide ((a + b).toInt ≠ a.toInt + b.toInt) }) ∧
    ThreadOnly .hewSub 0x02 (fun _ => Form.dab) (fun x i p =>
      let a := x.opA i
      let b := x.opB i
      { x.setReg i.d (a - b) p with
        z := decide (a = b), n := decide ((a - b).toInt < 0), c := decide (a.toNat < b.toNat)
        v := decide ((a - b).toInt ≠ a.toInt - b.toInt) })) ∧
  (
    let row (c : Shaft → Nat → Nat → HewFields → StepCheck → Instr) (op : BitVec 8) (f : Form) (r : DWord → DWord → DWord) : Prop :=
      ThreadOnly c op (fun _ => f) (fun x i p =>
        let v := r (x.opA i) (x.opB i)
        { x.setReg i.d v p with z := decide (v = 0), n := decide (v.toInt < 0), c := false, v := false })
    let one : Form := { d := true, a := true }
    row .hewAnd 0x03 Form.dab (fun a b => a &&& b) ∧
    row .hewOr 0x04 Form.dab (fun a b => a ||| b) ∧
    row .hewXor 0x05 Form.dab (fun a b => a ^^^ b) ∧
    row .hewShl 0x06 Form.dab (fun a b => a <<< (b.toNat % 64)) ∧
    row .hewShr 0x07 Form.dab (fun a b => a >>> (b.toNat % 64)) ∧
    row .hewSar 0x08 Form.dab (fun a b => a.sshiftRight (b.toNat % 64)) ∧
    row .hewMov 0x09 { d := true, b := true, bi := true } (fun _ b => b) ∧
    row .hewPopc 0x0D one (fun a _ => BitVec.ofNat 64 ((List.range 64).countP (fun j => a.getLsbD j))) ∧
    row .hewFfs 0x0E one (fun a _ => BitVec.ofNat 64 (((List.range 64).find? (fun j => a.getLsbD j)).getD 64))) ∧
  (
    ThreadOnly .hewMovh 0x0A (fun i => { d := true, bi := true, ok := i.bi }) (fun x i p =>
      x.setReg i.d ((i.imm ++ (x.reg i.d.toNat).extractLsb' 0 32 : BitVec 64)) p) ∧
    ThreadOnly .hewCmp 0x0B Form.cmp (fun x i _ =>
      let a := x.opA i
      let b := x.opB i
      { x with
        z := decide (a = b), n := decide ((a - b).toInt < 0), c := decide (a.toNat < b.toNat)
        v := decide ((a - b).toInt ≠ a.toInt - b.toInt)
        t := match (i.x &&& 0xF).toNat with
          | 0 => decide (a = b)
          | 1 => decide (a ≠ b)
          | 2 => decide (a.toNat < b.toNat)
          | 3 => decide (b.toNat ≤ a.toNat)
          | 4 => decide (a.toInt < b.toInt)
          | 5 => decide (b.toInt ≤ a.toInt)
          | 6 => decide (a.toNat ≤ b.toNat)
          | 7 => decide (b.toNat < a.toNat)
          | 8 => decide (a.toInt ≤ b.toInt)
          | _ => decide (b.toInt < a.toInt) }) ∧
    ThreadOnly .hewSel 0x0C (fun _ => Form.dab) (fun x i p => x.setReg i.d (if x.t then x.opA i else x.opB i) p)) ∧
  (
    ThreadOnly .hewExt 0x10 Form.field (fun x i p =>
      x.setReg i.d (BitVec.ofNat 64 ((x.opA i).toNat / 2 ^ (i.imm.toNat % 64) % 2 ^ (i.imm.toNat / 256 % 128))) p) ∧
    ThreadOnly .hewIns 0x11 Form.field (fun x i p =>
      let p₀ := i.imm.toNat % 64
      let w := i.imm.toNat / 256 % 128
      let old := (x.reg i.d.toNat).toNat
      x.setReg i.d (BitVec.ofNat 64
        (old % 2 ^ p₀ + (x.opA i).toNat % 2 ^ w * 2 ^ p₀ + old / 2 ^ (p₀ + w) * 2 ^ (p₀ + w))) p))

/-- R203, R204, R208: BR, BLS and BCNT go to IMM[13:0] when their condition holds, and otherwise to the next address. Nothing else of the machine
changes. R204: JAL writes PC + 1 to Wd and goes to IMM[13:0]; JR goes to opA, and traps BOUNDS when opA is above 16,383. -/
def Obligations.HewerControlFlow : Prop :=
  (
    let row (c : Shaft → Nat → Nat → HewFields → StepCheck → Instr) (op : BitVec 8) (f : HewFields → Form)
        (cond : Thread → Tally → HewFields → Bool) : Prop :=
      ∀ (s : State) (n : Shaft) (h k t : Nat) (i : HewFields),
        s.Issues n h k t op i → (f i).legal i = true →
        (cond (s.thread n h k) (s.tally n t) i = true ∨ (s.thread n h k).pc ≠ 16383) →
        exec (c n h k i .clean) s = .next (s.updThread n h k (fun x =>
          if cond (s.thread n h k) (s.tally n t) i then x.jumped (i.imm.extractLsb' 0 14) else x.stepped))
    row .hewBr 0x18 (fun i => Form.branch 0xF (decide ((i.x &&& 0xF).toNat ≤ 9))) (fun x _ i =>
      match (i.x &&& 0xF).toNat with
      | 0 => true
      | 1 => x.z
      | 2 => !x.z
      | 3 => x.n
      | 4 => !x.n
      | 5 => x.c
      | 6 => !x.c
      | 7 => x.t
      | 8 => !x.t
      | _ => x.v) ∧
    row .hewBls 0x19 (fun _ => Form.branch 0xF) (fun _ y i =>
      let r := (y.prov.getD (y.setst.getD y.prior)).toNat
      decide (r < 4) && i.x.getLsbD r) ∧
    row .hewBcnt 0x1A (fun _ => Form.branch 0x3FF) (fun _ y i => decide (y.pending ≤ i.x.toNat))) ∧
  (
    ∀ (s : State) (n : Shaft) (h k t : Nat) (i : HewFields),
      (s.Issues n h k t 0x1B i → (Form.legal { d := true, imm := 0x3FFF } i) = true →
        exec (.hewJal n h k i .clean) s = .next (s.updThread n h k (fun x =>
          (x.setReg i.d (BitVec.ofNat 64 (x.pc.toNat + 1)) (s.speculates n t)).jumped (i.imm.extractLsb' 0 14)))) ∧
      (s.Issues n h k t 0x1C i → (Form.legal { a := true } i) = true →
        exec (.hewJr n h k i .clean) s = .next (
          let a := ((s.thread n h k).opA i).toNat
          if a ≤ 16383 then s.updThread n h k (fun x => x.jumped (BitVec.ofNat 14 a))
          else s.hewTrap n h k t Cause.BOUNDS (s.thread n h k).pc.toNat (i.word 0x1C))))

/-- R204: TLD reads 2^X[1:0] bytes of the tally at byte IMM[6:0], zero-extended; MPUT writes a word of M; RECV moves the oldest matched tub that it
asks for to M and its sideband to Wd and gives the tub slot back, or sets Z when there is none. R204, R137, R228: TST writes opA's low bytes to
SCRATCH, TIMER or DEADLINE, and DEADLINE (a parent's with those of its line tallies) only if the new value is earlier than the present one; while
the tally speculates SCRATCH becomes tainted, and TIMER and DEADLINE trap DAYLIGHT. -/
def Obligations.HewerRecordAndStore : Prop :=
  (
    (∀ (s : State) (n : Shaft) (h k t : Nat) (i : HewFields),
      s.Steps n h k t 0x20 i { d := true, x := 3, imm := 0x7F } →
      let size := 2 ^ (i.x.toNat % 4)
      let off := i.imm.toNat % 128
      off % size = 0 ∨ (size = 4 ∧ off = 42) →
      exec (.hewTld n h k i .clean) s = .next (s.updThread n h k (fun x =>
        (x.setReg i.d (BitVec.ofNat 64 ((s.record n t).toNat / 2 ^ (8 * off) % 2 ^ (8 * size))) (s.speculates n t)).stepped))) ∧
    (∀ (s : State) (n : Shaft) (h k t : Nat) (i : HewFields),
      s.Steps n h k t 0x23 i { a := true, imm := 7 } →
      exec (.hewMput n h k i .clean) s = .next (s.updThread n h k (fun x =>
        { x with m := x.m.put (8 * (i.imm.toNat % 8)) 0 (x.opA i), mt := s.speculates n t || x.mt }.stepped))) ∧
    (∀ (s : State) (n : Shaft) (h k t : Nat) (i : HewFields),
      s.Steps n h k t 0x22 i { d := true, x := if i.x.getLsbD 4 then 0x1F else 0x10 } →
      let asked (j : Nat) : Bool := !i.x.getLsbD 4 || decide ((s.slot n j).cls.toNat = i.x.toNat % 16)
      (∀ (before after : List Nat) (j : Nat), (s.tally n t).rcvd = before ++ j :: after → asked j = true → (∀ a ∈ before, asked a = false) →
        exec (.hewRecv n h k i .clean) s = .next (
          ((s.updTally n t (fun y => { y with rcvd := before ++ after })).giveSlots n [j]).updThread n h k (fun x =>
            { x.setReg i.d (s.slot n j).sideband (s.speculates n t) with
              m := s.slot n j, mt := s.speculates n t, z := false, t := (s.slot n j).poison }.stepped))) ∧
      ((∀ a ∈ (s.tally n t).rcvd, asked a = false) →
        exec (.hewRecv n h k i .clean) s = .next (s.updThread n h k (fun x => { x with z := true, t := false }.stepped))))) ∧
  (
    ∀ (s : State) (n : Shaft) (h k t : Nat) (i : HewFields),
      s.Steps n h k t 0x21 i { a := true, x := 3, imm := 0x7F } →
      let size := 2 ^ (i.x.toNat % 4)
      let off := i.imm.toNat % 128
      let v := (s.thread n h k).opA i
      let p := s.speculates n t
      let trap (c : Nat) := s.hewTrap n h k t c (s.thread n h k).pc.toNat (i.word 0x21)
      exec (.hewTst n h k i .clean) s = .next (
        if 112 ≤ off ∧ off < 120 ∧ off % size = 0 then
          (s.updTally n t (fun y =>
            let old := y.scratch.toNat
            let lo := 8 * (off - 112)
            let w := 8 * size
            { y with
              scratch := BitVec.ofNat 64 (old % 2 ^ lo + v.toNat % 2 ^ w * 2 ^ lo + old / 2 ^ (lo + w) * 2 ^ (lo + w))
              park := { y.park with taintS := y.park.taintS || p } })).stepOn n h k
        else if size = 4 ∧ off = 42 then
          if p then trap Cause.DAYLIGHT else (s.updTally n t (fun y => { y with timer := v.extractLsb' 0 32 })).stepOn n h k
        else if size = 4 ∧ off = 16 then
          if p then trap Cause.DAYLIGHT
          else ((t :: if (s.tally n t).kind = .haulParent then s.children n t else []).foldl (fun a j => a.updTally n j (fun y =>
            if 2 ^ 31 ≤ (v.extractLsb' 0 32 - y.deadline).toNat then { y with deadline := v.extractLsb' 0 32 } else y)) s).stepOn n h k
        else trap Cause.BOUNDS))

/-- R168, R231, R209: LOOKUP reads the entry of the tally's sector, its own line as PRIOR_STATE; SETST records the release state, provisionally
while the tally speculates; EVICT opens a recall of the sector's way (or queues one) unless one is open; none of them is for a RECALL tally but
LOOKUP, which there reads the lines as the recall took them. R168, R169, R204, R230: ADDSH, REMSH and SETOWN change the entry of the tally's sector
for the agent (the tally's own with X[0] 1, otherwise opA, which must be below 1,024); while the tally speculates they are written, as the 64 bits
of R230, to its deferral slot, at most 8 entries, taking a tub slot at the first; in a RECALL tally they trap ILLEGAL. -/
def Obligations.HewerDirectory : Prop :=
  (
    ∀ (s : State) (n : Shaft) (h k t : Nat) (i : HewFields),
      let y := s.tally n t
      let set := homeSet y.line
      let trap (op : BitVec 8) (c : Nat) := s.hewTrap n h k t c (s.thread n h k).pc.toNat (i.word op)
      (s.Steps n h k t 0x28 i { d := true } →
        (y.recallRec = none →
          exec (.hewLookup n h k i .clean .good) s = .next (s.updThread n h k (fun x =>
            (x.setReg i.d (match s.findWay n set (homeTag y.line) with
              | some w => ((s.ent n set w).setLine (homeIdx y.line) y.prior).bits
              | none => 0) (s.speculates n t)).stepped))) ∧
        (∀ r, y.recallRec = some r →
          exec (.hewLookup n h k i .clean .good) s = .next (s.updThread n h k (fun x =>
            (x.setReg i.d
              { (if s.quarantine n r.set r.way then DirEnt.zero else s.ent n r.set r.way) with
                st0 := r.line 0, st1 := r.line 1, st2 := r.line 2, st3 := r.line 3 }.bits
              (s.speculates n t)).stepped)))) ∧
      (s.Steps n h k t 0x29 i { x := 7 } →
        exec (.hewSetst n h k i .clean) s = .next (
          if y.kind = .recall then trap 0x29 Cause.ILLEGAL
          else if 4 ≤ i.x.toNat % 8 then trap 0x29 Cause.DIR
          else if s.speculates n t then (s.updTally n t (fun y => { y with prov := some (i.x.extractLsb' 0 3) })).stepOn n h k
          else (s.updTally n t (fun y => { y with setst := some (i.x.extractLsb' 0 3) })).stepOn n h k)) ∧
      (s.Steps n h k t 0x2D i {} →
        exec (.hewEvict n h k i .clean) s = .next (
          if y.kind = .recall then trap 0x2D Cause.ILLEGAL
          else if s.speculates n t then trap 0x2D Cause.DAYLIGHT
          else match s.findWay n set (homeTag y.line) with
            | none => s.stepOn n h k
            | some w =>
              if s.recallOf n set w = none then (s.recallNow n set w .evict (.evict set w)).stepOn n h k else s.stepOn n h k))) ∧
  (
    let row (c : Shaft → Nat → Nat → HewFields → StepCheck → DirCheck → Instr) (op : BitVec 8) (kind : Nat)
        (f : DirEnt → Nat → BitVec 10 → Nat → DirEnt) : Prop :=
      ∀ (s : State) (n : Shaft) (h k t : Nat) (i : HewFields),
        s.Steps n h k t op i { a := !i.x.getLsbD 0, x := 1 } →
        let y := s.tally n t
        let set := homeSet y.line
        let b := (s.thread n h k).opA i
        let a : BitVec 10 := if i.x.getLsbD 0 then y.agent else b.extractLsb' 0 10
        let trap (c : Nat) := s.hewTrap n h k t c (s.thread n h k).pc.toNat (i.word op)
        (y.kind = .recall → exec (c n h k i .clean .good) s = .next (trap Cause.ILLEGAL)) ∧
        (y.kind ≠ .recall → i.x.getLsbD 0 = false → 1024 ≤ b.toNat → exec (c n h k i .clean .good) s = .next (trap Cause.BOUNDS)) ∧
        (y.kind ≠ .recall → (i.x.getLsbD 0 = true ∨ b.toNat < 1024) → s.speculates n t = false →
          exec (c n h k i .clean .good) s = .next (match s.findWay n set (homeTag y.line) with
            | none => s.stepOn n h k
            | some w => (s.setEnt n set w (f (s.ent n set w) (homeIdx y.line) a (s.reg n .DIR_CFG_BCAST_GROUPS))).stepOn n h k)) ∧
        (y.kind ≠ .recall → (i.x.getLsbD 0 = true ∨ b.toNat < 1024) → s.speculates n t = true →
          (8 ≤ y.sp.deferCount → exec (c n h k i .clean .good) s = .next (trap Cause.DAYLIGHT)) ∧
          (y.sp.deferCount < 8 → ∀ t', s.Deferred n t (BitVec.ofNat 64 (kind + 16 * a.toNat)) t' →
            exec (c n h k i .clean .good) s = .next (t'.stepOn n h k)))
    row .hewAddsh 0x2A 1 (fun e _ a l => e.addSharer a l) ∧
    row .hewRemsh 0x2B 2 (fun e j a _ => e.removeSharer j a) ∧
    row .hewSetown 0x2C 3 (fun e j a l => e.setOwner j a l))

/-- R166, R168: ADD_SHARER never loses an agent: of the agents that are present, everyone whom the entry's expansion set held is in it afterwards,
and so is the agent added. -/
def Obligations.AddSharerCovers : Prop :=
  ∀ (s : State) (n : Shaft) (e : DirEnt) (a : BitVec 10) (limit : Nat),
    e.mode.toNat ≤ 5 →
    let present (b : BitVec 10) : Prop := (s.reg n .DIR_PRESENT_PRESENT (b.toNat / 32)).testBit (b.toNat % 32) = true
    (present a → a ∈ s.expansion n (e.addSharer a limit)) ∧
    (∀ b, present b → b ∈ s.expansion n e → b ∈ s.expansion n (e.addSharer a limit))

/-- R198, R199, R205, R206: SEND to a portal builds a tub from its template, raises PENDING by EXPECT and puts the tub into haulage for that
portal's egress queue; FWDD sends M instead and raises nothing. A tub made while the tally speculates carries SPC 1 and counts in TRANSIT. Sent to a
queue of the shaft, without speculation, it is pushed onto that queue and T stays as it was. (The DAT tub with which a line tally of a read haul
answers its own origin portal is left to the haul rules.) R206: SNPX sends one SNP tub to each agent of the entry's expansion set (without the
tally's own agent with X[0] 1), writes their number to Wd and raises PENDING by EXPECT for each; here every agent's portal is link-up. -/
def Obligations.HewerSends : Prop :=
  (
    ∀ (s : State) (n : Shaft) (h k t : Nat) (i : HewFields),
      let y := s.tally n t
      let x := s.thread n h k
      let w := s.templateControl n t i
      let e := (w.extractLsb' 4 2).toNat
      let p : Portal := if i.x.getLsbD 0 then Fin.ofNat 8 (i.imm.toNat / 65536 % 8) else y.portal
      let q := (x.reg i.d.toNat).toNat
      (¬(y.spec = .aborted ∧ 0 < y.sp.transit) → ¬(s.speculates n t = true ∧ y.sp.transit = BitVec.allOnes 12) → i.x.getLsbD 1 = false →
      (s.Steps n h k t 0x30 i (Form.send i true 0xFFFF) →
        ControlOk w [0x1, 0x2, 0x3, 0x4, 0x5, 0x6, 0x9] → ¬(s.speculates n t = true ∧ w.extractLsb' 0 4 = 0x4) →
        (w.getLsbD 11 = true → w.extractLsb' 0 4 = 0x1 ∨ w.extractLsb' 0 4 = 0x2 → (x.opB i).toNat < 2 ^ 40) → y.pending + e ≤ 8191 →
        ¬(y.kind = .haulLine ∧ w.extractLsb' 0 4 = 0x3) →
        ∃ b : Tub, s.Built n h k t i b ∧ (w.getLsbD 10 = true → b.addr = y.lineAddr) ∧ (w.getLsbD 11 = true → b.addr = x.opB i) ∧
          exec (.hewSend n h k i .clean) s = .next (((s.sentBy n t e (s.speculates n t)).toEgress n h b p).stepOn n h k)) ∧
      (s.Steps n h k t 0x32 i (Form.send i false 0xFF00) →
        ¬(s.speculates n t = true ∧ x.m.cls = 0x4) → x.m.cls.toNat < 0xB → y.pending ≤ 8191 → ¬(y.kind = .haulLine ∧ x.m.cls = 0x3) →
        exec (.hewFwdd n h k i .clean) s = .next (((s.sentBy n t 0 (s.speculates n t)).toEgress n h
          { x.m with
            tv := true, tally := BitVec.ofNat 15 t, gen := y.gen, seq := i.imm.extractLsb' 8 8, unconf := false, wdog := false
            spc := s.speculates n t, ans := false, ep := none } p).stepOn n h k))) ∧
      (i.x.toNat % 4 = 2 → q ≤ 131071 → s.speculates n t = false →
        let done (r : State × PushOut) : State := r.1.updThread n h k (fun z => { z with t := x.t, pc := x.pc + 1, steps := z.steps + 1 })
        (s.Steps n h k t 0x30 i (Form.send i true 0xFFFF) → ControlOk w [0x1, 0x2, 0x3, 0x4, 0x5, 0x6, 0x9] →
          (w.getLsbD 11 = true → w.extractLsb' 0 4 = 0x1 ∨ w.extractLsb' 0 4 = 0x2 → (x.opB i).toNat < 2 ^ 40) → y.pending + e ≤ 8191 →
          ∃ b : Tub, s.Built n h k t i b ∧ ∀ r, (s.sentBy n t e false).pushNow n q b true = r → r.2 ≠ .waits →
            exec (.hewSend n h k i .clean) s = .next (done r)) ∧
        (s.Steps n h k t 0x32 i (Form.send i false 0xFF00) → x.m.cls.toNat < 0xB → y.pending ≤ 8191 →
          ∀ r, s.pushNow n q { x.m with
              tv := true, tally := BitVec.ofNat 15 t, gen := y.gen, seq := i.imm.extractLsb' 8 8, unconf := false, wdog := false
              spc := false, ans := false, ep := none } true = r → r.2 ≠ .waits →
            exec (.hewFwdd n h k i .clean) s = .next (done r)))) ∧
  (
    ∀ (s : State) (n : Shaft) (h k t : Nat) (i : HewFields) (l : List (BitVec 10)),
      let y := s.tally n t
      let w := s.templateControl n t i
      let e := (w.extractLsb' 4 2).toNat
      s.Steps n h k t 0x31 i { d := true, b := i.x.getLsbD 1, x := 3, imm := 0x3FFFF } →
      ControlOk w [0x1] → s.speculates n t = false → y.recallRec = none → y.kind ≠ .recall → i.imm.toNat / 65536 % 4 = 0 →
      (w.getLsbD 11 = true → ((s.thread n h k).opB i).toNat < 2 ^ 40) → y.pending + l.length * e ≤ 8191 →
      (let ent := if i.x.getLsbD 1 then DirEnt.ofBits ((s.thread n h k).opB i)
        else match s.findWay n (homeSet y.line) (homeTag y.line) with
          | some v => (s.ent n (homeSet y.line) v).setLine (homeIdx y.line) y.prior
          | none => DirEnt.zero
      l = (s.expansion n ent).filter (fun a => !(i.x.getLsbD 0 && decide (a = y.agent)))) →
      (∀ a ∈ l, ∃ p, s.agentPortal n a = some p ∧ s.linkUp n p = true) →
      ∃ t' : State, exec (.hewSnpx n h k i .clean) s = .next t' ∧
        t'.thread n h k = ((s.thread n h k).setReg i.d (BitVec.ofNat 64 l.length) false).stepped ∧
        (t'.tally n t).pending = y.pending + l.length * e ∧
        ∃ fs : List Flight, (t'.sh n).flights = (s.sh n).flights ++ fs ∧ fs.map (fun f => f.tub.dstAgent) = l ∧
          ∀ f ∈ fs, f.tub.cls = 0x1 ∧ f.tub.addr = y.lineAddr ∧ f.tub.seq = i.imm.extractLsb' 8 8 ∧ f.tub.tally = BitVec.ofNat 15 t ∧
            f.src = .router (hewerRouter h) ∧ ∃ p, s.agentPortal n f.tub.dstAgent = some p ∧ f.act = .egress p)

/-- R147, R205, R229: MRD sends a MEM tub with the backing address of its line to the backing portal of the tally's claim, MWR follows it with M;
both raise PENDING by EXPECT. MRDS of a claim with SPECULABLE 0 sends nothing, counts DECLINED and sets T; with SPECULABLE 1 and SPEC NONE it sends
the read with SPC 1, starts the speculation with one ticket, counts STARTED and clears T. -/
def Obligations.HewerMemory : Prop :=
  ∀ (s : State) (n : Shaft) (h k t : Nat) (i : HewFields),
    let y := s.tally n t
    let w := s.templateControl n t i
    let e := (w.extractLsb' 4 2).toNat
    let c := y.inClaim
    let p : Portal := Fin.ofNat 8 (s.reg n .CLM_ENTRY0_PORTAL c)
    let back : BitVec 64 := BitVec.ofNat 64 (s.reg n .CLM_ENTRY1_BASE_GIB c * 2 ^ 30 +
      (y.lineAddr.toNat + 64 * (i.x.toNat % 4)) % 2 ^ 30)
    (ControlOk w [0x4] → y.pending + e ≤ 8191 → (i.x.toNat % 4 = 0 ∨ y.kind = .recall) → s.speculates n t = false →
      (s.Steps n h k t 0x38 i { x := 3, imm := 0xFFFF } →
        ∃ b : Tub, s.Built n h k t i b ∧ b.addr = back ∧
          exec (.hewMrd n h k i .clean) s = .next (((s.sentBy n t e false).toEgress n h b p).stepOn n h k)) ∧
      (s.Steps n h k t 0x3A i { x := 3, imm := 0xFFFF } → (s.thread n h k).m.cls = 0x3 → y.kind ≠ .haulLine →
        ∃ b : Tub, s.Built n h k t i b ∧ b.addr = back ∧
          exec (.hewMwr n h k i .clean) s = .next ((((s.sentBy n t e false).toEgress n h b p).toEgress n h
            { (s.thread n h k).m with
              tv := true, tally := BitVec.ofNat 15 t, gen := y.gen, seq := i.imm.extractLsb' 8 8, unconf := false, wdog := false
              spc := false, ans := false, ep := none } p).stepOn n h k))) ∧
    (s.Steps n h k t 0x39 i { x := 3, imm := 0xFFFF } → i.x.toNat % 4 = 0 → y.kind ≠ .recall →
      (s.reg n .CLM_ENTRY0_SPECULABLE c = 0 →
        exec (.hewMrds n h k i .clean) s = .next (
          (s.addReg n .PTL_DL_STAT2_DECLINED).updThread n h k (fun x => { x with t := true }.stepped))) ∧
      (s.reg n .CLM_ENTRY0_SPECULABLE c ≠ 0 → ControlOk w [0x4] → y.pending + e ≤ 8191 → y.spec = .none → y.sp.transit ≠ BitVec.allOnes 12 →
        ∃ b : Tub, b.cls = 0x4 ∧ b.addr = back ∧ b.spc = true ∧ b.tally = BitVec.ofNat 15 t ∧ b.gen = y.gen ∧ b.seq = i.imm.extractLsb' 8 8 ∧
          exec (.hewMrds n h k i .clean) s = .next (
            ((((s.updTally n t (fun y =>
                { y with
                  spec := .pending
                  pending := y.pending + e
                  sp := { y.sp with tickets := 1, ticketSeq := i.imm.extractLsb' 8 8, transit := y.sp.transit + 1 } })).toEgress n h b
                  p).addReg n .PTL_DL_STAT_STARTED).updThread n h k (fun x => { x with t := false }.stepped)))))

/-- R191, R204: WAITR and WAITT (which first sets TIMER to the tally clock plus opB[31:0]) jump to IMM[13:0] when their wait is met already;
otherwise the tally goes to WAIT with its park record and the thread is idle. R130, R209, R225: SPST takes SPEC from NONE to PENDING and counts
STARTED, SPCF takes it from PENDING to CONFIRMED and SPAB from PENDING to ABORTED, each with its counter; in any other sub-state they trap SPEC, but
for an SPCF that may have met an abort in one handshake, which has no effect or traps (R241); SPST in a RECALL tally traps ILLEGAL. Stated for a
thread whose tally defers nothing, pops no queue and has no tub held at a gate or stope. -/
def Obligations.HewerWaitsAndSpeculation : Prop :=
  (
    ∀ (s : State) (n : Shaft) (h k t : Nat) (i : HewFields),
      let x := s.thread n h k
      let y := s.tally n t
      let park : Park :=
        { resume := i.imm.extractLsb' 0 14, valid := true
          flags := BitVec.ofNat 5 (bit x.z + 2 * bit x.n + 4 * bit x.c + 8 * bit x.v + 16 * bit x.t)
          taintW := x.wt.extractLsb' 0 4, taintS := y.park.taintS, w0 := x.reg 0, w1 := x.reg 1, w2 := x.reg 2, w3 := x.reg 3 }
      let timer := (s.sh n).clock + (x.opB i).extractLsb' 0 32
      (s.Issues n h k t 0x40 i → (Form.legal { x := 0x3FF, imm := 0x3FFF } i) = true →
        exec (.hewWaitr n h k i .clean) s = .next (
          if y.pending ≤ i.x.toNat then s.updThread n h k (fun x => x.jumped (i.imm.extractLsb' 0 14))
          else (s.endThread n t).updTally n t (fun y => { y with st := .wait, waitFor := .responses i.x.toNat, park := park }))) ∧
      (s.Issues n h k t 0x41 i → (Form.legal { b := true, x := 0x3FF, imm := 0x3FFF } i) = true →
        exec (.hewWaitt n h k i .clean) s = .next (
          let s1 := s.updTally n t (fun y => { y with timer := timer })
          if y.pending ≤ i.x.toNat ∨ s.passed n timer = true then s1.updThread n h k (fun x => x.jumped (i.imm.extractLsb' 0 14))
          else (s1.endThread n t).updTally n t (fun y => { y with st := .wait, waitFor := .timed i.x.toNat, park := park })))) ∧
  (
    ∀ (s : State) (n : Shaft) (h k t : Nat) (i : HewFields),
      let y := s.tally n t
      let trap (op : BitVec 8) (c : Nat) := s.hewTrap n h k t c (s.thread n h k).pc.toNat (i.word op)
      (s.Steps n h k t 0x48 i {} →
        exec (.hewSpst n h k i .clean) s = .next (
          if y.kind = .recall then trap 0x48 Cause.ILLEGAL
          else if y.spec = .none then
            ((s.updTally n t (fun y => { y with spec := .pending })).addReg n .PTL_DL_STAT_STARTED).stepOn n h k
          else trap 0x48 Cause.SPEC)) ∧
      (s.Steps n h k t 0x49 i {} → y.spec ≠ .pending → ¬(y.spec = .aborted ∧ y.abortAt = some (s.thread n h k).steps) →
        exec (.hewSpcf n h k i .clean) s = .next (trap 0x49 Cause.SPEC)) ∧
      (s.Steps n h k t 0x49 i {} → y.spec = .aborted → y.abortAt = some (s.thread n h k).steps →
        let s1 := s.free.2
        exec (.hewSpcf n h k i .clean) s = .next (s1.stepOn n h k) ∨
          exec (.hewSpcf n h k i .clean) s = .next (s1.hewTrap n h k t Cause.SPEC (s.thread n h k).pc.toNat (i.word 0x49))) ∧
      (s.Steps n h k t 0x4A i {} → y.spec ≠ .pending → exec (.hewSpab n h k i .clean) s = .next (trap 0x4A Cause.SPEC)) ∧
      (y.spec = .pending → y.run = some (h, k) → y.st = .opn → y.sp.deferSlot = none → y.sp.popq = [] →
        (s.Steps n h k t 0x49 i {} → ∃ t' : State, exec (.hewSpcf n h k i .clean) s = .next t' ∧
          (t'.tally n t).spec = .confirmed ∧ (t'.tally n t).prov = none ∧
          (t'.tally n t).setst = (match y.prov with
            | some v => some v
            | none => y.setst) ∧
          (t'.thread n h k).wt = 0 ∧ (t'.thread n h k).mt = false ∧ (t'.thread n h k).pc = (s.thread n h k).pc + 1 ∧
          (∀ j, (t'.thread n h k).reg j = (s.thread n h k).reg j) ∧
          t'.reg n .PTL_DL_STAT_CONFIRMED = min (s.reg n .PTL_DL_STAT_CONFIRMED + 1) 65535) ∧
        (s.Steps n h k t 0x4A i {} → ∃ t' : State, exec (.hewSpab n h k i .clean) s = .next t' ∧
          (t'.tally n t).spec = .aborted ∧ (t'.tally n t).prov = none ∧ (t'.tally n t).setst = none ∧
          (t'.tally n t).scratch = (if y.park.taintS then 0 else y.scratch) ∧ (t'.thread n h k).wt = 0 ∧ (t'.thread n h k).mt = false ∧
          (t'.thread n h k).pc = (s.thread n h k).pc + 1 ∧
          (∀ j, (t'.thread n h k).reg j = if (s.thread n h k).wt.getLsbD j then 0 else (s.thread n h k).reg j) ∧
          (t'.thread n h k).m = (if (s.thread n h k).mt then y.view else (s.thread n h k).m) ∧
          t'.reg n .PTL_DL_STAT2_ABORTED = min (s.reg n .PTL_DL_STAT2_ABORTED + 1) 65535)))

/-- R204, R228, R252: QPUSH, QPOP, QMARK and QRWND on the queue in opA trap BOUNDS above 131,071. For a tally that does not speculate the queue
manager carries them out in the queue's next slot, and T says: dropped, underrun, refused; on a queue that does not exist INVALID_Q is counted and T
is set. Stated of a slot that nothing else waits for, but for the push and the pop of a queue that exists, which share it (R251). -/
def Obligations.HewerQueues : Prop :=
  ∀ (s : State) (n : Shaft) (h k t : Nat) (i : HewFields),
    let x := s.thread n h k
    let q := (x.opA i).toNat
    let d := s.queue n q
    let trap (op : BitVec 8) (c : Nat) := s.hewTrap n h k t c (s.thread n h k).pc.toNat (i.word op)
    let setT (a : State) (b : Bool) : State := a.updThread n h k (fun x => { x with t := b }.stepped)
    (131071 < q →
      (s.Steps n h k t 0x50 i { a := true } → exec (.hewQpush n h k i .clean) s = .next (trap 0x50 Cause.BOUNDS)) ∧
      (s.Steps n h k t 0x51 i { a := true } → exec (.hewQpop n h k i .clean) s = .next (trap 0x51 Cause.BOUNDS)) ∧
      (s.Steps n h k t 0x52 i { a := true, x := 1 } → exec (.hewQmark n h k i .clean) s = .next (trap 0x52 Cause.BOUNDS)) ∧
      (s.Steps n h k t 0x53 i { a := true } → exec (.hewQrwnd n h k i .clean) s = .next (trap 0x53 Cause.BOUNDS))) ∧
    (q ≤ 131071 → d.valid = false → s.Alone n q → s.speculates n t = false → x.m.cls.toNat < 0xB →
      let bad := s.addReg n .QMG_STAT3_INVALID_Q
      (s.Steps n h k t 0x50 i { a := true } → exec (.hewQpush n h k i .clean) s = .next (setT bad true)) ∧
      (s.Steps n h k t 0x51 i { a := true } → exec (.hewQpop n h k i .clean) s = .next (
        bad.updThread n h k (fun x => { x with m := Tub.zero, mt := false, t := true }.stepped))) ∧
      (s.Steps n h k t 0x52 i { a := true, x := 1 } → exec (.hewQmark n h k i .clean) s = .next (bad.stepOn n h k)) ∧
      (s.Steps n h k t 0x53 i { a := true } → exec (.hewQrwnd n h k i .clean) s = .next (setT bad true))) ∧
    (q ≤ 131071 → d.valid = true → d.place = false → s.speculates n t = false → x.m.cls.toNat < 0xB →
      (s.Steps n h k t 0x50 i { a := true } →
        ∀ r, s.pushNow n q { x.m with wdog := false, ans := false } true = r → r.2 ≠ .waits →
          exec (.hewQpush n h k i .clean) s = .next (setT r.1 (decide (r.2 = .dropped)))) ∧
      (s.Steps n h k t 0x51 i { a := true } →
        ∀ r m u, s.popNow n q = (r, .tub m u) →
          exec (.hewQpop n h k i .clean) s = .next (r.updThread n h k (fun _ => { x with m := m, mt := false, t := u }.stepped))) ∧
      (s.Steps n h k t 0x52 i { a := true, x := 1 } → s.Alone n q →
        exec (.hewQmark n h k i .clean) s = .next (
          ((s.setQueue n q (if i.x.getLsbD 0 then d.markClear else d.markSet)).finishQueue n q).stepOn n h k)) ∧
      (s.Steps n h k t 0x53 i { a := true } → s.Alone n q →
        exec (.hewQrwnd n h k i .clean) s = .next (match d.rewind with
          | some d' => ((s.setQueue n q d').finishQueue n q).updThread n h k (fun _ => { x with t := false }.stepped)
          | none =>
            ((s.addReg n .QMG_STAT2_REWIND_REFUSED).finishQueue n q).updThread n h k (fun _ => { x with t := true }.stepped))))

/-- R204, R207, R230: NOP only steps on; CNT raises HWR.CTR[IMM[5:0]] by X[9:0], saturating, or goes to the deferral slot while the tally
speculates; END with SPEC PENDING traps SPEC, and END of a LINE tally sends its answer, built from a template of class RSP, to the origin portal,
idles the thread and takes the tally to DONE. -/
def Obligations.HewerCountNopEnd : Prop :=
  ∀ (s : State) (n : Shaft) (h k t : Nat) (i : HewFields),
    let y := s.tally n t
    (s.Steps n h k t 0x5E i {} → exec (.hewNop n h k i .clean) s = .next (s.stepOn n h k)) ∧
    (s.Steps n h k t 0x58 i { x := 0x3FF, imm := 0x3F } →
      (s.speculates n t = false → exec (.hewCnt n h k i .clean) s = .next (
        (s.setReg n .HWR_CTR_COUNT (min (s.reg n .HWR_CTR_COUNT (i.imm.toNat % 64) + i.x.toNat) (2 ^ 32 - 1)) (i.imm.toNat % 64)).stepOn
          n h k)) ∧
      (s.speculates n t = true → y.sp.deferCount < 8 → ∀ t',
        s.Deferred n t (BitVec.ofNat 64 (4 + 16 * i.x.toNat + 2 ^ 14 * (i.imm.toNat % 64))) t' →
          exec (.hewCnt n h k i .clean) s = .next (t'.stepOn n h k))) ∧
    (s.Steps n h k t 0x5F i { imm := 0xFFFF } → y.kind = .line →
      (s.speculates n t = true →
        exec (.hewEnd n h k i .clean) s = .next (s.hewTrap n h k t Cause.SPEC (s.thread n h k).pc.toNat (i.word 0x5F))) ∧
      (let w := s.templateControl n t i
      let e := (w.extractLsb' 4 2).toNat
      s.speculates n t = false → ControlOk w [0x2] → (w.getLsbD 11 = true → ((s.thread n h k).opB i).toNat < 2 ^ 40) →
      ¬(y.spec = .aborted ∧ 0 < y.sp.transit) → y.pending + e ≤ 8191 → y.run = some (h, k) →
        ∃ (b : Tub) (t' : State), exec (.hewEnd n h k i .clean) s = .next t' ∧ s.Built n h k t i b ∧ t'.thread n h k = Thread.idle ∧
          (t'.tally n t).st = .done ∧ (t'.tally n t).ans = .sent ∧ (t'.tally n t).pending = y.pending + e ∧
          (t'.sh n).flights = (s.sh n).flights ++
            [⟨{ b with ans := true }, .router (hewerRouter h), .router (hewerRouter h), 0x81, .egress y.portal, none, none⟩]))

/-- R204, R209, R211: whatever the hewer instruction, a thread that has used up HWR.CFG.STEP_LIMIT steps traps STEP_LIMIT in its place, with the
word it fetched in the trap; and a command for a thread that runs no tally does nothing. R201, R209: ADD to SAR and SEL trap ILLEGAL when an unused
bit is nonzero (X; B with BI 1; IMM with BI 0) or operand A is M[8] or above, and otherwise not. R209 to R211: a trap of a LINE tally that does not
speculate ends its thread, takes the tally to DONE with TRAPPED 1 and its recorded SETST discarded, counts it for the shaft and the hewer, and
writes the trap log while HELD is 0. -/
def Obligations.HewerTraps : Prop :=
  (
    ∀ (c : Instr) (x : HewCall) (s : State), hewCall c = some x → x.u = .clean →
      (∀ t, s.Fetches x.n x.h x.k t x.op x.i → s.reg x.n .HWR_CFG_STEP_LIMIT ≤ (s.thread x.n x.h x.k).steps →
        exec c s = .next (s.hewTrap x.n x.h x.k t Cause.STEP_LIMIT (s.thread x.n x.h x.k).pc.toNat (x.i.word x.op))) ∧
      ((s.thread x.n x.h x.k).tally = none → exec c s = .next s)) ∧
  (
    ∀ (s : State) (n : Shaft) (h k t : Nat) (i : HewFields) (c : Shaft → Nat → Nat → HewFields → StepCheck → Instr) (op : BitVec 8),
      (c, op) ∈ [(Instr.hewAdd, 0x01), (.hewSub, 0x02), (.hewAnd, 0x03), (.hewOr, 0x04), (.hewXor, 0x05), (.hewShl, 0x06), (.hewShr, 0x07),
        (.hewSar, 0x08), (.hewSel, 0x0C)] →
      s.Issues n h k t op i →
      ((i.x ≠ 0 ∨ (i.bi = true ∧ i.b ≠ 0) ∨ (i.bi = false ∧ i.imm ≠ 0) ∨ (i.am = true ∧ 8 ≤ i.a.toNat)) →
        exec (c n h k i .clean) s = .next (s.hewTrap n h k t Cause.ILLEGAL (s.thread n h k).pc.toNat (i.word op))) ∧
      (i.x = 0 → (i.bi = true → i.b = 0) → (i.bi = false → i.imm = 0) → (i.am = true → i.a.toNat < 8) → (s.thread n h k).pc ≠ 16383 →
        ∃ t' : State, exec (c n h k i .clean) s = .next t' ∧ (t'.thread n h k).pc = (s.thread n h k).pc + 1)) ∧
  (
    ∀ (s : State) (n : Shaft) (h k t cause pc : Nat) (w : DWord),
      let y := s.tally n t
      y.kind = .line → y.spec ≠ .pending → y.run = some (h, k) → h < 52 → cause < 16 → t < 32768 → pc < 16384 → cause ≠ Cause.NO_HANDLER →
      let t' := s.hewTrap n h k t cause pc w
      (t'.tally n t).st = .done ∧ (t'.tally n t).trapped = true ∧ (t'.tally n t).setst = none ∧ t'.thread n h k = Thread.idle ∧
      t'.reg n .HWR_STAT_TRAPS = min (s.reg n .HWR_STAT_TRAPS + 1) 65535 ∧
      (s.reg n .HWR_TRAP_LOG0_HELD = 0 →
        t'.reg n .HWR_TRAP_LOG0_HELD = 1 ∧ t'.reg n .HWR_TRAP_LOG0_CAUSE = cause ∧ t'.reg n .HWR_TRAP_LOG0_HEWER = h ∧
        t'.reg n .HWR_TRAP_LOG0_PC = pc ∧ t'.reg n .HWR_TRAP_LOG1_TALLY = t) ∧
      (s.reg n .HWR_TRAP_LOG0_HELD ≠ 0 → t'.reg n .HWR_TRAP_LOG0_CAUSE = s.reg n .HWR_TRAP_LOG0_CAUSE))

/-- R63, R64, R68: the checks of a command phase whose opcode is not reserved, in order: at least 24 nibbles and, in HCRC, the CRC-16 of bytes 0 to
9 (BAD_CRC); LEN and its reserved bits, the reserved bits of ADDR, ARG 0 unless the opcode takes it, the number of nibbles and the data words that
LEN and the opcode call for (BAD_LEN); DCRC (DATA_CRC); for an address-carrying opcode ADDR on a word boundary (BAD_ADDR). R68: a command phase with
fewer than 24 nibbles or a wrong HCRC is answered BAD_CRC, counted in BAD_HDR and not stored; a reserved OPCODE is answered UNKNOWN_OP and stored.
No operation is carried out. -/
def Obligations.FrameChecks : Prop :=
  (
    ∀ (f : Frame) (o : Opcode),
      let k := f.words
      let head := 24 ≤ f.nibbles ∧ f.hcrc = crc16 ([o.code, f.tag] ++ leBytes 5 f.addr ++ leBytes 2 f.len ++ [f.arg])
      let body := o.isIn = true ∧ 0 < k
      let form := o.len k = true ∧ f.len.toNat < 2048 ∧ f.addr.toNat < 2 ^ 36 ∧ (o.args = true ∨ f.arg = 0) ∧
        (body → f.nibbles = 24 + 8 * k + 8 ∧ f.data.length = k) ∧ (¬body → f.nibbles = 24)
      let crc := body → f.dcrc = crc32 (f.data.flatMap (leBytes 4))
      let here := o.aligned = true → f.addr.toNat % 4 = 0
      (f.check o = Res.BAD_CRC ↔ ¬head) ∧
      (f.check o = Res.BAD_LEN ↔ head ∧ ¬form) ∧
      (f.check o = Res.DATA_CRC ↔ head ∧ form ∧ ¬crc) ∧
      (f.check o = Res.BAD_ADDR ↔ head ∧ form ∧ crc ∧ ¬here) ∧
      (f.check o = Res.OK ↔ head ∧ form ∧ crc ∧ here)) ∧
  (
    ∀ (s : State) (op : Byte) (hcrc : BitVec 16) (f : Frame), s.CageFree →
      let good := hcrc = crc16 (f.header op)
      (f.nibbles < 24 ∨ ¬good →
        ∃ t : State, exec (.damagedHeaderFrame op hcrc f) s = .next t ∧ t.shafts = s.shafts ∧ t.cage.stored = s.cage.stored ∧
          t.dev .CGE_STAT_BAD_HDR = min (s.dev .CGE_STAT_BAD_HDR + 1) 65535 ∧
          ∃ r, t.cage.sent = some r ∧ r.result = BitVec.ofNat 4 Res.BAD_CRC) ∧
      (24 ≤ f.nibbles → good → 0x0B < op.toNat →
        ∃ t : State, exec (.damagedHeaderFrame op hcrc f) s = .next t ∧ t.shafts = s.shafts ∧ t.cage.stored = t.cage.sent ∧
          t.dev .CGE_STAT_BAD_HDR = s.dev .CGE_STAT_BAD_HDR ∧ ∃ r, t.cage.sent = some r ∧ r.result = BitVec.ofNat 4 Res.UNKNOWN_OP))

/-- R65, R66, R69, R74: POLL, and READ, WRITE, READ_FIX and WRITE_FIX with LEN 0, do nothing but answer OK with the tag of the command, the Lamp and
ATTN and no data; the reply is stored. Stated while no HOST_SILENT stands, so that the contact writes no event. R42, R43, R71, R72: a READ or WRITE
of one word takes the word's own outcome: it reads or writes the word that stands at ADDR and answers OK; with an outcome that is no success the
Result is that outcome, LAST_FAIL names word 0 with it, and nothing is written. -/
def Obligations.CageWords : Prop :=
  (
    ∀ (s : State) (f : Frame) (c : Frame → Instr) (o : Opcode),
      (c, o) ∈ [(Instr.poll, Opc.poll), (.read, Opc.read), (.write, Opc.write), (.readFix, Opc.readFix), (.writeFix, Opc.writeFix)] →
      s.CageFree → s.cage.silent = false → f.check o = Res.OK → f.words = 0 →
      ∃ t : State, exec (c f) s = .next t ∧
        t.cage.sent = some ⟨t.lamp, 0, t.attn, f.tag, o.code, 0, crc16 [t.lamp ++ (0 : BitVec 4), t.attn, f.tag, o.code, 0, 0], [], none⟩ ∧ t.cage.stored = t.cage.sent ∧ t.cage.replyDue = true ∧
        t.cage.contact = s.up ∧ t.shafts = s.shafts ∧ t.log = s.log ∧ t.pending = s.pending ∧
        (∀ (g : Fld) (sc e : Nat), sc < 16 → g ≠ .CGE_LAST_FAIL_WORD → g ≠ .CGE_LAST_FAIL_OUTCOME → t.getF g sc e = s.getF g sc e)) ∧
  (
    ∀ (s : State) (f : Frame) (v : Word),
      s.CageFree → s.cage.silent = false → f.words = 1 →
      (∀ c o, (c, o) ∈ [(Instr.read, Opc.read), (.readFix, Opc.readFix)] → f.check o = Res.OK →
        ∃ t : State, exec (c f) s = .next t ∧
          (let r := State.readAt { s with cage := { s.cage with contact := s.up, silent := false } }
              { s with cage := { s.cage with contact := s.up, silent := false } } f.address
          t = { r.1.lastFail 0 (if r.2.2.good then 0 else r.2.2.result) with cage := t.cage } ∧
          t.cage.sent = some (Reply.make t.lamp (BitVec.ofNat 4 r.2.2.result) t.attn f.tag o.code [r.2.1]) ∧
          t.cage.stored = t.cage.sent)) ∧
      (∀ c o, (c, o) ∈ [(Instr.write, Opc.write), (.writeFix, Opc.writeFix)] → f.check o = Res.OK → f.data = [v] →
        ∃ t : State, exec (c f) s = .next t ∧
          (let r := State.writeAt { s with cage := { s.cage with contact := s.up, silent := false } }
              { s with cage := { s.cage with contact := s.up, silent := false } } f.address v
          t = { r.1.lastFail 0 (if r.2.good then 0 else r.2.result) with cage := t.cage } ∧
          t.cage.sent = some (Reply.make t.lamp (BitVec.ofNat 4 r.2.result) t.attn f.tag o.code []) ∧
          t.cage.stored = t.cage.sent)))

/-- R42, R43, R64, R69: the words of a READ burst stand at ADDR, ADDR + 4 and so on, those of READ_FIX all at ADDR; the reply has LEN data words,
their number in its header, HCRC the CRC-16 of its bytes 0 to 5 and the CRC-32 of the data after it; its Result is OK when every word succeeded,
PARTIAL when some did, and otherwise the outcome of the first. WRITE and WRITE_FIX likewise, with no data. -/
def Obligations.CageBursts : Prop :=
  ∀ (s : State) (f : Frame) (c : Frame → Instr) (o : Opcode),
    (c, o) ∈ [(Instr.read, Opc.read), (.readFix, Opc.readFix), (.write, Opc.write), (.writeFix, Opc.writeFix)] →
    s.CageFree → f.check o = Res.OK → 0 < f.words →
    ∃ (t : State) (r : Reply) (outs : List WordOut), exec (c f) s = .next t ∧ t.cage.sent = some r ∧ t.cage.stored = some r ∧
      outs.length = f.words ∧ r.tag = f.tag ∧ r.opcode = o.code ∧ r.data.length = (if o.isIn then 0 else f.words) ∧
      r.len = BitVec.ofNat 16 r.data.length ∧ r.hcrc = crc16 ([r.lamp ++ r.result, r.attn, r.tag, r.opcode] ++ leBytes 2 r.len) ∧
      r.dcrc = (if r.data = [] then none else some (crc32 (r.data.flatMap (leBytes 4)))) ∧
      r.result = (if outs.all WordOut.good then 0
        else if outs.any WordOut.good then BitVec.ofNat 4 Res.PARTIAL
        else match outs.head? with
          | some x => BitVec.ofNat 4 x.result
          | none => 0)

/-- R83: EVENT_READ of LEN words takes the LEN ÷ 8 oldest entries of the log, eight words each, and answers EMPTY when the log has none. R65, R116:
TIME_SET sets the 64-bit fabric-time counter to the value sent, low word first, when TIM.CFG.SOURCE is 0 and DEV.CTL.DEEP_OPEN is 1; otherwise it
answers DENIED and the counter stays. R74: REPLAY with LEN 1 resends the stored reply unchanged and keeps it; a reply cut short stays stored. R76,
R469: the Cage becomes ready once, when POR is over. R84: after SILENCE_MS without contact HOST_SILENT is written once (stated where no reply phase
may have been completed meanwhile). -/
def Obligations.CageEventsTimeReplay : Prop :=
  (
    ∀ (s : State) (f : Frame), s.CageFree → s.cage.silent = false → f.check Opc.eventRead = Res.OK → 0 < f.words →
      ∃ t : State, exec (.eventRead f) s = .next t ∧ t.log = s.log.drop (f.words / 8) ∧
        t.cage.sent = some (Reply.make t.lamp (if s.log = [] then BitVec.ofNat 4 Res.EMPTY else 0) t.attn f.tag 0x05
          ((s.log.take (f.words / 8)).flatMap LogEntry.words)) ∧
        t.shafts = s.shafts ∧ t.seq = s.seq ∧ t.pending = s.pending) ∧
  (
    ∀ (s : State) (f : Frame) (lo hi : Word),
      s.CageFree → s.cage.silent = false → f.check Opc.timeSet = Res.OK → f.words = 2 → f.data = [lo, hi] →
      (s.dev .TIM_CFG_SOURCE = 0 → s.dev .DEV_CTL_DEEP_OPEN ≠ 0 →
        ∃ t : State, exec (.timeSet f) s = .next t ∧ t.shafts = s.shafts ∧ t.fab = hi ++ lo ∧ t.frac = 0 ∧
          ∃ r, t.cage.sent = some r ∧ r.result = 0) ∧
      (s.dev .TIM_CFG_SOURCE ≠ 0 ∨ s.dev .DEV_CTL_DEEP_OPEN = 0 →
        ∃ t : State, exec (.timeSet f) s = .next t ∧ t.shafts = s.shafts ∧ t.fab = s.fab ∧ t.frac = s.frac ∧
          ∃ r, t.cage.sent = some r ∧ r.result = BitVec.ofNat 4 Res.DENIED)) ∧
  (
    ∀ (s : State) (f : Frame) (r : Reply),
      (s.CageFree → s.cage.silent = false → f.check Opc.replay = Res.OK → f.words = 1 → s.cage.stored = some r →
        exec (.replay f) s = .next { s with
          cage := { s.cage with contact := s.up, silent := false, replyDue := true, sent := some r } }) ∧
      exec .replyCutShort s = .next { s with cage := { s.cage with replyDue := false } } ∧
      (s.por = false → s.cage.ready = false →
        exec .cageReady s = .next { s with cage := { s.cage with ready := true, readyAt := s.up, replyDue := false } }) ∧
      (s.cage.ready = true → s.cage.silent = false → s.cage.replyDue = false → max s.cage.contact s.cage.readyAt + 1000 * s.dev .CGE_CFG_SILENCE_MS ≤ s.up →
        s.log.length < 4096 →
        exec .hostSilent s = .next { s with
          log := s.log ++ [⟨s.fab, 0x0003, 1, 0xFF, 0xFFFF, s.seq, BitVec.ofNat 96 (s.dev .CGE_CFG_SILENCE_MS), BitVec.ofNat 16 s.dropped⟩]
          seq := s.seq + 1
          dropped := 0
          cage := { s.cage with silent := true } }) ∧
      (s.cage.silent = true → exec .hostSilent s = .next s))

/-- R67, R71, R76: a RESET command of any kind whose scope is open by DEEP_OPEN is answered OK and its reset is due; with DEEP_OPEN 0 it is answered
DENIED and none is. A reset that is due begins before the next command phase, here a POLL, is taken. -/
def Obligations.CageResets : Prop :=
  ∀ (s : State) (f : Frame) (c : Frame → Instr) (v : Word) (a : ResetAsk),
    (c, v, a) ∈ [(Instr.resetCold, (1 : Word), ResetAsk.cold), (.resetFore, 4, .fore)] ∨
    (∃ n : Shaft, (c, v, a) = (.resetShaft, 2 + BitVec.ofNat 32 (16 * n.val), .shaft n)) ∨
    (∃ (n : Shaft) (k : Nat), k < 128 ∧ (c, v, a) = (.resetStope, 3 + BitVec.ofNat 32 (16 * n.val + 256 * k), .stope n k)) ∨
    (∃ n p : Shaft, (c, v, a) = (.resetPortal, 5 + BitVec.ofNat 32 (16 * n.val + 256 * p.val), .portal n p)) →
    (s.CageFree → s.cage.silent = false → f.check Opc.reset = Res.OK → f.words = 1 → f.data = [v] → s.resetBusy a = false →
      (s.deepOpen a.scope = true → ∃ t : State, exec (c f) s = .next t ∧ t.shafts = s.shafts ∧ t.resetsDue = [a] ∧
        ∃ r, t.cage.sent = some r ∧ r.result = 0) ∧
      (s.deepOpen a.scope = false → ∃ t : State, exec (c f) s = .next t ∧ t.shafts = s.shafts ∧ t.resetsDue = [] ∧
        ∃ r, t.cage.sent = some r ∧ r.result = BitVec.ofNat 4 Res.DENIED)) ∧
    (s.cage.ready = true → s.resetsDue = [a] → (s.beginReset a).resetsDue = [] →
      exec (.poll f) s = if (s.beginReset a).cage.ready then exec (.poll f) (s.beginReset a) else .next (s.beginReset a))

/-- R443, R444, R450: SELFTEST_START of each unit, with a target in range. The first check of R444 that fails (REASON `s.testReason`) answers BUSY
and is shown as REFUSED; with none the answer is OK and the test is shown RUNNING (DRAINING for an ACTIVE hewer), started at the present fabric
time, and a Lode block is served by the lowest free spare meanwhile. R448: SELFTEST_START with UNIT ABORT is answered OK; it ends the running test
of the shaft as ABORTED, its unit restored as on a pass (here a Plan slot or a lane, which need no restore), and does nothing when none runs. R450,
R70: SELFTEST_STATUS returns the first LEN words of the status of shaft ARG: word 0 as BST.STAT shows it, the fabric time of the start, the elapsed
µs, the faults and the first, the tests running and the headroom below 420 W, 0; with ARG above 7 it answers DENIED with zero words. -/
def Obligations.SelfTestCommands : Prop :=
  (
    ∀ (s : State) (f : Frame) (w : PowerNow) (c : Frame → PowerNow → Instr) (unit count : Nat) (n : Shaft) (target : Nat) (ext : Bool),
      (c, unit, count) ∈ [(Instr.selftestLodeBlock, 1, 2040), (.selftestHewer, 2, 52), (.selftestStope, 3, 128), (.selftestPlanSlot, 4, 1024),
        (.selftestLane, 5, 16)] →
      target < count → s.CageFree → s.cage.silent = false → f.check Opc.selftestStart = Res.OK → f.words = 1 →
      f.data = [BitVec.ofNat 32 (unit + 16 * n.val + 256 * target + 2 ^ 19 * bit ext)] →
      let reason := s.testReason n unit target w
      (reason ≠ 0 → ∃ (t : State) (r : Reply), exec (c f w) s = .next t ∧ t.cage.sent = some r ∧ r.result = BitVec.ofNat 4 Res.BUSY ∧
        (t.sh n).test.st = .refused ∧ (t.sh n).test.reason = reason ∧ (t.sh n).test.unit = unit ∧ (t.sh n).test.target = target ∧
        (t.sh n).test.run = (s.sh n).test.run) ∧
      (reason = 0 → ∃ (t : State) (r : Reply) (spare : Option Nat), exec (c f w) s = .next t ∧ t.cage.sent = some r ∧ r.result = 0 ∧
        let drains := decide (unit = 2) && decide (s.hewRole n target = 0)
        (t.sh n).test.st = (if drains then .draining else .running) ∧ (t.sh n).test.start = s.fab ∧
        (t.sh n).test.run = some ⟨unit, target, ext, drains, s.up, spare⟩ ∧
        (unit = 1 → spare = s.freeSpare n) ∧
        (drains = true → ∃ g, s.clusterSpare n target = some g ∧ spare = some g ∧ t.hewRole n g = 0 ∧ t.hewRole n target = 2))) ∧
  (
    ∀ (s : State) (f : Frame) (n : Shaft),
      s.CageFree → s.cage.silent = false → f.check Opc.selftestStart = Res.OK → f.words = 1 →
      f.data = [BitVec.ofNat 32 (15 + 16 * n.val)] →
      (s.testRun n = none → ∃ t : State, exec (.selftestAbort f) s = .next t ∧ t.shafts = s.shafts ∧ ∃ r, t.cage.sent = some r ∧ r.result = 0) ∧
      (∀ r, s.testRun n = some r → r.unit = 4 ∨ r.unit = 5 → s.doze n = 0 →
        ∃ t : State, exec (.selftestAbort f) s = .next t ∧ (t.sh n).test.st = .aborted ∧ (t.sh n).test.run = none ∧
          (t.sh n).test.elapsed = s.up - r.began ∧ ∃ q, t.cage.sent = some q ∧ q.result = 0)) ∧
  (
    ∀ (s : State) (f : Frame) (w : PowerNow),
      s.CageFree → s.cage.silent = false → f.check Opc.selftestStatus = Res.OK → 0 < f.words →
      (∀ n : Shaft, f.arg.toNat = n.val →
        ∃ (t : State) (r : Reply), exec (.selftestStatus f w) s = .next t ∧ t.shafts = s.shafts ∧ t.cage.sent = some r ∧ r.result = 0 ∧
          let x := (s.sh n).test
          r.data = List.take f.words [BitVec.ofNat 32 (s.testWord n), x.start.extractLsb' 0 32, x.start.extractLsb' 32 32,
            BitVec.ofNat 32 (match x.run with
              | some q => s.up - q.began
              | none => x.elapsed),
            BitVec.ofNat 32 x.faults, BitVec.ofNat 32 x.first,
            BitVec.ofNat 32 (s.testsRunning + 65536 * ((420000 - w.device) / 1000 % 65536)), 0]) ∧
      (8 ≤ f.arg.toNat → ∃ (t : State) (r : Reply), exec (.selftestStatus f w) s = .next t ∧ t.shafts = s.shafts ∧
        t.cage.sent = some r ∧ r.result = BitVec.ofNat 4 Res.DENIED ∧ r.data = List.replicate f.words 0))

/-- R446, R449: a hewer drained for a test becomes UNDER_TEST and its test RUNNING; a test that ends without faults is shown PASSED and counted, one
with faults FAILED and counted, with SHF.ATTN.BST_FAIL set; a tested hewer becomes the spare of its cluster on a pass and RETIRED on a fail, a
failed Plan slot BAD, and a failed Lode block is served by its spare for good. Stated for a shaft that no DOZE waits for and with BST not gated. -/
def Obligations.SelfTestEnds : Prop :=
  ∀ (s : State) (n : Shaft) (r : TestRun) (faults first : Nat),
    s.testRun n = some r →
    (r.draining = true → s.busyThreads n r.target = 0 →
      exec (.hewerUnderTest n) s = .next ((s.setReg n .HWR_UNIT_ROLE 4 r.target).updSh n (fun h =>
        { h with test := { h.test with st := .running, run := some { r with draining := false } } }))) ∧
    (r.draining = false → s.doze n = 0 → s.devGated .BST = false → (r.unit = 2 → r.target < 52) → faults < 2 ^ 32 → first < 2 ^ 32 →
      ∃ t : State, exec (.bstDone n faults first) s = .next t ∧
        (t.sh n).test.st = (if faults = 0 then .passed else .failed) ∧ (t.sh n).test.run = none ∧ (t.sh n).test.faults = faults ∧
        (t.sh n).test.elapsed = s.up - r.began ∧
        (faults = 0 → t.dev .BST_CNT_PASSED = min (s.dev .BST_CNT_PASSED + 1) 65535) ∧
        (0 < faults → t.dev .BST_CNT_FAILED = min (s.dev .BST_CNT_FAILED + 1) 65535 ∧ t.reg n .SHF_ATTN_BST_FAIL = 1) ∧
        (r.unit = 2 → t.hewRole n r.target = (if faults = 0 then 1 else 3)) ∧
        (r.unit = 4 → 0 < faults → t.reg n .CTX_SLOT_STATE r.target = Slt.BAD) ∧
        (r.unit = 1 → 0 < faults → ∀ g, r.spare = some g → Tbl.get none (t.sh n).retiredBlocks r.target = some g))

/-- R42, R50, R55 to R57: a Cage write of a word: while its block is gated it is discarded and counted in GATE_HITS; while the block is BUSY, where
no word stands, and where the level or the word itself forbids it, nothing changes at all; otherwise it is carried out. While the Cage is not ready
it takes none (R76). R54: a write of SHF.CTL or DEV.CTL with DEEP_OPEN 1 sets the field when KEY is 0xD5 and is DENIED otherwise, leaving the
register as it is; one with DEEP_OPEN 0 clears it whatever KEY holds. Stated for SHF.CTL with SLICE 0b00, whose other values ask for a slice reset.
(SHF and DEV cannot be gated, R58; the premises rule out states in which they are.) -/
def Obligations.RegisterWrites : Prop :=
  (
    ∀ (s : State) (a : Nat) (v : Word),
      (s.cage.ready = false → exec (.registerWrite a v) s = .next s) ∧ (s.CageFree →
      (∀ sc b, s.meet a = .out .byGate sc b → exec (.registerWrite a v) s = .next (
        s.addF (if b.ofShaft then .SGATE_HITS_HITS else .DGATE_HITS_HITS) sc b.code)) ∧
      (∀ o sc b, s.meet a = .out o sc b → o ≠ .byGate → exec (.registerWrite a v) s = .next s) ∧
      (∀ x, s.meet a = .word x → State.writeDenied s s x v = true → exec (.registerWrite a v) s = .next s) ∧
      (∀ x, s.meet a = .word x → State.writeDenied s s x v = false → exec (.registerWrite a v) s = .next (s.cageWrite x v)))) ∧
  (
    ∀ (s : State) (n : Shaft) (v : Word), s.CageFree → s.gated n.val .SHF = false → s.gated 8 .DEV = false → s.returning = [] →
      let key := v.extractLsb' 8 8
      let refused := v.getLsbD 0 = true ∧ key ≠ 0xD5
      (v.extractLsb' 16 2 = 0 → exec (.shfDeepOpen n v) s = .next (
        if v.getLsbD 0 then if key = 0xD5 then s.setReg n .SHF_CTL_DEEP_OPEN 1 else s else s.setReg n .SHF_CTL_DEEP_OPEN 0)) ∧
      exec (.devDeepOpen v) s = .next (
        if v.getLsbD 0 then if key = 0xD5 then s.setDev .DEV_CTL_DEEP_OPEN 1 else s else s.setDev .DEV_CTL_DEEP_OPEN 0) ∧
      (refused → State.writeDenied s s (.reg n.val .SHF_CTL 0) v = true ∧ State.writeDenied s s (.reg 8 .DEV_CTL 0) v = true))

/-- R12, R14, R16: the write of a word to an entry of SHF.ROUTE, a register of read-write fields with no behaviour of its own, from the Cage at an
open Deep level: TARGET takes bits 3 to 0 of the word, unless the word holds a reserved encoding; then nothing changes. Nothing else of the machine
changes. R12, R42, R55: RC_READ of a word that can be read has the effect of its read, and of one that cannot changes nothing but what a gated block
counts; the read of a register of read-to-clear fields clears them, and no other field, and nothing else, changes. Stated for GATE_HITS of a shaft's
block. R115, R116: the read of TIM.NOW_LO latches bits 63 to 32 of the fabric-time counter into NOW_HI. -/
def Obligations.FieldAccess : Prop :=
  (
    ∀ (s : State) (n : Shaft) (a e : Nat) (v : Word),
      s.CageFree → s.meet a = .word (.reg n.val .SHF_ROUTE e) → s.deepOpen n.val = true →
      ∃ t : State, exec (.registerWrite a v) s = .next t ∧
        (Reg.reservedIn .SHF_ROUTE v = false → t.reg n .SHF_ROUTE_TARGET e = v.toNat % 16) ∧
        (Reg.reservedIn .SHF_ROUTE v = true → t = s) ∧
        { t with regs := s.regs } = s ∧
        ∀ (g : Fld) (sc j : Nat), sc < 16 → ¬(g = .SHF_ROUTE_TARGET ∧ sc = n.val ∧ j = e) → t.getF g sc j = s.getF g sc j) ∧
  (
    ∀ (s : State) (n : Shaft) (a : Nat), s.CageFree →
      (∀ x, s.meet a = .word x → exec (.rcRead a) s = .next ((s.beforeRead x).readWord x)) ∧
      (∀ o sc b, s.meet a = .out o sc b → o ≠ .byGate → exec (.rcRead a) s = .next s) ∧
      (∀ b : Block, s.meet a = .word (.reg n.val .SGATE_HITS b.code) → exec (.rcRead a) s = .next (s.setReg n .SGATE_HITS_HITS 0 b.code)) ∧
      (s.gated 8 .TIM = false → s.returning.contains (8, .TIM) = false →
        exec .timNowRead s = .next (s.setDev .TIM_NOW_HI_NOW_HI (s.fab.toNat / 2 ^ 32))))

/-- R55, R57: GATE.EN 1 on a block that is not gated asks it to stop: one that halts only on a condition keeps HALTED 0, and the others halt at
once: PTL with its portals disabled, PCE with its pacers on their targets, BST with its tests ended; GATE.EN 0 cancels a gate that has not halted,
and starts the return of a block that has. R58: the GATE of an ungateable block holds no field to write. R57, R143, R144: a block that is asked to
stop and whose shaft holds no open tally halts, and every tally still DONE is closed; SCB halts between frames; IMG halts once it is IDLE, REFUSED
or ARMED. A block on its way back returns, and HALTED is 0 again; as PTL does, every portal with ENABLE 1 is checked again (R368). -/
def Obligations.Gates : Prop :=
  (
    ∀ (s : State) (sc : Nat) (b : Block), s.CageFree →
      sc ≤ 8 → b.ofShaft = decide (sc < 8) → b.ungateable = false →
      (s.gateEn sc b = false → s.returning.contains (sc, b) = false →
        (b.haltsLater = true → exec (.gateEnable sc b) s = .next (s.setGate sc b true false)) ∧
        (b.haltsLater = false → exec (.gateEnable sc b) s = .next ((match b with
          | .PTL => s.eachPortal (fun p a => a.portalDown (Fin.ofNat 8 sc) p)
          | .PCE => ((s.sh (Fin.ofNat 8 sc)).stopes.filter (fun e : Nat × Stope => e.2.ramp.isSome)).foldl
              (fun (a : State) (e : Nat × Stope) => a.pacerSettle (Fin.ofNat 8 sc) e.1) s
          | .BST => s.eachShaft (fun n a => a.testAbort n)
          | _ => s).setGate sc b true true))) ∧
      (s.gateEn sc b = true → s.gated sc b = false → exec (.gateDisable sc b) s = .next (s.setGate sc b false false)) ∧
      (s.gateEn sc b = true → s.gated sc b = true → exec (.gateDisable sc b) s = .next
        { s.setGate sc b false true with returning := s.returning ++ [(sc, b)] })) ∧
  (
    ∀ (s : State) (n : Shaft) (b : Block),
      (b ∈ [Block.HAU, .TLY, .CLM, .DIR, .HWR, .QMG] → s.gateEn n.val b = true → s.gated n.val b = false →
        (s.anyOpen n = false → exec (.blockHalt n.val b) s = .next ((s.closeDone n).setGate n.val b true true)) ∧
        (s.anyOpen n = true → exec (.blockHalt n.val b) s = .next s)) ∧
      (s.gateEn n.val .SCB = true → s.gated n.val .SCB = false → exec (.blockHalt n.val .SCB) s = .next (s.setGate n.val .SCB true true)) ∧
      (s.gateEn 8 .IMG = true → s.gated 8 .IMG = false →
        (s.img = Img.IDLE ∨ s.img = Img.REFUSED ∨ s.img = Img.ARMED → exec (.blockHalt 8 .IMG) s = .next (s.setGate 8 .IMG true true)) ∧
        (s.img ≠ Img.IDLE → s.img ≠ Img.REFUSED → s.img ≠ Img.ARMED → exec (.blockHalt 8 .IMG) s = .next s)) ∧
      (∀ sc, sc ≤ 8 → b.ofShaft = decide (sc < 8) → b ≠ .PTL → s.returning.contains (sc, b) = true →
        ∃ t : State, exec (.blockReturn sc b) s = .next t ∧ t.returning = s.returning.filter (fun x => x != (sc, b)) ∧
          t.gateEn sc b = false ∧ t.gated sc b = false ∧ t.shafts = s.shafts ∧ t.log = s.log) ∧
      (s.returning.contains (n.val, .PTL) = true →
        exec (.blockReturn n.val .PTL) s = .next (State.eachPortal
          { s.setGate n.val .PTL false false with returning := s.returning.filter (fun x => x != (n.val, Block.PTL)) }
          (fun p a => if a.regB n .PTL_CFG_ENABLE p.val then a.portalUp n p else a))))

/-- R432, R433: SHF.CTL.SLICE 0b01 at the open Deep level starts a Lode slice reset in DRAINING; during any slice reset it only sets LOST. DRAINING
ends when no tally is OPEN or WAIT and every deadline lane is empty, or after 2 ms, and RESETTING discards every tally; RESETTING is followed by
RELOADING. R433, R434: SHF.CTL.SLICE 0b10 at the open Deep level resets the Adit slice: every portal's gate, deadline lane and tag store are
cleared. The end of it, and of a Lode slice reset whose reload succeeded, takes STATE to NONE, counts SLICE_RESETS and raises SLICE_RESET with the
layer, the tallies discarded and the duration. -/
def Obligations.SliceResets : Prop :=
  (
    ∀ (s : State) (n : Shaft) (v : Word), s.CageFree →
      s.gated n.val .SHF = false → s.returning = [] → v.extractLsb' 16 2 = 1 → (v.getLsbD 0 = true → v.extractLsb' 8 8 = 0xD5) →
      (s.deepOpen n.val = true →
        (s.slice n = 0 → ∃ t : State, exec (.lodeSliceReset n v) s = .next t ∧ t.slice n = 1 ∧ t.sliceAdit n = false ∧
          (t.sh n).sliceAt = s.up ∧ (t.sh n).tallies = (s.sh n).tallies) ∧
        (s.slice n ≠ 0 → ∃ t : State, exec (.lodeSliceReset n v) s = .next t ∧ t.reg n .SHF_SLICE_STAT_LOST = 1 ∧ t.shafts = s.shafts)) ∧
      (s.slice n = 1 → s.sliceAdit n = false →
        ((∀ e ∈ (s.sh n).tallies, e.2.st ≠ .opn ∧ e.2.st ≠ .wait) ∧ (∀ p : Portal, (s.ptl n p).lane = [])) ∨ (s.sh n).sliceAt + 2000 ≤ s.up →
        ∃ t : State, exec (.sliceDrainEnd n) s = .next t ∧ t.slice n = 2 ∧ (t.sh n).tallies = [] ∧ (t.sh n).dir = [] ∧ (t.sh n).locks = [] ∧
          (t.sh n).queues = [] ∧ (t.sh n).blk = []) ∧
      (s.slice n = 2 → s.sliceAdit n = false → exec (.lodeClearDone n) s = .next (s.setReg n .SHF_SLICE_STAT_STATE 3))) ∧
  (
    ∀ (s : State) (n : Shaft) (v : Word),
      (s.CageFree → s.gated n.val .SHF = false → s.returning = [] → s.deepOpen n.val = true → s.slice n = 0 → v.extractLsb' 16 2 = 2 →
        (v.getLsbD 0 = true → v.extractLsb' 8 8 = 0xD5) →
        ∃ t : State, exec (.aditSliceReset n v) s = .next t ∧ t.slice n = 2 ∧ t.sliceAdit n = true ∧ (t.sh n).sliceAt = s.up ∧
          ∀ p : Portal, (t.ptl n p).hold = [] ∧ (t.ptl n p).released = [] ∧ (t.ptl n p).lane = [] ∧ (t.ptl n p).tags = [] ∧
            (t.ptl n p).txq = [] ∧ t.linkUp n p = false) ∧
      (s.slice n ≠ 0 → s.sliceAdit n = true → s.log.length < 4096 →
        ∃ t : State, exec (.aditSliceDone n) s = .next t ∧ t.slice n = 0 ∧ t.shafts = s.shafts ∧
          t.reg n .SHF_RST_SLICE_RESETS = min (s.reg n .SHF_RST_SLICE_RESETS + 1) 255 ∧
          t.log = s.log ++ [⟨s.fab, 0x0C02, 1, BitVec.ofNat 8 n.val, 0xFFFF, s.seq,
            detail 2 0 (s.up - (s.sh n).sliceAt), BitVec.ofNat 16 s.dropped⟩]) ∧
      (s.slice n = 3 → s.sliceAdit n = false → s.foreUp = true →
        (s.slotCause (s.devB .IMG_SLOTS_RUNNING) (reloadParts n)).1 = Icf.NONE →
        ∃ t : State, exec (.sliceReset n) s = .next t ∧ t.slice n = 0 ∧ ∀ p : Portal, (t.ptl n p).tags = []))

/-- R95, R96, R99: a hop takes an unblocked flit with good check bits one place further on its fixed path, or into the unit at its end, or, when
what it would reach is out of service, answers it LAYER_ABSENT; nothing else moves; a corrected flit is counted besides. R97: an uncorrectable flit
is discarded, counted and raised. R98: a vertical link that is retired is never retired twice, and the flits on it are lost. -/
def Obligations.HaulageHops : Prop :=
  ∀ (s : State) (n : Shaft),
    (∀ (i : Nat) (f : Flight), (s.sh n).flights[i]? = some f → f.there = false → blockedBehind (s.sh n).flights i f = false → s.heldBack n i f = false →
    s.shGated n .HAU = false → s.stranded n f = false →
    (∀ p, nextPlace (s.linkRetired n) f.src f.pos f.dest = some p → s.placeOut n p f.dest = false →
      ({ f with pos := p }.there = false → exec (.flitHop n i .good) s = .next (s.updSh n (fun h =>
        { h with flights := h.flights.set i { f with pos := p } }))) ∧
      ({ f with pos := p }.there = true → exec (.flitHop n i .good) s = .next (
        (s.updSh n (fun h => { h with flights := h.flights.eraseIdx i })).arrive n { f with pos := p })) ∧
      ({ f with pos := p }.there = false → exec (.flitHop n i .corrected) s = .next ((s.addReg n .HAU_STAT_CORR).updSh n (fun h =>
        { h with flights := h.flights.set i { f with pos := p } })))) ∧
    (∀ p, nextPlace (s.linkRetired n) f.src f.pos f.dest = some p → s.placeOut n p f.dest = true →
      exec (.flitHop n i .good) s = .next ((s.updSh n (fun h => { h with flights := h.flights.eraseIdx i })).absent n f)) ∧
    (∃ t : State, exec (.flitHop n i .lost) s = .next t ∧ (t.sh n).flights = (s.sh n).flights.eraseIdx i ∧
      t.reg n .HAU_STAT_UNCORR = min (s.reg n .HAU_STAT_UNCORR + 1) 65535)) ∧
    (∀ v, v < 16 →
      (s.linkRetired n v = true → exec (.vlinkRetired n v) s = .next s) ∧
      (s.linkRetired n v = false →
        let t := ((s.setReg n .HAU_VLINK_RETIRED (s.reg n .HAU_VLINK_RETIRED ||| 2 ^ v)).updSh n
          (fun h => { h with flights := h.flights.filter (fun f => !f.onLink v) })).shEvent n 0x0106 Sev.warning v
        exec (.vlinkRetired n v) s = .next t ∧ t.linkRetired n v = true ∧ ∀ u, u ≠ v → t.linkRetired n u = s.linkRetired n u))

/-- R104: a ramp step whose remaining difference is at most one sixteenth of the starting setting, before or after the step, ends the ramp on the
target: ACTIVE shows the source, RAMPING is 0; any other takes the period one sixteenth further. R105: a forced switch does so at once, sets FORCED
and raises PACER_FORCED. R104, R106: the write of PCE.STOPE[k] is taken by its fields; a pacer that does not run follows it at once; one that runs
is on its new target if what remains is no more than one step, and ramps toward it otherwise. The tempo PLL's LOCK follows its loss and its return,
and then a locked pacer with AUTO_FB 1 has fallen back, and one that had fallen back has returned. -/
def Obligations.Pacers : Prop :=
  (
    ∀ (s : State) (n : Shaft) (k tap : Nat) (r : Ramp), k < 128 → (s.stope n k).ramp = some r →
      (s.pacerRuns n = true → rampMove r (s.pacerTarget n k) tap = .switch →
        ∃ t : State, exec (.pacerRampStep n k tap) s = .next t ∧ (t.stope n k).ramp = none ∧ t.reg n .PCE_STOPE_RAMPING k = 0 ∧
          t.reg n .PCE_STOPE_ACTIVE k = bit (s.pacerTarget n k).1 ∧ t.log = s.log ∧ t.reg n .PCE_STOPE_TEMPO k = s.reg n .PCE_STOPE_TEMPO k) ∧
      (∀ now16, s.pacerRuns n = true → rampMove r (s.pacerTarget n k) tap = .run now16 →
        exec (.pacerRampStep n k tap) s = .next (s.updStope n k (fun x => { x with ramp := some { r with now16 := now16 } }))) ∧
      ((s.pacerTarget n k).1 ≠ r.locked → s.pacerRuns n = true → s.log.length < 4096 →
        ∃ t : State, exec (.pacerForced n k) s = .next t ∧ (t.stope n k).ramp = none ∧ t.reg n .PCE_STOPE_RAMPING k = 0 ∧
          t.reg n .PCE_STOPE_FORCED k = 1 ∧ t.reg n .PCE_STOPE_ACTIVE k = bit (s.pacerTarget n k).1 ∧
          t.log = s.log ++ [⟨s.fab, 0x0104, 2, BitVec.ofNat 8 n.val, BitVec.ofNat 16 k, s.seq, detail (bit r.locked), BitVec.ofNat 16 s.dropped⟩])) ∧
  (
    ∀ (s : State) (n : Shaft),
      (∀ (k : Nat) (v : Word), k < 128 → s.CageFree → s.gated n.val .PCE = false → s.blockBusy n.val .PCE = false → s.deepOpen n.val = true →
        Reg.reservedIn .PCE_STOPE v = false →
        ∃ t : State, exec (.pceStopeWrite n k v) s = .next t ∧ t.reg n .PCE_STOPE_TEMPO k = v.toNat % 256 ∧
          t.reg n .PCE_STOPE_SRC k = v.toNat / 256 % 2 ∧ t.reg n .PCE_STOPE_DIV k = v.toNat / 512 % 128 ∧
          t.reg n .PCE_STOPE_AUTO_FB k = v.toNat / 65536 % 2 ∧
          (let old := s.pacerTarget n k
          let new := t.pacerTarget n k
          let r := (s.stope n k).ramp.getD ⟨old.1, old.2, 16 * old.2⟩
          let settled := (t.stope n k).ramp = none ∧ t.reg n .PCE_STOPE_RAMPING k = 0 ∧ t.reg n .PCE_STOPE_ACTIVE k = bit new.1
          let ramps := (t.stope n k).ramp = some r ∧ t.reg n .PCE_STOPE_RAMPING k = 1
          (new = old → (t.stope n k).ramp = (s.stope n k).ramp) ∧
          (new ≠ old → s.pacerRuns n = false ∨ s.pacerOf n k ≠ k → settled) ∧
          (new ≠ old → s.pacerRuns n = true → s.pacerOf n k = k →
            (r.locked = new.1 → if r.near new 1 then settled else ramps) ∧ (r.locked ≠ new.1 → settled ∨ ramps)))) ∧
      (∃ t : State, exec (.tempoPllUnlock n) s = .next t ∧ t.reg n .PCE_TPLL_LOCK = 0 ∧
        ∀ k, k < 128 → s.reg n .PCE_STOPE_SRC k = 1 → s.reg n .PCE_STOPE_AUTO_FB k = 1 → (t.stope n k).fellBack = true) ∧
      (∃ t : State, exec (.tempoPllRelock n) s = .next t ∧ t.reg n .PCE_TPLL_LOCK = 1 ∧
        ∀ k, k < 128 → s.reg n .PCE_STOPE_SRC k = 1 → (t.stope n k).fellBack = false))

/-- R109, R111: a coarse loss of REFCLK clears REF_OK, and every shaft in REF leaves it: for START_HOLD when no lane has ever trained, otherwise for
LOOP on its lowest qualified lane, or for HOLDOVER when it has none. A shaft in another state stays in it. REFCLK is back only after 10 ms. R108,
R111: a lane whose CDR has held lock for 1 ms and that is not in RX Sleep becomes qualified, and its shaft, in HOLDOVER or ADRIFT, goes to LOOP on
the lowest qualified lane; a lane that loses lock or its portal's link, or that enters RX Sleep, stops being qualified. R111 to R113: after 100 ms
of HOLDOVER a shaft with an enabled portal goes ADRIFT, and every enabled portal of it is in DETECT; one without stays in HOLDOVER. A steering shaft
reaches REF while REFCLK is there. RETURN_NOW at the open Deep level starts the return of every shaft when REF_OK is 1 and does nothing otherwise.
-/
def Obligations.ReferenceClock : Prop :=
  (
    ∀ (s : State),
      (s.refLostAt = none → s.por = false →
        ∃ t : State, exec (.refclkLost false) s = .next t ∧ t.dev .CLK_CFG_REF_OK = 0 ∧ t.refLostAt = some s.up ∧
          ∀ n : Shaft,
            (s.timing n ≠ Tmg.REF → t.timing n = s.timing n) ∧
            (s.timing n = Tmg.REF → s.everTrained = false → t.timing n = Tmg.START_HOLD) ∧
            (s.timing n = Tmg.REF → s.everTrained = true → s.qualLane n = none → t.timing n = Tmg.HOLDOVER ∧ (t.sh n).holdoverAt = s.up) ∧
            (∀ l, s.timing n = Tmg.REF → s.everTrained = true → s.qualLane n = some l →
              t.timing n = Tmg.LOOP ∧ t.dev .CLK_QUAL_LOOP_LANE n.val = l)) ∧
      (∀ a, s.refLostAt = some a →
        (s.up < a + 10000 → exec .refclkBack s = .next s) ∧
        (a + 10000 ≤ s.up → ∃ t : State, exec .refclkBack s = .next t ∧ t.dev .CLK_CFG_REF_OK = 1 ∧ t.refLostAt = none ∧
          ∀ n : Shaft, (s.timing n = Tmg.START_HOLD → t.timing n = Tmg.REF) ∧
            (s.timing n ≠ Tmg.START_HOLD → t.timing n = s.timing n ∧
              (s.dev .CLK_CFG_AUTO_RETURN ≠ 0 → s.timing n ≠ Tmg.REF → (t.sh n).steering = true))))) ∧
  (
    ∀ (s : State) (n : Shaft) (l : Nat), l < 16 →
      (∀ a, Tbl.get none (s.sh n).lockSince l = some a → a + 1000 ≤ s.up → s.reg n .LNE_STAT_CDR_LOCK l ≠ 0 →
        s.reg n .LNE_STAT_RX_SLEEP l = 0 → s.dev .CLK_QUAL_QUAL n.val < 65536 →
        ∃ t : State, exec (.laneQualified n l) s = .next t ∧ (t.dev .CLK_QUAL_QUAL n.val).testBit l = true ∧
          (∀ j, j ≠ l → (t.dev .CLK_QUAL_QUAL n.val).testBit j = (s.dev .CLK_QUAL_QUAL n.val).testBit j) ∧
          ((s.timing n = Tmg.HOLDOVER ∨ s.timing n = Tmg.ADRIFT) → t.timing n = Tmg.LOOP ∧
            ∃ j, j ≤ l ∧ t.dev .CLK_QUAL_LOOP_LANE n.val = j ∧ (t.dev .CLK_QUAL_QUAL n.val).testBit j = true ∧
              ∀ i, i < j → (t.dev .CLK_QUAL_QUAL n.val).testBit i = false) ∧
          ((s.timing n ≠ Tmg.HOLDOVER ∧ s.timing n ≠ Tmg.ADRIFT) → t.timing n = s.timing n)) ∧
      (s.dev .CLK_QUAL_QUAL n.val < 65536 → ∀ c : LaneLoss, ∃ t : State, exec (.laneUnqualified n l c) s = .next t ∧
        (t.dev .CLK_QUAL_QUAL n.val).testBit l = false ∧
        (∀ j, j ≠ l → (t.dev .CLK_QUAL_QUAL n.val).testBit j = (s.dev .CLK_QUAL_QUAL n.val).testBit j) ∧
        t.reg n .LNE_STAT_CDR_LOCK l = (if c = .lockLost then 0 else s.reg n .LNE_STAT_CDR_LOCK l) ∧
        t.reg n .LNE_STAT_RX_SLEEP l = (if c = .rxSleep then 1 else s.reg n .LNE_STAT_RX_SLEEP l))) ∧
  (
    ∀ (s : State) (n : Shaft),
      (s.timing n = Tmg.HOLDOVER → (s.sh n).holdoverAt + 100000 ≤ s.up →
        ((∃ p : Portal, s.pst n p ≠ Pst.DISABLED) → ∃ t : State, exec (.adrift n) s = .next t ∧ t.timing n = Tmg.ADRIFT ∧
          ∀ p : Portal, t.pst n p = if s.pst n p = Pst.DISABLED then Pst.DISABLED else Pst.DETECT) ∧
        ((∀ p : Portal, s.pst n p = Pst.DISABLED) → exec (.adrift n) s = .next s)) ∧
      ((s.sh n).steering = true → s.dev .CLK_CFG_REF_OK ≠ 0 →
        ∃ t : State, exec (.refReturn n) s = .next t ∧ t.timing n = Tmg.REF ∧ (t.sh n).steering = false) ∧
      (s.CageFree → s.gated 8 .CLK = false → s.returning = [] → s.devB .DEV_CTL_DEEP_OPEN = true →
        (s.dev .CLK_CFG_REF_OK = 0 → ∃ t : State, exec .returnNow s = .next t ∧ { t with regs := s.regs } = s ∧
          ∀ (g : Fld) (sc e : Nat), sc < 16 → t.getF g sc e = s.getF g sc e) ∧
        (s.dev .CLK_CFG_REF_OK ≠ 0 → ∃ t : State, exec .returnNow s = .next t ∧
          ∀ m : Shaft, (s.timing m = Tmg.START_HOLD → t.timing m = Tmg.REF) ∧
            (s.timing m ≠ Tmg.START_HOLD → s.timing m ≠ Tmg.REF → (t.sh m).steering = true))))

/-- R117 to R119: a reply to the outstanding request gives the offset of the exchange; below 10 µs either way it is slewed, above it the counter
steps forward at once; TIM.OFFSET shows it and LOCKED says that the last four were within 40 ns. After four periods without a reply LOCKED clears. A
request that is due leaves the follower's portal, and one that arrives is answered. -/
def Obligations.TimeExchanges : Prop :=
  ∀ (s : State) (t1 t2 t3 : BitVec 64),
    (s.dev .TIM_CFG_SOURCE ≠ 0 → s.timeSent = some t1 → s.devGated .TIM = false →
      let x := Int.tdiv (((t2.toNat : Int) - t1.toNat) - ((s.fab.toNat : Int) - t3.toNat)) 2 + (BitVec.ofNat 16 (s.dev .TIM_ASYM_ASYM_NS)).toInt
      let l := (x :: s.offsets).take 4
      ∃ t : State, exec (.timeReply t1 t2 t3) s = .next t ∧ t.timeSent = none ∧ t.offsets = l ∧ t.timeReplyAt = s.up ∧
        t.dev .TIM_STAT_LOCKED = (if l.length = 4 ∧ ∀ y ∈ l, -40 ≤ y ∧ y ≤ 40 then 1 else 0) ∧
        (x ≤ 10000 → t.fab = s.fab ∧ t.slew = x) ∧
        (10000 < x → t.fab = s.fab + BitVec.ofInt 64 x ∧ t.slew = 0 ∧ t.dev .TIM_STAT_STEPS = min (s.dev .TIM_STAT_STEPS + 1) 65535)) ∧
    (s.dev .TIM_STAT_LOCKED ≠ 0 → s.timeReplyAt + 4 * s.timePeriod ≤ s.up →
      ∃ t : State, exec .timeUnlocked s = .next t ∧ t.dev .TIM_STAT_LOCKED = 0 ∧ t.shafts = s.shafts) ∧
    (s.dev .TIM_CFG_SOURCE ≠ 0 → s.timePortal s.timeShaft s.timePort = true → s.timeSentAt + s.timePeriod ≤ s.up →
      exec .timeExchange s = .next
        { (s.guardFill s.timeShaft s.timePort).egressTub s.timeShaft s.timePort (timeTub 1 0 0) with timeSentAt := s.up }) ∧
    (∀ (n : Shaft) (p : Portal) (dwell : Nat), s.dev .TIM_CFG_SOURCE = 0 → s.timePortal n p = true →
      exec (.timeRequestAnswer n p t1 dwell) s = .next ((s.guardFill n p).egressTub n p (timeTub 2 t1 (s.fab - BitVec.ofNat 64 dwell))))

/-- R126, R141, R363 to R366: ADMISSION of a single entry of PTL.INQ[p], a REQ without DAT tubs that portal `p` has already fetched. The first check
that fails answers, by the deadline lane, with WDOG 1 and no tally: past its deadline TIMEOUT; a haul of 0 lines SUCCESS; a bad shape ERROR, counted
in BAD_HAUL; a block route UNMAPPED, counted in ROUTE_MISS; no FREE tally outside the reserve RETRY, counted in NO_TALLY; above the portal's quota
RETRY, counted in OVER_QUOTA. R126, R129, R132, R148, R172: a REQ for one line that passes every check opens the lowest FREE tally outside the
reserve as a LINE tally with its GEN raised, its deadline DEADLINE_US after its time stamp; unmapped, it goes to DONE with an UNMAPPED answer; with
the rights, its line unlocked and its sector in the directory, it takes the line's lock, the line goes BUSY with its state as PRIOR_STATE, and it is
sent to the hewers. -/
def Obligations.Admission : Prop :=
  (
    ∀ (s : State) (n : Shaft) (p : Portal) (r : Tub),
      s.engineWorks n = true → (s.ptl n p).inGot = [r] → r.cls = 0x0 → r.data = false →
      let taken := s.updPtl n p (fun x => { x with inGot := [] })
      let due := r.stamp + BitVec.ofNat 32 (s.reg n .TLY_CFG_DEADLINE_US)
      let late := s.passed n due = true
      let shape := if r.haul then 1 ≤ r.lines.toNat ∧ r.lines.toNat ≤ 64 ∧ r.addr.toNat % 64 = 0 ∧ r.addr.toNat % 4096 + 64 * r.lines.toNat ≤ 4096
        else r.lines = 1
      let here := r.addr.toNat < 2 ^ 40 ∧ s.reg n .SHF_ROUTE_TARGET (r.addr.toNat / 2 ^ 30) = 1
      let blocked := 2 ^ 40 ≤ r.addr.toNat ∨ s.reg n .SHF_ROUTE_TARGET (r.addr.toNat / 2 ^ 30) = 0
      let need := if r.haul then r.lines.toNat + 1 else 1
      let answers (a : State) (i : Nat) : Prop :=
        exec (.admission n p .good) s = .next (a.updPtl n p (fun x => { x with lane := x.lane ++ [s.answerTub n i r.body true] }))
      (late → answers taken Ans.TIMEOUT) ∧
      (¬late → r.haul = true → r.lines = 0 → answers taken Ans.SUCCESS) ∧
      (¬late → ¬(r.haul = true ∧ r.lines = 0) → ¬shape → answers (taken.addReg n .TLY_STAT3_BAD_HAUL) Ans.ERROR) ∧
      (¬late → shape → blocked → r.fwd = false → answers (taken.addReg n .SHF_FWD_STAT_ROUTE_MISS) Ans.UNMAPPED) ∧
      (¬late → shape → here → s.admissionShut n = true → answers taken Ans.RETRY) ∧
      (¬late → shape → here → s.admissionShut n = false → s.freeCount n < need → answers (taken.addReg n .TLY_STAT_NO_TALLY) Ans.RETRY) ∧
      (¬late → shape → here → s.admissionShut n = false → need ≤ s.freeCount n → s.reg n .TLY_QUOTA_QUOTA p.val < s.openWork n p + need →
        answers (taken.addReg n .TLY_STAT4_OVER_QUOTA) Ans.RETRY)) ∧
  (
    ∀ (s : State) (n : Shaft) (p : Portal) (r : Tub) (t : Nat),
      s.engineWorks n = true → (s.ptl n p).inGot = [r] → r.cls = 0x0 → r.data = false → r.haul = false → r.lines = 1 → r.ep = none →
      let due := r.stamp + BitVec.ofNat 32 (s.reg n .TLY_CFG_DEADLINE_US)
      s.passed n due = false → r.addr.toNat < 2 ^ 40 → s.reg n .SHF_ROUTE_TARGET (r.addr.toNat / 2 ^ 30) = 1 → s.admissionShut n = false →
      s.freeTally n = some t → 1 ≤ s.freeCount n → s.openWork n p + 1 ≤ s.reg n .TLY_QUOTA_QUOTA p.val → s.reg n .PTL_STATE_PRESENT p.val = s.reg n .PTL_STATE_TRAINED p.val →
      let g := r.addr.toNat / 2 ^ 30
      let c := s.reg n .CLM_MAP_CLAIM g
      let mapped := s.regB n .CLM_MAP_VALID g && s.regB n .CLM_ENTRY0_VALID c
      ∃ t' : State, exec (.admission n p .good) s = .next t' ∧
        (let y := t'.tally n t
        y.kind = .line ∧ y.gen = (s.tally n t).gen + 1 ∧ y.portal = p ∧ y.agent = r.srcAgent ∧ y.lineAddr = r.addr ∧ y.deadline = due ∧
        y.stamp = r.stamp ∧ y.request = r.body ∧ y.epoch = s.epoch n ∧ y.pending = 0 ∧ y.spec = .none ∧ (t'.ptl n p).inGot = [] ∧
        (mapped = false → y.st = .done ∧ t'.reg n .CLM_STAT_UNMAPPED = min (s.reg n .CLM_STAT_UNMAPPED + 1) 65535 ∧
          (t'.sh n).flights = (s.sh n).flights ++
            [⟨t'.tallyAnswer n t Ans.UNMAPPED false, .station .lode 0, .station .lode 0, 0x81, .egress p, none, none⟩]) ∧
        (let l := homeLine c r.addr
        let set := homeSet l
        let need := s.reg n .DIR_NEED_NEED r.opcode.toNat
        ∀ w, mapped = true → (need.testBit 2 = true → s.regB n .CLM_ENTRY0_CACHEABLE c = true) → s.rightsHeld n c need r.srcAgent = true →
          s.lockAt n l = none → s.findWay n set (homeTag l) = some w → (s.ent n set w).line (homeIdx l) ≠ 4 →
          y.st = .opn ∧ y.lock = true ∧ y.claim = some c ∧ y.prior = (s.ent n set w).line (homeIdx l) ∧ t'.lockAt n l = some ⟨t, []⟩ ∧
          (t'.ent n set w).line (homeIdx l) = 4 ∧ (t'.ent n set w).age = 0 ∧ (t'.sh n).dispatchQ = (s.sh n).dispatchQ ++ [⟨t, false⟩])))

/-- R138, R140, R435: the watchdog (at its deadline), TLY.KILL and the first LAYER_ABSENT reply of the tally expire a LINE tally in OPEN or WAIT
(here one that does not speculate and waits for no way): DONE, its thread idle, TIMEOUT with WDOG 1 in the deadline lane of its portal, EXPIRED
counted, PENDING kept. Before its deadline the watchdog does nothing. -/
def Obligations.TallyExpiry : Prop :=
  ∀ (s : State) (n : Shaft) (t : Nat),
    let y := s.tally n t
    let ends (c : Instr) : Prop := ∃ t' : State, exec c s = .next t' ∧ (t'.tally n t).st = .done ∧ (t'.tally n t).expired = true ∧
      (t'.tally n t).ans = .sent ∧ (t'.tally n t).gen = y.gen ∧ (t'.tally n t).pending = y.pending ∧ (t'.tally n t).lock = y.lock ∧
      (t'.tally n t).expiredAt = (s.sh n).clock ∧ (∀ h k, y.run = some (h, k) → t'.thread n h k = Thread.idle) ∧
      (t'.ptl n y.portal).lane = (s.ptl n y.portal).lane ++ [s.tallyAnswer n t Ans.TIMEOUT true] ∧
      t'.reg n .TLY_STAT_EXPIRED = min (s.reg n .TLY_STAT_EXPIRED + 1) 65535 ∧ (∀ j, j ≠ t → t'.tally n j = s.tally n j)
    (s.passed n y.deadline = false → exec (.deadlineExpiry n t) s = .next s) ∧
    (y.kind = .line → (y.st = .opn ∨ y.st = .wait) → y.spec ≠ .pending → y.recallRec = none → y.waitFor ≠ .way →
      (s.lodeOut n = false → s.passed n y.deadline = true → ends (.deadlineExpiry n t)) ∧
      (s.Open n.val .TLY → t < 32768 → ends (.tlyKill n (BitVec.ofNat 15 t))) ∧
      (∀ (before after : List Flight) (f : Flight), (s.sh n).flights = before ++ f :: after → f.act = .hau → f.there = true →
        (∀ g ∈ before, ¬(g.act = .hau ∧ g.there = true)) → f.tub.tv = true → f.tub.tally.toNat = t → f.tub.gen = y.gen →
        ends (.layerAbsentExpiry n)))

/-- R131, R129, R140: RESPONSE_MATCH takes the first tub at the tally store: of another GEN it counts STALE; otherwise it lowers PENDING and is kept
in the lowest FREE tub slot for the handler. TALLY_TIMER returns a tally in a timed wait to OPEN once TIMER has passed. A DONE, expired tally that
still holds its lock with PENDING above 0 is abandoned after DRAIN_US: its line is released, it is FREE, and the attention cause is set. -/
def Obligations.TallyResponsesAndEnd : Prop :=
  ∀ (s : State) (n : Shaft),
    (∀ (before after : List Flight) (f : Flight), (s.sh n).flights = before ++ f :: after → f.act = .tallyStore → f.there = true →
      (∀ g ∈ before, ¬(g.act = .tallyStore ∧ g.there = true)) → f.tub.spc = false → s.lodeOut n = false →
      let t := f.tub.tally.toNat
      let y := s.tally n t
      let out := s.updSh n (fun h => { h with flights := before ++ after })
      (y.gen ≠ f.tub.gen → exec (.responseMatch n none) s = .next (out.addReg n .TLY_STAT2_STALE)) ∧
      (∀ i, y.gen = f.tub.gen → y.st = .opn → y.kind ≠ .forward → s.freeSlot n = some i →
        exec (.responseMatch n none) s = .next ((((out.updTally n t (fun y => { y with pending := y.pending - 1 })).setSlot n i f.tub).updSh n
          (fun h => { h with pool := h.pool ++ [i] })).updTally n t (fun y => { y with rcvd := y.rcvd ++ [i] })))) ∧
    (∀ (t b : Nat),
      let y := s.tally n t
      (s.passed n y.timer = false → exec (.tallyTimer n t) s = .next s) ∧
      (s.passed n y.timer = true → y.st = .wait → y.waitFor = .timed b →
        ∃ t' : State, exec (.tallyTimer n t) s = .next t' ∧ t'.tally n t = { y with st := .opn, waitFor := .nothing } ∧
          (t'.sh n).dispatchQ = (s.sh n).dispatchQ ++ [⟨t, true⟩] ∧ ∀ j, j ≠ t → t'.tally n j = s.tally n j)) ∧
    (∀ t : Nat,
      let y := s.tally n t
      y.st = .done → y.expired = true → y.lock = true → 0 < y.pending → y.kind = .line → y.recallRec = none → y.parent = none →
      s.passed n (y.expiredAt + BitVec.ofNat 32 (s.reg n .TLY_CFG2_DRAIN_US)) = true →
      s.lockAt n y.line = some ⟨t, []⟩ → s.setQ n (homeSet y.line) = [] →
      ∃ t' : State, exec (.tallyAbandoned n t) s = .next t' ∧ (t'.tally n t).st = .free ∧ t'.lockAt n y.line = none ∧
        t'.reg n .SHF_ATTN_TALLY_ABANDONED = 1 ∧ t'.reg n .TLY_STAT3_ABANDONED = min (s.reg n .TLY_STAT3_ABANDONED + 1) 65535)

/-- R187 to R193, R238, R365: DISPATCH starts the tally at the head of the dispatch queue on the thread that R189 picks, at the PC of its dispatch
entry with every register 0 and REQUEST in M; without a valid entry it traps NO_HANDLER. RESUME restarts a parked tally from its park record. A
SEND, FWDD or END that waited for TRANSIT issues when TRANSIT is 0; the ERROR answer of a trapped LINE tally leaves then. -/
def Obligations.DispatchAndResume : Prop :=
  ∀ (s : State) (n : Shaft) (t h k : Nat) (rest : List Work) (resume : Bool),
    let y := s.tally n t
    let moved := s.updSh n (fun x => { x with dispatchQ := rest, turn := (h / 13 + 1) % 4 })
    ((s.sh n).dispatchQ = ⟨t, resume⟩ :: rest → s.place n = some (h, k) → s.seamsOut n = false → s.shGated n .HWR = false →
      (resume = false →
        let key := if y.kind = .recall then 2048 + 8 * s.reg n .DIR_CFG_RECALL_OP + y.prior.toNat
          else 8 * (y.request.extractLsb' 0 8).toNat + y.prior.toNat
        let e : Word := Tbl.get 0 ((s.sh n).bank y.epoch).dispatch key
        (e.getLsbD 16 = true → exec (.dispatch n .good) s = .next ((moved.updThread n h k (fun _ =>
          { Thread.idle with tally := some t, pc := e.extractLsb' 0 14, m := y.view })).updTally n t (fun y => { y with run := some (h, k) }))) ∧
        (e.getLsbD 16 = false → exec (.dispatch n .good) s = .next (moved.hewTrap n h k t 7 (e.extractLsb' 0 14).toNat 0))) ∧
      (resume = true → exec (.resume n) s = .next ((moved.updThread n h k (fun _ =>
        { Thread.idle with
          tally := some t, pc := y.park.resume, m := y.view, wt := y.park.taintW.setWidth 16
          w := Tbl.set 0 (Tbl.set 0 (Tbl.set 0 (Tbl.set 0 [] 0 y.park.w0) 1 y.park.w1) 2 y.park.w2) 3 y.park.w3
          z := y.park.flags.getLsbD 0, n := y.park.flags.getLsbD 1, c := y.park.flags.getLsbD 2, v := y.park.flags.getLsbD 3
          t := y.park.flags.getLsbD 4 })).updTally n t (fun y => { y with run := some (h, k), park := { y.park with valid := false } })))) ∧
    ((s.thread n h k).tally = some t → (s.thread n h k).stall = .transit →
      (0 < y.sp.transit → exec (.transitDrained n h k) s = .next s) ∧
      (y.sp.transit = 0 → ∀ i : HewFields,
        let woken := s.updThread n h k (fun x => { x with stall := .none })
        (woken.Issues n h k t 0x30 i → (Form.send i true 0xFFFF).legal i = true →
          ∃ t' : State, exec (.transitDrained n h k) s = .next t' ∧ exec (.hewSend n h k i .clean) woken = .next t') ∧
        (woken.Issues n h k t 0x32 i → (Form.send i false 0xFF00).legal i = true →
          ∃ t' : State, exec (.transitDrained n h k) s = .next t' ∧ exec (.hewFwdd n h k i .clean) woken = .next t') ∧
        (woken.Issues n h k t 0x5F i → y.kind = .line → (Form.legal { imm := 0xFFFF } i) = true →
          ∃ t' : State, exec (.transitDrained n h k) s = .next t' ∧ exec (.hewEnd n h k i .clean) woken = .next t'))) ∧
    (y.st = .done → y.trapped = true → y.kind = .line → y.ans = .unsent → y.sp.transit = 0 →
      ∃ t' : State, exec (.trapErrorAnswer n t) s = .next t' ∧ (t'.tally n t).ans = .sent ∧
        (s.tallyAnswer n t Ans.ERROR false).cls = 0x2 ∧ (t'.sh n).flights = (s.sh n).flights ++
          [⟨s.tallyAnswer n t Ans.ERROR false, .station .lode 0, .station .lode 0, 0x81, .egress y.portal, none, none⟩])

/-- R213, R214, R222: a write of a word to an IDLE bank with no flip armed stores it and clears LOADED. SEAL of an IDLE bank starts; its end sets
LOADED when the bank's CRC-32 is BANK_CRC, RESULT 1, and otherwise RESULT 2. FLIP to a loaded bank that serves no tally makes it the bank of new
tallies, RESULT 1; refused, it only sets RESULT 2 or 3. With the last tally of the old bank gone EPOCH_FREE ends the handover. The store patrol
counts what it corrects. R218, R219: RETIRE of an ACTIVE hewer makes its cluster's spare ACTIVE and the hewer DRAINING; not ACTIVE it only sets
RESULT 2, without a spare (FORCE 0) RESULT 3, while another retirement runs RESULT 4. Once the draining hewer runs no thread it is RETIRED with
RESULT 1 and HWR_RETIRED is logged. -/
def Obligations.MicrocodeAndRetirement : Prop :=
  (
    ∀ (s : State) (n : Shaft) (b : Bool),
      let idle := s.epoch n = !b ∧ s.epochCount n b = 0
      let loaded : Fld := if b then .HWR_EPOCH_LOADED1 else .HWR_EPOCH_LOADED0
      (s.Open n.val .HWR →
        (∀ (p : BankPart) (i : Nat) (hi : Bool) (v : Word), idle → s.reg n .HWR_EPOCH_ARMED = 0 → i < p.words →
          exec (.bankWrite n b p i hi v) s = .next ((s.updSh n (fun h =>
            if b then { h with bank1 := h.bank1.put p i hi v } else { h with bank0 := h.bank0.put p i hi v })).setReg n loaded 0)) ∧
        (∀ (i : Nat) (hi : Bool) (v : Word), idle → s.reg n .HWR_EPOCH_ARMED = 0 → i < 16384 →
          exec (.bankWrite n b .code i hi v) s = .next ((s.updSh n (fun h =>
            let code := Tbl.upd 0 (h.bank b).code i (fun (x : DWord) => if hi then v ++ x.extractLsb' 0 32 else x.extractLsb' 32 32 ++ v)
            if b then { h with bank1 := { h.bank1 with code := code } } else { h with bank0 := { h.bank0 with code := code } })).setReg n loaded 0)) ∧
        (s.reg n .HWR_BANK_STAT_BUSY = 0 → idle →
          exec (.seal n b) s = .next ((s.setReg n .HWR_BANK_STAT_BUSY 1).updSh n (fun h => { h with sealing := some b }))) ∧
        (s.reg n .HWR_BANK_STAT_BUSY = 0 → ¬idle → exec (.seal n b) s = .next (s.setReg n .HWR_BANK_STAT_RESULT 3)) ∧
        (s.epoch n = !b → s.reg n .HWR_EPOCH_ARMED = 0 →
          (0 < s.epochCount n b → exec (.flip n) s = .next (s.setReg n .HWR_FLIP_STAT_RESULT 2)) ∧
          (s.epochCount n b = 0 → s.reg n loaded = 0 → exec (.flip n) s = .next (s.setReg n .HWR_FLIP_STAT_RESULT 3)) ∧
          (s.epochCount n b = 0 → s.reg n loaded ≠ 0 → ∃ t : State, exec (.flip n) s = .next t ∧ t.epoch n = b ∧
            t.reg n .HWR_FLIP_STAT_RESULT = 1 ∧ (t.sh n).flipAt = some s.up ∧ (t.sh n).tallies = (s.sh n).tallies))) ∧
      ((s.sh n).sealing = some b →
        ∃ t : State, exec (.sealDone n) s = .next t ∧ t.reg n .HWR_BANK_STAT_BUSY = 0 ∧ (t.sh n).sealing = none ∧
          (let same := (crc32 ((s.sh n).bank b).bytes).toNat = s.reg n .HWR_BANK_CRC_CRC
          (same → t.reg n .HWR_BANK_STAT_RESULT = 1 ∧ t.reg n loaded = 1) ∧
          (¬same → t.reg n .HWR_BANK_STAT_RESULT = 2 ∧ t.reg n loaded = s.reg n loaded))) ∧
      (∀ a, (s.sh n).flipAt = some a → s.epoch n = !b →
        (0 < s.epochCount n b → exec (.epochFree n) s = .next s) ∧
        (s.epochCount n b = 0 → s.log.length < 4096 →
          exec (.epochFree n) s = .next { s.updSh n (fun h => { h with flipAt := none }) with
            log := s.log ++ [⟨s.fab, 0x0404, 0, BitVec.ofNat 8 n.val, 0xFFFF, s.seq,
              BitVec.ofNat 96 (bit b + 2 ^ 32 * (1000 * (s.up - a) % 2 ^ 64)), BitVec.ofNat 16 s.dropped⟩]
            seq := s.seq + 1
            dropped := 0 })) ∧
      (∀ c i, s.seamsOut n = false → s.shGated n .HWR = false → c < 4 → i < 16384 →
        (∀ p : BankPart, i < p.words → exec (.storePatrol n c b p i .corrected) s = .next (s.addReg n .HWR_STAT2_STORE_CORR)) ∧
        exec (.storePatrol n c b .code i .refetched) s = .next (s.addReg n .HWR_STAT2_STORE_REFETCH) ∧
        exec (.storePatrol n c b .code i .good) s = .next s)) ∧
  (
    ∀ (s : State) (n : Shaft) (h : BitVec 6) (force : Bool), h.toNat < 52 →
      (s.Open n.val .HWR →
        ((s.sh n).retiring ≠ [] → exec (.retire n h force) s = .next (s.setReg n .HWR_RETIRE_STAT_RESULT 4)) ∧
        ((s.sh n).retiring = [] →
          (s.hewRole n h.toNat ≠ 0 → exec (.retire n h force) s = .next (s.setReg n .HWR_RETIRE_STAT_RESULT 2)) ∧
          (s.hewRole n h.toNat = 0 → (∀ g, g / 13 = h.toNat / 13 → s.hewRole n g ≠ 1) → force = false →
            exec (.retire n h force) s = .next (s.setReg n .HWR_RETIRE_STAT_RESULT 3)) ∧
          (s.hewRole n h.toNat = 0 → (∀ g, g / 13 = h.toNat / 13 → s.hewRole n g ≠ 1) → force = true →
            exec (.retire n h force) s = .next (((s.setReg n .HWR_UNIT_ROLE 2 h.toNat).setReg n .HWR_RETIRE_STAT_BUSY 1).updSh n
              (fun x => { x with retiring := [⟨h.toNat, 1, none⟩] }))) ∧
          (∀ g, s.hewRole n h.toNat = 0 → g / 13 = h.toNat / 13 → s.hewRole n g = 1 → (∀ j, j < g → j / 13 = g / 13 → s.hewRole n j ≠ 1) →
            exec (.retire n h force) s = .next ((((s.setReg n .HWR_UNIT_ROLE 0 g).setReg n .HWR_UNIT_ROLE 2 h.toNat).setReg n
              .HWR_RETIRE_STAT_BUSY 1).updSh n (fun x => { x with retiring := [⟨h.toNat, 1, some g⟩] }))))) ∧
      (∀ r : Retirement, (s.sh n).retiring = [r] → s.busyThreads n r.hewer = 0 →
        ∃ t : State, exec (.hwrRetired n) s = .next t ∧ t.hewRole n r.hewer = 3 ∧ t.reg n .HWR_RETIRE_STAT_RESULT = 1 ∧
          t.reg n .HWR_RETIRE_STAT_BUSY = 0 ∧ (t.sh n).retiring = [] ∧ (∀ g, g ≠ r.hewer → t.hewRole n g = s.hewRole n g) ∧
          (s.log.length < 4096 → ∃ e : LogEntry, t.log = s.log ++ [e] ∧ e.code = 0x0402 ∧ e.source.toNat = n.val ∧ e.unit = BitVec.ofNat 16 r.hewer)))

/-- R235, R236: GATE_DECISION at a link-up Drift portal, on a tub of the egress queue, with nothing ahead of it: it passes, passes as a ticket, is
held in a tub slot and counted, counts STALE, or is discarded and counted, by the first row of R235 that applies; a tub that passes the guard goes
to the flit mover. -/
def Obligations.DaylightGate : Prop :=
  ∀ (s : State) (n : Shaft) (p : Portal) (t : Tub) (rest : List Tub),
    let x := s.ptl n p
    let y := s.tally n t.tally.toNat
    x.txq.length < 64 → x.lane = [] → x.released = [] → x.eqGot = t :: rest → x.eqHead = [] → s.linkUp n p = true → x.cfg.drift = true →
    (t.cls = 0x4 → s.role n p = Role.MEM) → t.ans = false →
    let live := t.tv = true ∧ y.st ≠ .free ∧ y.gen = t.gen ∧ y.expired = false ∧ t.wdog = false
    let pending := live ∧ y.spec = .pending ∧ t.spc = true
    let ticket := t.cls = 0x4 ∧ t.seq = y.sp.ticketSeq ∧ 0 < y.sp.tickets
    let passes := t.tv = false ∨ (y.st ≠ .free ∧ y.gen = t.gen ∧ t.wdog = true) ∨ (live ∧ t.spc = false) ∨ (live ∧ y.spec = .none) ∨ (live ∧ y.spec = .confirmed)
    let decides (P : State → Prop) : Prop := ∃ t' : State, exec (.gateDecision n p) s = .next t' ∧ (t'.ptl n p).eqGot = rest ∧ P t'
    let unsent (t' : State) : Prop := (t'.ptl n p).txq = x.txq ∧ (t'.ptl n p).hold = x.hold
    (passes → (s.guardFill n p).guardCause n p t = 0 → decides (fun t' => (t'.ptl n p).hold = x.hold ∧
      ∃ (b : Tub) (a : Bool) (ft : BitVec 15) (fg : BitVec 4), (t'.ptl n p).txq = x.txq ++ [.tub b a ft fg] ∧ b.cls = t.cls ∧ (t.cls ≠ 0x1 → b = t))) ∧
    (pending → ticket → (s.guardFill n p).guardCause n p t = 0 → decides (fun t' => (t'.ptl n p).txq.length = x.txq.length + 1 ∧
      (t'.ptl n p).hold = x.hold ∧ (t'.tally n t.tally.toNat).sp.tickets = y.sp.tickets - 1)) ∧
    (pending → ¬ticket → x.hold.length < 512 → decides (fun t' => (t'.ptl n p).txq = x.txq ∧ (t'.ptl n p).hold = x.hold ++ [⟨t, s.freeSlot n⟩] ∧
      (∀ i, s.freeSlot n = some i → i ∈ (t'.sh n).pool ∧ t'.slot n i = t) ∧
      t'.reg n .PTL_DL_GATE2_HELD p.val = min (s.reg n .PTL_DL_GATE2_HELD p.val + 1) 65535)) ∧
    (t.tv = true → (y.st = .free ∨ y.gen ≠ t.gen ∨ (y.expired = true ∧ t.wdog = false)) → decides (fun t' => unsent t' ∧
      t'.reg n .TLY_STAT2_STALE = min (s.reg n .TLY_STAT2_STALE + 1) 65535)) ∧
    (live → y.spec = .aborted → t.spc = true → decides (fun t' => unsent t' ∧
      t'.reg n .PTL_DL_GATE2_DISCARDED p.val = min (s.reg n .PTL_DL_GATE2_DISCARDED p.val + 1) 65535))

/-- R102, R242, R243, R294, R295: a tub at the port of a running stope, with nothing held: of a tally that does not speculate it is delivered; of
one that does it is held, or with EXPOSE 1 delivered with UNCONF 1 while the tally joins the lineage list. A queue result whose turn it is takes its
reserved place. A tub the design sends, or a queue operation while fewer than four are outstanding, enters haulage at the stope's router; a fifth
operation waits at the port. RELEASED is as the design drives it. R268 to R271: outputs W and H of a cell from its table in both modes; what joiners
stand in place of an H, and what they choose; a carry chain goes on from the tile to the south in the same stope. A flip-flop takes FORCE_TO at
force, else its data at enable, else it keeps its value, and an edge gives every flip-flop of a stope that value. R102: a pacer whose handshake is
pending has no edge, and STRETCH counts it. R288 to R290: one cycle of the two ports of a block memory. A row takes port A's data where A writes,
port B's where B alone writes, and keeps its other bits; the collision output says that both write one bit. A read port shows the row as it was at
its address; a writing port shows the new word, the old one, or its last read, by its mode. -/
def Obligations.StopePorts : Prop :=
  (
    ∀ (s : State) (n : Shaft) (k : Nat) (rel : Bool),
      k < 128 → s.stopeRuns n k = true → s.shGated n .STP = false →
      let x := s.stope n k
      let taken := s.setReg n .STP_STAT_RELEASED (bit rel) k
      let pushes := ∃ w ∈ (s.sh n).pushWaits, ∃ i, w.by_ = .stope k i
      (∀ (before after : List Flight) (f : Flight), x.hold = [] → (s.sh n).flights = before ++ f :: after → f.act = .stope k → f.there = true →
        (∀ g ∈ before, g.act ≠ .stope k ∧ s.stopeGets n k g = none) → f.tub.spc = false → Cls.vc f.tub.cls ≠ 2 → x.buf01.length < 8 → f.tub.tv = true →
        let y := s.tally n f.tub.tally.toNat
        let pending := y.gen = f.tub.gen ∧ y.st ≠ .free ∧ y.spec = .pending
        let out := taken.updSh n (fun h => { h with flights := before ++ after })
        (¬pending → exec (.stopeDeliver n k ⟨0, 0, 0, rel⟩) s = .next (out.updStope n k (fun x =>
          { x with buf01 := x.buf01 ++ [f.tub], last := some (f.tub.tally.toNat, f.tub.gen) }))) ∧
        (pending → s.reg n .STP_SPEC_EXPOSE k = 0 → exec (.stopeDeliver n k ⟨0, 0, 0, rel⟩) s = .next (out.updStope n k (fun x =>
          { x with hold := [f.tub] }))) ∧
        (pending → s.reg n .STP_SPEC_EXPOSE k ≠ 0 → x.lineage = [] → exec (.stopeDeliver n k ⟨0, 0, 0, rel⟩) s = .next (out.updStope n k (fun x =>
          { x with
            lineage := [f.tub.tally.toNat], buf01 := x.buf01 ++ [{ f.tub with unconf := true }], last := some (f.tub.tally.toNat, f.tub.gen) })))) ∧
      (∀ (before after : List Flight) (f : Flight) (i : Nat) (r : QResult), x.hold = [] → (s.sh n).flights = before ++ f :: after → f.act = .stopeRes k i r →
        f.there = true → s.opBefore n k i = false → (∀ g ∈ before, g.act ≠ .stope k ∧ s.stopeGets n k g = none) →
        exec (.stopeDeliver n k ⟨0, 0, 0, rel⟩) s = .next ((taken.updSh n (fun h => { h with flights := before ++ after })).updStope n k (fun x =>
          { x with results := x.results ++ [r] }))) ∧
      (∀ (c : BitVec 4) (d : BitVec 8) (b : BitVec 512), x.waiting = none → ¬pushes → s.reg n .STP_SPEC_STAINED k = 0 → x.lineage = [] → x.last = none →
        c.toNat < 0xB → d.toNat < 128 →
        exec (.stopeInject n k ⟨.send c d b, rel⟩) s = .next (taken.updSh n (fun h =>
          { h with flights := h.flights ++ [⟨{ Tub.zero with cls := c, body := b }, .router k, .router k, d, .stope d.toNat, some k, none⟩] }))) ∧
      (∀ (r : StopeReq) (q : Nat) (o : StopeQop), (r, o) ∈ [(StopeReq.qpop q, StopeQop.pop), (.qmark q, .mark), (.qunmark q, .unmark), (.qrwnd q, .rewind)] →
        x.waiting = none → ¬pushes →
        (x.outstanding < 4 → exec (.stopeInject n k ⟨r, rel⟩) s = .next ((taken.updSh n (fun h =>
          { h with flights := h.flights ++ [⟨Tub.zero, .router k, .router k, 0x81, .stopeOp k x.issued q o, none, none⟩] })).updStope n k (fun x =>
            { x with outstanding := x.outstanding + 1, issued := x.issued + 1 }))) ∧
        (4 ≤ x.outstanding → exec (.stopeInject n k ⟨r, rel⟩) s = .next (taken.updStope n k (fun x => { x with waiting := some r }))))) ∧
  (
    (∀ (c : CellCfg) (k : BitVec 6),
      (c.split = false → c.outW (fun i => k.getLsbD i) = c.table.getLsbD k.toNat) ∧
      (c.split = true → c.outW (fun i => k.getLsbD i) = c.table.getLsbD (32 + k.toNat % 32)) ∧
      c.outH (fun i => k.getLsbD i) = c.table.getLsbD (k.toNat % 32)) ∧
    (∀ forceTo enable data now : Bool,
      flopAfter true forceTo enable data now = forceTo ∧ flopAfter false forceTo true data now = data ∧ flopAfter false forceTo false data now = now) ∧
    (∀ (s : State) (n : Shaft) (k : Nat), k < 128 →
      (∀ (m t p : Nat),
        s.sig n (m + 1) k (.pair t p) = (if s.sig n m k (.input t (2 * p + 1) 7) then s.sig n m k (.w t (2 * p + 1)) else s.sig n m k (.w t (2 * p))) ∧
        s.sig n (m + 1) k (.quad t p) = (if s.sig n m k (.input t (4 * p) 7) then s.sig n m k (.pair t (2 * p + 1)) else s.sig n m k (.pair t (2 * p))) ∧
        (p < 8 → (tileCfg (s.stope n k).active t).pairs.getLsbD p = true → s.sig n (m + 1) k (.h t (2 * p + 1)) = s.sig n m k (.pair t p)) ∧
        (p < 4 → (tileCfg (s.stope n k).active t).quads.getLsbD p = true → s.sig n (m + 1) k (.h t (4 * p)) = s.sig n m k (.quad t p))) ∧
      (∀ (m t : Nat), (tileCfg (s.stope n k).active t).carry = .south →
        s.carryOut n k (m + 1) t 0 = Config.carry (cellCfg (s.stope n k).active t 0) (BitVec.ofNat 6 (tableIndex (fun j => s.signal n k (.input t 0 j)) 6))
          (if 32 ≤ t then s.carryOut n k m (t - 32) 15 else false)) ∧
      (∀ t c b, t < 512 → c < 16 → ((s.clockStopes n [k]).stope n k).ff.getLsbD (32 * t + 16 * bit b + c) = s.flopNext n k t c b) ∧
      (s.regB n .STP_STAT_PAIRED k = false → s.stopeRuns n k = true → (s.stope n k).waiting = none → (s.stope n k).acc ≠ [] → s.portsStopped n = true →
        ((s.pacerEdge n k).stope n k) = { s.stope n k with stretched := true } ∧
        (s.pacerEdge n k).reg n .PCE_SLIP_STRETCH k = min (s.reg n .PCE_SLIP_STRETCH k + 1) (2 ^ Fld.PCE_SLIP_STRETCH.desc.width - 1)))) ∧
  (
    ∀ (c : List Host.Cell) (m : Nat) (x : BitVec 13) (ra rb : Option BlkReq) (ka kb : BitVec 72), Memory.wf 0 c = true →
      let o := blkCycle c m x ra rb ka kb
      let pa := portAspect x false
      let pb := portAspect x true
      let byA (row i : Nat) : Prop := ∃ q, ra = some q ∧ q.row pa = row ∧ (q.writes pa).getLsbD i = true
      let byB (row i : Nat) : Prop := ∃ q, rb = some q ∧ q.row pb = row ∧ (q.writes pb).getLsbD i = true
      (∀ row i, row < 512 → i < 72 →
        (∀ q, ra = some q → byA row i → (blkRow o.cells m row).getLsbD i = (q.spread pa).getLsbD i) ∧
        (∀ q, rb = some q → ¬byA row i → byB row i → (blkRow o.cells m row).getLsbD i = (q.spread pb).getLsbD i) ∧
        (¬byA row i → ¬byB row i → (blkRow o.cells m row).getLsbD i = (blkRow c m row).getLsbD i)) ∧
      (o.coll = true ↔ ∃ row i, byA row i ∧ byB row i) ∧
      Memory.wf 0 o.cells = true ∧
      (∀ q, ra = some q →
        (q.write = false → o.a = some (q.gather pa (blkRow c m (q.row pa)))) ∧
        (q.write = true → portMode x false = 0 → o.a = some (q.gather pa (blkRow o.cells m (q.row pa)))) ∧
        (q.write = true → portMode x false = 1 → o.a = some (q.gather pa (blkRow c m (q.row pa)))) ∧
        (q.write = true → portMode x false = 2 → o.a = some ka)) ∧
      (∀ q, rb = some q →
        (q.write = false → o.b = some (q.gather pb (blkRow c m (q.row pb)))) ∧
        (q.write = true → portMode x true = 0 → o.b = some (q.gather pb (blkRow o.cells m (q.row pb)))) ∧
        (q.write = true → portMode x true = 1 → o.b = some (q.gather pb (blkRow c m (q.row pb)))) ∧
        (q.write = true → portMode x true = 2 → o.b = some kb)))

/-- R125, R342, R343, R360: a Drift flit with a wrong CRC makes the receiver ask for a replay and nothing else; one that is next in sequence is
taken, frees what it acknowledges and gives its credits, and a REQ tub in it (here the only one, by the DIRECT route, in a shaft that is not
cooling) enters haulage for PTL.INQ of the portal with the tally clock as its time stamp. A PCIe-mode portal whose link layer enters Recovery
retrains (R344). R90, R91, R342, R343: at a flit boundary a Drift portal repeats the flit a replay asks for, counted in REPLAYS; otherwise sends a
control flit; otherwise up to seven tubs, of virtual channels 0 and 1 only with a credit; with none it sends IDLE. A flit of tubs or control is kept
until it is acknowledged; the next FSEQ is one higher. -/
def Obligations.Flits : Prop :=
  (
    ∀ (s : State) (n : Shaft) (p : Portal) (f : Flit),
      s.moverUp n p = true →
      let x := s.ptl n p
      (x.cfg.drift = false → (s.recentResets n p).length < s.resetLimit n p → ∃ t : State, exec (.flitReceive n p .pcieRecovery) s = .next t ∧
        t.pst n p = Pst.RECOVERY ∧ (t.ptl n p).recoveryAt = s.up ∧ t.reg n .PTL_STAT3_RETRAINS p.val = min (s.reg n .PTL_STAT3_RETRAINS p.val + 1) 65535) ∧
      (x.cfg.drift = true → f.extractLsb' 4032 64 ≠ crc64 ((List.range 504).map (fun i => f.extractLsb' (8 * i) 8)) →
        ∃ t : State, exec (.flitReceive n p (.drift f)) s = .next t ∧ (t.ptl n p).nakDue = true ∧ (t.ptl n p).expFseq = x.expFseq ∧
          (t.ptl n p).unacked = x.unacked ∧ (t.sh n).flights = (s.sh n).flights ∧ (t.sh n).tallies = (s.sh n).tallies) ∧
      (∀ r : Slot, x.cfg.drift = true → f.extractLsb' 4032 64 = crc64 ((List.range 504).map (fun i => f.extractLsb' (8 * i) 8)) →
        f.getLsbD 28 = false → (f.extractLsb' 12 4).toNat = 1 → f.extractLsb' 0 12 = x.expFseq → f.slot 0 = some r → (∀ i, 0 < i → i < 7 → f.slot i = none) →
        r.tub.cls = 0x0 → r.answer = false → r.tub.data = false → (s.croute n p 0x0).1 = 0 → s.cooling n = false → x.markWait = false → x.partnerEpoch = none →
        ∃ t : State, exec (.flitReceive n p (.drift f)) s = .next t ∧ (t.ptl n p).expFseq = x.expFseq + 1 ∧
          (t.ptl n p).unacked = x.unacked.filter (fun e => (f.extractLsb' 16 12 - e.1).msb) ∧
          (t.ptl n p).credits = [x.credits.getD 0 0 + (f.extractLsb' 32 16).toNat, x.credits.getD 1 0 + (f.extractLsb' 48 16).toNat,
            x.credits.getD 2 0 + (f.extractLsb' 64 16).toNat] ∧
          (t.ptl n p).creditsDue = [x.creditsDue.getD 0 0 + 1, x.creditsDue.getD 1 0, x.creditsDue.getD 2 0] ∧
          (t.sh n).flights = (s.sh n).flights ++ [⟨{ r.tub with line := 0, poison := false, ep := none }.put 24 0 (s.sh n).clock, .unit .adit, .unit .adit, 0x81,
            .ingress p, none, some p⟩])) ∧
  (
    ∀ (s : State) (n : Shaft) (p : Portal),
      s.moverUp n p = true → (s.ptl n p).cfg.drift = true →
      let x := s.ptl n p
      (∀ q, x.replayAt = some q → ∃ t : State, exec (.flitTransmit n p) s = .next t ∧
        t.reg n .PTL_STAT3_REPLAYS p.val = min (s.reg n .PTL_STAT3_REPLAYS p.val + 1) 65535 ∧ (t.ptl n p).unacked = x.unacked ∧ (t.ptl n p).txq = x.txq) ∧
      (x.replayAt = none → x.unacked.length < 256 →
        (x.txq = [] → ∃ t : State, exec (.flitTransmit n p) s = .next t ∧ (t.ptl n p).unacked = x.unacked ∧ (t.ptl n p).nextFseq = x.nextFseq ∧
          (t.ptl n p).nakDue = false ∧ (t.ptl n p).credits = x.credits) ∧
        (∀ i : TxItem, x.txq = [i] → (∀ m, i ≠ .msg m) →
          let v := match i with
            | .tub b _ _ _ => (Cls.vc b.cls).toNat
            | _ => 2
          (v = 2 ∨ 0 < x.credits.getD v 0 → ∃ (t : State) (f : Flit), exec (.flitTransmit n p) s = .next t ∧ (t.ptl n p).txq = [] ∧
            (t.ptl n p).unacked = x.unacked ++ [(x.nextFseq, f)] ∧ (t.ptl n p).nextFseq = x.nextFseq + 1 ∧
            (t.ptl n p).credits = if v = 2 then x.credits else x.credits.set v (x.credits.getD v 0 - 1)) ∧
          (v ≠ 2 → x.credits.getD v 0 = 0 → ∃ t : State, exec (.flitTransmit n p) s = .next t ∧ (t.ptl n p).txq = x.txq ∧
            (t.ptl n p).unacked = x.unacked))))

/-- R154 to R156: while no command runs, one of CLM.CMD begins, BUSY 1, and at its end (with the µs, assumption 52) LOAD of a claim that is not in
use copies the staged words to it, RESULT 1; a LOAD that would move a claim in use gives RESULT 2. MAP joins a free granule to a VALID claim that
has none, RESULT 1; otherwise RESULT 3 or 4. UNMAP takes the granule from a claim that is not in use, RESULT 1; otherwise RESULT 5 or 2. A refused
command changes nothing else. While a command runs another is dropped and sets LOST. -/
def Obligations.ClaimCommands : Prop :=
  ∀ (s : State) (n : Shaft) (c : BitVec 8) (g : BitVec 10),
    s.Open n.val .CLM →
    let k := c.toNat
    (s.reg n .CLM_CMD_STAT_BUSY ≠ 0 → ∀ i, i ∈ [Instr.clmLoad n c, .clmMap n c g, .clmUnmap n g] → exec i s = .next (s.setReg n .CLM_CMD_STAT_LOST 1)) ∧
    (s.reg n .CLM_CMD_STAT_BUSY = 0 →
    let run (x : ClaimCmd) : State := (s.setReg n .CLM_CMD_STAT_BUSY 1).updSh n (fun h => { h with claimCmd := some x })
    let ended (t : State) (r : Nat) : State := ((t.setReg n .CLM_CMD_STAT_RESULT r).setReg n .CLM_CMD_STAT_BUSY 0).updSh n (fun h => { h with claimCmd := none })
    let load : ClaimCmd := ⟨1, k, 0⟩
    let map : ClaimCmd := ⟨2, k, g.toNat⟩
    let unmap : ClaimCmd := ⟨3, 0, g.toNat⟩
    let refused (x : ClaimCmd) (r : Nat) : Prop := (run x).clmEnd n = ended (run x) r
    exec (.clmLoad n c) s = .next (run load) ∧ exec (.clmMap n c g) s = .next (run map) ∧ exec (.clmUnmap n g) s = .next (run unmap) ∧
    let inUse (k : Nat) := 0 < s.reg n .CLM_ENTRY5_ENTRIES k ∨ 0 < s.claimOpen n k
    let moves := s.reg n .CLM_STAGE0_PORTAL ≠ s.reg n .CLM_ENTRY0_PORTAL k ∨ s.reg n .CLM_STAGE1_BASE_GIB ≠ s.reg n .CLM_ENTRY1_BASE_GIB k ∨
      (s.reg n .CLM_ENTRY0_VALID k ≠ 0 ∧ s.reg n .CLM_STAGE0_VALID = 0)
    (moves → inUse k → refused load 2) ∧
    (¬(moves ∧ inUse k) → let t := (run load).clmEnd n
      t.reg n .CLM_CMD_STAT_RESULT = 1 ∧ t.reg n .CLM_CMD_STAT_BUSY = 0 ∧ (t.sh n).claimCmd = none ∧
      (∀ a f, (a, f) ∈ [(Fld.CLM_STAGE0_VALID, Fld.CLM_ENTRY0_VALID), (.CLM_STAGE0_CACHEABLE, .CLM_ENTRY0_CACHEABLE),
          (.CLM_STAGE0_SPECULABLE, .CLM_ENTRY0_SPECULABLE), (.CLM_STAGE0_PORTAL, .CLM_ENTRY0_PORTAL), (.CLM_STAGE1_BASE_GIB, .CLM_ENTRY1_BASE_GIB),
          (.CLM_STAGE2_READ, .CLM_ENTRY2_READ), (.CLM_STAGE3_WRITE, .CLM_ENTRY3_WRITE), (.CLM_STAGE4_CACHE, .CLM_ENTRY4_CACHE)] →
        t.reg n f k = s.reg n a % 2 ^ f.desc.width ∧ ∀ j, j ≠ k → t.reg n f j = s.reg n f j) ∧ t.log = s.log) ∧
    (s.reg n .CLM_ENTRY6_MAPPED k ≠ 0 ∨ s.reg n .CLM_MAP_VALID g.toNat ≠ 0 → refused map 3) ∧
    (s.reg n .CLM_ENTRY6_MAPPED k = 0 → s.reg n .CLM_MAP_VALID g.toNat = 0 →
      (s.reg n .CLM_ENTRY0_VALID k = 0 → refused map 4) ∧
      (s.reg n .CLM_ENTRY0_VALID k ≠ 0 → let t := (run map).clmEnd n
        t.reg n .CLM_CMD_STAT_BUSY = 0 ∧ (t.sh n).claimCmd = none ∧ t.reg n .CLM_CMD_STAT_RESULT = 1 ∧
        t.reg n .CLM_MAP_CLAIM g.toNat = k ∧ t.reg n .CLM_MAP_VALID g.toNat = 1 ∧ t.reg n .CLM_ENTRY6_GRANULE k = g.toNat ∧
        t.reg n .CLM_ENTRY6_MAPPED k = 1 ∧ (∀ j, j ≠ g.toNat → t.reg n .CLM_MAP_VALID j = s.reg n .CLM_MAP_VALID j))) ∧
    (let m := s.reg n .CLM_MAP_CLAIM g.toNat
    (s.reg n .CLM_MAP_VALID g.toNat = 0 → refused unmap 5) ∧
    (s.reg n .CLM_MAP_VALID g.toNat ≠ 0 → inUse m → refused unmap 2) ∧
    (s.reg n .CLM_MAP_VALID g.toNat ≠ 0 → ¬inUse m → (run unmap).clmEnd n = ended (((run unmap).setReg n .CLM_MAP_VALID 0 g.toNat).setReg n .CLM_ENTRY6_MAPPED 0 m) 1)))

/-- R156, R158, R175, R176, R180: CLM.SWEEP starts a walk over the directory, or sets LOST while one runs. The walk passes a set without an entry of
its claim, recalls an entry of it, and pauses where none may open; once it has passed every set and its recalls are FREE it ends with SWEEP_DONE. A
recall that waited opens with a tally of the reserve, takes the four lines of its way and is sent to the hewers. The patrol counts a corrected entry
and takes a way with an uncorrectable one out of use. -/
def Obligations.DirectoryUpkeep : Prop :=
  ∀ (s : State) (n : Shaft),
    (∀ c : BitVec 8, s.Open n.val .CLM →
      (s.reg n .CLM_SWEEP_STAT_BUSY ≠ 0 → exec (.clmSweep n c) s = .next (s.setReg n .CLM_SWEEP_STAT_LOST 1)) ∧
      (s.reg n .CLM_SWEEP_STAT_BUSY = 0 → exec (.clmSweep n c) s = .next (((s.setReg n .CLM_SWEEP_STAT_BUSY 1).setReg n .CLM_SWEEP_CNT_RECALLS 0).updSh n
        (fun h => { h with sweep := some ⟨c.toNat, 0, []⟩ })))) ∧
    (∀ x : Sweep, (s.sh n).sweep = some x →
      (s.engineWorks n = true → x.next < 14 * 2 ^ 19 → (∀ w, x.next % 14 ≤ w → w < 14 → s.sweepTakes n x.claim (x.next / 14) w = false) →
        exec (.sweepSetRead n) s = .next (s.updSh n (fun h => { h with sweep := some { x with next := 14 * (x.next / 14 + 1) } }))) ∧
      (s.engineWorks n = true → x.next < 14 * 2 ^ 19 → s.sweepTakes n x.claim (x.next / 14) (x.next % 14) = true →
        (s.freeReserve n = none ∨ s.sweepMay n x = false → exec (.sweepSetRead n) s = .next s) ∧
        (∀ t, s.freeReserve n = some t → s.sweepMay n x = true → x.next % 14 = 13 →
          exec (.sweepSetRead n) s = .next (State.openRecall (s.updSh n (fun h => { h with sweep := some { x with next := x.next + 1 } }))
            n t (x.next / 14) 13 .sweep))) ∧
      (x.next = 14 * 2 ^ 19 → x.recalls = [] → ∃ t : State, exec (.clmSweepDone n) s = .next t ∧ (t.sh n).sweep = none ∧
        t.reg n .CLM_SWEEP_STAT_BUSY = 0 ∧ (s.log.length < 4096 → ∃ e : LogEntry, t.log = s.log ++ [e] ∧ e.code = 0x0303 ∧ e.unit = BitVec.ofNat 16 x.claim))) ∧
    (∀ (set w t : Nat) (rest : List RecallWait), (s.sh n).recallWait = .evict set w :: rest → s.freeReserve n = some t → s.engineWorks n = true → w < 14 → set < 2 ^ 19 →
      s.wayFree n set w = false → s.quarantine n set w = false → s.recallOf n set w = none →
      (∀ i, i < 4 → s.lockAt n (sectorLine set (s.ent n set w).tag i) = none) →
      ∃ t' : State, exec (.recallOpen n) s = .next t' ∧ (t'.sh n).recallWait = rest ∧ (t'.tally n t).kind = .recall ∧ (t'.tally n t).st = .opn ∧
        (t'.tally n t).lock = true ∧ (t'.tally n t).lineAddr = s.planeAddr n set (s.ent n set w).tag 0 ∧ t'.recallOf n set w = some t ∧
        (∀ i, i < 4 → (t'.ent n set w).line i = 4 ∧ t'.lockAt n (sectorLine set (s.ent n set w).tag i) = some ⟨t, []⟩) ∧
        (t'.sh n).dispatchQ = (s.sh n).dispatchQ ++ [⟨t, false⟩] ∧ t'.reg n .DIR_STAT_RECALLS = min (s.reg n .DIR_STAT_RECALLS + 1) 65535) ∧
    (∀ set w : Nat, s.engineWorks n = true → set < 2 ^ 19 →
      exec (.dirPatrol n set []) s = .next s ∧
      exec (.dirPatrol n set [.corrected w]) s = .next (s.addReg n .DIR_STAT2_CORR) ∧
      (w < 14 → s.quarantine n set w = false → ∃ t : State, exec (.dirPatrol n set [.lost w]) s = .next t ∧ t.quarantine n set w = true ∧
        t.wayFree n set w = false ∧ (∀ tag, t.findWay n set tag ≠ some w) ∧ t.reg n .SHF_ATTN_DIR_UNCORR = 1 ∧ (∀ v, v ≠ w → t.ent n set v = s.ent n set v) ∧
        t.reg n .DIR_STAT3_QUARANTINED = min (s.reg n .DIR_STAT3_QUARANTINED + 1) 65535))

/-- R250: a command of QMG.CMD begins, BUSY 1, and acts in its queue's next slot (here one in which no operation waits): LOAD of a queue that is
absent, or present and empty, with a staged descriptor that the rules of R248 allow (here a ring in tub slots) makes it that queue, RESULT 1; a
queue with entries gives RESULT 2, a wrong SIZE 3, wrong watermarks 4. EMPTY discards the entries, WM takes the staged watermarks and outputs, CLEAR
the three sticky flags; on an absent queue they give RESULT 6. A command while another runs is dropped and sets LOST. R253 to R264: a command of
QMG.HOST_CMD begins, BUSY 1, and in its queue's next slot (here one in which nothing else waits) the host pushes HOST_TUB onto, pops into it from,
marks, unmarks and rewinds a queue (here one in tub slots with no pending gap record), with RESULT 1; a rewind without a mark gives RESULT 5, an
absent queue 6, and a command while an operation runs is LOST. A push of a class other than MGT and USR is discarded. A pop from a ring in claim
memory goes on as a read of its slot. -/
def Obligations.QueueCommands : Prop :=
  (
    ∀ (s : State) (n : Shaft) (q : BitVec 17), s.Open n.val .QMG →
      (s.reg n .QMG_CMD_STAT_BUSY ≠ 0 → ∀ i, i ∈ [Instr.queueLoad n q, .queueEmpty n q, .queueWm n q, .queueClear n q] →
        exec i s = .next (s.setReg n .QMG_CMD_STAT_LOST 1)) ∧
      (s.reg n .QMG_CMD_STAT_BUSY = 0 →
      let d := s.queue n q.toNat
      let st := s.stagedQueue n
      let size := 1 ≤ st.size.toNat ∧ st.size.toNat ≤ 20
      let marks (ring : Nat) := 1 ≤ st.hwm.toNat ∧ st.hwm.toNat < ring ∧ st.lwm.toNat < st.hwm.toNat
      let busy := d.valid = true ∧ (d.rd ≠ d.wr ∨ d.pend = true)
      let run (op : Nat) : State := (s.setReg n .QMG_CMD_STAT_BUSY 1).updSh n (fun h => { h with queueCmd := some (op, q.toNat) })
      let gives (op : Nat) (r : Nat) (d' : QDesc) : Prop := ∃ t : State, exec (.queueSlot n q.toNat) (run op) = .next t ∧ t.reg n .QMG_CMD_STAT_RESULT = r ∧
        t.reg n .QMG_CMD_STAT_BUSY = 0 ∧ (t.sh n).queueCmd = none ∧ t.queue n q.toNat = d' ∧ (∀ j, j ≠ q.toNat → t.queue n j = s.queue n j)
      exec (.queueLoad n q) s = .next (run 1) ∧ exec (.queueEmpty n q) s = .next (run 2) ∧ exec (.queueWm n q) s = .next (run 3) ∧
      exec (.queueClear n q) s = .next (run 4) ∧
      (s.works n .QMG = true → (∀ o ∈ (s.sh n).qops, o.queue ≠ q.toNat) →
      (¬busy → size → marks (2 ^ st.size.toNat) → st.place = false → st.base.toNat % 2 ^ st.size.toNat = 0 →
        st.base.toNat + 2 ^ st.size.toNat ≤ 4096 * s.reg n .QMG_CFG_RING_SLOTS → gives 1 1 st) ∧
      (∀ (r : Nat), (busy ∧ r = 2) ∨ (¬busy ∧ ¬size ∧ r = 3) ∨ (¬busy ∧ size ∧ ¬marks (2 ^ st.size.toNat) ∧ r = 4) →
        ∃ t : State, exec (.queueSlot n q.toNat) (run 1) = .next t ∧ t.reg n .QMG_CMD_STAT_RESULT = r ∧ t.reg n .QMG_CMD_STAT_BUSY = 0) ∧
      (d.valid = true → gives 2 1 { d with rd := d.wr, markValid := false, pend := false, tailMrk := false, popped := false }.watermark) ∧
      (d.valid = true → d.pend = false → marks (2 ^ d.size.toNat) → gives 3 1
        { d with hwm := st.hwm, lwm := st.lwm, pin := st.pin, pinEn := st.pinEn, crPortal := st.crPortal, crEn := st.crEn }.watermark) ∧
      (d.valid = true → d.pend = false → gives 4 1 { d with underrun := false, gap := false, markLost := false }.watermark) ∧
      (d.valid = false → gives 2 6 d ∧ gives 3 6 d ∧ gives 4 6 d)))) ∧
  (
    ∀ (s : State) (n : Shaft) (q : BitVec 17) (c : BitVec 4), s.Open n.val .QMG →
      let d := s.queue n q.toNat
      let asked (o : StopeQop) : State := (s.setReg n .QMG_HOST_STAT_BUSY 1).updSh n (fun h => { h with qops := h.qops ++ [⟨q.toNat, o, .host⟩] })
      let push := StopeQop.push (s.hostTub n c)
      let result (o : StopeQop) (r : Nat) (f : State → Prop) : Prop := ∃ t : State, exec (.queueSlot n q.toNat) (asked o) = .next t ∧
        t.reg n .QMG_HOST_STAT_RESULT = r ∧ t.reg n .QMG_HOST_STAT_BUSY = 0 ∧ (t.sh n).qops = (s.sh n).qops ∧ f t ∧ (∀ j, j ≠ q.toNat → t.queue n j = s.queue n j)
      let quiet := s.works n .QMG = true ∧ (∀ o ∈ (s.sh n).qops, o.queue ≠ q.toNat) ∧ ∀ op, (s.sh n).queueCmd ≠ some (op, q.toNat)
      (c ≠ 0x6 → c ≠ 0x9 → exec (.hostPush n q c) s = .next s) ∧
      (s.reg n .QMG_HOST_STAT_BUSY ≠ 0 → c = 0x6 ∨ c = 0x9 → ∀ i, i ∈ [Instr.hostPush n q c, .hostPop n q, .hostMark n q, .hostUnmark n q, .hostRewind n q] →
        exec i s = .next (s.setReg n .QMG_HOST_STAT_LOST 1)) ∧
      (s.reg n .QMG_HOST_STAT_BUSY = 0 →
        (c = 0x6 ∨ c = 0x9 → exec (.hostPush n q c) s = .next (asked push)) ∧ exec (.hostPop n q) s = .next (asked .pop) ∧
        exec (.hostMark n q) s = .next (asked .mark) ∧ exec (.hostUnmark n q) s = .next (asked .unmark) ∧ exec (.hostRewind n q) s = .next (asked .rewind)) ∧
      (quiet →
        (d.valid = false → (∀ o, o ∈ [push, .pop, .mark, .unmark, .rewind] →
          result o 6 (fun t => t.queue n q.toNat = d ∧ t.reg n .QMG_STAT3_INVALID_Q = min (s.reg n .QMG_STAT3_INVALID_Q + 1) 65535)) ∧
          result .pop 6 (fun t => t.reg n .QMG_HOST_STAT_CLASS = 0 ∧ ∀ i, i < 16 → t.reg n .QMG_HOST_TUB_DATA i = 0)) ∧
        (d.valid = true → d.place = true → d.pend = false → d.rd ≠ d.wr → (∀ r ∈ (s.sh n).ringOps, r.write = false) →
          ∃ t : State, exec (.queueSlot n q.toNat) (asked .pop) = .next t ∧ t.reg n .QMG_HOST_STAT_BUSY = 1 ∧
            (t.sh n).ringOps = (s.sh n).ringOps ++ [⟨q.toNat, d.rd.toNat % 2 ^ d.size.toNat, false, .host, false, true⟩]) ∧
        (d.valid = true → d.place = false → d.pend = false →
          (d.tailMrk = false → d.mode = false → d.fill + 2 ≤ 2 ^ d.size.toNat → result push 1 (fun t =>
            t.queue n q.toNat = { d with wr := d.wr + 1, tailMrk := false }.watermark ∧
            t.slot n (d.base.toNat + d.wr.toNat % 2 ^ d.size.toNat) = s.hostTub n c)) ∧
          (d.rd ≠ d.wr → result .pop 1 (fun t =>
            t.queue n q.toNat = { d with rd := d.rd + 1, popped := true }.watermark ∧
            (let x := s.slot n (d.base.toNat + d.rd.toNat % 2 ^ d.size.toNat)
            t.reg n .QMG_HOST_STAT_CLASS = x.cls.toNat ∧ ∀ i, i < 16 → t.reg n .QMG_HOST_TUB_DATA i = (x.body.extractLsb' (32 * i) 32).toNat))) ∧
          (d.rd = d.wr → result .pop 3 (fun t => (t.queue n q.toNat).underrun = true ∧ (t.queue n q.toNat).rd = d.rd ∧
            t.reg n .QMG_STAT_UNDERRUNS = min (s.reg n .QMG_STAT_UNDERRUNS + 1) 65535)) ∧
          result .mark 1 (fun t => t.queue n q.toNat = { d with mark := d.rd, markValid := true, markLost := false }.watermark) ∧
          result .unmark 1 (fun t => t.queue n q.toNat = { d with markValid := false }.watermark) ∧
          (d.markValid = true → result .rewind 1 (fun t => t.queue n q.toNat = { d with rd := d.mark }.watermark)) ∧
          (d.markValid = false → result .rewind 5 (fun t => t.queue n q.toNat = d.watermark ∧
            t.reg n .QMG_STAT2_REWIND_REFUSED = min (s.reg n .QMG_STAT2_REWIND_REFUSED + 1) 65535)))))

/-- R249, R251, R257: QUEUE_SLOT applies the one push that waits at the queue manager; PUSH_WAIT_END pushes the item of the first producer that
waits on the queue once it fits, and leaves it waiting until then; DEEP_RING_REPLY gives the entry read from claim memory to the host that popped
it, or, with an error, a MEMERR marker and QMG_DEEP_ERR. -/
def Obligations.QueueSteps : Prop :=
  ∀ (s : State) (n : Shaft) (q : Nat) (x : Tub),
    let d := s.queue n q
    let h := s.sh n
    let room := d.valid = true ∧ d.place = false ∧ d.pend = false ∧ d.tailMrk = false ∧ d.mode = false ∧ d.fill + 2 ≤ 2 ^ d.size.toNat
    let pushed (t : State) : Prop := t.queue n q = { d with wr := d.wr + 1, tailMrk := false }.watermark ∧
      t.slot n (d.base.toNat + d.wr.toNat % 2 ^ d.size.toNat) = x ∧ (∀ j, j ≠ q → t.queue n j = s.queue n j)
    (s.works n .QMG = true →
      (h.qops = [⟨q, .push x, .gone⟩] → (∀ w ∈ h.pushWaits, w.queue ≠ q) → (∀ op, h.queueCmd ≠ some (op, q)) → room →
        ∃ t : State, exec (.queueSlot n q) s = .next t ∧ pushed t ∧ (t.sh n).qops = []) ∧
      (∀ (by_ : Producer) (sets : Bool) (before after : List PushWait), h.pushWaits = before ++ ⟨q, x, by_, sets⟩ :: after → (∀ w ∈ before, w.queue ≠ q) →
        (room → ∃ t : State, exec (.pushWaitEnd n q) s = .next t ∧ pushed t ∧ (t.sh n).pushWaits = before ++ after ∧
          ∀ hw k, by_ = .hewer hw k → t.thread n hw k = { s.thread n hw k with t := if sets then false else (s.thread n hw k).t, stall := .none }) ∧
        (d.valid = true → d.wait = true → d.pend = false → d.tailMrk = false → 2 ^ d.size.toNat ≤ d.fill + 1 → exec (.pushWaitEnd n q) s = .next s))) ∧
    (∀ (i slot : Nat) (u : Bool), h.ringOps[i]? = some ⟨q, slot, false, .host, u, true⟩ → (∀ r ∈ h.ringOps, r.write = false) →
      (∃ t : State, exec (.deepRingReply n i x false) s = .next t ∧ (t.sh n).ringOps = h.ringOps.take i ++ h.ringOps.drop (i + 1) ∧
        t.reg n .QMG_HOST_STAT_BUSY = 0 ∧ t.reg n .QMG_HOST_STAT_RESULT = (if u then 3 else 1) ∧ t.reg n .QMG_HOST_STAT_CLASS = x.cls.toNat ∧
        (∀ j, j < 16 → t.reg n .QMG_HOST_TUB_DATA j = (x.body.extractLsb' (32 * j) 32).toNat) ∧ t.log = s.log) ∧
      (∃ t : State, exec (.deepRingReply n i x true) s = .next t ∧ t.reg n .QMG_HOST_STAT_CLASS = 7 ∧
        t.reg n .QMG_STAT4_DEEP_ERR = min (s.reg n .QMG_STAT4_DEEP_ERR + 1) 65535 ∧
        (s.log.length < 4096 → ∃ e : LogEntry, t.log = s.log ++ [e] ∧ e.code = 0x0602)))

/-- R308, R309, R323, R329: PRELOAD of a VALID slot into a stope that no preload or swap holds starts, and at its end the shadow holds the slot,
PRELOADED, RESULT 1; a slot that is not VALID gives RESULT 6, a frame found uncorrectable RESULT 7 with the shadow EMPTY and the frame suspect.
DISCARD empties the shadow. A command while one runs is LOST. A contending segment is turned off, logged and counted. R310 to R313: a swap of one
stope or of a gang whose members pass checks 1 to 3 holds its members until its edge; refused it changes no plane and gives the RESULT of the first
check that fails. At the edge, when check 4 passes, the planes of a member trade places with its flip-flops initialized under the mask, SH_STATE
PREVIOUS, RESULT 1; when it fails the shadow is EMPTY, RESULT 4, and no active plane changes. One whose shadow was discarded meanwhile gives RESULT
2, and a member whose cycle is stretched keeps the swap from its edge. -/
def Obligations.ContextCommands : Prop :=
  (
    ∀ (s : State) (n : Shaft) (k : BitVec 7) (c : BitVec 3),
      let i := k.toNat
      (s.Open n.val .CTX →
        (s.reg n .CTX_CMD_STAT_BUSY ≠ 0 → ∀ x, x ∈ [Instr.preload n k c, .discard n k, .swapStope n k] → exec x s = .next (s.setReg n .CTX_CMD_STAT_LOST 1)) ∧
        (s.reg n .CTX_CMD_STAT_BUSY = 0 → s.ctxRefuses n = false →
          (s.reg n .CTX_SLOT_STATE (8 * i + c.toNat) = 1 → s.preloading n i = false → s.inSwap n i = false →
            exec (.preload n k c) s = .next (((s.setReg n .CTX_STOPE_SH_STATE 1 i).setReg n .CTX_CMD_STAT_BUSY 1).updSh n
              (fun h => { h with preloads := Tbl.set none h.preloads i (some c.toNat) }))) ∧
          (s.reg n .CTX_SLOT_STATE (8 * i + c.toNat) ≠ 1 → ∃ t : State, exec (.preload n k c) s = .next t ∧ t.reg n .CTX_CMD_STAT_RESULT = 6 ∧
            t.shafts = s.shafts ∧ ∀ j, t.reg n .CTX_STOPE_SH_STATE j = s.reg n .CTX_STOPE_SH_STATE j)) ∧
        (s.reg n .CTX_CMD_STAT_BUSY = 0 → s.inSwap n i = false → ∃ t : State, exec (.discard n k) s = .next t ∧ t.reg n .CTX_STOPE_SH_STATE i = 0 ∧
          t.reg n .CTX_CMD_STAT_RESULT = 1 ∧ t.shafts = s.shafts ∧ ∀ j, j ≠ i → t.reg n .CTX_STOPE_SH_STATE j = s.reg n .CTX_STOPE_SH_STATE j)) ∧
      (Tbl.get none (s.sh n).preloads i = some c.toNat →
        ((∀ a ∈ (s.sh n).suspect, a / 1024 ≠ 8 * i + c.toNat) →
          ∃ t : State, exec (.preloadDone n i none) s = .next t ∧ (t.stope n i).shadow = s.planSlot n i c.toNat ∧ t.reg n .CTX_STOPE_SH_STATE i = 2 ∧
            t.reg n .CTX_STOPE_SHADOW i = c.toNat ∧ t.reg n .CTX_CMD_STAT_RESULT = 1 ∧ t.reg n .CTX_CMD_STAT_BUSY = 0 ∧ t.preloading n i = false ∧
            (∀ j, j ≠ i → t.stope n j = s.stope n j) ∧ (t.stope n i).active = (s.stope n i).active) ∧
        (∀ f, f < 1024 → ∃ t : State, exec (.preloadDone n i (some f)) s = .next t ∧ t.reg n .CTX_STOPE_SH_STATE i = 0 ∧ t.reg n .CTX_CMD_STAT_RESULT = 7 ∧
          f + 1024 * c.toNat + 8192 * i ∈ (t.sh n).suspect ∧ t.preloading n i = false)) ∧
      (∀ seg, i < 8 → s.seamsOut n = false → (s.stope n i).active ≠ [] → segValid seg = true → 2 ≤ segPoints seg → seg ∉ (s.stope n i).contended →
        ∃ t : State, exec (.stopeContention n i seg) s = .next t ∧ (t.stope n i).contended = (s.stope n i).contended ++ [seg] ∧
          t.reg n .STP_STAT_CONTENDED i = 1 ∧ t.reg n .STP_CONT_LOG_VALID i = 1 ∧ t.reg n .STP_CONT_LOG_SEGMENT i = seg.toNat ∧
          2 ≤ (driveEnabled (t.stope n i).active seg).length ∧ (t.stope n i).driver seg = none ∧ ∀ j, j ≠ i → t.stope n j = s.stope n j)) ∧
  (
    ∀ (s : State) (n : Shaft),
      (s.Open n.val .CTX → s.reg n .CTX_CMD_STAT_BUSY = 0 → s.ctxRefuses n = false →
        let free (k : Nat) := s.preloading n k = false ∧ s.inSwap n k = false
        let ready (k : Nat) := s.shState n k = 2 ∨ s.shState n k = 3
        let slow (k : Nat) := s.reg n .PCE_STOPE_TEMPO (s.pacerOf n k) < ((Tbl.get 0 (s.stope n k).shadow 1022 : BitVec 1024).extractLsb' 0 8).toNat
        (∀ k : BitVec 7,
          (free k.toNat → ready k.toNat → ¬slow k.toNat → ∃ t : State, exec (.swapStope n k) s = .next t ∧ t.reg n .CTX_CMD_STAT_BUSY = 1 ∧
            (t.sh n).swaps = (s.sh n).swaps ++ [⟨[k.toNat], none, false⟩] ∧ t.stope n k.toNat = { s.stope n k.toNat with swapHold := true }) ∧
          (∀ r, (¬free k.toNat ∧ r = 5) ∨ (free k.toNat ∧ ¬ready k.toNat ∧ r = 2) ∨ (free k.toNat ∧ ready k.toNat ∧ slow k.toNat ∧ r = 3) →
            ∃ t : State, exec (.swapStope n k) s = .next t ∧ t.reg n .CTX_CMD_STAT_RESULT = r ∧ t.shafts = s.shafts ∧
              t.reg n .CTX_STAT_REFUSED = min (s.reg n .CTX_STAT_REFUSED + 1) 65535)) ∧
        (∀ g : BitVec 4,
          let members := (List.range 128).filter (fun k => s.regB n .CTX_STOPE_GANG_EN k && decide (s.reg n .CTX_STOPE_GANG k = g.toNat))
          (members = [] → ∃ t : State, exec (.swapGang n g) s = .next t ∧ t.reg n .CTX_CMD_STAT_RESULT = 8 ∧ t.shafts = s.shafts) ∧
          (members ≠ [] → (∀ k ∈ members, free k ∧ ready k ∧ ¬slow k) → ∃ t : State, exec (.swapGang n g) s = .next t ∧
            t.reg n .CTX_CMD_STAT_BUSY = 1 ∧ (t.sh n).swaps = (s.sh n).swaps ++ [⟨members, some g.toNat, false⟩] ∧
            ∀ k ∈ members, t.stope n k = { s.stope n k with swapHold := true }))) ∧
      (∀ (x k : Nat) (u : Option ShadowUpset), (s.sh n).swaps[x]? = some ⟨[k], none, false⟩ → k < 128 → s.membersHold n ⟨[k], none, false⟩ = true →
        (s.shState n k = 2 ∨ s.shState n k = 3) →
        let s0 := match u with
          | some y => s.upsetShadow n y
          | none => s
        let d := (s0.stope n k).shadow
        let c := s.reg n .CTX_STOPE_SHADOW k
        let check (f : Nat) := frameCheck (Tbl.get 0 d f) = s.storedCheck n (f + 1024 * c + 8192 * k)
        (check 1022 ∧ check 1023 → ∃ t : State, exec (.swapEdge n ⟨x, u⟩) s = .next t ∧ (t.stope n k).active = d ∧ (t.stope n k).shadow = (s.stope n k).active ∧
          (t.stope n k).ff = swapFlops (s.stope n k).ff d ∧ (t.stope n k).swapHold = false ∧ (t.stope n k).last = none ∧ t.reg n .CTX_STOPE_SH_STATE k = 3 ∧
          t.reg n .CTX_CMD_STAT_RESULT = 1 ∧ t.reg n .CTX_CMD_STAT_BUSY = 0 ∧ (∀ j, j ≠ k → t.stope n j = s0.stope n j)) ∧
        (¬(check 1022 ∧ check 1023) → ∃ t : State, exec (.swapEdge n ⟨x, u⟩) s = .next t ∧ (t.stope n k).active = (s.stope n k).active ∧
          t.reg n .CTX_STOPE_SH_STATE k = 0 ∧ t.reg n .CTX_CMD_STAT_RESULT = 4 ∧ (t.stope n k).swapHold = false)) ∧
      (∀ (x k : Nat) (u : Option ShadowUpset), (s.sh n).swaps[x]? = some ⟨[k], none, false⟩ → k < 128 →
        (s.membersHold n ⟨[k], none, false⟩ = false → exec (.swapEdge n ⟨x, u⟩) s = .next s) ∧
        (s.membersHold n ⟨[k], none, false⟩ = true → s.shState n k ≠ 2 → s.shState n k ≠ 3 → ∃ t : State, exec (.swapEdge n ⟨x, u⟩) s = .next t ∧
          (t.stope n k).active = (s.stope n k).active ∧ t.reg n .CTX_CMD_STAT_RESULT = 2 ∧ (t.stope n k).swapHold = false)))

/-- R318 to R327: a scrubber's visit puts an upset of the active frame right by the golden frame and counts the bits, then goes on to the next
frame; one whose three copies all differ stops, and its partner covers its range; RESTART brings a stopped one back. The patrol counts what it
corrects and makes an uncorrectable frame suspect. A READBACK of a Plan frame or of a plane shows it with its check, BUSY until the µs ends; an
uncorrectable one has UNCORR 1 and its frame becomes suspect. -/
def Obligations.Scrubbing : Prop :=
  ∀ (s : State) (n : Shaft) (i : Bool),
    let x := s.scrubber n i
    let a := frameAddr x.stope (s.reg n .CTX_STOPE_ACTIVE x.stope) x.frame
    (s.scrubs n = true → s.seamsOut n = false → s.scb n i = 0 →
      (∀ u : ScrubCheck, u.vote = .agree → u.golden = .good → u.stays = 0 → s.scbSkips n x.stope = false → a ∉ (s.sh n).suspect → x.frame < 1023 → x.wrong = [] →
        let golden : BitVec 1024 := Tbl.get 0 (s.sh n).plan a
        Tbl.get 0 (s.stope n x.stope).active x.frame = golden → u.upset ≠ 0 →
        ∃ t : State, exec (.scrubFrame n i u) s = .next t ∧ Tbl.get 0 (t.stope n x.stope).active x.frame = golden ∧
          (t.scrubber n i).frame = x.frame + 1 ∧ (t.scrubber n i).stope = x.stope ∧
          t.reg n .SCB_CNT_CORR = min (s.reg n .SCB_CNT_CORR + (List.range 1024).countP (fun j => u.upset.getLsbD j)) 65535 ∧
          (∀ j, j ≠ x.stope → t.stope n j = s.stope n j) ∧ (t.sh n).plan = (s.sh n).plan) ∧
      (∀ u : ScrubCheck, u.vote = .noneAgree → s.scb n (!i) = 0 → ∃ t : State, exec (.scrubFrame n i u) s = .next t ∧ t.scb n i = 2 ∧ t.scb n (!i) = 1 ∧
        (t.scrubber n (!i)).stope = (if i then 64 else 0) ∧ (t.scrubber n (!i)).frame = 0 ∧ (t.sh n).stopes = (s.sh n).stopes)) ∧
    (s.Open n.val .SCB → s.scb n i = 2 → s.scb n (!i) = 1 → ∃ t : State, exec (.scrubberRestart n (!i) i) s = .next t ∧ t.scb n i = 0 ∧ t.scb n (!i) = 0 ∧
      (t.scrubber n i).stope = (if i then 64 else 0) ∧ (t.scrubber n i).frame = 0) ∧
    (∀ f w, s.scrubs n = true → s.scb n i = 0 → f < 2 ^ 20 → f / 8192 / 64 = bit i → w < 16 →
      exec (.scrubPatrol n i f w .good) s = .next s ∧
      exec (.scrubPatrol n i f w .corrected) s = .next (s.addReg n .SCB_CNT2_PLAN_CORR) ∧
      (f ∉ (s.sh n).suspect → ∃ t : State, exec (.scrubPatrol n i f w .lost) s = .next t ∧ (t.sh n).suspect = (s.sh n).suspect ++ [f] ∧
        t.reg n .SCB_CNT2_PLAN_UNCORR = min (s.reg n .SCB_CNT2_PLAN_UNCORR + 1) 65535) ∧
      (f ∈ (s.sh n).suspect → ∃ t : State, exec (.scrubPatrol n i f w .lost) s = .next t ∧ (t.sh n).suspect = (s.sh n).suspect ∧
        t.reg n .SCB_CNT2_PLAN_UNCORR = min (s.reg n .SCB_CNT2_PLAN_UNCORR + 1) 65535)) ∧
    (∀ f : BitVec 20, s.Open n.val .CTX → s.reg n .CTX_RB_STAT_BUSY = 0 →
      let k := f.toNat / 8192
      let shows (plane : BitVec 2) (d : BitVec 1024) (check : BitVec 32) : Prop :=
        ∃ t : State, exec (.readback n f plane false) s = .next t ∧ t.reg n .CTX_RB_STAT_BUSY = 1 ∧ (t.readbackUs n).reg n .CTX_RB_STAT_BUSY = 0 ∧
          t.reg n .CTX_RB_STAT_VALID = 1 ∧ t.reg n .CTX_RB_STAT_UNCORR = 0 ∧ t.reg n .CTX_RB_CHECK_CHECK = check.toNat ∧
          t.reg n .CTX_RB_STAT_CHECK_OK = (if frameCheck d = check then 1 else 0) ∧
          ∀ j, j < 32 → t.reg n .CTX_RB_DATA_DATA j = (d.extractLsb' (32 * j) 32).toNat
      (f.toNat ∉ (s.sh n).suspect → shows 0 (Tbl.get 0 (s.sh n).plan f.toNat) (s.storedCheck n f.toNat)) ∧
      (s.seamsOut n = false → (s.stope n k).testHold = false →
        shows 1 (Tbl.get 0 (s.stope n k).active (f.toNat % 1024)) (s.storedCheck n (frameAddr k (s.reg n .CTX_STOPE_ACTIVE k) (f.toNat % 1024)))) ∧
      (s.seamsOut n = false →
        shows 2 (Tbl.get 0 (s.stope n k).shadow (f.toNat % 1024)) (s.storedCheck n (frameAddr k (s.reg n .CTX_STOPE_SHADOW k) (f.toNat % 1024)))) ∧
      (∃ t : State, exec (.readback n f 0 true) s = .next t ∧ t.reg n .CTX_RB_STAT_UNCORR = 1 ∧ t.reg n .CTX_RB_STAT_VALID = 1 ∧
        f.toNat ∈ (t.sh n).suspect ∧ t.reg n .SCB_CNT2_PLAN_UNCORR = min (s.reg n .SCB_CNT2_PLAN_UNCORR + 1) 65535))

/-- R347: when ENABLE goes from 0 to 1 the portal checks its settings: on a failure it stays DISABLED with the cause in CFG_ERR and PORTAL_CFG_ERR
raised; otherwise it takes its settings and enters DETECT. R349: when ENABLE goes to 0 it is DISABLED. R339: HOLD stops a portal in TRAINING and its
release takes it up again; it does nothing to a portal in another state. A slip moves a lane whose portal is in HOLD by one, and sets SLIP_IGNORED
otherwise. No other portal changes. -/
def Obligations.PortalCommands : Prop :=
  ∀ (s : State) (n : Shaft) (p : Portal),
    (s.Open n.val .PTL → (s.sh n).boot = .done → (s.sh n).inReset = false → (∀ x ∈ Reg.places .PTL_CFG, s.reg n x.1 p.val < 2 ^ x.1.desc.width) →
      (s.reg n .PTL_CFG_ENABLE p.val = 0 → s.pst n p = Pst.DISABLED →
        Reg.reservedIn .PTL_CFG (s.regWith n.val .PTL_CFG p.val .PTL_CFG_ENABLE 1) = false →
        (s.enableCheck n p ≠ 0 → s.log.length < 4096 → ∃ t : State, exec (.portalEnable n p) s = .next t ∧ t.reg n .PTL_CFG_ENABLE p.val = 1 ∧
          t.pst n p = Pst.DISABLED ∧ t.reg n .PTL_STATE_CFG_ERR p.val = s.enableCheck n p ∧ t.shafts = s.shafts ∧
          t.log = s.log ++ [⟨s.fab, 0x0906, 1, BitVec.ofNat 8 n.val, BitVec.ofNat 16 p.val, s.seq, detail (s.enableCheck n p), BitVec.ofNat 16 s.dropped⟩]) ∧
        (s.enableCheck n p = 0 → ∃ t : State, exec (.portalEnable n p) s = .next t ∧ t.reg n .PTL_CFG_ENABLE p.val = 1 ∧ t.pst n p = Pst.DETECT ∧
          t.reg n .PTL_STATE_CFG_ERR p.val = 0 ∧ (t.ptl n p).cfg = s.portalSettings n p ∧
          ∀ q, q ≠ p → t.ptl n q = s.ptl n q ∧ t.pst n q = s.pst n q)) ∧
      (s.reg n .PTL_CFG_ENABLE p.val = 1 → Reg.reservedIn .PTL_CFG (s.regWith n.val .PTL_CFG p.val .PTL_CFG_ENABLE 0) = false →
        ∃ t : State, exec (.portalDisable n p) s = .next t ∧ t.reg n .PTL_CFG_ENABLE p.val = 0 ∧ t.pst n p = Pst.DISABLED ∧
          ∀ q, q ≠ p → t.ptl n q = s.ptl n q ∧ t.pst n q = s.pst n q) ∧
      (s.reg n .PTL_CFG_HOLD p.val = 0 → Reg.reservedIn .PTL_CFG (s.regWith n.val .PTL_CFG p.val .PTL_CFG_HOLD 1) = false →
        ∃ t : State, exec (.holdSet n p) s = .next t ∧ t.reg n .PTL_CFG_HOLD p.val = 1 ∧
          t.pst n p = (if s.pst n p = Pst.TRAINING then Pst.HOLD else s.pst n p) ∧ (s.pst n p ≠ Pst.TRAINING → t.shafts = s.shafts) ∧ t.log = s.log) ∧
      (s.reg n .PTL_CFG_HOLD p.val = 1 → Reg.reservedIn .PTL_CFG (s.regWith n.val .PTL_CFG p.val .PTL_CFG_HOLD 0) = false →
        ∃ t : State, exec (.holdRelease n p) s = .next t ∧ t.reg n .PTL_CFG_HOLD p.val = 0 ∧
          t.pst n p = (if s.pst n p = Pst.HOLD then Pst.TRAINING else s.pst n p) ∧
          (s.pst n p = Pst.HOLD → (t.ptl n p).stepAt = s.up ∧ (t.ptl n p).step = (s.ptl n p).step) ∧
          (s.pst n p ≠ Pst.HOLD → t.shafts = s.shafts) ∧ t.log = s.log)) ∧
    (∀ l later, l < 16 → s.Open n.val .LNE →
      (∀ q, s.lanePortal n l = some q → s.pst n q = Pst.HOLD →
        exec (.laneSlip n l later) s = .next (s.setReg n .LNE_STAT_SLIP_POS ((s.reg n .LNE_STAT_SLIP_POS l + if later then 1 else 63) % 64) l)) ∧
      ((∀ q, s.lanePortal n l = some q → s.pst n q ≠ Pst.HOLD) → exec (.laneSlip n l later) s = .next (s.setReg n .LNE_STAT_SLIP_IGNORED 1 l)))

/-- R333, R335 to R338: an attempt goes from DETECT through its steps to UP, where the portal shows the trained width and rate, its QUOTA is that of
R141 and its run of failures ends; with HOLD 1 each step it enters holds it. It climbs the rates one by one to the highest it attempts, a failed
equalization making its present rate the highest, and is UP only there; nothing else the partner reports is a step. IDENT from another plane or
another role, and a partner silent for 24 ms outside HOLD, end the attempt: the portal waits in BACKOFF for min(2^(f − 1), 64) ms, f the failures in
a row, and then returns to DETECT. -/
def Obligations.PortalTraining : Prop :=
  ∀ (s : State) (n : Shaft) (p : Portal) (r : TrainReport),
    let c := (s.ptl n p).cfg
    let next := if s.reg n .PTL_CFG_HOLD p.val = 0 then Pst.TRAINING else Pst.HOLD
    let rate := s.reg n .PTL_STATE_RATE p.val
    let f := min 15 (s.reg n .PTL_STATE_FAILS p.val + 1)
    let backoff (t : State) : Prop := t.pst n p = Pst.BACKOFF ∧ t.reg n .PTL_STATE_FAILS p.val = f ∧
      (t.ptl n p).backoffUntil = s.up + 1000 * min (2 ^ (f - 1)) 64 ∧ (f = 8 → (t.ptl n p).runRaised = true)
    (s.trains n p = true →
      (s.pst n p = Pst.DETECT → ∃ t : State, exec (.trainingStep n p r) s = .next t ∧ t.pst n p = next ∧
        (t.ptl n p).step = (if c.drift then .sync else .ltssm) ∧ (t.ptl n p).leftDetect = s.up ∧ t.log = s.log) ∧
      (s.pst n p = Pst.TRAINING →
        ((s.ptl n p).step = .sync → ∃ t : State, exec (.trainingStep n p r) s = .next t ∧ t.pst n p = next ∧ (t.ptl n p).step = .ident ∧
          ∀ l ∈ s.portalLanes n p, t.reg n .LNE_STAT_CDR_LOCK l = 1) ∧
        ((s.ptl n p).step = .ident → r.plane.toNat = s.reg n .SHF_PLANE_ID → r.d2d = true →
          ∃ t : State, exec (.trainingStep n p r) s = .next t ∧ t.pst n p = next ∧ (t.ptl n p).step = .rate ∧
            (t.ptl n p).highRate = some (min r.most ((s.ptl n p).highRate.getD r.most))) ∧
        ((s.ptl n p).step = .ident → (r.plane.toNat ≠ s.reg n .SHF_PLANE_ID ∨ r.d2d = false) →
          ∃ t : State, exec (.trainingStep n p r) s = .next t ∧ backoff t) ∧
        ((s.ptl n p).step = .rate → rate < s.highestRate n p → r.eqFailed = false → r.rate = rate + 1 → (r.up = false ∨ rate + 1 < s.highestRate n p) →
          ∃ t : State, exec (.trainingStep n p r) s = .next t ∧ t.pst n p = next ∧ (t.ptl n p).step = .rate ∧ t.reg n .PTL_STATE_RATE p.val = rate + 1) ∧
        ((s.ptl n p).step = .rate → rate < s.highestRate n p → r.eqFailed = true → r.up = false →
          ∃ t : State, exec (.trainingStep n p r) s = .next t ∧ t.pst n p = next ∧ (t.ptl n p).highRate = some rate ∧ t.reg n .PTL_STATE_RATE p.val = rate) ∧
        ((s.ptl n p).step = .rate → r.rate ≠ rate → (r.rate ≠ rate + 1 ∨ s.highestRate n p ≤ rate) → r.eqFailed = false → exec (.trainingStep n p r) s = .next s) ∧
        ((s.ptl n p).step = .ltssm → c.drift = false → r.up = true → r.lacks = 0 → r.eqFailed = false → r.rate = (s.heard n p r).highestRate n p →
          (r.rate = rate ∨ r.rate = rate + 1) → c.width ≤ 4 →
          ∃ t : State, exec (.trainingStep n p r) s = .next t ∧ t.pst n p = Pst.UP ∧ t.reg n .PTL_STATE_TRAINED p.val = min r.width c.width ∧
            t.reg n .PTL_STATE_RATE p.val = r.rate ∧ t.reg n .TLY_QUOTA_QUOTA p.val = quota false r.rate (2 ^ min r.width c.width)) ∧
        ((s.ptl n p).step = .rate → r.up = true → c.drift = true → c.width ≤ 4 → r.eqFailed = false → r.rate = s.highestRate n p → (r.rate = rate ∨ r.rate = rate + 1) →
          ∃ t : State, exec (.trainingStep n p r) s = .next t ∧ t.pst n p = Pst.UP ∧ t.reg n .PTL_STATE_TRAINED p.val = c.width ∧
            t.reg n .PTL_STATE_PRESENT p.val = c.width ∧ t.reg n .PTL_STATE_RATE p.val = r.rate ∧ t.reg n .PTL_STATE_FAILS p.val = 0 ∧
            t.reg n .TLY_QUOTA_QUOTA p.val = quota true r.rate (2 ^ c.width) ∧ (t.ptl n p).nextFseq = 0 ∧
            (t.ptl n p).credits = [c.depth, c.depth, 0] ∧ t.everTrained = true)) ∧
      ((s.pst n p = Pst.DETECT ∨ s.pst n p = Pst.TRAINING) → (s.ptl n p).stepAt + 24000 ≤ s.up →
        ∃ t : State, exec (.trainingFail n p .timeout) s = .next t ∧ backoff t) ∧
      (s.pst n p = Pst.HOLD → (∃ t : State, exec (.trainingFail n p .signal) s = .next t ∧ backoff t) ∧ exec (.trainingFail n p .timeout) s = .next s)) ∧
    (s.pst n p = Pst.BACKOFF →
      ((s.ptl n p).backoffUntil ≤ s.up → exec (.backoffEnd n p) s = .next
        ((s.setReg n .PTL_STATE_STATE Pst.DETECT p.val).updPtl n p (fun x => { x with step := .sync, stepAt := s.up, heldFor := 0 }))) ∧
      (s.up < (s.ptl n p).backoffUntil → exec (.backoffEnd n p) s = .next s))

/-- R340, R344, R348, R349, R426, R441: a portal that may narrow puts the lanes it gives up that may sleep into TX Sleep and announces it by SLEEP
in Drift mode; widening wakes them, by WAKE there; in PCIe mode the receivers go with them. A wake the partner has not completed in 10 µs becomes a
recovery. A recovery longer than 1 ms, a lost partner and a PORTAL reset take the portal link-down, with QUOTA 0, and it looks for a partner again;
a link reset that was deferred goes on once the second allows it. -/
def Obligations.PortalLosses : Prop :=
  ∀ (s : State) (n : Shaft) (p : Portal),
    let now := s.reg n .PTL_STATE_PRESENT p.val
    let down (t : State) : Prop := t.pst n p = Pst.DETECT ∧ t.reg n .TLY_QUOTA_QUOTA p.val = 0 ∧ (t.ptl n p).credits = [0, 0, 0] ∧
      (t.ptl n p).unacked = [] ∧ ∀ q, q ≠ p → t.ptl n q = s.ptl n q ∧ t.pst n q = s.pst n q
    let drift := (s.ptl n p).cfg.drift
    (s.pst n p = Pst.UP → now ≤ 4 →
      (s.reg n .PTL_CFG_SLEEP_EN p.val ≠ 0 → s.reg n .PTL_CFG_MIN_WIDTH p.val < now → s.overWidth n p (now - 1) (s.openWork n p) = false →
        ∃ t : State, exec (.widthHalve n p) s = .next t ∧ t.reg n .PTL_STATE_PRESENT p.val = now - 1 ∧
          (∀ l ∈ s.lanesFrom n p (now - 1) now, t.reg n .LNE_STAT_TX_SLEEP l = if s.reg n .LNE_CFG_SLEEP_EN l = 0 then s.reg n .LNE_STAT_TX_SLEEP l else 1) ∧
          (drift = true → (t.ptl n p).txq = (s.ptl n p).txq ++ [.control Ctl.SLEEP 0] ∧ t.log = s.log) ∧
          (drift = false → (t.ptl n p).rxWidth = now - 1 ∧ (t.ptl n p).txq = (s.ptl n p).txq ∧
            ∀ l ∈ s.lanesFrom n p (now - 1) now, s.reg n .LNE_CFG_SLEEP_EN l ≠ 0 → t.reg n .LNE_STAT_RX_SLEEP l = 1)) ∧
      (s.reg n .PTL_CFG_SLEEP_EN p.val = 0 → exec (.widthHalve n p) s = .next s) ∧
      (s.overWidth n p (now - 1) (s.openWork n p) = true → exec (.widthHalve n p) s = .next s) ∧
      (now < s.reg n .PTL_STATE_TRAINED p.val → ∃ t : State, exec (.widthDouble n p) s = .next t ∧ t.reg n .PTL_STATE_PRESENT p.val = now + 1 ∧
        (∀ l ∈ s.lanesFrom n p now (now + 1), t.reg n .LNE_STAT_TX_SLEEP l = 0) ∧
        (drift = true → (t.ptl n p).txq = (s.ptl n p).txq ++ [.control Ctl.WAKE 0]) ∧
        (drift = false → (t.ptl n p).rxWidth = now + 1 ∧ ∀ l ∈ s.lanesFrom n p now (now + 1), t.reg n .LNE_STAT_RX_SLEEP l = 0) ∧
        t.log = s.log) ∧
      (∀ a, (s.ptl n p).wakeAt = some a → a + 10 < s.up → (s.recentResets n p).length < s.resetLimit n p → (∀ q, q ≠ p → (s.ptl n q).wakeAt = none) →
        (s.wakesOver n).pst n p = Pst.RECOVERY ∧ ((s.wakesOver n).ptl n p).recoveryAt = s.up)) ∧
    (s.pst n p = Pst.RECOVERY → (s.ptl n p).recoveryAt + 1000 < s.up → ∃ t : State, exec (.recoveryTimeout n p) s = .next t ∧ down t) ∧
    (s.pst n p = Pst.RECOVERY → s.up ≤ (s.ptl n p).recoveryAt + 1000 → exec (.recoveryTimeout n p) s = .next s) ∧
    (s.linkUp n p = true → ∃ t : State, exec (.linkDown n p) s = .next t ∧ down t) ∧
    (s.linkUp n p = false → exec (.linkDown n p) s = .next s) ∧
    ((s.ptl n p).deferred ≠ .none →
      ((s.recentResets n p).length < s.resetLimit n p → exec (.linkDeferEnd n p) s = .next (s.updPtl n p (fun x =>
        { x with resets := s.recentResets n p ++ [s.up], deferred := .none, stepAt := s.up }))) ∧
      (s.resetLimit n p ≤ (s.recentResets n p).length → exec (.linkDeferEnd n p) s = .next s)) ∧
    (.portal n.val p.val ∈ s.resetsDue → ∃ t : State, exec (.portalReset n p) s = .next t ∧ .portal n.val p.val ∉ t.resetsDue ∧
      t.reg n .PTL_CFG_HOLD p.val = 0 ∧ (s.pst n p = Pst.DISABLED → t.pst n p = Pst.DISABLED) ∧
      (s.pst n p ≠ Pst.DISABLED → down t ∧ t.reg n .PTL_STATE_FAILS p.val = 0))

/-- R388: UPDATE_STREAM is judged in the order of its table, and one that passes is buffered and moves NEXT on; when NEXT first reaches 4,096 the
header is checked, and a header that fails refuses the image. FLASH_PROGRAM_DONE writes the oldest buffered piece to the inactive slot, no byte
outside the sectors it touches changing; an error of the flash refuses the image with cause FLASH. -/
def Obligations.ImageStream : Prop :=
  (∀ (s : State) (f : Frame), s.CageFree → s.cage.silent = false → f.check Opc.updateStream = Res.OK → 0 < f.words →
    let next := s.dev .IMG_STREAM_NEXT
    let k := 4 * f.words
    let denied := s.devGated .IMG = true ∨ s.img ≠ Img.OPEN ∨ f.address ≠ next
    let turned (res : Nat) : Prop := ∃ (t : State) (r : Reply), exec (.updateStream f) s = .next t ∧ t.cage.sent = some r ∧
      t.flash = s.flash ∧ t.shafts = s.shafts ∧ r.result = BitVec.ofNat 4 res ∧ t.wbuf = s.wbuf ∧ t.dev .IMG_STREAM_NEXT = next ∧ t.img = s.img
    (s.devGated .IMG = false → s.img = Img.OPEN → f.address = next → next + k ≤ s.slotSize → s.buffered + k ≤ 65536 → next + k < 2 ^ 32 →
      ∃ (t : State) (r : Reply), exec (.updateStream f) s = .next t ∧ t.cage.sent = some r ∧ t.flash = s.flash ∧ t.shafts = s.shafts ∧
        r.result = 0 ∧ t.wbuf = s.wbuf ++ [⟨next, f.data.flatMap (leBytes 4)⟩] ∧ t.dev .IMG_STREAM_NEXT = next + k ∧
        (¬(next < 4096 ∧ 4096 ≤ next + k) → t.img = Img.OPEN) ∧
        (next < 4096 → 4096 ≤ next + k → t.img =
          if headerCause t.flashSoon (t.slotBase t.inactiveB) t.slotSize = Icf.NONE then Img.OPEN else Img.REFUSED)) ∧
    (denied → turned Res.DENIED) ∧
    (¬denied → s.slotSize < next + k → turned Res.BAD_ADDR) ∧
    (¬denied → next + k ≤ s.slotSize → 65536 < s.buffered + k → turned Res.BUSY)) ∧
  (∀ (s : State) (c : StreamChunk) (rest : List StreamChunk), s.wbuf = c :: rest →
    let base := s.slotBase s.inactiveB
    (0x10000 ≤ base → ∃ t : State, exec (.flashProgramDone true) s = .next t ∧ t.wbuf = rest ∧ t.img = s.img ∧ t.shafts = s.shafts ∧
      (∀ (j : Nat) (b : Byte), c.bytes[j]? = some b → memGet erasedByte t.flash (base + c.offset + j) = b) ∧
      ∀ a, a < base + 65536 * (c.offset / 65536) ∨ base + 65536 * ((c.offset + c.bytes.length + 65535) / 65536 + 1) ≤ a →
        memGet erasedByte t.flash a = memGet erasedByte s.flash a) ∧
    (∃ t : State, exec (.flashProgramDone false) s = .next t ∧ t.wbuf = [] ∧
      (∀ a, a < s.sectorsNow.1 ∨ s.sectorsNow.1 + s.sectorsNow.2 ≤ a → memGet erasedByte t.flash a = memGet erasedByte s.flash a) ∧
      ((s.img = Img.OPEN ∨ s.img = Img.VALIDATING) → t.img = Img.REFUSED ∧ t.dev .IMG_FAIL_CAUSE = Icf.FLASH)))

/-- R305, R387, R389, R390, R397: each command of IMG.CMD in a state that allows it is DONE and has its effect; in any other it gives WRONG_STATE
and changes nothing else; BUSY stands until the µs ends. OPEN takes NEXT to 0; ARM validates; ARM_DONE gives ARMED when the slot passes R375, and
REFUSED with the cause otherwise; ACTIVATE stages, the Plan slots it will write reading LOADING, or leaves ARMED with the first check of R390 that
fails; CANCEL leaves ARMED for IDLE; CONFIRM makes a rewrite of the pointer block with PROBATION 0 due. A command while another is being taken is
dropped and sets LOST (R400). -/
def Obligations.ImageCommands : Prop :=
  ∀ (s : State),
    (s.CageFree → s.gated 8 .IMG = false → s.blockBusy 8 .IMG = false →
      (s.dev .IMG_CMD_STAT_BUSY ≠ 0 → ∀ c, c ∈ [Instr.imgOpen, .arm, .activate, .cancel, .confirm] → exec c s = .next (s.setDev .IMG_CMD_STAT_LOST 1)) ∧
      (s.dev .IMG_CMD_STAT_BUSY = 0 →
      let done := (s.setDev .IMG_CMD_STAT_RESULT 1).setDev .IMG_CMD_STAT_BUSY 1
      (∀ c op, (c, op) ∈ [(Instr.imgOpen, 1), (.arm, 2), (.activate, 3), (.cancel, 4), (.confirm, 5)] → s.imgAllows op = false →
        exec c s = .next ((s.setDev .IMG_CMD_STAT_RESULT 2).setDev .IMG_CMD_STAT_BUSY 1)) ∧
      ((s.img = Img.IDLE ∨ s.img = Img.REFUSED ∨ s.img = Img.ARMED) → s.dev .IMG_SLOTS_PROBATION = 0 →
        ∃ t : State, exec .imgOpen s = .next t ∧ t.img = Img.OPEN ∧ t.dev .IMG_STREAM_NEXT = 0 ∧ t.dev .IMG_SLOTS_PARTIAL_LIVE = 0 ∧
          t.dev .IMG_CMD_STAT_RESULT = 1 ∧ t.dev .IMG_CMD_STAT_BUSY = 1 ∧ t.imgUs.dev .IMG_CMD_STAT_BUSY = 0 ∧ t.wbuf = [] ∧ t.erased = [] ∧ t.flash = s.flash ∧ t.log = s.log) ∧
      ((s.img = Img.IDLE ∨ s.img = Img.OPEN ∨ s.img = Img.REFUSED) →
        exec .arm s = .next (State.setDev { done with armOpen := decide (s.img = Img.OPEN) } .IMG_STATE_STATE Img.VALIDATING)) ∧
      (s.img = Img.ARMED → exec .cancel s = .next (done.setDev .IMG_STATE_STATE Img.IDLE)) ∧
      (s.dev .IMG_SLOTS_PROBATION ≠ 0 → exec .confirm s = .next { done with pointerDue := some ⟨(s.pointerDue.map (fun d => d.slotB)).getD (s.devB .IMG_SLOTS_ACTIVE), false, true⟩ }) ∧
      (s.img = Img.ARMED →
        let g := s.imageIn s.inactiveB
        (s.activateCause g = Icf.NONE → ∃ t : State, exec .activate s = .next t ∧ t.img = Img.STAGING ∧
          (∃ b, t.act = some b ∧ { b with loading := false, plan := [] } = s.newActivation g ∧
            ∀ e ∈ b.plan, t.reg (shaftOf e.1) .CTX_SLOT_STATE (8 * e.2.1 + e.2.2) = Slt.LOADING) ∧
          t.flash = s.flash ∧ ∀ n : Shaft, (s.newActivation g).flips n = true → t.reg n .HWR_EPOCH_ARMED = 1) ∧
        (s.activateCause g ≠ Icf.NONE → ∃ t : State, exec .activate s = .next t ∧ t.img = Img.ARMED ∧ t.shafts = s.shafts ∧
          t.dev .IMG_FAIL_CAUSE = s.activateCause g ∧ t.act = s.act ∧ t.flash = s.flash)))) ∧
    (s.img = Img.VALIDATING → s.wbuf = [] →
      let g := s.imageIn s.inactiveB
      let c := s.slotCause s.inactiveB (fun _ => true)
      (s.armOpen = true → s.dev .IMG_STREAM_NEXT < max 4096 g.hdr.length →
        ∃ t : State, exec .armDone s = .next t ∧ t.img = Img.REFUSED ∧ t.dev .IMG_FAIL_CAUSE = Icf.INCOMPLETE ∧ t.shafts = s.shafts) ∧
      ((s.armOpen = false ∨ max 4096 g.hdr.length ≤ s.dev .IMG_STREAM_NEXT) →
        ∃ t : State, exec .armDone s = .next t ∧ t.shafts = s.shafts ∧ t.flash = s.flash ∧ t.img = (if c.1 = Icf.NONE then Img.ARMED else Img.REFUSED) ∧
          (c.1 ≠ Icf.NONE → t.dev .IMG_FAIL_CAUSE = c.1 % 32)))

/-- R391, R395, R396, R398: staging takes the parts and swaps as far as it can: STAGED, or a revert with the cause, or, with a FOREMAN part, a
restart of the Foreman that STAGED waits for. A scheduled activation that is late, a Foreman that is not ready in 500 ms, and CANCEL revert it:
swaps armed and flips armed are taken back and the Plan slots written are EMPTY. REVERT_DONE ends in ARMED or REFUSED with IMG_REVERTED. -/
def Obligations.ImageStaging : Prop :=
  ∀ (s : State) (a : Activation), s.act = some a →
    let reverting (t : State) (cause : Nat) : Prop := t.img = Img.REVERTING ∧ t.dev .IMG_FAIL_CAUSE = cause ∧
      (∀ (n : Shaft), ∀ w ∈ (t.sh n).swaps, w.armed = false) ∧ (∀ n : Shaft, entsName a.ents n = true → t.reg n .HWR_EPOCH_ARMED = 0) ∧
      (∀ e ∈ a.plan, t.reg (shaftOf e.1) .CTX_SLOT_STATE (8 * e.2.1 + e.2.2) = Slt.EMPTY) ∧
      ∃ b, t.act = some b ∧ b.cause = cause ∧ b.refuse = refusing cause
    (s.img = Img.STAGING →
      (a.boots = true ∨ (a.foreman = true ∧ s.foreUp = true) → ∃ t : State, exec .stagingDone s = .next t ∧ t.img = Img.STAGED ∧ t.shafts = s.shafts) ∧
      (a.boots = false → a.foreman = true → s.foreUp = false →
        exec .stagingDone s = .next s ∧
        (s.up < s.foreAt + 500000 → exec .foremanStart s = .next s) ∧
        (s.foreAt + 500000 ≤ s.up → ∃ t : State, exec .foremanStart s = .next t ∧ reverting t Icf.FOREMAN_START)) ∧
      (a.boots = false → a.foreman = false →
        ((∃ n : Shaft, a.flips n = true ∧ s.bankIdle n (!s.epoch n) = false) → exec .stagingDone s = .next s) ∧
        ((∀ n : Shaft, a.flips n = true → s.bankIdle n (!s.epoch n) = true) →
          let g := s.imageIn a.slotB
          let r := State.stageParts g a.slotB 0 g.ents (s.stageBegin a)
          let m := r.1.stagingUpset
          let q := foldTry (fun x n => State.stageSwap m.1 x g n) Oct.indices m.2
          let firmware := a.ents.any (fun e => decide (e.type = Part.FOREMAN))
          (r.2 = none → q.2 = none → firmware = false → ∃ t : State, exec .stagingDone s = .next t ∧ t.img = Img.STAGED ∧ t.shafts = q.1.shafts) ∧
          (r.2 = none → q.2 = none → firmware = true → ∃ t : State, exec .stagingDone s = .next t ∧ t.shafts = q.1.shafts ∧
            t.foreUp = false ∧ t.foreAt = q.1.up ∧ t.foreCause = Fcause.ACTIVATION) ∧
          (∀ c, r.2 = some c → ∃ t : State, exec .stagingDone s = .next t ∧ t.img = Img.REVERTING ∧ t.dev .IMG_FAIL_CAUSE = c.1 % 32) ∧
          (∀ c, r.2 = none → q.2 = some c → ∃ t : State, exec .stagingDone s = .next t ∧ t.img = Img.REVERTING ∧
            t.dev .IMG_FAIL_CAUSE = Icf.SWAP_REFUSED))) ∧
      (a.scheduled = true → s.imgWhen.toNat ≤ s.fab.toNat + 100000 → ∃ t : State, exec .stagingLate s = .next t ∧ reverting t Icf.LATE) ∧
      ((a.scheduled = false ∨ s.fab.toNat + 100000 < s.imgWhen.toNat) → exec .stagingLate s = .next s)) ∧
    ((s.img = Img.STAGING ∨ s.img = Img.STAGED) → s.CageFree → s.gated 8 .IMG = false → s.blockBusy 8 .IMG = false → s.dev .IMG_CMD_STAT_BUSY = 0 →
      ∃ t : State, exec .cancel s = .next t ∧ t.dev .IMG_CMD_STAT_RESULT = 1 ∧ reverting t Icf.CANCELLED) ∧
    (s.img = Img.REVERTING →
      (s.foreUp = false → exec .revertDone s = .next s) ∧
      (s.foreUp = true → s.log.length < 4096 → ∃ t : State, exec .revertDone s = .next t ∧ t.act = none ∧
        t.img = (if a.refuse then Img.REFUSED else Img.ARMED) ∧
        s.log ++ [⟨s.fab, 0x0A05, 2, 0xFF, 0xFFFF, s.seq, failDetail a.cause a.detail a.part, BitVec.ofNat 16 s.dropped⟩] <+: t.log))

/-- R392, R395, R398: the commit waits for IMG.WHEN when the image is scheduled. When every gang swaps it completes: IDLE, each shaft with MICROCODE
on the other bank and no flip armed, formers and Canary tables in force; a FULL image is RUNNING with the rewrite of the pointer block on probation
due, a PARTIAL one is live. A gang refused reverts the activation with SWAP_REFUSED. -/
def Obligations.ImageCommit : Prop :=
  ∀ (s : State) (a : Activation), s.act = some a → s.img = Img.STAGED →
    let m := s.commitUpset
    (a.scheduled = true → s.fab.toNat < s.imgWhen.toNat → exec .commit s = .next s) ∧
    ((a.scheduled = false ∨ s.imgWhen.toNat ≤ s.fab.toNat) → a.boots = false →
      (∀ c, (m.2.commitGangs m.1 a).2.1 = some c → ∃ t : State, exec .commit s = .next t ∧ t.img = Img.REVERTING ∧ t.dev .IMG_FAIL_CAUSE = Icf.SWAP_REFUSED ∧
        t.dev .IMG_FAIL_DETAIL = c % 65536 ∧ ∀ n : Shaft, t.epoch n = s.epoch n) ∧
      ((m.2.commitGangs m.1 a).2.1 = none → ∃ t : State, exec .commit s = .next t ∧ t.img = Img.IDLE ∧ t.act = none ∧
        (∀ n : Shaft, (a.flips n = true → t.epoch n = !s.epoch n ∧ t.reg n .HWR_EPOCH_ARMED = 0) ∧ (a.flips n = false → t.epoch n = s.epoch n)) ∧
        (∀ (n : Shaft) (x : Formers), a.formers.find? (fun e => decide (e.1 = n.val)) = some (n.val, x) → (t.sh n).formers = x) ∧
        (∀ l, a.canary = some l → t.canary = l) ∧
        (a.full = true → t.dev .IMG_SLOTS_RUNNING = bit a.slotB ∧ t.pointerDue = some ⟨a.slotB, true, false⟩) ∧
        (a.full = false → t.dev .IMG_SLOTS_PARTIAL_LIVE = 1 ∧ t.pointerDue = s.pointerDue ∧ t.dev .IMG_SLOTS_RUNNING = s.dev .IMG_SLOTS_RUNNING)))

/-- R371, R372, R386: the rewrite of the pointer block writes the copy not in force and shows ACTIVE and PROBATION; a setting command runs until the
µs ends: APPEND writes one record after the last, or is FULL at 2,560; CLEAR erases 0x6000 to 0xFFFF. None of them changes another byte of the
flash. A rewrite waits for the Foreman. -/
def Obligations.FlashWrites : Prop :=
  ∀ (s : State),
    let same (t : State) (lo hi : Nat) : Prop := ∀ a, a < lo ∨ hi ≤ a → memGet erasedByte t.flash a = memGet erasedByte s.flash a
    (∀ d, s.pointerDue = some d →
      let x := s.nextPointer d
      (s.foreUp = false → exec .pointerBlockWrite s = .next s) ∧
      (s.foreUp = true → ∃ t : State, exec .pointerBlockWrite s = .next t ∧ t.pointerDue = none ∧ t.dev .IMG_SLOTS_ACTIVE = bit d.slotB ∧
        t.dev .IMG_SLOTS_PROBATION = bit d.probation ∧ flashTake t.flash (0x1000 * x.1) 64 = x.2.bytes ∧ t.shafts = s.shafts ∧
        same t (0x1000 * x.1) (0x1000 * x.1 + 0x1000))) ∧
    (s.Open 8 .IMG →
      let k := s.records.length
      (s.dev .IMG_SETSTAT_BUSY ≠ 0 → exec .settingAppend s = .next s ∧ exec .settingClear s = .next s) ∧
      (s.dev .IMG_SETSTAT_BUSY = 0 →
        let run (j : SetJob) : State := { s with setJob := some j }.setDev .IMG_SETSTAT_BUSY 1
        exec .settingAppend s = .next (run (.append s.newRecord)) ∧ exec .settingClear s = .next (run .clear) ∧
        (k < 2560 →
          let t := (run (.append s.newRecord)).imgUs
          t.dev .IMG_SETSTAT_BUSY = 0 ∧ t.setJob = none ∧ t.dev .IMG_SETSTAT_RESULT = 1 ∧ t.dev .IMG_SETSTAT_COUNT = k + 1 ∧
          flashTake t.flash (0x6000 + 16 * k) 16 = s.newRecord ∧ same t (0x6000 + 16 * k) (0x6000 + 16 * k + 16) ∧ t.shafts = s.shafts ∧ t.log = s.log) ∧
        (2560 ≤ k →
          let t := (run (.append s.newRecord)).imgUs
          t.dev .IMG_SETSTAT_BUSY = 0 ∧ t.setJob = none ∧ t.dev .IMG_SETSTAT_RESULT = 2 ∧ t.flash = s.flash) ∧
        (let t := (run .clear).imgUs
        t.dev .IMG_SETSTAT_BUSY = 0 ∧ t.setJob = none ∧ t.dev .IMG_SETSTAT_RESULT = 1 ∧ t.dev .IMG_SETSTAT_COUNT = 0 ∧
          flashTake t.flash 0x6000 0xA000 = List.replicate 0xA000 erasedByte ∧ same t 0x6000 0x10000 ∧ t.shafts = s.shafts ∧ t.log = s.log)))

/-- R382, R384, R400: the boot tries the slot the pointer block names (the other one while PROBATION is 1) and then the other: the first that passes
becomes RUNNING and its shafts start, FALLBACK and ROLLED_BACK say what happened, and the pointer block is due to be rewritten with PROBATION 0;
with no pointer block in force or no slot that passes, the boot has failed. R385: a shaft in SHAFT reset boots from the RUNNING slot once the
Foreman is there, or stays out of service. -/
def Obligations.Boots : Prop :=
  ∀ (s : State),
    (s.boot = .due → s.por = false →
      (s.anyStartHeld = true → exec .boot s = .next s) ∧
      (s.anyStartHeld = false →
      let failed (t : State) : Prop := t.boot = .failed ∧ t.flash = s.flash ∧ ∀ n : Shaft, (t.sh n).boot = .failed
      let passes (b : Bool) : Prop := (s.bootCause b).1 = Icf.NONE
      (ptrInForce s.flash = none → ∃ t : State, exec .boot s = .next t ∧ failed t) ∧
      (∀ i p, ptrInForce s.flash = some (i, p) →
        let first := if p.probation then !p.activeB else p.activeB
        (¬passes first → ¬passes (!first) → ∃ t : State, exec .boot s = .next t ∧ failed t) ∧
        (∀ b, (b = first ∧ passes first) ∨ (b = !first ∧ ¬passes first ∧ passes (!first)) →
          ∃ t : State, exec .boot s = .next t ∧ t.boot = .done ∧ t.flash = s.flash ∧ t.dev .IMG_SLOTS_RUNNING = bit b ∧
            t.dev .IMG_SLOTS_FALLBACK = bit (b != first) ∧ t.dev .IMG_SLOTS_ROLLED_BACK = bit (p.probation && b != p.activeB) ∧
            (p.probation = true ∨ b ≠ first → t.pointerDue = some ⟨b, false, false⟩))))) ∧
    (∀ n : Shaft, (s.sh n).inReset = true → (s.sh n).boot = .due →
      let c := s.slotCause (s.devB .IMG_SLOTS_RUNNING) (fun e => decide (e.shaft = n.val))
      (s.foreUp = false ∨ s.thermal n = 4 ∨ s.startHeld n = true → exec (.shaftBoot n) s = .next s) ∧
      (s.boot = .done → s.foreUp = true → s.thermal n ≠ 4 → s.startHeld n = false →
        (c.1 ≠ Icf.NONE → ∃ t : State, exec (.shaftBoot n) s = .next t ∧ (t.sh n).inReset = true ∧ (t.sh n).boot = .failed ∧
          ∀ m, m ≠ n → t.sh m = s.sh m) ∧
        (c.1 = Icf.NONE → ∃ t : State, exec (.shaftBoot n) s = .next t ∧ (t.sh n).inReset = false ∧ (t.sh n).boot = .done)))

/-- R323: the recovery of a frame takes it from flash, else from the active plane; it is then the frame of its slot, no longer suspect, and counted;
else it is lost, its slot BAD. It waits while the Foreman restarts or IMG or SCB is gated. R437, R438: a FORE reset, a mismatch and a missing
heartbeat take the Foreman out of service, the last two setting FORE_UNPLANNED, and revert an activation that stages; FORE_RESTART is raised when it
is ready again. -/
def Obligations.ForemanAndRecovery : Prop :=
  ∀ (s : State),
    (∀ (n : Shaft) (a : Nat) (r : Recovery) (rest : List Recovery), takeFirst (fun r : Recovery => decide (r.frame = a)) (s.sh n).recoveries = some (r, rest) →
      (s.foreUp = false ∨ s.devGated .IMG = true ∨ s.shGated n .SCB = true → exec (.goldenRecoveryDone n a) s = .next s) ∧
      (s.foreUp = true → s.devGated .IMG = false → s.shGated n .SCB = false →
        (∀ x, s.frameFromFlash n a = some x ∨ (s.frameFromFlash n a = none ∧ s.frameFromPlane n a = some x) →
          ∃ t : State, exec (.goldenRecoveryDone n a) s = .next t ∧ Tbl.get 0 (t.sh n).plan a = x ∧ a ∉ (t.sh n).suspect ∧
            (t.sh n).recoveries = rest ∧ (∀ b, b ≠ a → Tbl.get 0 (t.sh n).plan b = Tbl.get 0 (s.sh n).plan b) ∧
            t.reg n .SCB_CNT3_RECOVERED = min (s.reg n .SCB_CNT3_RECOVERED + 1) (2 ^ Fld.SCB_CNT3_RECOVERED.desc.width - 1)) ∧
        (s.frameFromFlash n a = none → s.frameFromPlane n a = none →
          ∃ t : State, exec (.goldenRecoveryDone n a) s = .next t ∧ t.reg n .CTX_SLOT_STATE (a / 1024) = Slt.BAD ∧ t.reg n .SHF_ATTN_SCB_FRAME_LOST = 1 ∧
            (t.sh n).recoveries = rest ∧ (t.sh n).plan = (s.sh n).plan ∧
            t.reg n .SCB_CNT3_LOST = min (s.reg n .SCB_CNT3_LOST + 1) (2 ^ Fld.SCB_CNT3_LOST.desc.width - 1)))) ∧
    (∀ c : ForeCause, (c = .asked ∧ .fore ∈ s.resetsDue ∧ s.boot = .done) ∨ (c ≠ .asked ∧ s.foreUp = true) →
      ∃ t : State, exec (.foreRestart c) s = .next t ∧ t.foreUp = false ∧ t.foreAt = s.up ∧ t.foreIn = [] ∧ (c = .asked → .fore ∉ t.resetsDue) ∧
        (c ≠ .asked → t.dev .DEV_ATTN_FORE_UNPLANNED = 1) ∧ (s.staging = true → s.act ≠ none → t.img = Img.REVERTING ∧ t.dev .IMG_FAIL_CAUSE = Icf.RESET)) ∧
    (s.foreUp = false → s.boot = .done → s.por = false → s.log.length < 4096 →
      ∃ t : State, exec .foremanReady s = .next t ∧ t.foreUp = true ∧ t.foreDropped = 0 ∧ t.shafts = s.shafts ∧
        t.log = (if s.foreCause = 0 then s.log else
          s.log ++ [⟨s.fab, 0x0C03, 1, 0xFF, 0xFFFF, s.seq, detail s.foreCause s.foreDropped, BitVec.ofNat 16 s.dropped⟩])) ∧
    (s.foreUp = true → exec .foremanReady s = .next s)

/-- R403, R404, R427, R429, R80: a rail below its threshold is POR: every register field and every shaft at reset, the log empty; one told between
its threshold and its range is none; RESET_N with the rails holding is COLD: what R429 keeps stays, the rest of the register fields go to reset,
COLD_DONE is logged with its source, and a boot is due; POR ends after 1 ms in range, with POWER_ON at TIME 0. The flash stays through both but for
the sectors, the setting record and the pointer block being written (R463). -/
def Obligations.PowerAndColdResets : Prop :=
  ∀ (s : State),
    let keeps (t : State) : Prop := (s.wbuf = [] → s.setJob = none → s.pointerDue = none → t.flash = s.flash) ∧
      ∀ a, a < s.sectorsNow.1 ∨ s.sectorsNow.1 + s.sectorsNow.2 ≤ a → s.setJob = none ∨ a < 0x6000 ∨ 0x10000 ≤ a → s.pointerDue = none ∨ 0x2000 ≤ a →
        memGet erasedByte t.flash a = memGet erasedByte s.flash a
    (∀ i, i < 7 → ∃ t : State, exec (.por (.rail i 0)) s = .next t ∧ t.por = true ∧ t.boot = .due ∧ t.log = [] ∧ keeps t ∧ t.pending = s.pending ∧
      t.rails = s.rails.set i 0 ∧ (∀ n : Shaft, t.sh n = ShaftSt.reset) ∧ ∀ f sc e, t.getF f sc e = f.reset sc e) ∧
    (∀ pin strap source, (pin = true ∧ source = 1) ∨ (pin = false ∧ .cold ∈ s.resetsDue ∧ source = 2) → s.por = false → s.log.length < 4096 →
      ∃ t : State, exec (.coldReset pin strap) s = .next t ∧ t.boot = .due ∧ keeps t ∧ t.fab = s.fab ∧ t.resetsDue = [] ∧ t.act = none ∧
        t.log = s.log ++ [⟨s.fab, 0x0002, 0, 0xFF, 0xFFFF, s.seq, detail source, BitVec.ofNat 16 s.dropped⟩] ∧
        (∀ n : Shaft, (t.sh n).tallies = [] ∧ (t.sh n).dir = [] ∧ (t.sh n).plan = [] ∧ (t.sh n).boot = .due) ∧
        (∀ (f : Fld) (sc e : Nat), sc < 16 → f ≠ .CLK_CFG_REFSEL → t.getF f sc e = if f.coldKept then s.getF f sc e else f.reset sc e) ∧
        t.dev .CLK_CFG_REFSEL = bit strap) ∧
    (∀ strap, s.por = true ∨ .cold ∉ s.resetsDue → exec (.coldReset false strap) s = .next s) ∧
    (∀ strap, s.por = false → s.railsHold = true → s.log.length < 4096 → ∃ t : State, exec (.por (.resetN strap)) s = .next t ∧ t.por = false ∧
      t.dev .CLK_CFG_REFSEL = bit strap ∧ t.log = s.log ++ [⟨s.fab, 0x0002, 0, 0xFF, 0xFFFF, s.seq, detail 1, BitVec.ofNat 16 s.dropped⟩]) ∧
    (∀ i level, i < 7 → 0 < level → exec (.por (.rail i level)) s = .next
      { s with rails := s.rails.set i (min level 2), goodSince := if 2 ≤ level then s.goodSince else s.up }) ∧
    (∀ strap, s.por = true →
      (s.goodSince + 1000 ≤ s.up → s.log = [] → ∃ t : State, exec (.porRelease strap) s = .next t ∧ t.por = false ∧ t.fab = 0 ∧ (∀ n : Shaft, (t.sh n).clock = 0) ∧
        t.log = [⟨0, 0x0001, 0, 0xFF, 0xFFFF, s.seq, 0, BitVec.ofNat 16 s.dropped⟩] ∧ t.dev .CLK_CFG_REFSEL = bit strap) ∧
      (s.up < s.goodSince + 1000 → exec (.porRelease strap) s = .next s))

/-- R316, R221, R429, R430: a SHAFT reset that is due takes its shaft out of service: no tally, directory entry, Plan slot or link is left,
DEEP_OPEN is 0, the boot is due, and no other shaft changes when nothing stages. A STOPE reset initializes the flip-flops of its stope, empties its
shadow and clears its stain, keeping its active plane. -/
def Obligations.ShaftAndStopeResets : Prop :=
  ∀ (s : State) (n : Shaft), s.por = false →
    (.shaft n.val ∈ s.resetsDue → ∃ t : State, exec (.shaftReset n) s = .next t ∧ .shaft n.val ∉ t.resetsDue ∧ (t.sh n).inReset = true ∧ (t.sh n).boot = .due ∧
      (t.sh n).tallies = [] ∧ (t.sh n).dir = [] ∧ (t.sh n).locks = [] ∧ (t.sh n).queues = [] ∧ (t.sh n).threads = [] ∧ (t.sh n).plan = [] ∧
      (t.sh n).retiredBlocks = (s.sh n).retiredBlocks ∧ t.reg n .SHF_CTL_DEEP_OPEN = 0 ∧ t.doze n = 0 ∧
      (∀ p : Portal, t.pst n p = Pst.DISABLED ∧ (t.ptl n p).tags = []) ∧ (∀ j, t.reg n .CTX_SLOT_STATE j = Slt.EMPTY) ∧
      (s.staging = false → ∀ m, m ≠ n → t.sh m = s.sh m)) ∧
    (.shaft n.val ∉ s.resetsDue → exec (.shaftReset n) s = .next s) ∧
    (∀ k, k < 128 →
      (.stope n.val k ∈ s.resetsDue → s.staging = false → s.testRun n = none → ∃ t : State, exec (.stopeReset n k) s = .next t ∧ .stope n.val k ∉ t.resetsDue ∧
        (t.stope n k).active = (s.stope n k).active ∧ (t.stope n k).ff = Config.ffInit (s.stope n k).active ∧ t.reg n .CTX_STOPE_SH_STATE k = 0 ∧
        t.reg n .STP_SPEC_STAINED k = 0 ∧ (t.stope n k).last = none ∧ t.preloading n k = false) ∧
      (.stope n.val k ∉ s.resetsDue → exec (.stopeReset n k) s = .next s))

/-- R406, R407, R408: the governor's request follows the highest need by at most 25 mV a step, falls by 5 mV at most once per 100 µs, stays within
CAP_MV, and is FIXED_MV clipped to it while GOV_EN is 0. A transaction that failed sets AVS_FAULT, and while it stands, or PWR is gated, the request
does not move. -/
def Obligations.Governor : Prop :=
  ∀ (s : State) (g : GovNeeds), s.por = false →
    let cur := s.dev .PWR_AVS_REQ_MV
    let cap := s.dev .GRD_DEV_CAP_MV
    let hi := maxOf (s.liveNeeds g.needs)
    let runs := s.devGated .PWR = false ∧ s.dev .PWR_AVS_AVS_FAULT = 0
    (¬runs → ∃ t : State, exec (.governorUpdate g) s = .next t ∧ t.dev .PWR_AVS_REQ_MV = cur ∧ t.dev .PWR_AVS_MON_MV = g.mon % 1024 ∧ t.shafts = s.shafts ∧ t.log = s.log) ∧
    (runs → g.answered = false → s.log.length < 4096 → ∃ t : State, exec (.governorUpdate g) s = .next t ∧ t.dev .PWR_AVS_REQ_MV = cur ∧
      t.dev .PWR_AVS_AVS_FAULT = 1 ∧ t.dev .DEV_ATTN_AVS_FAULT = 1 ∧
      t.log = s.log ++ [⟨s.fab, 0x0B08, 2, 0xFF, 0xFFFF, s.seq, detail cur, BitVec.ofNat 16 s.dropped⟩]) ∧
    (runs → g.answered = true → cur < 1024 → cap < 1024 → ∃ t : State, exec (.governorUpdate g) s = .next t ∧ t.shafts = s.shafts ∧ t.log = s.log ∧
      t.dev .PWR_AVS_REQ_MV ≤ cap ∧
      (s.dev .PWR_CFG_GOV_EN = 0 → t.dev .PWR_AVS_REQ_MV = min cap (s.dev .PWR_CFG_FIXED_MV)) ∧
      (s.dev .PWR_CFG_GOV_EN ≠ 0 →
        t.dev .PWR_AVS_REQ_MV ≤ max 680 (cur + 25) ∧
        (cur < hi → 680 ≤ min hi (cur + 25) → s.station48 = false → t.dev .PWR_AVS_REQ_MV = min cap (min hi (cur + 25))) ∧
        (hi ≤ cur → s.up < s.lowerAt + 100 → 680 ≤ cur → s.station48 = false → t.dev .PWR_AVS_REQ_MV = min cap cur ∧ t.lowerAt = s.lowerAt) ∧
        (hi ≤ cur → s.lowerAt + 100 ≤ s.up → 685 ≤ cur → s.station48 = false → t.dev .PWR_AVS_REQ_MV = min cap (cur - 5) ∧ t.lowerAt = s.up) ∧
        (680 ≤ cur → s.station48 = true → min cap (cur + 25) ≤ t.dev .PWR_AVS_REQ_MV)))

/-- R409, R410, R317: DOZE 1 takes a running shaft that nothing holds to ENTERING; with no open tally it is in DOZE and its planes are lost, its
outgoing boundary wires held (R278); at the end of DOZE every stope whose ACTIVE slot is VALID takes it again, unless the start is held cold. R424:
a held start goes on once every layer is at −5 °C or warmer. -/
def Obligations.Doze : Prop :=
  ∀ (s : State) (n : Shaft),
    let reloaded (t : State) : Prop := ∀ k, k < 128 → let c := s.reg n .CTX_STOPE_ACTIVE k
      s.reg n .CTX_SLOT_STATE (8 * k + c) = Slt.VALID → (t.stope n k).active = s.planSlot n k c ∧ (t.stope n k).ff = Config.ffInit (s.planSlot n k c)
    let warm := ∀ l, l < 5 → s.layerWarm n l = true
    (s.CageFree → s.gated 8 .PWR = false → s.blockBusy 8 .PWR = false → ∃ t : State, exec (.dozeRequest n) s = .next t ∧ t.dev .PWR_SHAFT_DOZE n.val = 1 ∧
      t.shafts = s.shafts ∧ t.doze n = (if s.doze n = 0 ∧ s.dozeWaits n = false then 1 else s.doze n)) ∧
    (s.doze n = 1 →
      (s.anyOpen n = false → ∃ t : State, exec (.dozeEnter n) s = .next t ∧ t.doze n = 2 ∧ (t.sh n).swaps = [] ∧ (t.sh n).preloads = [] ∧
        (∀ k, k < 128 → t.reg n .CTX_STOPE_SH_STATE k = 0 ∧ t.reg n .CTX_STOPE_SHADOW k = 0 ∧ (t.stope n k).active = [] ∧
          (t.stope n k).outs = (s.stope n k).outs) ∧ (t.sh n).plan = (s.sh n).plan) ∧
      (s.anyOpen n = true → exec (.dozeEnter n) s = .next s)) ∧
    (s.doze n = 3 → s.thermal n ≠ 4 →
      (s.coldStart n = none → ∃ t : State, exec (.dozeExit n) s = .next t ∧ reloaded t ∧ (s.dev .PWR_SHAFT_DOZE n.val = 0 → t.doze n = 0) ∧
        (t.doze n = 0 ∨ t.doze n = 1)) ∧
      (∀ l q, s.coldStart n = some (l, q) → ∃ t : State, exec (.dozeExit n) s = .next t ∧ t.thermal n = 4 ∧ t.doze n = 3 ∧ t.shafts = s.shafts)) ∧
    (s.thermal n = 4 →
      (¬warm → exec (.coldHoldEnd n) s = .next s) ∧
      (warm → (s.sh n).inReset = true → exec (.coldHoldEnd n) s = .next (s.setDev .CAN_SHAFT_THERMAL 0 n.val)) ∧
      (warm → (s.sh n).inReset = false → s.held n = true → ∃ t : State, exec (.coldHoldEnd n) s = .next t ∧ (t.sh n).boot = .done ∧ (t.sh n).coldHeld = false) ∧
      (warm → (s.sh n).inReset = false → s.held n = false → ∃ t : State, exec (.coldHoldEnd n) s = .next t ∧ t.thermal n = 0 ∧ reloaded t ∧
        (s.doze n ≠ 3 → t.dev .CAN_SHAFT_CAP n.val = 3 ∧ t.doze n = s.doze n)))

/-- R411, R413, R417: a sample shows every sensor's reading and adds to every energy counter; a reading outside −40 to 150 °C breaks its sensor, and
the CAP code follows the hottest temperature up at once; the pacer handle follows it while the hottest layer is the Plan or a Seam. A self-check
breaks the sensors that are more than 2 °C off, and only those; REARM of a layer makes its sensors healthy and no other. -/
def Obligations.CanarySensors : Prop :=
  ∀ (s : State) (n : Shaft),
    (∀ (r : List Int) (e : List Nat), s.por = false → ∃ t : State, exec (.canarySample n r e) s = .next t ∧
      (∀ l, l < 5 → t.dev .PWR_ENERGY_UJ (5 * n.val + l) = (s.dev .PWR_ENERGY_UJ (5 * n.val + l) + e.getD l 0) % 2 ^ 32) ∧
      (∀ k, k < 30 → t.dev .CAN_SENSOR_VALUE (30 * n.val + k) = (BitVec.ofInt 12 (r.getD k 0)).toNat ∧
        (s.dev .CAN_SENSOR_BROKEN (30 * n.val + k) = 0 → (r.getD k 0 < -160 ∨ 600 < r.getD k 0) →
          t.dev .CAN_SENSOR_BROKEN (30 * n.val + k) = 1 ∧ t.dev .CAN_SENSOR_CAUSE (30 * n.val + k) = 1 ∧ t.reg n .SHF_ATTN_SENSOR_BROKEN = 1)) ∧
      (∀ l q, hottest (t.shaftTemps n) = some (l, q) →
        (s.dev .CAN_SHAFT_CAP n.val < capCode q → t.dev .CAN_SHAFT_CAP n.val = capCode q) ∧
        (t.sh n).thermal.pacerPct = if 2 ≤ l then capPct (t.dev .CAN_SHAFT_CAP n.val) else 100)) ∧
    (∀ off : List Int, ∃ t : State, exec (.sensorSelfCheck n off) s = .next t ∧ t.pending = s.pending ∧ ∀ k, k < 30 →
      (s.dev .CAN_SENSOR_BROKEN (30 * n.val + k) = 0 → (off.getD k 0 < -8 ∨ 8 < off.getD k 0) →
        t.dev .CAN_SENSOR_BROKEN (30 * n.val + k) = 1 ∧ t.dev .CAN_SENSOR_CAUSE (30 * n.val + k) = 3) ∧
      (-8 ≤ off.getD k 0 → off.getD k 0 ≤ 8 → t.dev .CAN_SENSOR_BROKEN (30 * n.val + k) = s.dev .CAN_SENSOR_BROKEN (30 * n.val + k))) ∧
    (∀ l : BitVec 3, s.Open 8 .CAN →
      (l.toNat < 5 → ∃ t : State, exec (.sensorRearm n l) s = .next t ∧ t.log = s.log ∧
        (∀ i, i < 6 → t.dev .CAN_SENSOR_BROKEN (30 * n.val + 6 * l.toNat + i) = 0) ∧
        ∀ j, (j < 30 * n.val + 6 * l.toNat ∨ 30 * n.val + 6 * l.toNat + 6 ≤ j) → t.dev .CAN_SENSOR_BROKEN j = s.dev .CAN_SENSOR_BROKEN j) ∧
      (5 ≤ l.toNat → exec (.sensorRearm n l) s = .next s))

/-- R419, R423, R409: an orderly stop whose 800 µs are over leaves the shaft COOLING with its planes lost. A shaft cool for 100 ms restarts with CAP
code 3 and its stopes reloaded, enters DOZE when its DOZE is 1, or is held when it is too cold; the portals of a halted one look for their partners
again. -/
def Obligations.ThermalStops : Prop :=
  ∀ (s : State) (n : Shaft),
    (s.thermal n = 1 →
      ((s.sh n).thermal.tripAt + 800 ≤ s.up → ∃ t : State, exec (.orderlyStopEnd n) s = .next t ∧ t.thermal n = 2 ∧ (t.sh n).swaps = [] ∧
        (t.sh n).preloads = [] ∧ (∀ k, k < 128 → t.reg n .CTX_STOPE_SH_STATE k = 0) ∧ t.fab = s.fab ∧ (t.sh n).thermal.coolSince = none) ∧
      (s.up < (s.sh n).thermal.tripAt + 800 → exec (.orderlyStopEnd n) s = .next s)) ∧
    ((s.thermal n = 2 ∨ s.thermal n = 3) → ∀ c, (s.sh n).thermal.coolSince = some c →
      (s.up < c + 100000 → exec (.thermRestart n) s = .next s) ∧
      (c + 100000 ≤ s.up →
        let linked (t : State) : Prop := ∀ p : Portal, t.pst n p = (if s.thermal n = 3 ∧ s.pst n p ≠ Pst.DISABLED then Pst.DETECT else s.pst n p)
        (s.dev .PWR_SHAFT_DOZE n.val ≠ 0 → ∃ t : State, exec (.thermRestart n) s = .next t ∧ t.thermal n = 0 ∧ t.doze n = 2 ∧ linked t) ∧
        (s.dev .PWR_SHAFT_DOZE n.val = 0 → s.coldStart n = none → ∃ t : State, exec (.thermRestart n) s = .next t ∧ t.thermal n = 0 ∧
          t.dev .CAN_SHAFT_CAP n.val = 3 ∧ (t.sh n).thermal.capRoseAt = s.up ∧ linked t ∧
          ∀ k, k < 128 → let a := s.reg n .CTX_STOPE_ACTIVE k
            s.reg n .CTX_SLOT_STATE (8 * k + a) = Slt.VALID → (t.stope n k).active = s.planSlot n k a) ∧
        (∀ l q, s.dev .PWR_SHAFT_DOZE n.val = 0 → s.coldStart n = some (l, q) → ∃ t : State, exec (.thermRestart n) s = .next t ∧ t.thermal n = 4 ∧ linked t)))

/-- A step takes the command at the front of the queue and is that command's effect with the queue's rest; on an empty queue 1 µs passes: uptime
and, out of POR, the eight tally clocks advance by 1, the fabric-time counter by 1,000 ns but for what an outstanding offset slews, which is at most
0.5 ns; in POR, or while no pacer runs and no command or wake is under way, nothing else changes (the tick is the model's choice, assumption 8;
R115, R118, R136). -/
def Obligations.StepRunsFrontCommand : Prop :=
  (∀ (s : State) (c : Instr) (rest : List Instr), s.pending = c :: rest → step s = exec c { s with pending := rest }) ∧
  (∀ (s : State), s.pending = [] → ∃ t : State, step s = .next t ∧ t.up = s.up + 1 ∧ t.pending = [] ∧
    (∀ n : Shaft, (t.sh n).clock = if s.por then (s.sh n).clock else (s.sh n).clock + 1) ∧
    (s.por = true → t.regs = s.regs ∧ t.log = s.log ∧ t.flash = s.flash ∧ t.shafts = s.shafts) ∧
    (s.por = false → s.dev .IMG_CMD_STAT_BUSY = 0 → s.setJob = none →
      (∀ n : Shaft, s.pacersRunning n = [] ∧ (s.sh n).claimCmd = none ∧ (s.sh n).queueCmd = none ∧ (∀ o ∈ (s.sh n).qops, o.by_ ≠ .host) ∧
        s.reg n .CTX_RB_STAT_BUSY = 0 ∧ ∀ p : Portal, (s.ptl n p).wakeAt = none) →
      t.regs = s.regs ∧ t.log = s.log ∧ t.flash = s.flash ∧ ∀ n : Shaft, t.sh n = { s.sh n with clock := (s.sh n).clock + 1 }) ∧
    (s.slew = 0 → t.fab = s.fab + 1000 ∧ t.slew = 0 ∧ t.frac = s.frac) ∧
    (0 < s.slew → (s.frac.toNat < 32768 → t.fab = s.fab + 1000 ∧ t.slew = s.slew ∧ t.frac.toNat = s.frac.toNat + 32768) ∧
      (32768 ≤ s.frac.toNat → t.fab = s.fab + 1001 ∧ t.slew = s.slew - 1 ∧ t.frac.toNat + 32768 = s.frac.toNat)) ∧
    (s.slew < 0 → (32768 ≤ s.frac.toNat → t.fab = s.fab + 1000 ∧ t.slew = s.slew ∧ t.frac.toNat + 32768 = s.frac.toNat) ∧
      (s.frac.toNat < 32768 → t.fab = s.fab + 999 ∧ t.slew = s.slew + 1 ∧ t.frac.toNat = s.frac.toNat + 32768)))

/-- Every command, in every state and with every operand, answers a next state, and leaves the commands that wait as they are: the block has no
fault and the model refuses none (assumption 1). -/
def Obligations.EveryCommandAnswers : Prop :=
  ∀ (c : Instr) (s : State), ∃ t : State, exec c s = .next t ∧ t.pending = s.pending

/-- From every state in which the event log holds at most 4,096 entries, every register field fits its width, and the flash and the block memories
are canonical, each step leads to such a state, whatever the command. -/
def Obligations.InvariantKeptByEveryStep : Prop :=
  ∀ (s t : State), s.Inv → step s = .next t → t.Inv

/-- It holds right after reset, where the log holds POWER_ON alone (R80) and the memories list nothing. -/
def Obligations.InvariantHoldsAtReset : Prop :=
  State.reset.Inv ∧ State.reset.log.map LogEntry.code = [0x0001] ∧ State.reset.flash = [] ∧ ∀ n : Shaft, (State.reset.sh n).blk = []
end

