-- ==== Sys2Proof/Laws/Table.lean ====
section
/-! SUPPORT. Laws of the sparse tables: what is read after a write, and the canonical form, which every operation keeps. -/

namespace Sys2Proof.Machine

variable {V : Type}

theorem Tbl.get_erase_same (d : V) (t : Tbl V) (k : Nat) : Tbl.get d (Tbl.erase t k) k = d := by
  induction t with
  | nil => rfl
  | cons e t ih =>
    obtain ⟨k', v⟩ := e
    by_cases h : k' = k
    · simpa [Tbl.erase, h] using ih
    · have h' : ¬ k = k' := fun e => h e.symm
      simpa [Tbl.erase, Tbl.get, h, h'] using ih

theorem Tbl.get_erase_other (d : V) (t : Tbl V) {k j : Nat} (h : j ≠ k) : Tbl.get d (Tbl.erase t k) j = Tbl.get d t j := by
  induction t with
  | nil => rfl
  | cons e t ih =>
    obtain ⟨k', v⟩ := e
    by_cases hk : k' = k
    · have : j ≠ k' := fun e => h (e.trans hk)
      simp [Tbl.erase, Tbl.get, hk, h] at ih ⊢
      exact ih
    · simp only [Tbl.erase, List.filter, Tbl.get] at ih ⊢
      split <;> simp_all [Tbl.get]

theorem Tbl.get_insert_same (d : V) (t : Tbl V) (k : Nat) (v : V) (h : ∀ e ∈ t, e.1 ≠ k) : Tbl.get d (Tbl.insert k v t) k = v := by
  induction t with
  | nil => simp [Tbl.insert, Tbl.get]
  | cons e t ih =>
    obtain ⟨k', v'⟩ := e
    have h1 : ¬ k = k' := fun e => h (k', v') (by simp) e.symm
    have h2 := ih (fun e he => h e (by simp [he]))
    simp only [Tbl.insert]
    split
    · simp [Tbl.get]
    · simp [Tbl.get, h1, h2]

theorem Tbl.get_insert_other (d : V) (t : Tbl V) {k j : Nat} (v : V) (h : j ≠ k) :
    Tbl.get d (Tbl.insert k v t) j = Tbl.get d t j := by
  induction t with
  | nil => simp [Tbl.insert, Tbl.get, h]
  | cons e t ih =>
    obtain ⟨k', v'⟩ := e
    simp only [Tbl.insert]
    split
    · simp [Tbl.get, h]
    · simp only [Tbl.get, ih]

theorem Tbl.mem_erase {t : Tbl V} {k : Nat} {e : Nat × V} (h : e ∈ Tbl.erase t k) : e ∈ t ∧ e.1 ≠ k := by
  simpa [Tbl.erase] using h

theorem Tbl.erase_insert (t : Tbl V) (k : Nat) (v : V) : Tbl.erase (Tbl.insert k v t) k = Tbl.erase t k := by
  induction t with
  | nil => simp [Tbl.insert, Tbl.erase]
  | cons e t ih =>
    obtain ⟨k', v'⟩ := e
    simp only [Tbl.insert]
    split
    · simp [Tbl.erase]
    · simp only [Tbl.erase, List.filter] at ih ⊢
      simp only [ih]

theorem Tbl.erase_erase (t : Tbl V) (k : Nat) : Tbl.erase (Tbl.erase t k) k = Tbl.erase t k := by
  simp [Tbl.erase, List.filter_filter]

theorem Tbl.mem_insert {k : Nat} {v : V} {t : Tbl V} {e : Nat × V} (h : e ∈ Tbl.insert k v t) : e = (k, v) ∨ e ∈ t := by
  induction t with
  | nil => simpa [Tbl.insert] using h
  | cons a t ih =>
    obtain ⟨k', v'⟩ := a
    simp only [Tbl.insert] at h
    split at h
    · simpa using h
    · rcases List.mem_cons.1 h with rfl | h
      · simp
      · rcases ih h with rfl | h <;> simp [*]

section
variable [DecidableEq V]

/-- Reading what was written. -/
@[simp] theorem Tbl.get_set_same (d : V) (t : Tbl V) (k : Nat) (v : V) : Tbl.get d (Tbl.set d t k v) k = v := by
  simp only [Tbl.set]
  split
  · rename_i h; rw [Tbl.get_erase_same, h]
  · exact Tbl.get_insert_same d _ k v (fun e he => (Tbl.mem_erase he).2)

/-- A write leaves every other number alone. -/
theorem Tbl.get_set_other (d : V) (t : Tbl V) {k j : Nat} (v : V) (h : j ≠ k) {d' : V} :
    Tbl.get d (Tbl.set d' t k v) j = Tbl.get d t j := by
  simp only [Tbl.set]
  split
  · exact Tbl.get_erase_other d t h
  · rw [Tbl.get_insert_other d _ v h, Tbl.get_erase_other d t h]

theorem Tbl.get_set (d : V) (t : Tbl V) (k j : Nat) (v : V) :
    Tbl.get d (Tbl.set d t k v) j = if j = k then v else Tbl.get d t j := by
  split
  · rename_i h; rw [h]; exact Tbl.get_set_same d t k v
  · exact Tbl.get_set_other d t v ‹_›

/-- The second of two writes of one number stands. -/
@[simp] theorem Tbl.set_set (d : V) (t : Tbl V) (k : Nat) (v w : V) : Tbl.set d (Tbl.set d t k v) k w = Tbl.set d t k w := by
  have h : Tbl.erase (Tbl.set d t k v) k = Tbl.erase t k := by
    simp only [Tbl.set]
    split
    · exact Tbl.erase_erase t k
    · rw [Tbl.erase_insert, Tbl.erase_erase]
  show (if w = d then Tbl.erase (Tbl.set d t k v) k else Tbl.insert k w (Tbl.erase (Tbl.set d t k v) k)) = _
  rw [h]
  rfl

@[simp] theorem Tbl.get_upd_same (d : V) (t : Tbl V) (k : Nat) (f : V → V) : Tbl.get d (Tbl.upd d t k f) k = f (Tbl.get d t k) := by
  simp [Tbl.upd]

theorem Tbl.get_upd_other (d : V) (t : Tbl V) {k j : Nat} (f : V → V) (h : j ≠ k) :
    Tbl.get d (Tbl.upd d t k f) j = Tbl.get d t j := Tbl.get_set_other d t _ h

@[simp] theorem Tbl.upd_upd (d : V) (t : Tbl V) (k : Nat) (f g : V → V) :
    Tbl.upd d (Tbl.upd d t k f) k g = Tbl.upd d t k (fun x => g (f x)) := by
  simp [Tbl.upd]

/-! ### The canonical form -/

theorem Tbl.wf_iff (d : V) (t : Tbl V) : Tbl.wf d t = true ↔ (∀ e ∈ t, e.2 ≠ d) ∧ t.Pairwise (fun a b => a.1 < b.1) := by
  induction t with
  | nil => simp [Tbl.wf]
  | cons e t ih =>
    obtain ⟨k, v⟩ := e
    cases t with
    | nil => simp [Tbl.wf]
    | cons e' t =>
      obtain ⟨k', v'⟩ := e'
      simp only [Tbl.wf, Bool.and_eq_true, decide_eq_true_eq, ih]
      constructor
      · rintro ⟨⟨hv, hk⟩, ha, hp⟩
        refine ⟨by intro e he; rcases List.mem_cons.1 he with rfl | he; exacts [hv, ha e he], ?_⟩
        refine List.Pairwise.cons (fun e he => ?_) hp
        rcases List.mem_cons.1 he with rfl | he'
        · exact hk
        · exact Nat.lt_trans hk ((List.pairwise_cons.1 hp).1 e he')
      · rintro ⟨ha, hp⟩
        obtain ⟨h1, h2⟩ := List.pairwise_cons.1 hp
        exact ⟨⟨ha (k, v) (by simp), h1 (k', v') (by simp)⟩, fun e he => ha e (by simp [he]), h2⟩

theorem Tbl.wf_filter (d : V) (t : Tbl V) (p : Nat × V → Bool) (h : Tbl.wf d t = true) : Tbl.wf d (t.filter p) = true := by
  rw [Tbl.wf_iff] at h ⊢
  exact ⟨fun e he => h.1 e (List.mem_filter.1 he).1, h.2.filter p⟩

theorem Tbl.wf_erase (d : V) (t : Tbl V) (k : Nat) (h : Tbl.wf d t = true) : Tbl.wf d (Tbl.erase t k) = true := Tbl.wf_filter d t _ h

theorem Tbl.wf_keep (d : V) (t : Tbl V) (p : Nat → Bool) (h : Tbl.wf d t = true) : Tbl.wf d (Tbl.keep p t) = true := Tbl.wf_filter d t _ h

theorem Tbl.wf_insert (d : V) (t : Tbl V) (k : Nat) (v : V) (hv : v ≠ d) (hk : ∀ e ∈ t, e.1 ≠ k) (h : Tbl.wf d t = true) :
    Tbl.wf d (Tbl.insert k v t) = true := by
  rw [Tbl.wf_iff] at h ⊢
  refine ⟨fun e he => ?_, ?_⟩
  · rcases Tbl.mem_insert he with rfl | he
    exacts [hv, h.1 e he]
  · have hp := h.2
    clear h
    induction t with
    | nil => simp [Tbl.insert]
    | cons a t ih =>
      obtain ⟨k', v'⟩ := a
      obtain ⟨h1, h2⟩ := List.pairwise_cons.1 hp
      simp only [Tbl.insert]
      split
      · rename_i hlt
        refine List.Pairwise.cons (fun e he => ?_) hp
        rcases List.mem_cons.1 he with rfl | he
        exacts [hlt, Nat.lt_trans hlt (h1 e he)]
      · rename_i hlt
        have hne : k' ≠ k := hk (k', v') (by simp)
        refine List.Pairwise.cons (fun e he => ?_) (ih (fun e he => hk e (by simp [he])) h2)
        rcases Tbl.mem_insert he with rfl | he
        · simp only; omega
        · exact h1 e he

theorem Tbl.wf_set (d : V) (t : Tbl V) (k : Nat) (v : V) (h : Tbl.wf d t = true) : Tbl.wf d (Tbl.set d t k v) = true := by
  simp only [Tbl.set]
  split
  · exact Tbl.wf_erase d t k h
  · exact Tbl.wf_insert d _ k v ‹_› (fun e he => (Tbl.mem_erase he).2) (Tbl.wf_erase d t k h)

theorem Tbl.wf_upd (d : V) (t : Tbl V) (k : Nat) (f : V → V) (h : Tbl.wf d t = true) : Tbl.wf d (Tbl.upd d t k f) = true :=
  Tbl.wf_set d t k _ h

end

/-! ### Eight of a kind -/

variable {α : Type}

@[simp] theorem Oct.get_set_same (o : Oct α) (i : Fin 8) (a : α) : (o.set i a).get i = a := by
  fin_cases i <;> rfl

theorem Oct.get_set_other (o : Oct α) {i j : Fin 8} (a : α) (h : j ≠ i) : (o.set i a).get j = o.get j := by
  fin_cases i <;> fin_cases j <;> first | rfl | exact absurd rfl h

@[simp] theorem Oct.get_upd_same (o : Oct α) (i : Fin 8) (f : α → α) : (o.upd i f).get i = f (o.get i) := Oct.get_set_same o i _

theorem Oct.get_upd_other (o : Oct α) {i j : Fin 8} (f : α → α) (h : j ≠ i) : (o.upd i f).get j = o.get j := Oct.get_set_other o _ h

@[simp] theorem Oct.set_set (o : Oct α) (i : Fin 8) (a b : α) : (o.set i a).set i b = o.set i b := by
  fin_cases i <;> rfl

@[simp] theorem Oct.upd_upd (o : Oct α) (i : Fin 8) (f g : α → α) : (o.upd i f).upd i g = o.upd i (fun x => g (f x)) := by
  simp [Oct.upd]

@[simp] theorem Oct.get_all (a : α) (i : Fin 8) : (Oct.all a).get i = a := by
  fin_cases i <;> rfl

end Sys2Proof.Machine
end

