-- ==== Sys2Proof/Laws/Memory.lean ====
section
/-! SUPPORT. Laws of the byte memories (the flash and the block memories): what is read after a write, and that every operation keeps the canonical form. -/

namespace Sys2Proof.Machine

@[simp] theorem memGet_memSet_same (d : Byte) (m : List Host.Cell) (a : Nat) (v : Byte) : memGet d (memSet d m a v) a = v :=
  Tbl.get_set_same d m a v

theorem memGet_memSet_other (d : Byte) (m : List Host.Cell) {a b : Nat} (v : Byte) (h : b ≠ a) : memGet d (memSet d m a v) b = memGet d m b :=
  Tbl.get_set_other d m v h

theorem memSet_wf (d : Byte) (m : List Host.Cell) (a : Nat) (v : Byte) (h : Memory.wf d m = true) : Memory.wf d (memSet d m a v) = true :=
  Tbl.wf_set d m a v h

/-- Bytes outside those written read as before. -/
theorem memGet_memPut_other (d : Byte) (l : List Byte) (a b : Nat) (m : List Host.Cell) (h : b < a ∨ a + l.length ≤ b) :
    memGet d (memPut d l a m) b = memGet d m b := by
  induction l generalizing a m with
  | nil => rfl
  | cons x l ih =>
    simp only [List.length_cons] at h
    rw [memPut, ih (a + 1) _ (by omega), memGet_memSet_other d m x (by omega)]

/-- Each byte written reads as written. -/
theorem memGet_memPut_same (d : Byte) (l : List Byte) (a i : Nat) (m : List Host.Cell) (h : i < l.length) :
    memGet d (memPut d l a m) (a + i) = l[i] := by
  induction l generalizing a i m with
  | nil => simp at h
  | cons x l ih =>
    cases i with
    | zero => rw [memPut, memGet_memPut_other d l (a + 1) (a + 0) _ (by omega)]; simp
    | succ i =>
      have h' : i < l.length := by simpa using h
      rw [memPut, show a + (i + 1) = a + 1 + i by omega, ih (a + 1) i _ h']
      simp

theorem memPut_wf (d : Byte) (l : List Byte) (a : Nat) (m : List Host.Cell) (h : Memory.wf d m = true) : Memory.wf d (memPut d l a m) = true := by
  induction l generalizing a m with
  | nil => exact h
  | cons x l ih => exact ih (a + 1) _ (memSet_wf d m a x h)

/-- What `memTake` takes after a write of that many bytes. -/
theorem memTake_memPut (d : Byte) (l : List Byte) (a : Nat) (m : List Host.Cell) : memTake d (memPut d l a m) a l.length = l := by
  apply List.ext_getElem
  · simp [memTake]
  · intro i h1 h2
    simp [memTake, memGet_memPut_same d l a i m h2]

/-! ### The flash -/

theorem flashErase_wf (m : List Host.Cell) (a b : Nat) (h : Memory.wf erasedByte m = true) : Memory.wf erasedByte (flashErase m a b) = true :=
  Tbl.wf_filter erasedByte m _ h

/-- Erased flash reads as erased. -/
theorem memGet_flashErase (m : List Host.Cell) (a b c : Nat) :
    memGet erasedByte (flashErase m a b) c = if a ≤ c ∧ c < b then erasedByte else memGet erasedByte m c := by
  induction m with
  | nil => simp [flashErase, memGet, Tbl.get]
  | cons e m ih =>
    obtain ⟨k, v⟩ := e
    simp only [flashErase, memGet, List.filter] at ih ⊢
    by_cases hk : k < a ∨ b ≤ k
    · have hd : (decide (k < a) || decide (b ≤ k)) = true := by simpa using hk
      simp only [hd, Tbl.get]
      by_cases hc : c = k
      · subst hc
        rw [if_pos rfl, if_neg (by omega), if_pos rfl]
      · rw [if_neg hc, if_neg hc, ih]
    · have hd : (decide (k < a) || decide (b ≤ k)) = false := by simpa using hk
      simp only [hd, Tbl.get]
      rw [ih]
      by_cases hc : c = k
      · subst hc
        rw [if_pos (by omega), if_pos (by omega)]
      · simp only [if_neg hc]

theorem flashProgram_wf (m : List Host.Cell) (a : Nat) (l : List Byte) (h : Memory.wf erasedByte m = true) :
    Memory.wf erasedByte (flashProgram m a l) = true := memPut_wf erasedByte l a m h

/-! ### Block memory -/

theorem blkPut_wf (m : List Host.Cell) (mem row i : Nat) (v : Word) (h : Memory.wf 0 m = true) : Memory.wf 0 (blkPut m mem row i v) = true := by
  unfold blkPut
  split
  · exact memSet_wf 0 m _ _ h
  · exact memPut_wf 0 _ _ m h

/-- What a port writes keeps the memory canonical (R288). -/
theorem blkWrite_wf (c : List Host.Cell) (m asp : Nat) (r : BlkReq) (h : Memory.wf 0 c = true) : Memory.wf 0 (blkWrite c m asp r) = true := by
  simp only [blkWrite]
  split
  · exact h
  · exact memPut_wf 0 _ _ c h

/-- The block memory of a shaft after the rows of a BLOCK_MEMORY part. -/
theorem loadBlocks_wf (s : State) (n : Shaft) (w : List RecWrite) (h : Memory.wf 0 (s.sh n).blk = true) :
    Memory.wf 0 ((s.loadBlocks n w).sh n).blk = true := by
  have key : ∀ (w : List RecWrite) (m : List Host.Cell), Memory.wf 0 m = true →
      Memory.wf 0 (w.foldl (fun (m : List Host.Cell) x => match x with
        | .frame .. => m
        | .row mem row y => memPut 0 y (blkByte mem row 0) m) m) = true := by
    intro w
    induction w with
    | nil => intro m h; exact h
    | cons x w ih =>
      intro m h
      cases x with
      | frame => exact ih m h
      | row mem row y => exact ih _ (memPut_wf 0 y _ m h)
  simp only [State.loadBlocks, State.updSh, State.sh, Oct.get_upd_same]
  exact key w _ h

/-! ### Reset -/

theorem reset_flash_wf : Memory.wf erasedByte State.reset.flash = true := rfl

theorem reset_blk_wf (n : Shaft) : Memory.wf 0 (State.reset.sh n).blk = true := by
  simp [State.reset, State.sh, ShaftSt.reset, Tbl.wf]

end Sys2Proof.Machine
end

