-- ==== Sys2Proof/Laws/State.lean ====
section
/-! SUPPORT. Laws of the State: what each named write leaves alone, one lemma per field, and what is read after it. No later proof
unfolds a record update. -/

namespace Sys2Proof.Machine

/-! ### Fields a write leaves alone -/

section
variable (s : State)

@[simp] theorem State.setF_pending (f : Fld) (sc e v : Nat) : (s.setF f sc e v).pending = s.pending := rfl
@[simp] theorem State.setF_shafts (f : Fld) (sc e v : Nat) : (s.setF f sc e v).shafts = s.shafts := rfl
@[simp] theorem State.setF_up (f : Fld) (sc e v : Nat) : (s.setF f sc e v).up = s.up := rfl
@[simp] theorem State.setF_fab (f : Fld) (sc e v : Nat) : (s.setF f sc e v).fab = s.fab := rfl
@[simp] theorem State.setF_frac (f : Fld) (sc e v : Nat) : (s.setF f sc e v).frac = s.frac := rfl
@[simp] theorem State.setF_slew (f : Fld) (sc e v : Nat) : (s.setF f sc e v).slew = s.slew := rfl
@[simp] theorem State.setF_log (f : Fld) (sc e v : Nat) : (s.setF f sc e v).log = s.log := rfl
@[simp] theorem State.setF_seq (f : Fld) (sc e v : Nat) : (s.setF f sc e v).seq = s.seq := rfl
@[simp] theorem State.setF_dropped (f : Fld) (sc e v : Nat) : (s.setF f sc e v).dropped = s.dropped := rfl
@[simp] theorem State.setF_cage (f : Fld) (sc e v : Nat) : (s.setF f sc e v).cage = s.cage := rfl
@[simp] theorem State.setF_resetsDue (f : Fld) (sc e v : Nat) : (s.setF f sc e v).resetsDue = s.resetsDue := rfl
@[simp] theorem State.setF_limits (f : Fld) (sc e v : Nat) : (s.setF f sc e v).limits = s.limits := rfl
@[simp] theorem State.setF_returning (f : Fld) (sc e v : Nat) : (s.setF f sc e v).returning = s.returning := rfl
@[simp] theorem State.setF_flash (f : Fld) (sc e v : Nat) : (s.setF f sc e v).flash = s.flash := rfl
@[simp] theorem State.setF_wbuf (f : Fld) (sc e v : Nat) : (s.setF f sc e v).wbuf = s.wbuf := rfl
@[simp] theorem State.setF_erased (f : Fld) (sc e v : Nat) : (s.setF f sc e v).erased = s.erased := rfl
@[simp] theorem State.setF_armOpen (f : Fld) (sc e v : Nat) : (s.setF f sc e v).armOpen = s.armOpen := rfl
@[simp] theorem State.setF_act (f : Fld) (sc e v : Nat) : (s.setF f sc e v).act = s.act := rfl
@[simp] theorem State.setF_canary (f : Fld) (sc e v : Nat) : (s.setF f sc e v).canary = s.canary := rfl
@[simp] theorem State.setF_pointerDue (f : Fld) (sc e v : Nat) : (s.setF f sc e v).pointerDue = s.pointerDue := rfl
@[simp] theorem State.setF_setJob (f : Fld) (sc e v : Nat) : (s.setF f sc e v).setJob = s.setJob := rfl
@[simp] theorem State.setF_foreUp (f : Fld) (sc e v : Nat) : (s.setF f sc e v).foreUp = s.foreUp := rfl
@[simp] theorem State.setF_foreCause (f : Fld) (sc e v : Nat) : (s.setF f sc e v).foreCause = s.foreCause := rfl
@[simp] theorem State.setF_foreAt (f : Fld) (sc e v : Nat) : (s.setF f sc e v).foreAt = s.foreAt := rfl
@[simp] theorem State.setF_foreDropped (f : Fld) (sc e v : Nat) : (s.setF f sc e v).foreDropped = s.foreDropped := rfl
@[simp] theorem State.setF_foreIn (f : Fld) (sc e v : Nat) : (s.setF f sc e v).foreIn = s.foreIn := rfl
@[simp] theorem State.setF_rails (f : Fld) (sc e v : Nat) : (s.setF f sc e v).rails = s.rails := rfl
@[simp] theorem State.setF_resetN (f : Fld) (sc e v : Nat) : (s.setF f sc e v).resetN = s.resetN := rfl
@[simp] theorem State.setF_refsel (f : Fld) (sc e v : Nat) : (s.setF f sc e v).refsel = s.refsel := rfl
@[simp] theorem State.setF_por (f : Fld) (sc e v : Nat) : (s.setF f sc e v).por = s.por := rfl
@[simp] theorem State.setF_goodSince (f : Fld) (sc e v : Nat) : (s.setF f sc e v).goodSince = s.goodSince := rfl
@[simp] theorem State.setF_refLostAt (f : Fld) (sc e v : Nat) : (s.setF f sc e v).refLostAt = s.refLostAt := rfl
@[simp] theorem State.setF_refFrom (f : Fld) (sc e v : Nat) : (s.setF f sc e v).refFrom = s.refFrom := rfl
@[simp] theorem State.setF_refBackDue (f : Fld) (sc e v : Nat) : (s.setF f sc e v).refBackDue = s.refBackDue := rfl
@[simp] theorem State.setF_everTrained (f : Fld) (sc e v : Nat) : (s.setF f sc e v).everTrained = s.everTrained := rfl
@[simp] theorem State.setF_offsets (f : Fld) (sc e v : Nat) : (s.setF f sc e v).offsets = s.offsets := rfl
@[simp] theorem State.setF_timeSent (f : Fld) (sc e v : Nat) : (s.setF f sc e v).timeSent = s.timeSent := rfl
@[simp] theorem State.setF_timeSentAt (f : Fld) (sc e v : Nat) : (s.setF f sc e v).timeSentAt = s.timeSentAt := rfl
@[simp] theorem State.setF_timeReplyAt (f : Fld) (sc e v : Nat) : (s.setF f sc e v).timeReplyAt = s.timeReplyAt := rfl
@[simp] theorem State.setF_timeOffset (f : Fld) (sc e v : Nat) : (s.setF f sc e v).timeOffset = s.timeOffset := rfl
@[simp] theorem State.setF_lowerAt (f : Fld) (sc e v : Nat) : (s.setF f sc e v).lowerAt = s.lowerAt := rfl
@[simp] theorem State.setF_station48 (f : Fld) (sc e v : Nat) : (s.setF f sc e v).station48 = s.station48 := rfl
@[simp] theorem State.setF_throttledAt (f : Fld) (sc e v : Nat) : (s.setF f sc e v).throttledAt = s.throttledAt := rfl
@[simp] theorem State.setF_boot (f : Fld) (sc e v : Nat) : (s.setF f sc e v).boot = s.boot := rfl
@[simp] theorem State.setF_freeCtr (f : Fld) (sc e v : Nat) : (s.setF f sc e v).freeCtr = s.freeCtr := rfl

end

section
variable (s : State)

@[simp] theorem State.addF_pending (f : Fld) (sc e k : Nat) : (s.addF f sc e k).pending = s.pending := rfl
@[simp] theorem State.addF_shafts (f : Fld) (sc e k : Nat) : (s.addF f sc e k).shafts = s.shafts := rfl
@[simp] theorem State.addF_up (f : Fld) (sc e k : Nat) : (s.addF f sc e k).up = s.up := rfl
@[simp] theorem State.addF_fab (f : Fld) (sc e k : Nat) : (s.addF f sc e k).fab = s.fab := rfl
@[simp] theorem State.addF_frac (f : Fld) (sc e k : Nat) : (s.addF f sc e k).frac = s.frac := rfl
@[simp] theorem State.addF_slew (f : Fld) (sc e k : Nat) : (s.addF f sc e k).slew = s.slew := rfl
@[simp] theorem State.addF_log (f : Fld) (sc e k : Nat) : (s.addF f sc e k).log = s.log := rfl
@[simp] theorem State.addF_seq (f : Fld) (sc e k : Nat) : (s.addF f sc e k).seq = s.seq := rfl
@[simp] theorem State.addF_dropped (f : Fld) (sc e k : Nat) : (s.addF f sc e k).dropped = s.dropped := rfl
@[simp] theorem State.addF_cage (f : Fld) (sc e k : Nat) : (s.addF f sc e k).cage = s.cage := rfl
@[simp] theorem State.addF_resetsDue (f : Fld) (sc e k : Nat) : (s.addF f sc e k).resetsDue = s.resetsDue := rfl
@[simp] theorem State.addF_limits (f : Fld) (sc e k : Nat) : (s.addF f sc e k).limits = s.limits := rfl
@[simp] theorem State.addF_returning (f : Fld) (sc e k : Nat) : (s.addF f sc e k).returning = s.returning := rfl
@[simp] theorem State.addF_flash (f : Fld) (sc e k : Nat) : (s.addF f sc e k).flash = s.flash := rfl
@[simp] theorem State.addF_wbuf (f : Fld) (sc e k : Nat) : (s.addF f sc e k).wbuf = s.wbuf := rfl
@[simp] theorem State.addF_erased (f : Fld) (sc e k : Nat) : (s.addF f sc e k).erased = s.erased := rfl
@[simp] theorem State.addF_armOpen (f : Fld) (sc e k : Nat) : (s.addF f sc e k).armOpen = s.armOpen := rfl
@[simp] theorem State.addF_act (f : Fld) (sc e k : Nat) : (s.addF f sc e k).act = s.act := rfl
@[simp] theorem State.addF_canary (f : Fld) (sc e k : Nat) : (s.addF f sc e k).canary = s.canary := rfl
@[simp] theorem State.addF_pointerDue (f : Fld) (sc e k : Nat) : (s.addF f sc e k).pointerDue = s.pointerDue := rfl
@[simp] theorem State.addF_setJob (f : Fld) (sc e k : Nat) : (s.addF f sc e k).setJob = s.setJob := rfl
@[simp] theorem State.addF_foreUp (f : Fld) (sc e k : Nat) : (s.addF f sc e k).foreUp = s.foreUp := rfl
@[simp] theorem State.addF_foreCause (f : Fld) (sc e k : Nat) : (s.addF f sc e k).foreCause = s.foreCause := rfl
@[simp] theorem State.addF_foreAt (f : Fld) (sc e k : Nat) : (s.addF f sc e k).foreAt = s.foreAt := rfl
@[simp] theorem State.addF_foreDropped (f : Fld) (sc e k : Nat) : (s.addF f sc e k).foreDropped = s.foreDropped := rfl
@[simp] theorem State.addF_foreIn (f : Fld) (sc e k : Nat) : (s.addF f sc e k).foreIn = s.foreIn := rfl
@[simp] theorem State.addF_rails (f : Fld) (sc e k : Nat) : (s.addF f sc e k).rails = s.rails := rfl
@[simp] theorem State.addF_resetN (f : Fld) (sc e k : Nat) : (s.addF f sc e k).resetN = s.resetN := rfl
@[simp] theorem State.addF_refsel (f : Fld) (sc e k : Nat) : (s.addF f sc e k).refsel = s.refsel := rfl
@[simp] theorem State.addF_por (f : Fld) (sc e k : Nat) : (s.addF f sc e k).por = s.por := rfl
@[simp] theorem State.addF_goodSince (f : Fld) (sc e k : Nat) : (s.addF f sc e k).goodSince = s.goodSince := rfl
@[simp] theorem State.addF_refLostAt (f : Fld) (sc e k : Nat) : (s.addF f sc e k).refLostAt = s.refLostAt := rfl
@[simp] theorem State.addF_refFrom (f : Fld) (sc e k : Nat) : (s.addF f sc e k).refFrom = s.refFrom := rfl
@[simp] theorem State.addF_refBackDue (f : Fld) (sc e k : Nat) : (s.addF f sc e k).refBackDue = s.refBackDue := rfl
@[simp] theorem State.addF_everTrained (f : Fld) (sc e k : Nat) : (s.addF f sc e k).everTrained = s.everTrained := rfl
@[simp] theorem State.addF_offsets (f : Fld) (sc e k : Nat) : (s.addF f sc e k).offsets = s.offsets := rfl
@[simp] theorem State.addF_timeSent (f : Fld) (sc e k : Nat) : (s.addF f sc e k).timeSent = s.timeSent := rfl
@[simp] theorem State.addF_timeSentAt (f : Fld) (sc e k : Nat) : (s.addF f sc e k).timeSentAt = s.timeSentAt := rfl
@[simp] theorem State.addF_timeReplyAt (f : Fld) (sc e k : Nat) : (s.addF f sc e k).timeReplyAt = s.timeReplyAt := rfl
@[simp] theorem State.addF_timeOffset (f : Fld) (sc e k : Nat) : (s.addF f sc e k).timeOffset = s.timeOffset := rfl
@[simp] theorem State.addF_lowerAt (f : Fld) (sc e k : Nat) : (s.addF f sc e k).lowerAt = s.lowerAt := rfl
@[simp] theorem State.addF_station48 (f : Fld) (sc e k : Nat) : (s.addF f sc e k).station48 = s.station48 := rfl
@[simp] theorem State.addF_throttledAt (f : Fld) (sc e k : Nat) : (s.addF f sc e k).throttledAt = s.throttledAt := rfl
@[simp] theorem State.addF_boot (f : Fld) (sc e k : Nat) : (s.addF f sc e k).boot = s.boot := rfl
@[simp] theorem State.addF_freeCtr (f : Fld) (sc e k : Nat) : (s.addF f sc e k).freeCtr = s.freeCtr := rfl

end

section
variable (s : State)

@[simp] theorem State.updSh_pending (n : Shaft) (f : ShaftSt → ShaftSt) : (s.updSh n f).pending = s.pending := rfl
@[simp] theorem State.updSh_regs (n : Shaft) (f : ShaftSt → ShaftSt) : (s.updSh n f).regs = s.regs := rfl
@[simp] theorem State.updSh_up (n : Shaft) (f : ShaftSt → ShaftSt) : (s.updSh n f).up = s.up := rfl
@[simp] theorem State.updSh_fab (n : Shaft) (f : ShaftSt → ShaftSt) : (s.updSh n f).fab = s.fab := rfl
@[simp] theorem State.updSh_frac (n : Shaft) (f : ShaftSt → ShaftSt) : (s.updSh n f).frac = s.frac := rfl
@[simp] theorem State.updSh_slew (n : Shaft) (f : ShaftSt → ShaftSt) : (s.updSh n f).slew = s.slew := rfl
@[simp] theorem State.updSh_log (n : Shaft) (f : ShaftSt → ShaftSt) : (s.updSh n f).log = s.log := rfl
@[simp] theorem State.updSh_seq (n : Shaft) (f : ShaftSt → ShaftSt) : (s.updSh n f).seq = s.seq := rfl
@[simp] theorem State.updSh_dropped (n : Shaft) (f : ShaftSt → ShaftSt) : (s.updSh n f).dropped = s.dropped := rfl
@[simp] theorem State.updSh_cage (n : Shaft) (f : ShaftSt → ShaftSt) : (s.updSh n f).cage = s.cage := rfl
@[simp] theorem State.updSh_resetsDue (n : Shaft) (f : ShaftSt → ShaftSt) : (s.updSh n f).resetsDue = s.resetsDue := rfl
@[simp] theorem State.updSh_limits (n : Shaft) (f : ShaftSt → ShaftSt) : (s.updSh n f).limits = s.limits := rfl
@[simp] theorem State.updSh_returning (n : Shaft) (f : ShaftSt → ShaftSt) : (s.updSh n f).returning = s.returning := rfl
@[simp] theorem State.updSh_flash (n : Shaft) (f : ShaftSt → ShaftSt) : (s.updSh n f).flash = s.flash := rfl
@[simp] theorem State.updSh_wbuf (n : Shaft) (f : ShaftSt → ShaftSt) : (s.updSh n f).wbuf = s.wbuf := rfl
@[simp] theorem State.updSh_erased (n : Shaft) (f : ShaftSt → ShaftSt) : (s.updSh n f).erased = s.erased := rfl
@[simp] theorem State.updSh_armOpen (n : Shaft) (f : ShaftSt → ShaftSt) : (s.updSh n f).armOpen = s.armOpen := rfl
@[simp] theorem State.updSh_act (n : Shaft) (f : ShaftSt → ShaftSt) : (s.updSh n f).act = s.act := rfl
@[simp] theorem State.updSh_canary (n : Shaft) (f : ShaftSt → ShaftSt) : (s.updSh n f).canary = s.canary := rfl
@[simp] theorem State.updSh_pointerDue (n : Shaft) (f : ShaftSt → ShaftSt) : (s.updSh n f).pointerDue = s.pointerDue := rfl
@[simp] theorem State.updSh_setJob (n : Shaft) (f : ShaftSt → ShaftSt) : (s.updSh n f).setJob = s.setJob := rfl
@[simp] theorem State.updSh_foreUp (n : Shaft) (f : ShaftSt → ShaftSt) : (s.updSh n f).foreUp = s.foreUp := rfl
@[simp] theorem State.updSh_foreCause (n : Shaft) (f : ShaftSt → ShaftSt) : (s.updSh n f).foreCause = s.foreCause := rfl
@[simp] theorem State.updSh_foreAt (n : Shaft) (f : ShaftSt → ShaftSt) : (s.updSh n f).foreAt = s.foreAt := rfl
@[simp] theorem State.updSh_foreDropped (n : Shaft) (f : ShaftSt → ShaftSt) : (s.updSh n f).foreDropped = s.foreDropped := rfl
@[simp] theorem State.updSh_foreIn (n : Shaft) (f : ShaftSt → ShaftSt) : (s.updSh n f).foreIn = s.foreIn := rfl
@[simp] theorem State.updSh_rails (n : Shaft) (f : ShaftSt → ShaftSt) : (s.updSh n f).rails = s.rails := rfl
@[simp] theorem State.updSh_resetN (n : Shaft) (f : ShaftSt → ShaftSt) : (s.updSh n f).resetN = s.resetN := rfl
@[simp] theorem State.updSh_refsel (n : Shaft) (f : ShaftSt → ShaftSt) : (s.updSh n f).refsel = s.refsel := rfl
@[simp] theorem State.updSh_por (n : Shaft) (f : ShaftSt → ShaftSt) : (s.updSh n f).por = s.por := rfl
@[simp] theorem State.updSh_goodSince (n : Shaft) (f : ShaftSt → ShaftSt) : (s.updSh n f).goodSince = s.goodSince := rfl
@[simp] theorem State.updSh_refLostAt (n : Shaft) (f : ShaftSt → ShaftSt) : (s.updSh n f).refLostAt = s.refLostAt := rfl
@[simp] theorem State.updSh_refFrom (n : Shaft) (f : ShaftSt → ShaftSt) : (s.updSh n f).refFrom = s.refFrom := rfl
@[simp] theorem State.updSh_refBackDue (n : Shaft) (f : ShaftSt → ShaftSt) : (s.updSh n f).refBackDue = s.refBackDue := rfl
@[simp] theorem State.updSh_everTrained (n : Shaft) (f : ShaftSt → ShaftSt) : (s.updSh n f).everTrained = s.everTrained := rfl
@[simp] theorem State.updSh_offsets (n : Shaft) (f : ShaftSt → ShaftSt) : (s.updSh n f).offsets = s.offsets := rfl
@[simp] theorem State.updSh_timeSent (n : Shaft) (f : ShaftSt → ShaftSt) : (s.updSh n f).timeSent = s.timeSent := rfl
@[simp] theorem State.updSh_timeSentAt (n : Shaft) (f : ShaftSt → ShaftSt) : (s.updSh n f).timeSentAt = s.timeSentAt := rfl
@[simp] theorem State.updSh_timeReplyAt (n : Shaft) (f : ShaftSt → ShaftSt) : (s.updSh n f).timeReplyAt = s.timeReplyAt := rfl
@[simp] theorem State.updSh_timeOffset (n : Shaft) (f : ShaftSt → ShaftSt) : (s.updSh n f).timeOffset = s.timeOffset := rfl
@[simp] theorem State.updSh_lowerAt (n : Shaft) (f : ShaftSt → ShaftSt) : (s.updSh n f).lowerAt = s.lowerAt := rfl
@[simp] theorem State.updSh_station48 (n : Shaft) (f : ShaftSt → ShaftSt) : (s.updSh n f).station48 = s.station48 := rfl
@[simp] theorem State.updSh_throttledAt (n : Shaft) (f : ShaftSt → ShaftSt) : (s.updSh n f).throttledAt = s.throttledAt := rfl
@[simp] theorem State.updSh_boot (n : Shaft) (f : ShaftSt → ShaftSt) : (s.updSh n f).boot = s.boot := rfl
@[simp] theorem State.updSh_freeCtr (n : Shaft) (f : ShaftSt → ShaftSt) : (s.updSh n f).freeCtr = s.freeCtr := rfl

end

section
variable (s : State)

@[simp] theorem State.free_pending  : (s.free.2).pending = s.pending := rfl
@[simp] theorem State.free_regs  : (s.free.2).regs = s.regs := rfl
@[simp] theorem State.free_shafts  : (s.free.2).shafts = s.shafts := rfl
@[simp] theorem State.free_up  : (s.free.2).up = s.up := rfl
@[simp] theorem State.free_fab  : (s.free.2).fab = s.fab := rfl
@[simp] theorem State.free_frac  : (s.free.2).frac = s.frac := rfl
@[simp] theorem State.free_slew  : (s.free.2).slew = s.slew := rfl
@[simp] theorem State.free_log  : (s.free.2).log = s.log := rfl
@[simp] theorem State.free_seq  : (s.free.2).seq = s.seq := rfl
@[simp] theorem State.free_dropped  : (s.free.2).dropped = s.dropped := rfl
@[simp] theorem State.free_cage  : (s.free.2).cage = s.cage := rfl
@[simp] theorem State.free_resetsDue  : (s.free.2).resetsDue = s.resetsDue := rfl
@[simp] theorem State.free_limits  : (s.free.2).limits = s.limits := rfl
@[simp] theorem State.free_returning  : (s.free.2).returning = s.returning := rfl
@[simp] theorem State.free_flash  : (s.free.2).flash = s.flash := rfl
@[simp] theorem State.free_wbuf  : (s.free.2).wbuf = s.wbuf := rfl
@[simp] theorem State.free_erased  : (s.free.2).erased = s.erased := rfl
@[simp] theorem State.free_armOpen  : (s.free.2).armOpen = s.armOpen := rfl
@[simp] theorem State.free_act  : (s.free.2).act = s.act := rfl
@[simp] theorem State.free_canary  : (s.free.2).canary = s.canary := rfl
@[simp] theorem State.free_pointerDue  : (s.free.2).pointerDue = s.pointerDue := rfl
@[simp] theorem State.free_setJob  : (s.free.2).setJob = s.setJob := rfl
@[simp] theorem State.free_foreUp  : (s.free.2).foreUp = s.foreUp := rfl
@[simp] theorem State.free_foreCause  : (s.free.2).foreCause = s.foreCause := rfl
@[simp] theorem State.free_foreAt  : (s.free.2).foreAt = s.foreAt := rfl
@[simp] theorem State.free_foreDropped  : (s.free.2).foreDropped = s.foreDropped := rfl
@[simp] theorem State.free_foreIn  : (s.free.2).foreIn = s.foreIn := rfl
@[simp] theorem State.free_rails  : (s.free.2).rails = s.rails := rfl
@[simp] theorem State.free_resetN  : (s.free.2).resetN = s.resetN := rfl
@[simp] theorem State.free_refsel  : (s.free.2).refsel = s.refsel := rfl
@[simp] theorem State.free_por  : (s.free.2).por = s.por := rfl
@[simp] theorem State.free_goodSince  : (s.free.2).goodSince = s.goodSince := rfl
@[simp] theorem State.free_refLostAt  : (s.free.2).refLostAt = s.refLostAt := rfl
@[simp] theorem State.free_refFrom  : (s.free.2).refFrom = s.refFrom := rfl
@[simp] theorem State.free_refBackDue  : (s.free.2).refBackDue = s.refBackDue := rfl
@[simp] theorem State.free_everTrained  : (s.free.2).everTrained = s.everTrained := rfl
@[simp] theorem State.free_offsets  : (s.free.2).offsets = s.offsets := rfl
@[simp] theorem State.free_timeSent  : (s.free.2).timeSent = s.timeSent := rfl
@[simp] theorem State.free_timeSentAt  : (s.free.2).timeSentAt = s.timeSentAt := rfl
@[simp] theorem State.free_timeReplyAt  : (s.free.2).timeReplyAt = s.timeReplyAt := rfl
@[simp] theorem State.free_timeOffset  : (s.free.2).timeOffset = s.timeOffset := rfl
@[simp] theorem State.free_lowerAt  : (s.free.2).lowerAt = s.lowerAt := rfl
@[simp] theorem State.free_station48  : (s.free.2).station48 = s.station48 := rfl
@[simp] theorem State.free_throttledAt  : (s.free.2).throttledAt = s.throttledAt := rfl
@[simp] theorem State.free_boot  : (s.free.2).boot = s.boot := rfl

end

section
variable (s : State)

@[simp] theorem State.event_pending (c : BitVec 16) (v : BitVec 8) (src unit : Nat) (d : BitVec 96) : (s.event c v src unit d).pending = s.pending := by
  unfold State.event; split <;> rfl
@[simp] theorem State.event_shafts (c : BitVec 16) (v : BitVec 8) (src unit : Nat) (d : BitVec 96) : (s.event c v src unit d).shafts = s.shafts := by
  unfold State.event; split <;> rfl
@[simp] theorem State.event_up (c : BitVec 16) (v : BitVec 8) (src unit : Nat) (d : BitVec 96) : (s.event c v src unit d).up = s.up := by
  unfold State.event; split <;> rfl
@[simp] theorem State.event_fab (c : BitVec 16) (v : BitVec 8) (src unit : Nat) (d : BitVec 96) : (s.event c v src unit d).fab = s.fab := by
  unfold State.event; split <;> rfl
@[simp] theorem State.event_frac (c : BitVec 16) (v : BitVec 8) (src unit : Nat) (d : BitVec 96) : (s.event c v src unit d).frac = s.frac := by
  unfold State.event; split <;> rfl
@[simp] theorem State.event_slew (c : BitVec 16) (v : BitVec 8) (src unit : Nat) (d : BitVec 96) : (s.event c v src unit d).slew = s.slew := by
  unfold State.event; split <;> rfl
@[simp] theorem State.event_cage (c : BitVec 16) (v : BitVec 8) (src unit : Nat) (d : BitVec 96) : (s.event c v src unit d).cage = s.cage := by
  unfold State.event; split <;> rfl
@[simp] theorem State.event_resetsDue (c : BitVec 16) (v : BitVec 8) (src unit : Nat) (d : BitVec 96) : (s.event c v src unit d).resetsDue = s.resetsDue := by
  unfold State.event; split <;> rfl
@[simp] theorem State.event_limits (c : BitVec 16) (v : BitVec 8) (src unit : Nat) (d : BitVec 96) : (s.event c v src unit d).limits = s.limits := by
  unfold State.event; split <;> rfl
@[simp] theorem State.event_returning (c : BitVec 16) (v : BitVec 8) (src unit : Nat) (d : BitVec 96) : (s.event c v src unit d).returning = s.returning := by
  unfold State.event; split <;> rfl
@[simp] theorem State.event_flash (c : BitVec 16) (v : BitVec 8) (src unit : Nat) (d : BitVec 96) : (s.event c v src unit d).flash = s.flash := by
  unfold State.event; split <;> rfl
@[simp] theorem State.event_wbuf (c : BitVec 16) (v : BitVec 8) (src unit : Nat) (d : BitVec 96) : (s.event c v src unit d).wbuf = s.wbuf := by
  unfold State.event; split <;> rfl
@[simp] theorem State.event_erased (c : BitVec 16) (v : BitVec 8) (src unit : Nat) (d : BitVec 96) : (s.event c v src unit d).erased = s.erased := by
  unfold State.event; split <;> rfl
@[simp] theorem State.event_armOpen (c : BitVec 16) (v : BitVec 8) (src unit : Nat) (d : BitVec 96) : (s.event c v src unit d).armOpen = s.armOpen := by
  unfold State.event; split <;> rfl
@[simp] theorem State.event_act (c : BitVec 16) (v : BitVec 8) (src unit : Nat) (d : BitVec 96) : (s.event c v src unit d).act = s.act := by
  unfold State.event; split <;> rfl
@[simp] theorem State.event_canary (c : BitVec 16) (v : BitVec 8) (src unit : Nat) (d : BitVec 96) : (s.event c v src unit d).canary = s.canary := by
  unfold State.event; split <;> rfl
@[simp] theorem State.event_pointerDue (c : BitVec 16) (v : BitVec 8) (src unit : Nat) (d : BitVec 96) : (s.event c v src unit d).pointerDue = s.pointerDue := by
  unfold State.event; split <;> rfl
@[simp] theorem State.event_setJob (c : BitVec 16) (v : BitVec 8) (src unit : Nat) (d : BitVec 96) : (s.event c v src unit d).setJob = s.setJob := by
  unfold State.event; split <;> rfl
@[simp] theorem State.event_foreUp (c : BitVec 16) (v : BitVec 8) (src unit : Nat) (d : BitVec 96) : (s.event c v src unit d).foreUp = s.foreUp := by
  unfold State.event; split <;> rfl
@[simp] theorem State.event_foreCause (c : BitVec 16) (v : BitVec 8) (src unit : Nat) (d : BitVec 96) : (s.event c v src unit d).foreCause = s.foreCause := by
  unfold State.event; split <;> rfl
@[simp] theorem State.event_foreAt (c : BitVec 16) (v : BitVec 8) (src unit : Nat) (d : BitVec 96) : (s.event c v src unit d).foreAt = s.foreAt := by
  unfold State.event; split <;> rfl
@[simp] theorem State.event_foreDropped (c : BitVec 16) (v : BitVec 8) (src unit : Nat) (d : BitVec 96) : (s.event c v src unit d).foreDropped = s.foreDropped := by
  unfold State.event; split <;> rfl
@[simp] theorem State.event_foreIn (c : BitVec 16) (v : BitVec 8) (src unit : Nat) (d : BitVec 96) : (s.event c v src unit d).foreIn = s.foreIn := by
  unfold State.event; split <;> rfl
@[simp] theorem State.event_rails (c : BitVec 16) (v : BitVec 8) (src unit : Nat) (d : BitVec 96) : (s.event c v src unit d).rails = s.rails := by
  unfold State.event; split <;> rfl
@[simp] theorem State.event_resetN (c : BitVec 16) (v : BitVec 8) (src unit : Nat) (d : BitVec 96) : (s.event c v src unit d).resetN = s.resetN := by
  unfold State.event; split <;> rfl
@[simp] theorem State.event_refsel (c : BitVec 16) (v : BitVec 8) (src unit : Nat) (d : BitVec 96) : (s.event c v src unit d).refsel = s.refsel := by
  unfold State.event; split <;> rfl
@[simp] theorem State.event_por (c : BitVec 16) (v : BitVec 8) (src unit : Nat) (d : BitVec 96) : (s.event c v src unit d).por = s.por := by
  unfold State.event; split <;> rfl
@[simp] theorem State.event_goodSince (c : BitVec 16) (v : BitVec 8) (src unit : Nat) (d : BitVec 96) : (s.event c v src unit d).goodSince = s.goodSince := by
  unfold State.event; split <;> rfl
@[simp] theorem State.event_refLostAt (c : BitVec 16) (v : BitVec 8) (src unit : Nat) (d : BitVec 96) : (s.event c v src unit d).refLostAt = s.refLostAt := by
  unfold State.event; split <;> rfl
@[simp] theorem State.event_refFrom (c : BitVec 16) (v : BitVec 8) (src unit : Nat) (d : BitVec 96) : (s.event c v src unit d).refFrom = s.refFrom := by
  unfold State.event; split <;> rfl
@[simp] theorem State.event_refBackDue (c : BitVec 16) (v : BitVec 8) (src unit : Nat) (d : BitVec 96) : (s.event c v src unit d).refBackDue = s.refBackDue := by
  unfold State.event; split <;> rfl
@[simp] theorem State.event_everTrained (c : BitVec 16) (v : BitVec 8) (src unit : Nat) (d : BitVec 96) : (s.event c v src unit d).everTrained = s.everTrained := by
  unfold State.event; split <;> rfl
@[simp] theorem State.event_offsets (c : BitVec 16) (v : BitVec 8) (src unit : Nat) (d : BitVec 96) : (s.event c v src unit d).offsets = s.offsets := by
  unfold State.event; split <;> rfl
@[simp] theorem State.event_timeSent (c : BitVec 16) (v : BitVec 8) (src unit : Nat) (d : BitVec 96) : (s.event c v src unit d).timeSent = s.timeSent := by
  unfold State.event; split <;> rfl
@[simp] theorem State.event_timeSentAt (c : BitVec 16) (v : BitVec 8) (src unit : Nat) (d : BitVec 96) : (s.event c v src unit d).timeSentAt = s.timeSentAt := by
  unfold State.event; split <;> rfl
@[simp] theorem State.event_timeReplyAt (c : BitVec 16) (v : BitVec 8) (src unit : Nat) (d : BitVec 96) : (s.event c v src unit d).timeReplyAt = s.timeReplyAt := by
  unfold State.event; split <;> rfl
@[simp] theorem State.event_timeOffset (c : BitVec 16) (v : BitVec 8) (src unit : Nat) (d : BitVec 96) : (s.event c v src unit d).timeOffset = s.timeOffset := by
  unfold State.event; split <;> rfl
@[simp] theorem State.event_lowerAt (c : BitVec 16) (v : BitVec 8) (src unit : Nat) (d : BitVec 96) : (s.event c v src unit d).lowerAt = s.lowerAt := by
  unfold State.event; split <;> rfl
@[simp] theorem State.event_station48 (c : BitVec 16) (v : BitVec 8) (src unit : Nat) (d : BitVec 96) : (s.event c v src unit d).station48 = s.station48 := by
  unfold State.event; split <;> rfl
@[simp] theorem State.event_throttledAt (c : BitVec 16) (v : BitVec 8) (src unit : Nat) (d : BitVec 96) : (s.event c v src unit d).throttledAt = s.throttledAt := by
  unfold State.event; split <;> rfl
@[simp] theorem State.event_boot (c : BitVec 16) (v : BitVec 8) (src unit : Nat) (d : BitVec 96) : (s.event c v src unit d).boot = s.boot := by
  unfold State.event; split <;> rfl
@[simp] theorem State.event_freeCtr (c : BitVec 16) (v : BitVec 8) (src unit : Nat) (d : BitVec 96) : (s.event c v src unit d).freeCtr = s.freeCtr := by
  unfold State.event; split <;> rfl

end

/-! ### What is read after a write -/

theorem Fld.ctorIdx_lt (f : Fld) : f.ctorIdx < 512 := by
  cases f <;> decide

theorem Fld.eq_of_ctorIdx {f g : Fld} (h : f.ctorIdx = g.ctorIdx) : f = g := by
  rw [← Fld.ofNat_ctorIdx f, ← Fld.ofNat_ctorIdx g, h]

theorem Fld.key_inj {f g : Fld} {sc e sc' e' : Nat} (h1 : sc < 16) (h2 : sc' < 16) (h : f.key sc e = g.key sc' e') :
    f = g ∧ sc = sc' ∧ e = e' := by
  have hf := f.ctorIdx_lt
  have hg := g.ctorIdx_lt
  simp only [Fld.key] at h
  have h3 : f.ctorIdx = g.ctorIdx := by omega
  exact ⟨Fld.eq_of_ctorIdx h3, by omega, by omega⟩

@[simp] theorem State.getF_setF_same (s : State) (f : Fld) (sc e v : Nat) :
    (s.setF f sc e v).getF f sc e = v % 2 ^ f.desc.width := by
  simp [State.getF, State.setF]

/-- A write of one field leaves every other field alone, and the same field of every other element and window. -/
theorem State.getF_setF_other (s : State) {f g : Fld} {sc e sc' e' : Nat} (v : Nat) (h1 : sc < 16) (h2 : sc' < 16)
    (h : ¬(g = f ∧ sc' = sc ∧ e' = e)) : (s.setF f sc e v).getF g sc' e' = s.getF g sc' e' := by
  simp only [State.getF, State.setF]
  by_cases hk : g.key sc' e' = f.key sc e
  · exact absurd (Fld.key_inj h2 h1 hk) h
  · exact Tbl.get_set_other (g.reset sc' e') s.regs _ hk

@[simp] theorem State.setF_setF (s : State) (f : Fld) (sc e v w : Nat) : (s.setF f sc e v).setF f sc e w = s.setF f sc e w := by
  simp [State.setF]

@[simp] theorem State.getF_updSh (s : State) (n : Shaft) (f : ShaftSt → ShaftSt) (g : Fld) (sc e : Nat) :
    (s.updSh n f).getF g sc e = s.getF g sc e := rfl

@[simp] theorem State.reg_updSh (s : State) (n m : Shaft) (f : ShaftSt → ShaftSt) (g : Fld) (e : Nat) :
    (s.updSh n f).reg m g e = s.reg m g e := rfl

@[simp] theorem State.sh_updSh_same (s : State) (n : Shaft) (f : ShaftSt → ShaftSt) : (s.updSh n f).sh n = f (s.sh n) := by
  simp [State.sh, State.updSh]

theorem State.sh_updSh_other (s : State) {n m : Shaft} (f : ShaftSt → ShaftSt) (h : m ≠ n) : (s.updSh n f).sh m = s.sh m := by
  simpa [State.sh, State.updSh] using Oct.get_upd_other _ f h

@[simp] theorem State.updSh_updSh (s : State) (n : Shaft) (f g : ShaftSt → ShaftSt) :
    (s.updSh n f).updSh n g = s.updSh n (fun h => g (f h)) := by
  simp [State.updSh]

@[simp] theorem State.sh_setF (s : State) (f : Fld) (sc e v : Nat) (n : Shaft) : (s.setF f sc e v).sh n = s.sh n := rfl

@[simp] theorem State.sh_event (s : State) (c : BitVec 16) (v : BitVec 8) (src unit : Nat) (d : BitVec 96) (n : Shaft) :
    (s.event c v src unit d).sh n = s.sh n := by
  unfold State.event; split <;> rfl

theorem State.setF_updSh (s : State) (n : Shaft) (g : ShaftSt → ShaftSt) (f : Fld) (sc e v : Nat) :
    (s.updSh n g).setF f sc e v = (s.setF f sc e v).updSh n g := rfl

@[simp] theorem State.tally_updTally_same (s : State) (n : Shaft) (t : Nat) (f : Tally → Tally) :
    (s.updTally n t f).tally n t = f (s.tally n t) := by
  simp [State.tally, State.updTally]

@[simp] theorem State.updTally_updTally (s : State) (n : Shaft) (t : Nat) (f g : Tally → Tally) :
    (s.updTally n t f).updTally n t g = s.updTally n t (fun y => g (f y)) := by
  simp [State.updTally]

@[simp] theorem State.thread_updThread_same (s : State) (n : Shaft) (h t : Nat) (f : Thread → Thread) :
    (s.updThread n h t f).thread n h t = f (s.thread n h t) := by
  simp [State.thread, State.updThread]

@[simp] theorem State.updThread_updThread (s : State) (n : Shaft) (h t : Nat) (f g : Thread → Thread) :
    (s.updThread n h t f).updThread n h t g = s.updThread n h t (fun x => g (f x)) := by
  simp [State.updThread]

@[simp] theorem State.stope_updStope_same (s : State) (n : Shaft) (k : Nat) (f : Stope → Stope) :
    (s.updStope n k f).stope n k = f (s.stope n k) := by
  simp [State.stope, State.updStope]

@[simp] theorem State.queue_setQueue_same (s : State) (n : Shaft) (q : Nat) (d : QDesc) : (s.setQueue n q d).queue n q = d := by
  simp [State.queue, State.setQueue]

@[simp] theorem State.slot_setSlot_same (s : State) (n : Shaft) (i : Nat) (t : Tub) : (s.setSlot n i t).slot n i = t := by
  simp [State.slot, State.setSlot]

@[simp] theorem State.ptl_updPtl_same (s : State) (n : Shaft) (p : Portal) (f : PortalSt → PortalSt) :
    (s.updPtl n p f).ptl n p = f (s.ptl n p) := by
  simp [State.ptl, State.updPtl]

@[simp] theorem State.thread_updTally (s : State) (n : Shaft) (t : Nat) (f : Tally → Tally) (m : Shaft) (h k : Nat) :
    (s.updTally n t f).thread m h k = s.thread m h k := by
  by_cases hm : m = n
  · subst hm; simp [State.thread, State.updTally]
  · simp [State.thread, State.updTally, State.sh_updSh_other _ _ hm]

@[simp] theorem State.tally_updThread (s : State) (n : Shaft) (h t : Nat) (f : Thread → Thread) (m : Shaft) (k : Nat) :
    (s.updThread n h t f).tally m k = s.tally m k := by
  by_cases hm : m = n
  · subst hm; simp [State.tally, State.updThread]
  · simp [State.tally, State.updThread, State.sh_updSh_other _ _ hm]

/-! ### The event log -/

/-- R80: the log never holds more than 4,096 entries. -/
theorem State.event_log_length (s : State) (c : BitVec 16) (v : BitVec 8) (src unit : Nat) (d : BitVec 96)
    (h : s.log.length ≤ 4096) : (s.event c v src unit d).log.length ≤ 4096 := by
  unfold State.event
  split
  · exact h
  · simp only [List.length_append, List.length_singleton]; omega

/-- R82: what writing an event does when the log has room. -/
theorem State.event_room (s : State) (c : BitVec 16) (v : BitVec 8) (src unit : Nat) (d : BitVec 96) (h : s.log.length < 4096) :
    s.event c v src unit d =
      { s with
        log := s.log ++ [⟨s.fab, c, v, BitVec.ofNat 8 src, BitVec.ofNat 16 unit, s.seq, d, BitVec.ofNat 16 s.dropped⟩]
        seq := s.seq + 1
        dropped := 0 } := by
  unfold State.event
  exact if_neg (by omega)

end Sys2Proof.Machine
end

