-- ==== Sys2Proof/Laws/Regs.lean ====
section
/-! SUPPORT. More laws of the register fields: other fields after a write, counters after they have been raised, shafts' fields after a
write to the device-common window. -/

namespace Sys2Proof.Machine

/-- Another field reads as before, whatever the element. -/
theorem State.getF_setF_field (s : State) {f g : Fld} {sc e sc' e' : Nat} (v : Nat) (h : g ≠ f) : (s.setF f sc e v).getF g sc' e' = s.getF g sc' e' := by
  refine Tbl.get_set_other _ _ _ (fun k => h ?_)
  have a := f.ctorIdx_lt
  have b := g.ctorIdx_lt
  simp only [Fld.key] at k
  exact Fld.eq_of_ctorIdx (by omega)

/-- A counter field after it has been raised: it saturates (R14). -/
theorem State.getF_addF_same (s : State) (f : Fld) (sc e k : Nat) : (s.addF f sc e k).getF f sc e = min (s.getF f sc e + k) (2 ^ f.desc.width - 1) := by
  have h : 0 < 2 ^ f.desc.width := Nat.two_pow_pos _
  simp only [State.addF, State.getF_setF_same]
  exact Nat.mod_eq_of_lt (by omega)

theorem State.getF_addF_field (s : State) {f g : Fld} {sc e k sc' e' : Nat} (h : g ≠ f) : (s.addF f sc e k).getF g sc' e' = s.getF g sc' e' :=
  State.getF_setF_field s _ h

/-- A shaft's register after a write to a device-common field. -/
theorem State.reg_setF_dev (s : State) {f g : Fld} (n : Shaft) (e e' v : Nat) : (s.setF f 8 e v).reg n g e' = s.reg n g e' :=
  State.getF_setF_other s v (by omega) (by omega) (fun h => by omega)

end Sys2Proof.Machine
end

