-- ==== Sys2Proof/Laws/Events.lean ====
section
/-! SUPPORT. What shared operations keep: folds over lists, shafts and portals, events (R80 to R82), limited events, and flash cut short
(R463). -/

namespace Sys2Proof.Machine

/-- A fold keeps what each of its steps keeps. -/
theorem foldl_keeps {α β : Type} (P : β → Prop) (f : β → α → β) (hf : ∀ b a, P b → P (f b a)) (l : List α) (b : β) (h : P b) :
    P (l.foldl f b) := by
  induction l generalizing b with
  | nil => exact h
  | cons a t ih => exact ih (f b a) (hf b a h)

/-- What every step for one shaft keeps, the step for all of them keeps. -/
theorem State.eachShaft_keeps (P : State → Prop) (f : Shaft → State → State) (hf : ∀ n a, P a → P (f n a)) (s : State) (h : P s) :
    P (s.eachShaft f) := foldl_keeps P _ (fun a n => hf n a) _ s h

/-- What every step for one portal keeps, the step for all of them keeps. -/
theorem State.eachPortal_keeps (P : State → Prop) (f : Portal → State → State) (hf : ∀ p a, P a → P (f p a)) (s : State) (h : P s) :
    P (s.eachPortal f) := foldl_keeps P _ (fun a p => hf p a) _ s h

/-- R82: an event that finds the log full is counted and not written. -/
theorem State.event_full (s : State) (code : BitVec 16) (sev : BitVec 8) (src unit : Nat) (d : BitVec 96) (h : 4096 ≤ s.log.length) :
    s.event code sev src unit d = { s.addDev .EVL_STAT_DROPPED with dropped := min (s.dropped + 1) 0xFFFF } := by
  rw [State.event, if_pos h]

/-- An event changes no register field but the count of those dropped. -/
theorem State.event_getF (s : State) (code : BitVec 16) (sev : BitVec 8) (src unit : Nat) (d : BitVec 96) {g : Fld}
    (h : g ≠ .EVL_STAT_DROPPED) (sc e : Nat) : (s.event code sev src unit d).getF g sc e = s.getF g sc e := by
  by_cases hl : 4096 ≤ s.log.length
  · rw [State.event_full s code sev src unit d hl]; exact State.getF_addF_field s h
  · rw [State.event_room s code sev src unit d (by omega)]; rfl

/-- A limited event changes no register field but that count, written or not. -/
theorem State.limEvent_getF (s : State) (n : Shaft) (code : BitVec 16) (sev : BitVec 8) (unit : Nat) (d : Nat → BitVec 96) (key by_ : Nat)
    {g : Fld} (h : g ≠ .EVL_STAT_DROPPED) (sc e : Nat) : (s.limEvent n code sev unit d key by_).getF g sc e = s.getF g sc e := by
  simp only [State.limEvent]
  split
  · exact State.event_getF s code sev n.val unit _ h sc e
  · split
    · exact State.event_getF s code sev n.val unit _ h sc e
    · rfl

/-- R463: writing that is cut short leaves every byte outside its sectors as it was. -/
theorem State.memGet_cutFlash (s : State) (a : Nat) (h : a < s.sectorsNow.1 ∨ s.sectorsNow.1 + s.sectorsNow.2 ≤ a) :
    memGet erasedByte s.cutFlash.flash a = memGet erasedByte s.flash a := by
  simp only [State.cutFlash]
  split
  · rfl
  · exact memGet_memPut_other erasedByte _ _ a _ (by simpa using h)

/-- R463: it keeps the flash canonical. -/
theorem State.cutFlash_wf (s : State) (h : Memory.wf erasedByte s.flash = true) : Memory.wf erasedByte s.cutFlash.flash = true := by
  simp only [State.cutFlash]
  split
  · exact h
  · exact memPut_wf erasedByte _ _ _ h

/-- R463: so does each part of what a reset cuts short, and all of it together. -/
theorem State.spoil_wf (s : State) (a k : Nat) (h : Memory.wf erasedByte s.flash = true) : Memory.wf erasedByte (s.spoil a k).flash = true :=
  memPut_wf erasedByte _ _ _ h

theorem State.cutSetting_wf (s : State) (h : Memory.wf erasedByte s.flash = true) : Memory.wf erasedByte s.cutSetting.flash = true := by
  simp only [State.cutSetting]
  split
  · exact h
  · exact State.spoil_wf _ _ _ h
  · refine State.spoil_wf _ _ _ (foldl_keeps (fun a : State => Memory.wf erasedByte a.flash = true) _ ?_ _ _ h)
    intro a i ha
    split
    · exact flashErase_wf _ _ _ ha
    · exact ha

theorem State.cutPointer_wf (s : State) (h : Memory.wf erasedByte s.flash = true) : Memory.wf erasedByte s.cutPointer.flash = true := by
  simp only [State.cutPointer]
  split
  · exact h
  · split
    · exact State.spoil_wf _ _ _ h
    · exact h

theorem State.cutWrites_wf (s : State) (h : Memory.wf erasedByte s.flash = true) : Memory.wf erasedByte s.cutWrites.flash = true :=
  State.cutPointer_wf _ (State.cutSetting_wf _ (State.cutFlash_wf s h))

/-- R463: what is cut short in the subsectors from `a` on leaves every byte outside them as it was. -/
theorem State.memGet_spoil (s : State) (a k b : Nat) (h : b < a ∨ a + k ≤ b) :
    memGet erasedByte (s.spoil a k).flash b = memGet erasedByte s.flash b :=
  memGet_memPut_other erasedByte _ _ b _ (by simpa using h)

end Sys2Proof.Machine
end

