-- ==== Sys2Proof/Laws/Hewer.lean ====
section
/-! SUPPORT. Laws of a hewer's step: what a legal instruction that issues does, said once for all of them. -/

namespace Sys2Proof.Machine

/-- The step of thread `k` of hewer `h` that runs tally `t`. -/
def Hew.of (s : State) (n : Shaft) (h k t : Nat) (i : HewFields) : Hew := ⟨n, h, k, t, i, s.thread n h k, s.tally n t⟩

/-- An instruction that issues, is legal and meets no error is carried out. -/
theorem State.hewStep_run {s : State} {n : Shaft} {h k t : Nat} {op : BitVec 8} {i : HewFields} (hi : s.Issues n h k t op i)
    (f : Hew → Form) (hf : (f (Hew.of s n h k t i)).legal i = true) (body : Hew → State → HewRes) :
    s.hewStep n h k op i .clean f body =
      (Hew.of s n h k t i).finish s (i.word op) (body (Hew.of s n h k t i) s) := by
  obtain ⟨⟨h1, h2, h3⟩, h4⟩ := hi
  simp only [Hew.of] at hf ⊢
  have h5 : ¬ s.reg n .HWR_CFG_STEP_LIMIT ≤ (s.thread n h k).steps := by omega
  simp [State.hewStep, h2, h1, h3, Hew.run, StepCheck.clean, State.storeCheck, h5, hf]

/-- Going on from any address but the last. -/
theorem Hew.finish_go (c : Hew) (s a : State) (w : DWord) (h : c.x.pc ≠ 16383) :
    c.finish s w (.go a) = a.updThread c.n c.h c.k (fun x => { x with pc := c.x.pc + 1, steps := x.steps + 1 }) := by
  simp only [Hew.finish, if_neg h]

/-- A result written to the thread, and the step on. -/
theorem Hew.finish_put (c : Hew) (s : State) (w : DWord) (x : Thread) (h : c.x.pc ≠ 16383) (hx : x.pc = c.x.pc) :
    c.finish s w (.go (c.put s x)) = s.updThread c.n c.h c.k (fun _ => x.stepped) := by
  rw [Hew.finish_go _ _ _ _ h, Hew.put, State.updThread_updThread, Thread.stepped, hx]

/-- A jump. -/
theorem Hew.finish_jump (c : Hew) (s a : State) (w : DWord) (pc : BitVec 14) :
    c.finish s w (.jump a pc) = a.updThread c.n c.h c.k (fun x => x.jumped pc) := rfl

end Sys2Proof.Machine
end

