-- ==== Sys2Proof/WellFormed.lean ====
section
/-! DEFINITION. Which commands name a thing that exists: element numbers within the counts of R24 to R27, R197, R246, R301. -/

namespace Sys2Proof

/-- Every number the command carries names an existing unit. -/
def Instr.wf (i : Instr) : Bool :=
  match i with
  | .poll _ => true
  | .read _ => true
  | .write _ => true
  | .readFix _ => true
  | .writeFix _ => true
  | .eventRead _ => true
  | .timeSet _ => true
  | .updateStream _ => true
  | .resetCold _ => true
  | .resetShaft _ => true
  | .resetStope _ => true
  | .resetFore _ => true
  | .resetPortal _ => true
  | .selftestLodeBlock _ _ => true
  | .selftestHewer _ _ => true
  | .selftestStope _ _ => true
  | .selftestPlanSlot _ _ => true
  | .selftestLane _ _ => true
  | .selftestAbort _ => true
  | .selftestStatus _ _ => true
  | .replay _ => true
  | .replyCutShort => true
  | .hostSilent => true
  | .cageReady => true
  | .registerWrite _ _ => true
  | .rcRead _ => true
  | .timNowRead => true
  | .shfDeepOpen _ _ => true
  | .devDeepOpen _ => true
  | .lodeSliceReset _ _ => true
  | .aditSliceReset _ _ => true
  | .gateEnable sc _ => decide (sc < 9)
  | .gateDisable sc _ => decide (sc < 9)
  | .blockHalt sc _ => decide (sc < 9)
  | .blockReturn sc _ => decide (sc < 9)
  | .flitHop _ _ _ => true
  | .vlinkRetired _ v => decide (v < 16)
  | .pceStopeWrite _ k _ => decide (k < 128)
  | .pacerRampStep _ k tap => decide (k < 128) && decide (tap < 65536)
  | .pacerForced _ k => decide (k < 128)
  | .tempoPllUnlock _ => true
  | .tempoPllRelock _ => true
  | .refclkLost _ => true
  | .refclkBack => true
  | .laneQualified _ l => decide (l < 16)
  | .laneUnqualified _ l _ => decide (l < 16)
  | .adrift _ => true
  | .refReturn _ => true
  | .returnNow => true
  | .timeExchange => true
  | .timeRequestAnswer _ _ _ _ => true
  | .timeReply _ _ _ => true
  | .timeUnlocked => true
  | .flitReceive _ _ _ => true
  | .flitTransmit _ _ => true
  | .admission _ _ _ => true
  | .responseMatch _ _ => true
  | .layerAbsentExpiry _ => true
  | .tallyTimer _ t => decide (t < 32768)
  | .deadlineExpiry _ t => decide (t < 32768)
  | .tlyKill _ _ => true
  | .tallyAbandoned _ t => decide (t < 32768)
  | .dispatch _ _ => true
  | .resume _ => true
  | .hewAdd _ h t _ _ => decide (h < 52) && decide (t < 16)
  | .hewSub _ h t _ _ => decide (h < 52) && decide (t < 16)
  | .hewAnd _ h t _ _ => decide (h < 52) && decide (t < 16)
  | .hewOr _ h t _ _ => decide (h < 52) && decide (t < 16)
  | .hewXor _ h t _ _ => decide (h < 52) && decide (t < 16)
  | .hewShl _ h t _ _ => decide (h < 52) && decide (t < 16)
  | .hewShr _ h t _ _ => decide (h < 52) && decide (t < 16)
  | .hewSar _ h t _ _ => decide (h < 52) && decide (t < 16)
  | .hewMov _ h t _ _ => decide (h < 52) && decide (t < 16)
  | .hewMovh _ h t _ _ => decide (h < 52) && decide (t < 16)
  | .hewCmp _ h t _ _ => decide (h < 52) && decide (t < 16)
  | .hewSel _ h t _ _ => decide (h < 52) && decide (t < 16)
  | .hewPopc _ h t _ _ => decide (h < 52) && decide (t < 16)
  | .hewFfs _ h t _ _ => decide (h < 52) && decide (t < 16)
  | .hewExt _ h t _ _ => decide (h < 52) && decide (t < 16)
  | .hewIns _ h t _ _ => decide (h < 52) && decide (t < 16)
  | .hewBr _ h t _ _ => decide (h < 52) && decide (t < 16)
  | .hewBls _ h t _ _ => decide (h < 52) && decide (t < 16)
  | .hewBcnt _ h t _ _ => decide (h < 52) && decide (t < 16)
  | .hewJal _ h t _ _ => decide (h < 52) && decide (t < 16)
  | .hewJr _ h t _ _ => decide (h < 52) && decide (t < 16)
  | .hewTld _ h t _ _ => decide (h < 52) && decide (t < 16)
  | .hewTst _ h t _ _ => decide (h < 52) && decide (t < 16)
  | .hewRecv _ h t _ _ => decide (h < 52) && decide (t < 16)
  | .hewMput _ h t _ _ => decide (h < 52) && decide (t < 16)
  | .hewLookup _ h t _ _ _ => decide (h < 52) && decide (t < 16)
  | .hewSetst _ h t _ _ => decide (h < 52) && decide (t < 16)
  | .hewAddsh _ h t _ _ _ => decide (h < 52) && decide (t < 16)
  | .hewRemsh _ h t _ _ _ => decide (h < 52) && decide (t < 16)
  | .hewSetown _ h t _ _ _ => decide (h < 52) && decide (t < 16)
  | .hewEvict _ h t _ _ => decide (h < 52) && decide (t < 16)
  | .hewSend _ h t _ _ => decide (h < 52) && decide (t < 16)
  | .hewSnpx _ h t _ _ => decide (h < 52) && decide (t < 16)
  | .hewFwdd _ h t _ _ => decide (h < 52) && decide (t < 16)
  | .hewMrd _ h t _ _ => decide (h < 52) && decide (t < 16)
  | .hewMrds _ h t _ _ => decide (h < 52) && decide (t < 16)
  | .hewMwr _ h t _ _ => decide (h < 52) && decide (t < 16)
  | .hewWaitr _ h t _ _ => decide (h < 52) && decide (t < 16)
  | .hewWaitt _ h t _ _ => decide (h < 52) && decide (t < 16)
  | .hewSpst _ h t _ _ => decide (h < 52) && decide (t < 16)
  | .hewSpcf _ h t _ _ => decide (h < 52) && decide (t < 16)
  | .hewSpab _ h t _ _ => decide (h < 52) && decide (t < 16)
  | .hewQpush _ h t _ _ => decide (h < 52) && decide (t < 16)
  | .hewQpop _ h t _ _ => decide (h < 52) && decide (t < 16)
  | .hewQmark _ h t _ _ => decide (h < 52) && decide (t < 16)
  | .hewQrwnd _ h t _ _ => decide (h < 52) && decide (t < 16)
  | .hewCnt _ h t _ _ => decide (h < 52) && decide (t < 16)
  | .hewNop _ h t _ _ => decide (h < 52) && decide (t < 16)
  | .hewEnd _ h t _ _ => decide (h < 52) && decide (t < 16)
  | .transitDrained _ h t => decide (h < 52) && decide (t < 16)
  | .trapErrorAnswer _ t => decide (t < 32768)
  | .storePatrol _ c _ _ i _ => decide (c < 4) && decide (i < 16384)
  | .bankWrite _ _ _ i _ _ => decide (i < 16384)
  | .seal _ _ => true
  | .sealDone _ => true
  | .flip _ => true
  | .epochFree _ => true
  | .retire _ h _ => decide (h.toNat < 52)
  | .hwrRetired _ => true
  | .gateDecision _ _ => true
  | .stopeDeliver _ k _ => decide (k < 128)
  | .stopeInject _ k _ => decide (k < 128)
  | .clmLoad _ _ => true
  | .clmMap _ _ _ => true
  | .clmUnmap _ _ => true
  | .clmSweep _ _ => true
  | .sweepSetRead _ => true
  | .clmSweepDone _ => true
  | .recallOpen _ => true
  | .dirPatrol _ set _ => decide (set < 524288)
  | .queueLoad _ _ => true
  | .queueEmpty _ _ => true
  | .queueWm _ _ => true
  | .queueClear _ _ => true
  | .queueSlot _ q => decide (q < 131072)
  | .pushWaitEnd _ q => decide (q < 131072)
  | .deepRingReply _ _ _ _ => true
  | .hostPush _ _ _ => true
  | .hostPop _ _ => true
  | .hostMark _ _ => true
  | .hostUnmark _ _ => true
  | .hostRewind _ _ => true
  | .stopeContention _ k _ => decide (k < 128)
  | .preload _ _ _ => true
  | .preloadDone _ k _ => decide (k < 128)
  | .discard _ _ => true
  | .swapStope _ _ => true
  | .swapGang _ _ => true
  | .swapEdge _ _ => true
  | .readback _ _ _ _ => true
  | .scrubFrame _ _ _ => true
  | .scrubPatrol _ _ a w _ => decide (a < 1048576) && decide (w < 16)
  | .goldenRecoveryDone _ a => decide (a < 1048576)
  | .scrubberRestart _ _ _ => true
  | .portalEnable _ _ => true
  | .portalDisable _ _ => true
  | .trainingStep _ _ _ => true
  | .trainingFail _ _ _ => true
  | .backoffEnd _ _ => true
  | .laneSlip _ l _ => decide (l < 16)
  | .holdRelease _ _ => true
  | .widthHalve _ _ => true
  | .widthDouble _ _ => true
  | .recoveryTimeout _ _ => true
  | .linkDown _ _ => true
  | .linkDeferEnd _ _ => true
  | .imgOpen => true
  | .arm => true
  | .armDone => true
  | .activate => true
  | .cancel => true
  | .confirm => true
  | .stagingDone => true
  | .stagingLate => true
  | .foremanStart => true
  | .revertDone => true
  | .commit => true
  | .pointerBlockWrite => true
  | .settingAppend => true
  | .settingClear => true
  | .boot => true
  | .shaftBoot _ => true
  | .por _ => true
  | .porRelease _ => true
  | .governorUpdate _ => true
  | .dozeRequest _ => true
  | .dozeEnter _ => true
  | .dozeExit _ => true
  | .canarySample _ _ _ => true
  | .sensorSelfCheck _ _ => true
  | .sensorRearm _ _ => true
  | .orderlyStopEnd _ => true
  | .thermRestart _ => true
  | .coldHoldEnd _ => true
  | .coldReset _ _ => true
  | .shaftReset _ => true
  | .stopeReset _ k => decide (k < 128)
  | .portalReset _ _ => true
  | .foreRestart _ => true
  | .foremanReady => true
  | .sliceDrainEnd _ => true
  | .lodeClearDone _ => true
  | .sliceReset _ => true
  | .aditSliceDone _ => true
  | .hewerUnderTest _ => true
  | .bstDone _ _ _ => true
  | .flashProgramDone _ => true
  | .holdSet _ _ => true
  | .damagedHeaderFrame _ _ _ => true

end Sys2Proof
end

