-- ==== Sys2Proof/Tests/Slice0.lean ====
section
/-! SUPPORT. Small tests of the model: terms that WellFormed refuses; for every statement a concrete state and operands that meet the hypotheses of each of its
clauses (`witness_…`); and single steps checked against the spec's words (`test_…`). Conditions on an image that passes the signature checks of R375 have no concrete
witness: the checks are opaque values of the image (Config). -/

namespace Sys2Proof.Tests

open Sys2Proof Sys2Proof.Machine

set_option maxRecDepth 4000
set_option exponentiation.threshold 1100

/-! ### Well-formed commands -/

/-- A hewer instruction of no fields. -/
def noFields : HewFields := ⟨0, 0, false, false, 0, 0, 0⟩

/-- The hewer instructions with no further operand. -/
def hewers : List (Shaft → Nat → Nat → HewFields → StepCheck → Instr) :=
  [.hewAdd, .hewSub, .hewAnd, .hewOr, .hewXor, .hewShl, .hewShr, .hewSar, .hewMov, .hewMovh, .hewCmp, .hewSel, .hewPopc, .hewFfs, .hewExt, .hewIns, .hewBr,
   .hewBls, .hewBcnt, .hewJal, .hewJr, .hewTld, .hewTst, .hewRecv, .hewMput] ++
  [.hewSetst, .hewEvict, .hewSend, .hewSnpx, .hewFwdd, .hewMrd, .hewMrds, .hewMwr, .hewWaitr, .hewWaitt, .hewSpst, .hewSpcf, .hewSpab, .hewQpush, .hewQpop,
   .hewQmark, .hewQrwnd, .hewCnt, .hewNop, .hewEnd]

theorem test_wf_hewers : ∀ c ∈ hewers, (c 0 52 0 noFields .clean).wf = false ∧ (c 0 0 16 noFields .clean).wf = false ∧ (c 7 51 15 noFields .clean).wf = true := by
  decide

theorem test_wf_directory_hewers :
    ∀ c ∈ [Instr.hewLookup, .hewAddsh, .hewRemsh, .hewSetown], (c 0 52 0 noFields .clean .good).wf = false ∧ (c 0 0 16 noFields .clean .good).wf = false := by
  decide

theorem test_wf_refused : ∀ c ∈ [Instr.gateEnable 9 .TLY, .gateDisable 9 .TLY, .blockHalt 9 .TLY, .blockReturn 9 .TLY, .vlinkRetired 0 16, .pceStopeWrite 0 128 0,
    .pacerRampStep 0 128 0, .pacerRampStep 0 0 65536, .pacerForced 0 128, .laneQualified 0 16, .laneUnqualified 0 16 .lockLost, .tallyTimer 0 32768,
    .deadlineExpiry 0 32768, .tallyAbandoned 0 32768, .transitDrained 0 52 0, .transitDrained 0 0 16, .trapErrorAnswer 0 32768] ++
    [Instr.bankWrite 0 false .code 16384 false 0, .retire 0 52 false, .stopeDeliver 0 128 ⟨0, 0, 0, false⟩, .stopeInject 0 128 ⟨.qpop 0, false⟩, .dirPatrol 0 524288 [], .queueSlot 0 131072,
    .pushWaitEnd 0 131072, .stopeContention 0 128 0, .scrubPatrol 0 false 1048576 0 .good, .scrubPatrol 0 false 0 16 .good, .storePatrol 0 4 false .code 0 .good, .storePatrol 0 0 false .code 16384 .good, .preloadDone 0 128 none, .goldenRecoveryDone 0 1048576, .laneSlip 0 16 false, .stopeReset 0 128],
    c.wf = false := by decide

/-! ### Hewers -/

/-- After reset, thread 0 of hewer 0 of shaft 0 runs tally 0 on bank 0 and stands at the word of instruction `i` of opcode `op`. -/
def running (op : BitVec 8) (i : HewFields) (y : Tally := Tally.zero) (x : Thread := Thread.idle) : State :=
  State.reset.updSh 0 (fun h =>
    { h with
      threads := [(0, { x with tally := some 0 })], tallies := [(0, { y with st := .opn, run := some (0, 0) })]
      bank0 := { h.bank0 with code := [(x.pc.toNat, i.word op)] } })

/-- A thread whose W0 holds `v`. -/
def threadW0 (v : DWord) : Thread := { Thread.idle with w := [(0, v)] }

/-- A thread whose M is a tub of class `c`. -/
def threadM (c : BitVec 4) : Thread := { Thread.idle with m := { Tub.zero with cls := c } }

/-- A state in which the control word of template 0 of bank 0 is `w`. -/
def withControl (w : DWord) (s : State) : State := s.updSh 0 (fun h => { h with bank0 := { h.bank0 with control := [(0, w)] } })

/-- A field of no use but for IMM and X. -/
def fieldsOf (x : BitVec 10) (imm : BitVec 32) : HewFields := { noFields with x := x, imm := imm }

theorem witness_arithmetic :
    (∀ op ∈ ([0x01, 0x02, 0x03, 0x04, 0x05, 0x06, 0x07, 0x08, 0x0C] : List (BitVec 8)),
      (running op noFields).Steps 0 0 0 0 op noFields Form.dab) ∧
    (running 0x09 noFields).Steps 0 0 0 0 0x09 noFields { d := true, b := true, bi := true } ∧
    (∀ op ∈ ([0x0D, 0x0E] : List (BitVec 8)), (running op noFields).Steps 0 0 0 0 op noFields { d := true, a := true }) ∧
    (let i := { noFields with bi := true, imm := 0xFFFFFFFF };
      (running 0x0A i).Steps 0 0 0 0 0x0A i { d := true, bi := true, ok := i.bi }) ∧
    (running 0x0B (fieldsOf 9 0)).Steps 0 0 0 0 0x0B (fieldsOf 9 0) (Form.cmp (fieldsOf 9 0)) ∧
    (∀ op ∈ ([0x10, 0x11] : List (BitVec 8)), (running op (fieldsOf 0 0x4000)).Steps 0 0 0 0 op (fieldsOf 0 0x4000) (Form.field (fieldsOf 0 0x4000))) := by
  and_intros <;> decide

theorem witness_control_flow :
    (let s := running 0x18 noFields Tally.zero { Thread.idle with pc := 16383 };
      s.Issues 0 0 0 0 0x18 noFields ∧ (Form.branch 0xF).legal noFields = true ∧ (s.thread 0 0 0).pc = 16383) ∧
    (let s := running 0x18 (fieldsOf 1 0);
      s.Issues 0 0 0 0 0x18 (fieldsOf 1 0) ∧ (Form.branch 0xF).legal (fieldsOf 1 0) = true ∧ (s.thread 0 0 0).z = false ∧ (s.thread 0 0 0).pc ≠ 16383) ∧
    (let s := running 0x19 (fieldsOf 1 0);
      s.Issues 0 0 0 0 0x19 (fieldsOf 1 0) ∧ (Form.branch 0xF).legal (fieldsOf 1 0) = true ∧ (s.tally 0 0).prior = 0) ∧
    (let s := running 0x1A (fieldsOf 0x3FF 0);
      s.Issues 0 0 0 0 0x1A (fieldsOf 0x3FF 0) ∧ (Form.branch 0x3FF).legal (fieldsOf 0x3FF 0) = true ∧ (s.tally 0 0).pending ≤ 1023) ∧
    (let s := running 0x1B (fieldsOf 0 0x3FFF);
      s.Issues 0 0 0 0 0x1B (fieldsOf 0 0x3FFF) ∧ Form.legal { d := true, imm := 0x3FFF } (fieldsOf 0 0x3FFF) = true) ∧
    (let s := running 0x1C noFields Tally.zero (threadW0 16384);
      s.Issues 0 0 0 0 0x1C noFields ∧ Form.legal { a := true } noFields = true ∧ 16383 < ((s.thread 0 0 0).opA noFields).toNat) := by
  refine ⟨?_, ?_, ?_, ?_, ?_, ?_⟩ <;> decide

theorem witness_record_and_store :
    (let i := fieldsOf 2 42;
      (running 0x20 i).Steps 0 0 0 0 0x20 i { d := true, x := 3, imm := 0x7F }) ∧
    (let i := fieldsOf 3 120;
      (running 0x20 i).Steps 0 0 0 0 0x20 i { d := true, x := 3, imm := 0x7F }) ∧
    (let i := fieldsOf 0 7;
      (running 0x23 i).Steps 0 0 0 0 0x23 i { a := true, imm := 7 }) ∧
    (let i := fieldsOf 0 0;
      (running 0x22 i { Tally.zero with rcvd := [3] }).Steps 0 0 0 0 0x22 i { d := true, x := 0x10 }) ∧
    (let i := fieldsOf 0x12 0;
      let s := running 0x22 i { Tally.zero with rcvd := [3] };
      s.Steps 0 0 0 0 0x22 i { d := true, x := 0x1F } ∧ (s.slot 0 3).cls.toNat ≠ i.x.toNat % 16) ∧
    (running 0x21 (fieldsOf 2 112)).Steps 0 0 0 0 0x21 (fieldsOf 2 112) { a := true, x := 3, imm := 0x7F } ∧
    (running 0x21 (fieldsOf 2 42)).Steps 0 0 0 0 0x21 (fieldsOf 2 42) { a := true, x := 3, imm := 0x7F } ∧
    (running 0x21 (fieldsOf 2 16)).Steps 0 0 0 0 0x21 (fieldsOf 2 16) { a := true, x := 3, imm := 0x7F } ∧
    (running 0x21 (fieldsOf 2 0)).Steps 0 0 0 0 0x21 (fieldsOf 2 0) { a := true, x := 3, imm := 0x7F } := by
  and_intros <;> decide

theorem witness_directory :
    ((running 0x28 noFields).Steps 0 0 0 0 0x28 noFields { d := true } ∧ ((running 0x28 noFields).tally 0 0).recallRec = none) ∧
    (let y := { Tally.zero with kind := .recall, recallRec := some ⟨0, 13, 0, .victim, 0, 0, none⟩ };
      (running 0x28 noFields y).Steps 0 0 0 0 0x28 noFields { d := true } ∧ ((running 0x28 noFields y).tally 0 0).recallRec ≠ none) ∧
    (running 0x29 (fieldsOf 7 0)).Steps 0 0 0 0 0x29 (fieldsOf 7 0) { x := 7 } ∧
    (running 0x2D noFields).Steps 0 0 0 0 0x2D noFields {} ∧
    (∀ op ∈ ([0x2A, 0x2B, 0x2C] : List (BitVec 8)),
      (running op (fieldsOf 1 0) { Tally.zero with kind := .recall }).Steps 0 0 0 0 op (fieldsOf 1 0) { a := false, x := 1 } ∧
      (let s := running op noFields Tally.zero (threadW0 1024);
        s.Steps 0 0 0 0 op noFields { a := true, x := 1 } ∧ 1024 ≤ ((s.thread 0 0 0).opA noFields).toNat) ∧
      (let s := running op noFields Tally.zero (threadW0 1023);
        s.Steps 0 0 0 0 op noFields { a := true, x := 1 } ∧ ((s.thread 0 0 0).opA noFields).toNat < 1024 ∧ s.speculates 0 0 = false) ∧
      (let s := running op noFields { Tally.zero with spec := .pending, sp := { SpecRec.zero with deferCount := 8, deferSlot := some 0 } };
        s.Steps 0 0 0 0 op noFields { a := true, x := 1 } ∧ s.speculates 0 0 = true ∧ 8 ≤ (s.tally 0 0).sp.deferCount) ∧
      (let s := running op noFields { Tally.zero with spec := .pending, sp := { SpecRec.zero with deferSlot := some 0 } };
        s.Steps 0 0 0 0 op noFields { a := true, x := 1 } ∧ s.speculates 0 0 = true ∧ (s.tally 0 0).sp.deferCount < 8 ∧
          (s.tally 0 0).sp.deferSlot ≠ none)) := by
  and_intros <;> decide

/-- An agent that is present, and an entry in BROADCAST whose expansion set holds it. -/
theorem witness_sharers :
    let s := State.reset.setReg 0 .DIR_PRESENT_PRESENT 1;
    let e := { DirEnt.zero with mode := 5 };
    e.mode.toNat ≤ 5 ∧ (s.reg 0 .DIR_PRESENT_PRESENT 0).testBit 0 = true := by decide

theorem witness_sends :
    (let s := withControl 1 (running 0x30 noFields);
      s.Steps 0 0 0 0 0x30 noFields (Form.send noFields true 0xFFFF) ∧ ControlOk (s.templateControl 0 0 noFields) [0x1, 0x2, 0x3, 0x4, 0x5, 0x6, 0x9] ∧
        (s.tally 0 0).spec = .none ∧ (s.tally 0 0).pending ≤ 8191 ∧ (s.tally 0 0).kind = .line) ∧
    (let s := running 0x32 (fieldsOf 1 0x70000) Tally.zero (threadM 0xA);
      s.Steps 0 0 0 0 0x32 (fieldsOf 1 0x70000) (Form.send (fieldsOf 1 0x70000) false 0xFF00) ∧ (s.thread 0 0 0).m.cls.toNat < 0xB ∧
        (s.tally 0 0).kind = .line ∧ s.speculates 0 0 = false) ∧
    (let i := fieldsOf 1 0;
      let s := withControl 0x11 (running 0x31 i);
      s.Steps 0 0 0 0 0x31 i { d := true, b := false, x := 3, imm := 0x3FFFF } ∧ ControlOk (s.templateControl 0 0 i) [0x1] ∧
        (s.tally 0 0).recallRec = none ∧ s.speculates 0 0 = false ∧ s.findWay 0 (homeSet (s.tally 0 0).line) (homeTag (s.tally 0 0).line) = none ∧
        s.expansion 0 DirEnt.zero = []) := by
  and_intros <;> decide

theorem witness_memory :
    (let s := withControl 0x14 (running 0x38 noFields);
      s.Steps 0 0 0 0 0x38 noFields { x := 3, imm := 0xFFFF } ∧ ControlOk (s.templateControl 0 0 noFields) [0x4] ∧ s.speculates 0 0 = false) ∧
    (let i := fieldsOf 3 0;
      let s := withControl 0x34 (running 0x38 i { Tally.zero with kind := .recall, recallRec := some ⟨0, 0, 0, .victim, 15, 0, none⟩ });
      s.Steps 0 0 0 0 0x38 i { x := 3, imm := 0xFFFF } ∧ ControlOk (s.templateControl 0 0 i) [0x4] ∧ (s.tally 0 0).kind = .recall) ∧
    (let s := withControl 0x14 (running 0x3A noFields Tally.zero (threadM 3));
      s.Steps 0 0 0 0 0x3A noFields { x := 3, imm := 0xFFFF } ∧ ControlOk (s.templateControl 0 0 noFields) [0x4] ∧ (s.thread 0 0 0).m.cls = 3) ∧
    (let s := running 0x39 noFields;
      s.Steps 0 0 0 0 0x39 noFields { x := 3, imm := 0xFFFF } ∧ s.reg 0 .CLM_ENTRY0_SPECULABLE 0 = 0) ∧
    (let s := (withControl 0x14 (running 0x39 noFields)).setReg 0 .CLM_ENTRY0_SPECULABLE 1;
      s.Steps 0 0 0 0 0x39 noFields { x := 3, imm := 0xFFFF } ∧ s.reg 0 .CLM_ENTRY0_SPECULABLE (s.tally 0 0).inClaim ≠ 0 ∧
        ControlOk (s.templateControl 0 0 noFields) [0x4] ∧ (s.tally 0 0).spec = .none) := by
  and_intros <;> decide

theorem witness_waits_and_speculation :
    ((running 0x40 (fieldsOf 0x3FF 0x3FFF)).Issues 0 0 0 0 0x40 (fieldsOf 0x3FF 0x3FFF) ∧
      Form.legal { x := 0x3FF, imm := 0x3FFF } (fieldsOf 0x3FF 0x3FFF) = true) ∧
    (let s := running 0x41 noFields { Tally.zero with pending := 1 } (threadW0 1);
      s.Issues 0 0 0 0 0x41 noFields ∧ Form.legal { b := true, x := 0x3FF, imm := 0x3FFF } noFields = true ∧ 0 < (s.tally 0 0).pending) ∧
    (∀ op ∈ ([0x48, 0x49, 0x4A] : List (BitVec 8)), (running op noFields).Steps 0 0 0 0 op noFields {} ∧ ((running op noFields).tally 0 0).spec ≠ .pending) ∧
    (∀ op ∈ ([0x49, 0x4A] : List (BitVec 8)),
      let s := running op noFields { Tally.zero with spec := .pending };
      s.Steps 0 0 0 0 op noFields {} ∧ (s.tally 0 0).spec = .pending ∧ (s.tally 0 0).run = some (0, 0) ∧ (s.tally 0 0).sp = SpecRec.zero ∧
        (s.tally 0 0).park.taintS = false) := by
  and_intros <;> decide

/-- Queue `q` is `d`. -/
def withQueue (q : Nat) (d : QDesc) (s : State) : State := s.setQueue 0 q d

/-- A shallow queue of four slots in use, empty. -/
def smallQueue : QDesc := { QDesc.zero with valid := true, size := 4, hwm := 4 }

theorem witness_queues :
    (∀ op ∈ ([0x50, 0x51, 0x52, 0x53] : List (BitVec 8)),
      (let s := running op noFields Tally.zero (threadW0 131072);
        s.Steps 0 0 0 0 op noFields { a := true } ∧ 131071 < ((s.thread 0 0 0).opA noFields).toNat) ∧
      (let s := running op noFields Tally.zero (threadW0 131071);
        s.Steps 0 0 0 0 op noFields { a := true } ∧ ((s.thread 0 0 0).opA noFields).toNat ≤ 131071 ∧ (s.queue 0 131071).valid = false ∧
          s.speculates 0 0 = false ∧ (s.thread 0 0 0).m.cls.toNat < 0xB) ∧
      (let s := withQueue 5 smallQueue (running op noFields Tally.zero (threadW0 5));
        s.Steps 0 0 0 0 op noFields { a := true } ∧ (s.queue 0 ((s.thread 0 0 0).opA noFields).toNat).valid = true ∧
          (s.queue 0 ((s.thread 0 0 0).opA noFields).toNat).place = false ∧ s.speculates 0 0 = false)) ∧
    (let s := withQueue 5 smallQueue (running 0x52 (fieldsOf 1 0) Tally.zero (threadW0 5));
      s.Steps 0 0 0 0 0x52 (fieldsOf 1 0) { a := true, x := 1 }) ∧
    ((withQueue 5 smallQueue (running 0x50 noFields Tally.zero (threadW0 5))).pushNow 0 5 { Tub.zero with wdog := false, ans := false } true).2 ≠ .waits ∧
    (match ((withQueue 5 smallQueue (running 0x51 noFields Tally.zero (threadW0 5))).popNow 0 5).2 with
      | .tub .. => true
      | _ => false) = true := by
  and_intros <;> decide

theorem witness_count_nop_end :
    (running 0x5E noFields).Steps 0 0 0 0 0x5E noFields {} ∧
    (running 0x58 (fieldsOf 0x3FF 0x3F)).Steps 0 0 0 0 0x58 (fieldsOf 0x3FF 0x3F) { x := 0x3FF, imm := 0x3F } ∧
    (let s := running 0x58 noFields { Tally.zero with spec := .pending, sp := { SpecRec.zero with deferSlot := some 0 } };
      s.Steps 0 0 0 0 0x58 noFields { x := 0x3FF, imm := 0x3F } ∧ s.speculates 0 0 = true ∧ (s.tally 0 0).sp.deferSlot ≠ none) ∧
    (let s := running 0x5F noFields { Tally.zero with spec := .pending };
      s.Steps 0 0 0 0 0x5F noFields { imm := 0xFF } ∧ s.speculates 0 0 = true ∧ (s.tally 0 0).kind = .line) ∧
    (let s := withControl 2 (running 0x5F noFields);
      s.Steps 0 0 0 0 0x5F noFields { imm := 0xFF } ∧ s.speculates 0 0 = false ∧ ControlOk (s.templateControl 0 0 noFields) [0x2] ∧
        (s.tally 0 0).run = some (0, 0) ∧ (s.tally 0 0).kind = .line) := by
  and_intros <;> decide

theorem witness_traps :
    (let s := running 0x01 noFields Tally.zero { Thread.idle with steps := 512 };
      hewCall (.hewAdd 0 0 0 noFields .clean) = some ⟨0, 0, 0, noFields, .clean, 0x01⟩ ∧ s.Fetches 0 0 0 0 0x01 noFields ∧
        s.reg 0 .HWR_CFG_STEP_LIMIT ≤ (s.thread 0 0 0).steps) ∧
    ((State.reset.thread 0 0 0).tally = none) ∧
    (∀ op ∈ ([0x01, 0x02, 0x03, 0x04, 0x05, 0x06, 0x07, 0x08, 0x0C] : List (BitVec 8)),
      (running op (fieldsOf 0x200 0)).Issues 0 0 0 0 op (fieldsOf 0x200 0) ∧ (running op noFields).Issues 0 0 0 0 op noFields) ∧
    (let y := (running 0x01 noFields).tally 0 0;
      y.kind = .line ∧ y.spec ≠ .pending ∧ y.run = some (0, 0)) ∧
    State.reset.reg 0 .HWR_TRAP_LOG0_HELD = 0 ∧ (State.reset.setReg 0 .HWR_TRAP_LOG0_HELD 1).reg 0 .HWR_TRAP_LOG0_HELD ≠ 0 := by
  refine ⟨⟨rfl, ?_⟩, ?_⟩ <;> and_intros <;> decide

/-! ### The Cage -/

/-- After reset, with the Cage ready. -/
def readyS : State := { State.reset with cage := { State.reset.cage with ready := true }, boot := .done, foreUp := true }

/-- A good frame of opcode `o` and `k` words at address `a` that carries none. -/
def asks (o : Opcode) (k : BitVec 16) (a : BitVec 40 := 0) (arg : Byte := 0) : Frame :=
  let f : Frame := ⟨0x11, a, k, arg, 0, 24, [], 0⟩;
  { f with hcrc := crc16 (f.header o.code) }

/-- A good frame of opcode `o` that carries `l`. -/
def tells (o : Opcode) (l : List Word) (a : BitVec 40 := 0) : Frame :=
  let f : Frame := ⟨0x11, a, BitVec.ofNat 16 l.length, 0, 0, 32 + 8 * l.length, l, crc32 (l.flatMap (leBytes 4))⟩;
  { f with hcrc := crc16 (f.header o.code) }

/-- Such a frame passes the checks of R68 when its opcode takes its LEN, ARG and ADDR. -/
theorem asks_check (o : Opcode) (k : BitVec 16) (a : BitVec 40) (arg : Byte)
    (h : o.len (k.toNat % 2048) = true ∧ k.extractLsb' 11 5 = 0 ∧ a.extractLsb' 36 4 = 0 ∧ (o.args = true ∨ arg = 0) ∧
      (o.isIn = false ∨ k.toNat % 2048 = 0) ∧ (o.aligned = false ∨ a.toNat % 4 = 0)) : (asks o k a arg).check o = Res.OK := by
  obtain ⟨h1, h2, h3, h4, h5, h6⟩ := h
  have hh : (asks o k a arg).headerGood o.code = true := by simp [asks, Frame.headerGood, Frame.header]
  simp only [Frame.check, hh]
  rcases h4 with h4 | h4 <;> rcases h5 with h5 | h5 <;> rcases h6 with h6 | h6 <;>
    simp_all [asks, Frame.words, Frame.address]

/-- And so does one that carries words. -/
theorem tells_check (o : Opcode) (l : List Word) (a : BitVec 40)
    (h : 0 < l.length ∧ l.length < 2048 ∧ o.len l.length = true ∧ a.extractLsb' 36 4 = 0 ∧ o.isIn = true ∧ (o.aligned = false ∨ a.toNat % 4 = 0)) :
    (tells o l a).check o = Res.OK := by
  obtain ⟨h0, h1, h2, h3, h4, h6⟩ := h
  have hw : (tells o l a).words = l.length := by
    simp [tells, Frame.words]; omega
  have hz : (tells o l a).len.extractLsb' 11 5 = 0 := by
    apply BitVec.eq_of_toNat_eq; simp [tells, BitVec.extractLsb'_toNat, Nat.shiftRight_eq_div_pow]; omega
  have hh : (tells o l a).headerGood o.code = true := by
    simp [tells, Frame.headerGood, Frame.header]; omega
  have hn : (tells o l a).nibbles = 24 + (8 * l.length + 8) := by simp [tells]; omega
  simp only [Frame.check, hh, hw, hz, hn]
  rcases h6 with h6 | h6 <;> simp_all [tells, Frame.address]

theorem witness_frames :
    (readyS.CageFree ∧ readyS.cage.silent = false) ∧
    (∀ o ∈ [Opc.poll, Opc.read, Opc.write, Opc.readFix, Opc.writeFix], (asks o 0).check o = Res.OK) ∧
    (∀ o ∈ [Opc.read, Opc.readFix], (asks o 1).check o = Res.OK) ∧
    (∀ o ∈ [Opc.write, Opc.writeFix], (tells o [7]).check o = Res.OK) ∧
    ((asks Opc.eventRead 8).check Opc.eventRead = Res.OK) ∧
    ((tells Opc.timeSet [1, 2]).check Opc.timeSet = Res.OK) ∧
    ((asks Opc.replay 1).check Opc.replay = Res.OK) ∧
    ((asks Opc.selftestStatus 8 0 7).check Opc.selftestStatus = Res.OK) ∧ ((asks Opc.selftestStatus 8 0 8).check Opc.selftestStatus = Res.OK) ∧
    ((tells Opc.updateStream [7]).check Opc.updateStream = Res.OK) := by
  refine ⟨by decide, fun o h => asks_check o _ _ _ ?_, fun o h => asks_check o _ _ _ ?_, fun o h => tells_check o _ _ ?_, asks_check _ _ _ _ ?_,
    tells_check _ _ _ ?_, asks_check _ _ _ _ ?_, asks_check _ _ _ _ ?_, asks_check _ _ _ _ ?_, tells_check _ _ _ ?_⟩
  · revert o; decide
  · revert o; decide
  · revert o; decide
  all_goals decide

theorem witness_frame_words :
    (asks Opc.poll 0).words = 0 ∧ (asks Opc.read 1).words = 1 ∧ (tells Opc.write [7]).words = 1 ∧ (tells Opc.write [7]).data = [7] ∧
    0 < (asks Opc.eventRead 8).words ∧ (tells Opc.timeSet [1, 2]).words = 2 ∧ (asks Opc.replay 1).words = 1 ∧
    (asks Opc.selftestStatus 8 0 7).arg.toNat = (7 : Shaft).val ∧ 8 ≤ (asks Opc.selftestStatus 8 0 8).arg.toNat ∧
    0 < (tells Opc.updateStream [7]).words := by
  and_intros <;> decide

/-- A damaged header: too few nibbles, a wrong HCRC, and a good header of a reserved opcode. -/
theorem witness_damaged_header :
    (let f := { asks Opc.poll 0 with nibbles := 23 };
      f.nibbles < 24) ∧
    (let f := { asks Opc.poll 0 with hcrc := 0 };
      f.hcrc ≠ crc16 (f.header 0x00)) ∧
    (let f := asks ⟨0x0C, false, false, false, fun _ => true⟩ 0;
      24 ≤ f.nibbles ∧ f.hcrc = crc16 (f.header 0x0C) ∧ 0x0B < (0x0C : Byte).toNat) := by
  and_intros <;> decide

theorem witness_time_and_silence :
    (let s := readyS.setDev .DEV_CTL_DEEP_OPEN 1;
      s.CageFree ∧ s.dev .TIM_CFG_SOURCE = 0 ∧ s.dev .DEV_CTL_DEEP_OPEN ≠ 0) ∧
    (readyS.CageFree ∧ readyS.dev .DEV_CTL_DEEP_OPEN = 0) ∧
    ({ readyS with cage := { readyS.cage with stored := some (Reply.make 0 0 0 0 0 []) } }.cage.stored = some (Reply.make 0 0 0 0 0 [])) ∧
    (State.reset.por = false ∧ State.reset.cage.ready = false) ∧
    (let s := { readyS with up := 10000000 };
      s.cage.replyDue = false ∧ max s.cage.contact s.cage.readyAt + 1000 * s.dev .CGE_CFG_SILENCE_MS ≤ s.up ∧ s.log.length < 4096) ∧
    ({ readyS with cage := { readyS.cage with silent := true } }.cage.silent = true) := by
  and_intros <;> decide

theorem witness_resets :
    (∀ v ∈ ([1, 4, 0x72, 0x7F73, 0x775] : List Word),
      (tells Opc.reset [v]).check Opc.reset = Res.OK ∧ (tells Opc.reset [v]).words = 1 ∧ (tells Opc.reset [v]).data = [v]) ∧
    (∀ a ∈ [ResetAsk.cold, .fore, .shaft 7, .stope 7 127, .portal 7 7], readyS.resetBusy a = false) ∧
    (let s := (readyS.setReg 7 .SHF_CTL_DEEP_OPEN 1).setDev .DEV_CTL_DEEP_OPEN 1;
      ∀ a ∈ [ResetAsk.cold, .fore, .shaft 7, .stope 7 127, .portal 7 7], s.deepOpen a.scope = true ∧ readyS.deepOpen a.scope = false) := by
  refine ⟨fun v _ => ⟨tells_check _ _ _ (by simp [Opc.reset]), by simp [tells, Frame.words], rfl⟩, by decide, by decide⟩

theorem witness_reset_due :
    let s := { readyS with resetsDue := [.portal 7 7] };
    s.cage.ready = true ∧ s.resetsDue = [.portal 7 7] ∧ (s.beginReset (.portal 7 7)).resetsDue = [] := by
  and_intros <;> rfl

/-! ### Self-test -/

/-- A state in which shaft 7 serves. -/
def serves : State := readyS.updSh 7 (fun h => { h with boot := .done })

/-- A self-test of shaft 7 that runs. -/
def testing (unit target : Nat) (drains : Bool) : State :=
  serves.updSh 7 (fun h => { h with test := { h.test with run := some ⟨unit, target, false, drains, 0, some 2040⟩ } })

theorem witness_self_test_frames (v : Word) :
    (tells Opc.selftestStart [v]).check Opc.selftestStart = Res.OK ∧ (tells Opc.selftestStart [v]).words = 1 ∧
    (tells Opc.selftestStart [v]).data = [v] :=
  ⟨tells_check _ _ _ (by simp [Opc.selftestStart]), by simp [tells, Frame.words], rfl⟩

theorem witness_self_test :
    (serves.testReason 7 1 2039 ⟨420000, 0⟩ ≠ 0 ∧ serves.testReason 7 2 51 ⟨420000, 0⟩ ≠ 0 ∧ serves.testReason 7 3 127 ⟨420000, 0⟩ ≠ 0 ∧
      serves.testReason 7 4 1023 ⟨420000, 0⟩ ≠ 0 ∧ serves.testReason 7 5 15 ⟨420000, 0⟩ ≠ 0) ∧
    (∀ x ∈ ([(1, 2039), (2, 51)] : List (Nat × Nat)), serves.testReason 7 x.1 x.2 ⟨0, 0⟩ = 0) ∧
    (readyS.testRun 7 = none) ∧ ((testing 4 0 false).testRun 7 = some ⟨4, 0, false, false, 0, some 2040⟩) ∧ ((testing 4 0 false).doze 7 = 0) ∧
    (let s := testing 2 51 true;
      s.testRun 7 = some ⟨2, 51, false, true, 0, some 2040⟩ ∧ s.busyThreads 7 51 = 0) ∧
    (∀ x ∈ ([(1, 2039), (2, 51), (3, 127), (4, 1023), (5, 15)] : List (Nat × Nat)),
      (testing x.1 x.2 false).testRun 7 = some ⟨x.1, x.2, false, false, 0, some 2040⟩) ∧
    ((testing 1 0 false).doze 7 = 0 ∧ (testing 1 0 false).devGated .BST = false) := by
  and_intros <;> decide

/-! ### Registers -/

theorem witness_register_writes :
    (State.reset.cage.ready = false ∧ readyS.CageFree) ∧
    ((State.reset.setReg 0 .SGATE_HALTED 1 Block.HWR.code).meet 0x100A00004 = .out .byGate 0 .HWR) ∧
    (State.reset.meet 0x800000000 = .out .badAddr 8 .SVY) ∧
    (State.reset.meet 0x100010014 = .word (.reg 0 .SHF_ROUTE 5) ∧ State.writeDenied State.reset State.reset (.reg 0 .SHF_ROUTE 5) 1 = true) ∧
    (let s := State.reset.setReg 0 .SHF_CTL_DEEP_OPEN 1;
      s.meet 0x100010014 = .word (.reg 0 .SHF_ROUTE 5) ∧ s.deepOpen 0 = true ∧ State.writeDenied s s (.reg 0 .SHF_ROUTE 5) 1 = false) ∧
    (State.reset.gated 0 .SHF = false ∧ State.reset.gated 8 .DEV = false ∧ State.reset.returning = []) ∧
    (Reg.reservedIn .SHF_ROUTE 1 = false ∧ Reg.reservedIn .SHF_ROUTE 2 = true) ∧
    (State.reset.meet 0x100000004 = .word (.reg 0 .SGATE_HITS Block.SHF.code)) ∧
    (State.reset.gated 8 .TIM = false ∧ State.reset.returning.contains (8, .TIM) = false) := by
  and_intros <;> decide

theorem witness_gates :
    (State.reset.gateEn 0 .TLY = false ∧ State.reset.returning.contains (0, .TLY) = false ∧ Block.haltsLater .TLY = true) ∧
    (State.reset.gateEn 8 .TIM = false ∧ Block.haltsLater .TIM = false ∧ Block.ungateable .TIM = false ∧ Block.ofShaft .TIM = false) ∧
    (let s := State.reset.setGate 0 .TLY true false;
      s.gateEn 0 .TLY = true ∧ s.gated 0 .TLY = false ∧ s.anyOpen 0 = false) ∧
    (let s := (State.reset.setGate 0 .TLY true false).updTally 0 5 (fun y => { y with st := .opn });
      s.gateEn 0 .TLY = true ∧ s.gated 0 .TLY = false ∧ s.anyOpen 0 = true) ∧
    (let s := State.reset.setGate 0 .TLY true true;
      s.gateEn 0 .TLY = true ∧ s.gated 0 .TLY = true) ∧
    (let s := State.reset.setGate 0 .SCB true false;
      s.gateEn 0 .SCB = true ∧ s.gated 0 .SCB = false) ∧
    (let s := (State.reset.setGate 8 .IMG true false).setDev .IMG_STATE_STATE Img.STAGING;
      s.gateEn 8 .IMG = true ∧ s.gated 8 .IMG = false ∧ s.img ≠ Img.IDLE ∧ s.img ≠ Img.REFUSED ∧ s.img ≠ Img.ARMED ∧
        (State.reset.setGate 8 .IMG true false).img = Img.IDLE) ∧
    ({ State.reset with returning := [(0, .TLY)] }.returning.contains (0, .TLY) = true ∧ Block.ofShaft .TLY = decide (0 < 8)) ∧
    ({ State.reset with returning := [(0, .PTL)] }.returning.contains ((0 : Shaft).val, .PTL) = true) := by
  and_intros <;> decide

/-- Shaft 0 in a slice reset of state `st`; `adit`: of the Adit slice. -/
def slicing (st : Nat) (adit : Bool) : State :=
  ({ serves with up := 5000 }.setReg 0 .SHF_SLICE_STAT_STATE st).setReg 0 .SHF_SLICE_STAT_LAYER (bit adit)

theorem witness_slices :
    (let s := serves.setReg 0 .SHF_CTL_DEEP_OPEN 1;
      s.gated 0 .SHF = false ∧ s.returning = [] ∧ s.deepOpen 0 = true ∧ s.slice 0 = 0) ∧
    (let s := (slicing 1 false).setReg 0 .SHF_CTL_DEEP_OPEN 1;
      s.gated 0 .SHF = false ∧ s.returning = [] ∧ s.deepOpen 0 = true ∧ s.slice 0 ≠ 0) ∧
    (let s := slicing 1 false;
      s.slice 0 = 1 ∧ s.sliceAdit 0 = false ∧ (s.sh 0).tallies = [] ∧ (∀ p : Portal, (s.ptl 0 p).lane = []) ∧ (s.sh 0).sliceAt + 2000 ≤ s.up) ∧
    (let s := slicing 2 false;
      s.slice 0 = 2 ∧ s.sliceAdit 0 = false) ∧
    (let s := slicing 2 true;
      s.slice 0 ≠ 0 ∧ s.sliceAdit 0 = true ∧ s.log.length < 4096) ∧
    (let s := slicing 3 false;
      s.slice 0 = 3 ∧ s.sliceAdit 0 = false ∧ s.foreUp = true) := by
  and_intros <;> decide

/-! ### Haulage, pacers, clocks and time -/

/-- Shaft 0 is booted and holds what `f` makes of it. -/
def shaftS (f : ShaftSt → ShaftSt) : State := readyS.updSh 0 (fun h => f { h with boot := .done })

/-- A flit from the router of stope 5 to the Lode, where it stands. -/
def flitAt (pos : Pos) (dest : BitVec 8) (act : Arrive) : Flight := ⟨{ Tub.zero with tv := true }, .router 5, pos, dest, act, none, none⟩

theorem witness_haulage :
    (let f := flitAt (.router 5) 0x81 .tallyStore;
      let s := shaftS (fun h => { h with flights := [f] });
      (s.sh 0).flights[0]? = some f ∧ f.there = false ∧ blockedBehind (s.sh 0).flights 0 f = false ∧ s.heldBack 0 0 f = false ∧ s.shGated 0 .HAU = false ∧
        nextPlace (s.linkRetired 0) f.src f.pos f.dest = some (.router 4) ∧ s.placeOut 0 (.router 4) f.dest = false ∧ s.stranded 0 f = false ∧ { f with pos := .router 4 }.there = false) ∧
    (let f := flitAt (.router 5) 4 (.stope 4);
      let s := shaftS (fun h => { h with flights := [f] });
      (s.sh 0).flights[0]? = some f ∧ f.there = false ∧ nextPlace (s.linkRetired 0) f.src f.pos f.dest = some (.router 4) ∧ { f with pos := .router 4 }.there = true) ∧
    (let f := { flitAt (.unit .adit) 0x81 .tallyStore with src := .unit .adit };
      let s := (shaftS (fun h => { h with flights := [f] })).setReg 0 .SHF_SLICE_STAT_STATE 2;
      (s.sh 0).flights[0]? = some f ∧ f.there = false ∧ s.stranded 0 f = false ∧ s.heldBack 0 0 f = false ∧
        nextPlace (s.linkRetired 0) f.src f.pos f.dest = some (.unit .lode) ∧ s.placeOut 0 (.unit .lode) f.dest = true) ∧
    ((shaftS id).linkRetired 0 15 = false ∧ ((shaftS id).setReg 0 .HAU_VLINK_RETIRED 0x8000).linkRetired 0 15 = true) := by
  and_intros <;> decide

theorem witness_pacers :
    (let s := (shaftS (fun h => { h with stopes := [(127, { Stope.zero with ramp := some ⟨false, 1, 16⟩ })] })).setReg 0 .PCE_STOPE_TEMPO 1 127;
      (s.stope 0 127).ramp = some ⟨false, 1, 16⟩ ∧ s.pacerRuns 0 = true ∧ rampMove ⟨false, 1, 16⟩ (s.pacerTarget 0 127) 1000 = .switch ∧
        rampMove ⟨false, 64, 1024⟩ (s.pacerTarget 0 127) 1000 = .run 960) ∧
    (let s := shaftS (fun h => { h with stopes := [(127, { Stope.zero with ramp := some ⟨true, 1, 16⟩ })] });
      (s.stope 0 127).ramp = some ⟨true, 1, 16⟩ ∧ (s.pacerTarget 0 127).1 ≠ true ∧ s.log.length < 4096) ∧
    (let s := readyS.setReg 0 .SHF_CTL_DEEP_OPEN 1;
      s.gated (0 : Shaft).val .PCE = false ∧ s.blockBusy (0 : Shaft).val .PCE = false ∧ s.deepOpen (0 : Shaft).val = true ∧ Reg.reservedIn .PCE_STOPE 0x104FF = false ∧ s.pacerRuns 0 = false) ∧
    ((shaftS id).pacerRuns 0 = true ∧ (shaftS id).pacerOf 0 127 = 127) ∧
    (let s := ((shaftS id).setReg 0 .PCE_STOPE_SRC 1 127).setReg 0 .PCE_STOPE_AUTO_FB 1 127;
      s.reg 0 .PCE_STOPE_SRC 127 = 1 ∧ s.reg 0 .PCE_STOPE_AUTO_FB 127 = 1) := by
  and_intros <;> decide

/-- Shaft 0 takes its timing from source `m`, with REFCLK lost at 0 and lane `l` qualified. -/
def timed (m l : Nat) : State :=
  (({ shaftS id with up := 200000, everTrained := true, refLostAt := some 0 }.setDev .CLK_STATE_SHAFT m).setDev .CLK_QUAL_QUAL (2 ^ l)).setDev .CLK_CFG_REF_OK 1

theorem witness_reference_clock :
    ({ timed Tmg.REF 3 with refLostAt := none }.timing 0 = Tmg.REF ∧ (timed Tmg.REF 3).qualLane 0 = some 3 ∧ ({ timed Tmg.REF 3 with everTrained := false }.timing 0 = Tmg.REF)) ∧
    ((readyS.setDev .CLK_STATE_SHAFT Tmg.REF).timing 0 = Tmg.REF ∧ { readyS with everTrained := true }.qualLane 0 = none) ∧
    ((timed Tmg.START_HOLD 0).timing 0 = Tmg.START_HOLD ∧ (timed Tmg.LOOP 0).timing 0 = Tmg.LOOP ∧ ((timed Tmg.LOOP 0).setDev .CLK_CFG_AUTO_RETURN 1).dev .CLK_CFG_AUTO_RETURN ≠ 0) ∧
    (let s := ((timed Tmg.HOLDOVER 0).setReg 0 .LNE_STAT_CDR_LOCK 1 15).updSh 0 (fun h => { h with lockSince := [(15, some 0)] });
      Tbl.get none (s.sh 0).lockSince 15 = some 0 ∧ 0 + 1000 ≤ s.up ∧ s.reg 0 .LNE_STAT_CDR_LOCK 15 ≠ 0 ∧ s.reg 0 .LNE_STAT_RX_SLEEP 15 = 0 ∧
        s.dev .CLK_QUAL_QUAL (0 : Shaft).val < 65536 ∧ s.timing 0 = Tmg.HOLDOVER) ∧
    ((timed Tmg.ADRIFT 0).timing 0 = Tmg.ADRIFT) ∧
    (let s := (timed Tmg.HOLDOVER 0).setReg 0 .PTL_STATE_STATE Pst.UP 7;
      s.timing 0 = Tmg.HOLDOVER ∧ (s.sh 0).holdoverAt + 100000 ≤ s.up ∧ s.pst 0 7 ≠ Pst.DISABLED) ∧
    ((∀ p : Portal, (timed Tmg.HOLDOVER 0).pst 0 p = Pst.DISABLED)) ∧
    (let s := (timed Tmg.LOOP 0).updSh 0 (fun h => { h with steering := true });
      (s.sh 0).steering = true ∧ s.dev .CLK_CFG_REF_OK ≠ 0) ∧
    (let s := (timed Tmg.LOOP 0).setDev .DEV_CTL_DEEP_OPEN 1;
      s.gated 8 .CLK = false ∧ s.returning = [] ∧ s.devB .DEV_CTL_DEEP_OPEN = true ∧ s.dev .CLK_CFG_REF_OK ≠ 0 ∧ (s.setDev .CLK_CFG_REF_OK 0).dev .CLK_CFG_REF_OK = 0) := by
  and_intros <;> decide

/-- Portal 3 of shaft 0 is up with role `r`, in the mode `drift`, and holds what `f` makes of it. -/
def upPortal (r : Nat) (drift : Bool) (f : PortalSt → PortalSt := id) (g : ShaftSt → ShaftSt := id) : State :=
  ((shaftS g).setReg 0 .PTL_STATE_STATE Pst.UP 3).updPtl 0 3 (fun x => f { x with cfg := { x.cfg with role := r, drift := drift } })

theorem witness_time_exchanges :
    (let s := { readyS with timeSent := some 5 }.setDev .TIM_CFG_SOURCE 1;
      s.dev .TIM_CFG_SOURCE ≠ 0 ∧ s.timeSent = some 5 ∧ s.devGated .TIM = false) ∧
    (let s := { readyS with up := 100000000 }.setDev .TIM_STAT_LOCKED 1;
      s.dev .TIM_STAT_LOCKED ≠ 0 ∧ s.timeReplyAt + 4 * s.timePeriod ≤ s.up) ∧
    (let s := ({ upPortal Role.D2D true with up := 100000000 }.setDev .TIM_CFG_SOURCE 1).setDev .TIM_CFG_PORT 3;
      s.dev .TIM_CFG_SOURCE ≠ 0 ∧ s.timePortal s.timeShaft s.timePort = true ∧ s.timeSentAt + s.timePeriod ≤ s.up) ∧
    (let s := upPortal Role.D2D true;
      s.dev .TIM_CFG_SOURCE = 0 ∧ s.timePortal 0 3 = true) := by
  and_intros <;> decide

/-! ### Admission and tallies -/

/-- A request with a body of `b` and LINES `l`. -/
def request (b : BitVec 512) (l : BitVec 64) : Tub := { Tub.zero with body := b ||| (l.setWidth 512 <<< 56) }

/-- Request `r` waits at portal 3; the granule of its address goes home to the shaft. -/
def asking (r : Tub) (f : ShaftSt → ShaftSt := id) : State :=
  ((shaftS (fun h => f { h with portals := h.portals.upd 3 (fun x => { x with inGot := [r] }) })).setReg 0 .SHF_ROUTE_TARGET 1).setReg 0 .TLY_QUOTA_QUOTA 100 3

/-- The tag and the line of address 0 in claim 0, shared by no agent. -/
def heldEntry : DirEnt := { DirEnt.zero with st0 := 1 }

theorem witness_admission :
    (let s := asking (request 0 1);
      s.engineWorks 0 = true ∧ (s.ptl 0 3).inGot = [request 0 1] ∧ (request 0 1).cls = 0x0 ∧ (request 0 1).data = false ∧ (request 0 1).haul = false ∧
        (request 0 1).lines = 1 ∧ (request 0 1).ep = none ∧ s.passed 0 ((request 0 1).stamp + BitVec.ofNat 32 (s.reg 0 .TLY_CFG_DEADLINE_US)) = false ∧
        (request 0 1).addr.toNat < 2 ^ 40 ∧ s.reg 0 .SHF_ROUTE_TARGET 0 = 1 ∧ s.admissionShut 0 = false ∧ s.freeTally 0 = some 0 ∧ 1 ≤ s.freeCount 0 ∧
        s.openWork 0 3 + 1 ≤ s.reg 0 .TLY_QUOTA_QUOTA 3 ∧ s.reg 0 .PTL_STATE_PRESENT 3 = s.reg 0 .PTL_STATE_TRAINED 3) ∧
    (let s := asking (request 0 1) (fun h => { h with clock := 100000000 });
      s.passed 0 ((request 0 1).stamp + BitVec.ofNat 32 (s.reg 0 .TLY_CFG_DEADLINE_US)) = true) ∧
    ((request 0x200 0).haul = true ∧ (request 0x200 0).lines = 0 ∧ (request 0x200 65).lines = 65 ∧ (request 0 2).lines ≠ 1 ∧ (request 0 2).haul = false) ∧
    ((readyS.reg 0 .SHF_ROUTE_TARGET 0 = 0) ∧ (request 0 1).fwd = false) ∧
    (((asking (request 0 1)).setDev .PWR_SHAFT_STATE 1).admissionShut 0 = true) ∧
    ({ asking (request 0 1) with regs := [(Fld.key .TLY_CFG_RESERVE 0 0, 32768)] }.freeCount 0 < 1) ∧
    (((asking (request 0 1)).setReg 0 .TLY_QUOTA_QUOTA 0 3).reg 0 .TLY_QUOTA_QUOTA 3 < (asking (request 0 1)).openWork 0 3 + 1) := by
  and_intros <;> decide

theorem witness_admission_mapped :
    let s := (((asking (request 0 1) (fun h => { h with dir := [(0, heldEntry)] })).setReg 0 .CLM_MAP_VALID 1).setReg 0 .CLM_ENTRY0_VALID 1).setReg 0 .DIR_NEED_NEED 0;
    (s.regB 0 .CLM_MAP_VALID 0 && s.regB 0 .CLM_ENTRY0_VALID 0) = true ∧ s.rightsHeld 0 0 (s.reg 0 .DIR_NEED_NEED 0) 0 = true ∧
      (s.reg 0 .DIR_NEED_NEED 0).testBit 2 = false ∧ s.lockAt 0 (homeLine 0 0) = none ∧ s.findWay 0 (homeSet (homeLine 0 0)) (homeTag (homeLine 0 0)) = some 0 ∧
      (s.ent 0 0 0).line (homeIdx (homeLine 0 0)) ≠ 4 := by
  intro s; and_intros <;> decide

/-- Tally `t` of shaft 0 is `y`. -/
def tallyS (t : Nat) (y : Tally) (g : ShaftSt → ShaftSt := id) : State := shaftS (fun h => g { h with tallies := [(t, y)] })

theorem witness_expiry :
    (let s := tallyS 32767 { Tally.zero with st := .opn, deadline := 1 };
      s.passed 0 (s.tally 0 32767).deadline = false) ∧
    (let s := tallyS 32767 { Tally.zero with st := .opn };
      let y := s.tally 0 32767;
      y.kind = .line ∧ y.st = .opn ∧ y.spec ≠ .pending ∧ y.recallRec = none ∧ y.waitFor ≠ .way ∧ s.lodeOut 0 = false ∧ s.passed 0 y.deadline = true) ∧
    (let s := (tallyS 32767 { Tally.zero with st := .opn }).setReg 0 .SHF_CTL_DEEP_OPEN 1;
      s.gated 0 .TLY = false ∧ s.blockBusy 0 .TLY = false ∧ s.deepOpen 0 = true) ∧
    (let f := { flitAt (.unit .lode) 0x81 .hau with tub := { Tub.zero with tv := true, tally := 32767 } };
      let s := tallyS 32767 { Tally.zero with st := .opn } (fun h => { h with flights := [f] });
      (s.sh 0).flights = [] ++ f :: [] ∧ f.act = .hau ∧ f.there = true ∧ f.tub.tv = true ∧ f.tub.tally.toNat = 32767 ∧ f.tub.gen = (s.tally 0 32767).gen) := by
  and_intros <;> decide

theorem witness_responses_and_end :
    (let f := { flitAt (.unit .lode) 0x81 .tallyStore with tub := { Tub.zero with tv := true, gen := 1 } };
      let s := shaftS (fun h => { h with flights := [f] });
      (s.sh 0).flights = [] ++ f :: [] ∧ f.act = .tallyStore ∧ f.there = true ∧ f.tub.spc = false ∧ s.lodeOut 0 = false ∧
        (s.tally 0 f.tub.tally.toNat).gen ≠ f.tub.gen) ∧
    (let f := flitAt (.unit .lode) 0x81 .tallyStore;
      let s := tallyS 0 { Tally.zero with st := .opn } (fun h => { h with flights := [f] });
      f.there = true ∧ (s.tally 0 0).gen = f.tub.gen ∧ (s.tally 0 0).st = .opn ∧ (s.tally 0 0).kind ≠ .forward ∧ (s.freeSlot 0).isSome = true) ∧
    ((tallyS 5 { Tally.zero with timer := 1 }).passed 0 1 = false) ∧
    (let s := tallyS 5 { Tally.zero with st := .wait, waitFor := .timed 3 };
      s.passed 0 (s.tally 0 5).timer = true ∧ (s.tally 0 5).st = .wait ∧ (s.tally 0 5).waitFor = .timed 3) ∧
    (let s := tallyS 5 { Tally.zero with st := .done, expired := true, lock := true, pending := 1 } (fun h => { h with clock := 100000000, locks := [(0, some ⟨5, []⟩)] });
      let y := s.tally 0 5;
      y.st = .done ∧ y.expired = true ∧ y.lock = true ∧ 0 < y.pending ∧ y.kind = .line ∧ y.recallRec = none ∧ y.parent = none ∧
        s.passed 0 (y.expiredAt + BitVec.ofNat 32 (s.reg 0 .TLY_CFG2_DRAIN_US)) = true ∧ s.lockAt 0 y.line = some ⟨5, []⟩ ∧ s.setQ 0 (homeSet y.line) = []) := by
  and_intros <;> decide

/-! ### Dispatch, microcode, hewers taken out -/

/-- Bank 0 with entry `e` at `key` of its dispatch table. -/
def bankWith (key : Nat) (e : Word) : Bank := { Bank.zero with dispatch := [(key, e)] }

theorem witness_dispatch :
    (let s := tallyS 5 Tally.zero (fun h => { h with dispatchQ := [⟨5, false⟩], bank0 := bankWith 0 0x10000 });
      (s.sh 0).dispatchQ = ⟨5, false⟩ :: [] ∧ s.place 0 = some (0, 0) ∧ s.seamsOut 0 = false ∧ s.shGated 0 .HWR = false ∧
        (Tbl.get 0 ((s.sh 0).bank (s.tally 0 5).epoch).dispatch 0 : Word).getLsbD 16 = true) ∧
    (let s := tallyS 5 Tally.zero (fun h => { h with dispatchQ := [⟨5, true⟩] });
      (s.sh 0).dispatchQ = ⟨5, true⟩ :: [] ∧ s.place 0 = some (0, 0) ∧ (Tbl.get 0 ((s.sh 0).bank (s.tally 0 5).epoch).dispatch 0 : Word).getLsbD 16 = false) ∧
    (let s := tallyS 5 Tally.zero (fun h => { h with threads := [(0, { Thread.idle with tally := some 5, stall := .transit })] });
      (s.thread 0 0 0).tally = some 5 ∧ (s.thread 0 0 0).stall = .transit ∧ (s.tally 0 5).sp.transit = 0) ∧
    (let s := tallyS 5 { Tally.zero with sp := { SpecRec.zero with transit := 1 } } (fun h => { h with threads := [(0, { Thread.idle with tally := some 5, stall := .transit })] });
      (s.thread 0 0 0).stall = .transit ∧ 0 < (s.tally 0 5).sp.transit) ∧
    (∀ op ∈ ([0x30, 0x32] : List (BitVec 8)),
      let s := running op noFields Tally.zero { Thread.idle with stall := .transit };
      (s.thread 0 0 0).stall = .transit ∧ (s.tally 0 0).sp.transit = 0 ∧ (s.updThread 0 0 0 (fun x => { x with stall := .none })).Issues 0 0 0 0 op noFields) ∧
    ((Form.send noFields true 0xFFFF).legal noFields = true ∧ (Form.send (fieldsOf 1 0x10000) false 0xFF00).legal (fieldsOf 1 0x10000) = true) ∧
    (let y := (tallyS 5 { Tally.zero with st := .done, trapped := true }).tally 0 5;
      y.st = .done ∧ y.trapped = true ∧ y.kind = .line ∧ y.ans = .unsent ∧ y.sp.transit = 0) := by
  and_intros <;> decide

theorem witness_microcode :
    (let s := readyS.setReg 0 .SHF_CTL_DEEP_OPEN 1;
      s.gated 0 .HWR = false ∧ s.blockBusy 0 .HWR = false ∧ s.deepOpen 0 = true ∧ s.epoch 0 = !true ∧ s.epochCount 0 true = 0 ∧ s.reg 0 .HWR_EPOCH_ARMED = 0 ∧
        s.reg 0 .HWR_BANK_STAT_BUSY = 0 ∧ s.reg 0 .HWR_EPOCH_LOADED1 = 0 ∧ (s.setReg 0 .HWR_EPOCH_LOADED1 1).reg 0 .HWR_EPOCH_LOADED1 ≠ 0 ∧
        ¬(s.epoch 0 = !false)) ∧
    (let s := (tallyS 5 { Tally.zero with st := .opn, epoch := true }).setReg 0 .SHF_CTL_DEEP_OPEN 1;
      s.epoch 0 = !true ∧ 0 < s.epochCount 0 true) ∧
    ((shaftS (fun h => { h with sealing := some true })).sh 0).sealing = some true ∧
    (let s := shaftS (fun h => { h with flipAt := some 3 });
      (s.sh 0).flipAt = some 3 ∧ s.epoch 0 = !true ∧ s.epochCount 0 true = 0 ∧ s.log.length < 4096) ∧
    ((tallyS 5 { Tally.zero with st := .opn, epoch := true } (fun h => { h with flipAt := some 3 })).epochCount 0 true = 1) ∧
    (readyS.seamsOut 0 = false ∧ readyS.shGated 0 .HWR = false) := by
  and_intros <;> decide

theorem witness_retirement :
    (let s := (shaftS (fun h => { h with retiring := [⟨51, 1, none⟩] })).setReg 0 .SHF_CTL_DEEP_OPEN 1;
      s.gated 0 .HWR = false ∧ s.blockBusy 0 .HWR = false ∧ s.deepOpen 0 = true ∧ (s.sh 0).retiring ≠ [] ∧ s.busyThreads 0 51 = 0) ∧
    (let s := readyS.setReg 0 .SHF_CTL_DEEP_OPEN 1;
      (s.sh 0).retiring = [] ∧ s.hewRole 0 51 ≠ 0 ∧ s.hewRole 0 50 = 0 ∧ 51 / 13 = 50 / 13 ∧ s.hewRole 0 51 = 1 ∧ (∀ j, j < 51 → j / 13 = 51 / 13 → s.hewRole 0 j ≠ 1)) ∧
    (let s := readyS.setReg 0 .HWR_UNIT_ROLE 3 51;
      s.hewRole 0 50 = 0 ∧ ∀ g, g < 52 → g / 13 = 50 / 13 → s.hewRole 0 g ≠ 1) := by
  and_intros <;> decide

/-! ### Gate, stopes, flits -/

/-- Tub `t` stands at the gate of portal 3, a Drift portal of role D2D that is up and whose guard lets it pass. -/
def gateS (t : Tub) (y : Tally := Tally.zero) : State :=
  ((upPortal Role.D2D true (fun x => { x with eqGot := [t] }) (fun h => { h with tallies := [(0, y)] })).setDev .GRD_RATE_RATE 1 (16 * 3)).setDev .GRD_RATE_BURST 1 (16 * 3)

/-- A tub of tally 0, sent while it speculated (`spc`). -/
def ofTally (spc : Bool) : Tub := { Tub.zero with tv := true, spc := spc }

theorem witness_gate :
    (let s := gateS (ofTally false) { Tally.zero with st := .opn };
      let x := s.ptl 0 3;
      x.txq.length < 64 ∧ x.lane = [] ∧ x.released = [] ∧ x.eqGot = ofTally false :: [] ∧ x.eqHead = [] ∧ s.linkUp 0 3 = true ∧ x.cfg.drift = true ∧
        (ofTally false).cls ≠ 0x4 ∧ (ofTally false).ans = false ∧ (s.tally 0 0).st ≠ .free ∧ (s.tally 0 0).gen = (ofTally false).gen ∧
        (s.tally 0 0).expired = false ∧ (ofTally false).wdog = false ∧ (s.guardFill 0 3).guardCause 0 3 (ofTally false) = 0) ∧
    ((gateS (ofTally false)).tally 0 0).st = .free ∧
    (let s := gateS (ofTally true) { Tally.zero with st := .opn, spec := .pending };
      (s.tally 0 0).spec = .pending ∧ (ofTally true).spc = true ∧ (s.ptl 0 3).hold.length < 512) ∧
    ((gateS (ofTally true) { Tally.zero with st := .opn, spec := .aborted }).tally 0 0).spec = .aborted ∧
    (let t := { ofTally true with cls := 0x4, seq := 9 };
      let s := (((gateS t { Tally.zero with st := .opn, spec := .pending, sp := { SpecRec.zero with tickets := 1, ticketSeq := 9 } }).updPtl 0 3 (fun x => { x with cfg := { x.cfg with role := Role.MEM } })).setDev .GRD_RATE_RATE 1 (16 * 3 + 4)).setDev .GRD_RATE_BURST 1 (16 * 3 + 4);
      s.role 0 3 = Role.MEM ∧ t.seq = (s.tally 0 0).sp.ticketSeq ∧ 0 < (s.tally 0 0).sp.tickets ∧
        ((s.setDev .GRD_WIN1_SIZE_GIB 1 (32 * 3)).guardFill 0 3).guardCause 0 3 t = 0) := by
  and_intros <;> decide

/-- Stope 127 holds a design. -/
def designs : Tbl Stope := [(127, { Stope.zero with active := [(1022, 1)] })]

theorem witness_stope_ports :
    (let f := flitAt (.router 127) 127 (.stope 127);
      let s := shaftS (fun h => { h with flights := [f], stopes := designs });
      s.stopeRuns 0 127 = true ∧ s.shGated 0 .STP = false ∧ (s.stope 0 127).hold = [] ∧ (s.sh 0).flights = [] ++ f :: [] ∧ f.act = .stope 127 ∧ f.there = true ∧
        f.tub.spc = false ∧ Cls.vc f.tub.cls ≠ 2 ∧ (s.stope 0 127).buf01.length < 8 ∧ f.tub.tv = true ∧ (s.tally 0 f.tub.tally.toNat).st = .free) ∧
    (let s := tallyS 0 { Tally.zero with st := .opn, spec := .pending };
      (s.tally 0 0).gen = 0 ∧ (s.tally 0 0).st ≠ .free ∧ (s.tally 0 0).spec = .pending ∧ s.reg 0 .STP_SPEC_EXPOSE 127 = 0 ∧
        (s.setReg 0 .STP_SPEC_EXPOSE 1 127).reg 0 .STP_SPEC_EXPOSE 127 ≠ 0 ∧ (s.stope 0 127).lineage = []) ∧
    (let f := flitAt (.router 127) 127 (.stopeRes 127 3 ⟨Tub.zero, false, false, false, false⟩);
      let s := shaftS (fun h => { h with flights := [f], stopes := designs });
      (s.stope 0 127).hold = [] ∧ (s.sh 0).flights = [] ++ f :: [] ∧ f.act = .stopeRes 127 3 ⟨Tub.zero, false, false, false, false⟩ ∧ f.there = true ∧ s.opBefore 0 127 3 = false) ∧
    (let s := shaftS (fun h => { h with stopes := designs });
      s.stopeRuns 0 127 = true ∧ (s.stope 0 127).waiting = none ∧ (s.sh 0).pushWaits = [] ∧
      s.reg 0 .STP_SPEC_STAINED 127 = 0 ∧ (s.stope 0 127).lineage = [] ∧ (s.stope 0 127).last = none ∧ (s.stope 0 127).outstanding < 4) ∧
    (let s := shaftS (fun h => { h with stopes := [(127, { Stope.zero with active := [(1022, 1)], outstanding := 4 })] });
      s.stopeRuns 0 127 = true ∧ 4 ≤ (s.stope 0 127).outstanding) := by
  and_intros <;> decide

/-- A flit of type 1 with a REQ tub in slot 0. -/
def reqFlit : Flit := Flit.sealed (Flit.putSlot (putBits 0 12 (1 : BitVec 4)) 0 ⟨Tub.zero, false, 0, 0⟩)

theorem witness_flits :
    (let s := upPortal Role.D2D true;
      let x := s.ptl 0 3;
      s.moverUp 0 3 = true ∧ x.cfg.drift = true ∧ x.expFseq = 0 ∧ (s.croute 0 3 0x0).1 = 0 ∧ s.cooling 0 = false ∧ x.markWait = false ∧ x.partnerEpoch = none ∧
        x.replayAt = none ∧ x.unacked.length < 256 ∧ x.txq = []) ∧
    (let s := (upPortal Role.D2D false).setDev .GRD_PORT_LINK_RESETS 1 3;
      s.moverUp 0 3 = true ∧ (s.ptl 0 3).cfg.drift = false ∧ (s.recentResets 0 3).length < s.resetLimit 0 3) ∧
    (let s := upPortal Role.D2D true (fun x => { x with replayAt := some 0 });
      s.moverUp 0 3 = true ∧ (s.ptl 0 3).replayAt = some 0) ∧
    (let s := upPortal Role.D2D true (fun x => { x with txq := [.tub Tub.zero false 0 0], credits := [1, 0, 0] });
      (s.ptl 0 3).txq = [.tub Tub.zero false 0 0] ∧ (Cls.vc Tub.zero.cls).toNat = 0 ∧ 0 < (s.ptl 0 3).credits.getD 0 0) ∧
    (let s := upPortal Role.D2D true (fun x => { x with txq := [.tub Tub.zero false 0 0], credits := [0, 0, 0] });
      (s.ptl 0 3).credits.getD 0 0 = 0) := by
  and_intros <;> decide

theorem witness_flit_received :
    (0 : Flit).extractLsb' 4032 64 ≠ crc64 ((List.range 504).map (fun i => (0 : Flit).extractLsb' (8 * i) 8)) ∧
      reqFlit.extractLsb' 4032 64 = crc64 ((List.range 504).map (fun i => reqFlit.extractLsb' (8 * i) 8)) ∧ reqFlit.getLsbD 28 = false ∧
      (reqFlit.extractLsb' 12 4).toNat = 1 ∧ reqFlit.extractLsb' 0 12 = 0 ∧ reqFlit.slot 0 = some ⟨Tub.zero, false, 0, 0⟩ ∧
      (∀ i, i < 7 → 0 < i → reqFlit.slot i = none) := by
  decide +kernel

/-! ### Claims, directory, queues -/

/-- A state in which Deep registers of shaft 0 and of the device may be written. -/
def deepS (g : ShaftSt → ShaftSt := id) : State := ((shaftS g).setReg 0 .SHF_CTL_DEEP_OPEN 1).setDev .DEV_CTL_DEEP_OPEN 1

theorem witness_open :
    (∀ b ∈ [Block.CLM, .TLY, .HWR, .QMG, .CTX, .SCB, .PTL, .LNE], deepS.gated 0 b = false ∧ deepS.blockBusy 0 b = false ∧ deepS.deepOpen 0 = true) ∧
    (∀ b ∈ [Block.IMG, .CAN, .PWR], deepS.gated 8 b = false ∧ deepS.blockBusy 8 b = false ∧ deepS.deepOpen 8 = true) := by
  and_intros <;> decide

theorem witness_claims :
    (let s := (deepS.setReg 0 .CLM_STAGE0_PORTAL 7).setReg 0 .CLM_ENTRY5_ENTRIES 1 255;
      s.reg 0 .CLM_STAGE0_PORTAL ≠ s.reg 0 .CLM_ENTRY0_PORTAL 255 ∧ 0 < s.reg 0 .CLM_ENTRY5_ENTRIES 255) ∧
    (deepS.reg 0 .CLM_ENTRY5_ENTRIES 255 = 0 ∧ deepS.claimOpen 0 255 = 0) ∧
    (deepS.reg 0 .CLM_CMD_STAT_BUSY = 0 ∧ (deepS.setReg 0 .CLM_CMD_STAT_BUSY 1).reg 0 .CLM_CMD_STAT_BUSY ≠ 0) ∧
    (deepS.reg 0 .QMG_CMD_STAT_BUSY = 0 ∧ (deepS.setReg 0 .QMG_CMD_STAT_BUSY 1).reg 0 .QMG_CMD_STAT_BUSY ≠ 0) ∧
    ((deepS.setReg 0 .CLM_ENTRY6_MAPPED 1 255).reg 0 .CLM_ENTRY6_MAPPED 255 ≠ 0) ∧
    (deepS.reg 0 .CLM_ENTRY6_MAPPED 255 = 0 ∧ deepS.reg 0 .CLM_MAP_VALID 1023 = 0 ∧ deepS.reg 0 .CLM_ENTRY0_VALID 255 = 0 ∧
      (deepS.setReg 0 .CLM_ENTRY0_VALID 1 255).reg 0 .CLM_ENTRY0_VALID 255 ≠ 0) ∧
    (let s := (deepS.setReg 0 .CLM_MAP_VALID 1 1023).setReg 0 .CLM_MAP_CLAIM 255 1023;
      s.reg 0 .CLM_MAP_VALID 1023 ≠ 0 ∧ s.reg 0 .CLM_MAP_CLAIM 1023 = 255) := by
  and_intros <;> decide

theorem witness_directory_upkeep :
    ((deepS.setReg 0 .CLM_SWEEP_STAT_BUSY 1).reg 0 .CLM_SWEEP_STAT_BUSY ≠ 0 ∧ deepS.reg 0 .CLM_SWEEP_STAT_BUSY = 0) ∧
    (let s := shaftS (fun h => { h with sweep := some ⟨3, 0, []⟩ });
      (s.sh 0).sweep = some ⟨3, 0, []⟩ ∧ s.engineWorks 0 = true ∧ ∀ w, w < 14 → s.sweepTakes 0 3 0 w = false) ∧
    (let s := shaftS (fun h => { h with sweep := some ⟨0, 13, []⟩, dir := [(13, { DirEnt.zero with st0 := 1 })] });
      (s.sh 0).sweep = some ⟨0, 13, []⟩ ∧ s.engineWorks 0 = true ∧ s.sweepTakes 0 0 0 13 = true ∧ (s.freeReserve 0).isSome = true ∧
        s.sweepMay 0 ⟨0, 13, []⟩ = true) ∧
    (let s := shaftS (fun h => { h with sweep := some ⟨0, 13, []⟩, recallWait := [.alloc 5] });
      s.sweepMay 0 ⟨0, 13, []⟩ = false) ∧
    ((shaftS (fun h => { h with sweep := some ⟨3, 14 * 2 ^ 19, []⟩ })).sh 0).sweep = some ⟨3, 14 * 2 ^ 19, []⟩ ∧
    (let s := shaftS (fun h => { h with recallWait := [.evict 0 13], dir := [(13, { DirEnt.zero with st0 := 1 })] });
      (s.sh 0).recallWait = .evict 0 13 :: [] ∧ (s.freeReserve 0).isSome = true ∧ s.engineWorks 0 = true ∧ s.wayFree 0 0 13 = false ∧ s.quarantine 0 0 13 = false ∧
        s.recallOf 0 0 13 = none ∧ ∀ i, i < 4 → s.lockAt 0 (sectorLine 0 (s.ent 0 0 13).tag i) = none) ∧
    (readyS.engineWorks 0 = true ∧ readyS.quarantine 0 524287 13 = false) := by
  and_intros <;> decide

/-- A queue of four slots in TLY's pool, staged, and queue 131071 as `d`. -/
def queueS (d : QDesc) (g : ShaftSt → ShaftSt := id) : State :=
  (((deepS (fun h => g { h with queues := [(131071, d)] })).setReg 0 .QMG_STAGE0_SIZE 2).setReg 0 .QMG_STAGE1_HWM 3).setReg 0 .QMG_CFG_RING_SLOTS 1

/-- A queue of four slots, in use; its read and write counters. -/
def inUse (rd wr : BitVec 21) : QDesc := { QDesc.zero with valid := true, size := 2, hwm := 3, rd := rd, wr := wr }

theorem witness_queue_commands :
    (let s := queueS QDesc.zero;
      let st := s.stagedQueue 0;
      (s.queue 0 131071).valid = false ∧ s.works 0 .QMG = true ∧ (s.sh 0).qops = [] ∧ (s.sh 0).queueCmd = none ∧ 1 ≤ st.size.toNat ∧ st.size.toNat ≤ 20 ∧ 1 ≤ st.hwm.toNat ∧ st.hwm.toNat < 2 ^ st.size.toNat ∧ st.lwm.toNat < st.hwm.toNat ∧
        st.place = false ∧ st.base.toNat % 2 ^ st.size.toNat = 0 ∧ st.base.toNat + 2 ^ st.size.toNat ≤ 4096 * s.reg 0 .QMG_CFG_RING_SLOTS ∧ st.base.toNat < 2 ^ 19) ∧
    (let s := queueS (inUse 0 1);
      let d := s.queue 0 131071;
      d.valid = true ∧ d.rd ≠ d.wr ∧ d.pend = false ∧ d.place = false ∧ d.tailMrk = false ∧ d.mode = false ∧ d.fill + 2 ≤ 2 ^ d.size.toNat ∧ d.markValid = false ∧
        s.reg 0 .QMG_HOST_STAT_BUSY = 0 ∧ (s.setReg 0 .QMG_HOST_STAT_BUSY 1).reg 0 .QMG_HOST_STAT_BUSY ≠ 0) ∧
    (let s := queueS { inUse 0 1 with place := true };
      (s.queue 0 131071).place = true ∧ (s.queue 0 131071).pend = false ∧ (s.queue 0 131071).rd ≠ (s.queue 0 131071).wr ∧ (s.sh 0).ringOps = []) ∧
    (let d := (queueS (inUse 0 0)).queue 0 131071;
      d.rd = d.wr ∧ d.valid = true) ∧
    ((queueS { inUse 0 1 with markValid := true }).queue 0 131071).markValid = true ∧
    (let st := ((queueS QDesc.zero).setReg 0 .QMG_STAGE0_SIZE 21).stagedQueue 0;
      ¬(1 ≤ st.size.toNat ∧ st.size.toNat ≤ 20)) ∧
    (let st := ((queueS QDesc.zero).setReg 0 .QMG_STAGE1_HWM 4).stagedQueue 0;
      ¬(1 ≤ st.hwm.toNat ∧ st.hwm.toNat < 2 ^ st.size.toNat)) := by
  and_intros <;> decide

theorem witness_queue_steps :
    (let s := queueS (inUse 0 1) (fun h => { h with qops := [⟨131071, .push Tub.zero, .gone⟩] });
      s.works 0 .QMG = true ∧ (s.sh 0).qops = [⟨131071, .push Tub.zero, .gone⟩] ∧ (s.sh 0).pushWaits = []) ∧
    (let s := queueS (inUse 0 1) (fun h => { h with pushWaits := [⟨131071, Tub.zero, .hewer 51 15, true⟩] });
      s.works 0 .QMG = true ∧ (s.sh 0).pushWaits = [] ++ ⟨131071, Tub.zero, .hewer 51 15, true⟩ :: []) ∧
    (let d := (queueS { inUse 0 3 with wait := true }).queue 0 131071;
      d.valid = true ∧ d.wait = true ∧ d.pend = false ∧ d.tailMrk = false ∧ 2 ^ d.size.toNat ≤ d.fill + 1) ∧
    (let s := shaftS (fun h => { h with ringOps := [⟨5, 0, false, .host, true, true⟩] });
      (s.sh 0).ringOps[0]? = some ⟨5, 0, false, .host, true, true⟩ ∧ (∀ r ∈ (s.sh 0).ringOps, r.write = false) ∧ s.log.length < 4096) := by
  and_intros <;> decide

/-! ### Contexts and scrubbing -/

theorem witness_contexts :
    (let s := deepS.setReg 0 .CTX_SLOT_STATE 1 1023;
      s.reg 0 .CTX_CMD_STAT_BUSY = 0 ∧ s.ctxRefuses 0 = false ∧ s.reg 0 .CTX_SLOT_STATE 1023 = 1 ∧ s.preloading 0 127 = false ∧ s.inSwap 0 127 = false ∧
        (s.setReg 0 .CTX_CMD_STAT_BUSY 1).reg 0 .CTX_CMD_STAT_BUSY ≠ 0 ∧ s.reg 0 .CTX_SLOT_STATE 0 ≠ 1) ∧
    (let s := shaftS (fun h => { h with preloads := [(127, some 7)] });
      Tbl.get none (s.sh 0).preloads 127 = some 7 ∧ (s.sh 0).suspect = []) ∧
    (let s := shaftS (fun h => { h with stopes := [(7, { Stope.zero with active := [(1022, 1)] })] });
      s.seamsOut 0 = false ∧ (s.stope 0 7).active ≠ [] ∧ segValid 0 = true ∧ 2 ≤ segPoints 0 ∧ (0 : BitVec 16) ∉ (s.stope 0 7).contended) ∧
    (let s := deepS.setReg 0 .CTX_STOPE_SH_STATE 2 127;
      s.shState 0 127 = 2 ∧ ¬(s.reg 0 .PCE_STOPE_TEMPO 127 < ((Tbl.get 0 (s.stope 0 127).shadow 1022 : BitVec 1024).extractLsb' 0 8).toNat)) ∧
    (deepS.shState 0 127 = 0) ∧
    (let s := (shaftS (fun h => { h with stopes := [(127, { Stope.zero with swapHold := true })] }));
      s.membersHold 0 ⟨[127], none, false⟩ = true) ∧
    (let s := shaftS (fun h => { h with stopes := [(127, { Stope.zero with active := [(1022, 1)], waiting := some (.qpop 0) })] });
      s.membersHold 0 ⟨[127], none, false⟩ = false) ∧
    ((deepS (fun h => { h with swaps := [⟨[127], none, true⟩] })).inSwap 0 127 = true) ∧
    (let s := (deepS (fun h => { h with stopes := [(127, { Stope.zero with shadow := [(1022, 0xFF)] })] })).setReg 0 .PCE_STOPE_TEMPO 16 127;
      s.reg 0 .PCE_STOPE_TEMPO 127 < ((Tbl.get 0 (s.stope 0 127).shadow 1022 : BitVec 1024).extractLsb' 0 8).toNat) := by
  and_intros <;> decide

/-- A state in which stope 127 of shaft 0 is the one member of gang 15, with a shadow. -/
def gangS : State := ((deepS.setReg 0 .CTX_STOPE_SH_STATE 2 127).setReg 0 .CTX_STOPE_GANG_EN 1 127).setReg 0 .CTX_STOPE_GANG 15 127

theorem witness_gangs :
    (List.range 128).filter (fun k => deepS.regB 0 .CTX_STOPE_GANG_EN k && decide (deepS.reg 0 .CTX_STOPE_GANG k = 15)) = [] := by
  rfl

theorem witness_gang_of_one :
    (List.range 128).filter (fun k => gangS.regB 0 .CTX_STOPE_GANG_EN k && decide (gangS.reg 0 .CTX_STOPE_GANG k = 15)) = [127] := by
  rfl

theorem witness_swap_edge :
    (let s := shaftS (fun h => { h with swaps := [⟨[127], none, false⟩], planCheck := [(1022 + 8192 * 127, frameCheck 0), (1023 + 8192 * 127, frameCheck 0)] });
      (s.sh 0).swaps[0]? = some ⟨[127], none, false⟩ ∧ frameCheck (Tbl.get 0 (s.stope 0 127).shadow 1022) = s.storedCheck 0 (1022 + 8192 * 127) ∧
        frameCheck (Tbl.get 0 (s.stope 0 127).shadow 1023) = s.storedCheck 0 (1023 + 8192 * 127)) ∧
    (let s := shaftS (fun h => { h with swaps := [⟨[127], none, false⟩] });
      (s.sh 0).swaps[0]? = some ⟨[127], none, false⟩ ∧ frameCheck (Tbl.get 0 (s.stope 0 127).shadow 1022) ≠ s.storedCheck 0 (1022 + 8192 * 127)) := by
  and_intros <;> decide +kernel

theorem witness_scrubbing :
    (let s := shaftS (fun h => { h with stopes := [(64, { Stope.zero with active := [(0, 5)] })], plan := [(64 * 8192, 5)] });
      s.scrubs 0 = true ∧ s.seamsOut 0 = false ∧ s.scb 0 true = 0 ∧ s.scb 0 false = 0 ∧ (s.scrubber 0 true).stope = 64 ∧ (s.scrubber 0 true).frame = 0 ∧
        s.scbSkips 0 64 = false ∧ frameAddr 64 (s.reg 0 .CTX_STOPE_ACTIVE 64) 0 = 64 * 8192 ∧ (s.sh 0).suspect = [] ∧ (s.scrubber 0 true).wrong = [] ∧
        (Tbl.get 0 (s.stope 0 64).active 0 : BitVec 1024) = Tbl.get 0 (s.sh 0).plan (64 * 8192)) ∧
    (let s := (deepS.setScb 0 true 2).setScb 0 false 1;
      s.scb 0 true = 2 ∧ s.scb 0 false = 1) ∧
    (let u : ScrubCheck := ⟨.agree, .good, 0, 1, 0⟩;
      u.vote = .agree ∧ u.golden = .good ∧ u.stays = 0 ∧ u.upset ≠ 0 ∧ { u with vote := .noneAgree }.vote = .noneAgree) ∧
    ((1048575 : Nat) / 8192 / 64 = bit true) ∧
    (deepS.reg 0 .CTX_RB_STAT_BUSY = 0 ∧ (0xFFFFF : BitVec 20).toNat ∉ (deepS.sh 0).suspect ∧ (deepS.stope 0 127).testHold = false ∧
      deepS.seamsOut 0 = false) := by
  and_intros <;> decide

/-! ### Portals -/

/-- Portal 7 of shaft 0 is a Drift portal of role D2D in state `st`, and holds what `f` makes of it; Deep registers may be written. -/
def portal7 (st : Nat) (f : PortalSt → PortalSt := id) : State :=
  (deepS.setReg 0 .PTL_STATE_STATE st 7).updPtl 0 7 (fun x => f { x with cfg := { x.cfg with role := Role.D2D, drift := true } })

/-- The same with settings that pass the checks of R347. -/
def settings7 (st : Nat) : State := (((portal7 st).setReg 0 .PTL_CFG_ROLE Role.D2D 7).setReg 0 .PTL_CFG_MODE 1 7).setReg 0 .PTL_CFG_WIDTH 0 7

theorem witness_portal_commands :
    ((settings7 0).sh 0).boot = .done ∧ ((settings7 0).sh 0).inReset = false ∧
    (∀ x ∈ Reg.places .PTL_CFG, (settings7 0).reg 0 x.1 7 < 2 ^ x.1.desc.width) ∧
    ((settings7 0).reg 0 .PTL_CFG_ENABLE 7 = 0 ∧ (settings7 0).pst 0 7 = Pst.DISABLED ∧
      Reg.reservedIn .PTL_CFG ((settings7 0).regWith 0 .PTL_CFG 7 .PTL_CFG_ENABLE 1) = false ∧ (settings7 0).enableCheck 0 7 = 0) ∧
    ((portal7 0).enableCheck 0 7 ≠ 0 ∧ Reg.reservedIn .PTL_CFG ((portal7 0).regWith 0 .PTL_CFG 7 .PTL_CFG_ENABLE 1) = false) ∧
    (let s := (settings7 Pst.UP).setReg 0 .PTL_CFG_ENABLE 1 7;
      s.reg 0 .PTL_CFG_ENABLE 7 = 1 ∧ Reg.reservedIn .PTL_CFG (s.regWith 0 .PTL_CFG 7 .PTL_CFG_ENABLE 0) = false) ∧
    (let s := (settings7 Pst.HOLD).setReg 0 .PTL_CFG_HOLD 1 7;
      s.reg 0 .PTL_CFG_HOLD 7 = 1 ∧ s.pst 0 7 = Pst.HOLD ∧ Reg.reservedIn .PTL_CFG (s.regWith 0 .PTL_CFG 7 .PTL_CFG_HOLD 0) = false) ∧
    ((settings7 0).reg 0 .PTL_CFG_HOLD 7 = 0 ∧ Reg.reservedIn .PTL_CFG ((settings7 0).regWith 0 .PTL_CFG 7 .PTL_CFG_HOLD 1) = false) ∧
    ((portal7 Pst.HOLD).lanePortal 0 0 = some 7 ∧ (portal7 Pst.HOLD).pst 0 7 = Pst.HOLD ∧ deepS.lanePortal 0 15 = none) := by
  and_intros <;> decide

theorem witness_portal_training :
    (∀ st ∈ [Pst.DETECT, Pst.TRAINING, Pst.HOLD], ((portal7 st).setDev .CLK_STATE_SHAFT Tmg.REF).trains 0 7 = true ∧ (portal7 st).pst 0 7 = st) ∧
    (∀ x ∈ [TrainStep.sync, .ident, .rate], ((portal7 Pst.TRAINING (fun y => { y with step := x })).ptl 0 7).step = x) ∧
    ((0 : Word).toNat = (portal7 Pst.TRAINING).reg 0 .SHF_PLANE_ID ∨ (1 : Word).toNat ≠ (portal7 Pst.TRAINING).reg 0 .SHF_PLANE_ID) ∧
    (((portal7 Pst.TRAINING).ptl 0 7).cfg.drift = true ∧ ((portal7 Pst.TRAINING).ptl 0 7).cfg.width ≤ 4 ∧ (portal7 Pst.TRAINING).highestRate 0 7 = 4) ∧
    (let s := portal7 Pst.TRAINING (fun y => { y with step := .rate });
      let r : TrainReport := ⟨0, true, 1, 4, false, 0, 0, false⟩;
      s.reg 0 .PTL_STATE_RATE 7 < s.highestRate 0 7 ∧ r.eqFailed = false ∧ r.rate = s.reg 0 .PTL_STATE_RATE 7 + 1 ∧ r.up = false) ∧
    (let s := (portal7 Pst.TRAINING (fun y => { y with step := .rate })).setReg 0 .PTL_STATE_RATE 3 7;
      let r : TrainReport := ⟨0, true, 4, 4, false, 0, 0, true⟩;
      r.up = true ∧ r.rate = s.highestRate 0 7 ∧ r.rate = s.reg 0 .PTL_STATE_RATE 7 + 1 ∧ { r with rate := 9 }.rate ≠ s.reg 0 .PTL_STATE_RATE 7 + 1) ∧
    (let s := portal7 Pst.TRAINING (fun y => { y with step := .ltssm, cfg := { y.cfg with drift := false } });
      let r : TrainReport := ⟨0, true, 0, 0, false, 0, 0, true⟩;
      (s.ptl 0 7).step = .ltssm ∧ (s.ptl 0 7).cfg.drift = false ∧ r.lacks = 0 ∧ r.rate = (s.heard 0 7 r).highestRate 0 7 ∧
        r.rate = s.reg 0 .PTL_STATE_RATE 7) ∧
    (let s := { portal7 Pst.TRAINING with up := 24000 };
      (s.ptl 0 7).stepAt + 24000 ≤ s.up) ∧
    ((portal7 Pst.BACKOFF).pst 0 7 = Pst.BACKOFF ∧ ((portal7 Pst.BACKOFF).ptl 0 7).backoffUntil ≤ (portal7 Pst.BACKOFF).up) ∧
    (let s := portal7 Pst.BACKOFF (fun x => { x with backoffUntil := 1 });
      s.up < (s.ptl 0 7).backoffUntil) := by
  and_intros <;> decide

theorem witness_portal_losses :
    (let s := (((portal7 Pst.UP).setReg 0 .PTL_STATE_PRESENT 1 7).setReg 0 .PTL_STATE_TRAINED 2 7).setReg 0 .PTL_CFG_SLEEP_EN 1 7;
      (s.ptl 0 7).cfg.drift = true ∧ s.pst 0 7 = Pst.UP ∧ s.reg 0 .PTL_STATE_PRESENT 7 ≤ 4 ∧ s.reg 0 .PTL_CFG_SLEEP_EN 7 ≠ 0 ∧
        s.reg 0 .PTL_CFG_MIN_WIDTH 7 < s.reg 0 .PTL_STATE_PRESENT 7 ∧ s.lanesFrom 0 7 0 1 = [1] ∧ (s.setReg 0 .LNE_CFG_SLEEP_EN 1 1).reg 0 .LNE_CFG_SLEEP_EN 1 ≠ 0 ∧
        s.reg 0 .PTL_STATE_PRESENT 7 < s.reg 0 .PTL_STATE_TRAINED 7 ∧ (s.setReg 0 .TLY_QUOTA_QUOTA 4 7).overWidth 0 7 0 1 = false ∧ s.overWidth 0 7 0 1 = true) ∧
    (let s := ({ portal7 Pst.UP (fun x => { x with wakeAt := some 0 }) with up := 11 }).setDev .GRD_PORT_LINK_RESETS 1 7;
      (s.ptl 0 7).wakeAt = some 0 ∧ 0 + 10 < s.up ∧ (s.recentResets 0 7).length < s.resetLimit 0 7 ∧ ∀ q : Portal, q ≠ 7 → (s.ptl 0 q).wakeAt = none) ∧
    (((portal7 Pst.UP).setReg 0 .PTL_CFG_SLEEP_EN 0 7).reg 0 .PTL_CFG_SLEEP_EN 7 = 0) ∧
    (let s := { portal7 Pst.RECOVERY with up := 1001 };
      s.pst 0 7 = Pst.RECOVERY ∧ (s.ptl 0 7).recoveryAt + 1000 < s.up ∧ s.linkUp 0 7 = true) ∧
    ((portal7 Pst.RECOVERY).up ≤ ((portal7 Pst.RECOVERY).ptl 0 7).recoveryAt + 1000) ∧
    ((portal7 Pst.DISABLED).linkUp 0 7 = false ∧ (portal7 Pst.DISABLED).pst 0 7 = Pst.DISABLED) ∧
    (let s := (portal7 Pst.DETECT (fun x => { x with deferred := .retrain })).setDev .GRD_PORT_LINK_RESETS 1 7;
      (s.ptl 0 7).deferred ≠ .none ∧ (s.recentResets 0 7).length < s.resetLimit 0 7) ∧
    (let s := (portal7 Pst.DETECT (fun x => { x with deferred := .retrain })).setDev .GRD_PORT_LINK_RESETS 0 7;
      s.resetLimit 0 7 ≤ (s.recentResets 0 7).length) ∧
    (ResetAsk.portal 0 7 ∈ { portal7 Pst.UP with resetsDue := [.portal 0 7] }.resetsDue) := by
  and_intros <;> decide

/-! ### Images -/

/-- A pointer block with slot A at 64 KiB and slot B at 32 MiB, of 16 MiB each; slot A active. -/
def goodPtr (probation : Bool) : PtrBlk := ⟨1, 0x10000, 0x2000000, 0x1000000, false, probation⟩

/-- A flash with copy 0 of that block and some bytes of an image header at slot B. -/
def flashed (probation : Bool) (hdr : List Byte) : List Host.Cell := memPut erasedByte hdr (0x2000000 + 24) (memPut erasedByte (goodPtr probation).bytes 0 [])

theorem flash_at_least (k : Nat) (h : k ≤ 2 ^ 29) : k ≤ Config.flashSize := Nat.le_trans h (Nat.le_add_right _ _)

theorem goodPtr_fits (b : Bool) : (goodPtr b).fits = true := by
  simp only [PtrBlk.fits, Bool.and_eq_true, Bool.or_eq_true, decide_eq_true_eq]
  dsimp only [goodPtr]
  refine ⟨⟨⟨⟨by decide, by decide⟩, flash_at_least _ (by decide)⟩, flash_at_least _ (by decide)⟩, Or.inl (by decide)⟩

/-- What copy 0 of a flash must read as for the good block to be in force. -/
theorem good_in_force (b : Bool) (m : List Host.Cell) (h1 : ptrCopy m 1 = none)
    (e : (⟨flashLe m 4 4, flashLe m 8 4, flashLe m 12 4, flashLe m 16 4, decide (flashLe m 20 1 = 1), decide (flashLe m 21 1 = 1)⟩ : PtrBlk) = goodPtr b)
    (c : flashLe m 0 4 = 0x484C4644 ∧ flashLe m 60 4 = (crc32 (flashTake m 0 60)).toNat ∧ flashLe m 20 1 ≤ 1 ∧ flashLe m 21 1 ≤ 1) :
    ptrInForce m = some (0, goodPtr b) := by
  have h : ptrCopy m 0 = some (goodPtr b) := by
    simp only [ptrCopy, Nat.mul_zero, Nat.zero_add, e, c, goodPtr_fits, and_self, if_true]
  simp only [ptrInForce, h, h1]

theorem witness_pointer : ptrInForce (flashed false []) = some (0, goodPtr false) :=
  good_in_force false _ (by decide +kernel) (by decide +kernel) (by decide +kernel)

theorem witness_probation : ptrInForce (flashed true []) = some (0, goodPtr true) :=
  good_in_force true _ (by decide +kernel) (by decide +kernel) (by decide +kernel)

/-- A device with that flash in image state `st`. -/
def imageS (st : Nat) (hdr : List Byte := []) : State := State.setDev { deepS with flash := flashed false hdr } .IMG_STATE_STATE st

theorem imageS_slots (st : Nat) : (imageS st).slotSize = 0x1000000 ∧ (imageS st).slotBase true = 0x2000000 := by
  have h : ptrInForce (imageS st).flash = some (0, goodPtr false) := by
    simp only [imageS, State.setDev, State.setF]; exact witness_pointer
  simp only [State.slotSize, State.slotBase, h, goodPtr, and_self, if_true]

theorem witness_image_stream :
    (let f := tells Opc.updateStream [7];
      let s := imageS Img.OPEN;
      s.devGated .IMG = false ∧ s.img = Img.OPEN ∧ f.address = s.dev .IMG_STREAM_NEXT ∧ s.buffered = 0 ∧ s.dev .IMG_STREAM_NEXT + 4 ≤ 0x1000000) ∧
    ((imageS Img.IDLE).img ≠ Img.OPEN) ∧
    (((imageS Img.OPEN).setDev .IMG_STREAM_NEXT 0x1000000).dev .IMG_STREAM_NEXT = 0x1000000) ∧
    ({ imageS Img.OPEN with wbuf := [⟨0, [0, 0]⟩, ⟨2, [0]⟩] }.buffered = 3) ∧
    (4096 ≤ ((imageS Img.OPEN).setDev .IMG_STREAM_NEXT 4092).dev .IMG_STREAM_NEXT + 4) ∧
    ({ imageS Img.OPEN with wbuf := [⟨0, [1]⟩] }.wbuf = ⟨0, [1]⟩ :: [] ∧ (imageS Img.OPEN).inactiveB = true) := by
  and_intros <;> decide

theorem witness_image_commands :
    (let s := imageS Img.IDLE;
      s.gated 8 .IMG = false ∧ s.blockBusy 8 .IMG = false ∧ s.imgAllows 3 = false ∧ s.dev .IMG_SLOTS_PROBATION = 0 ∧ s.img = Img.IDLE ∧ s.dev .IMG_CMD_STAT_BUSY = 0 ∧
        (s.setDev .IMG_CMD_STAT_BUSY 1).dev .IMG_CMD_STAT_BUSY ≠ 0) ∧
    ((imageS Img.OPEN).imgAllows 1 = false ∧ (imageS Img.ARMED).imgAllows 2 = false ∧ (imageS Img.IDLE).imgAllows 4 = false ∧ (imageS Img.IDLE).imgAllows 5 = false) ∧
    ((imageS Img.ARMED).img = Img.ARMED ∧ (imageS Img.VALIDATING).img = Img.VALIDATING ∧ (imageS Img.VALIDATING).wbuf = []) ∧
    (((imageS Img.IDLE).setDev .IMG_SLOTS_PROBATION 1).dev .IMG_SLOTS_PROBATION ≠ 0) ∧
    ((imageS Img.VALIDATING).dev .IMG_STREAM_NEXT < 4096 ∧ (imageS Img.VALIDATING).armOpen = false) := by
  and_intros <;> decide

/-- An image with no manifest entry, and one with an entry that is scheduled. -/
theorem witness_activate :
    deepS.activateCause ⟨0, hdrAt [] 0, []⟩ = Icf.NONE ∧ deepS.activateCause ⟨0, hdrAt [] 0, [entAt (memPut erasedByte [3, 0, 1] 0 []) 0]⟩ = Icf.LATE := by
  and_intros <;> decide

/-- An activation without parts. -/
def plainAct : Activation := ⟨true, 5, true, false, false, [], true, [], [], [], [], [], none, none, false, false, 0, 0, 255, false⟩

/-- A state with activation `a` in image state `st`. -/
def actS (st : Nat) (a : Activation) : State := { imageS st with act := some a }

/-- A manifest entry with a MICROCODE part for shaft 0. -/
def microcodeEnt : ManEnt := { entAt [] 0 with type := Part.MICROCODE, shaft := 0 }

theorem witness_staging :
    ((actS Img.STAGING plainAct).img = Img.STAGING ∧ (actS Img.STAGED plainAct).img = Img.STAGED ∧ (actS Img.REVERTING plainAct).img = Img.REVERTING) ∧
    (plainAct.boots = false ∧ plainAct.foreman = false ∧ plainAct.scheduled = false ∧ (∀ n : Shaft, plainAct.flips n = false) ∧ plainAct.swaps = []) ∧
    (deepS.foreUp = true ∧ { deepS with foreUp := false, up := 500000 }.foreAt + 500000 ≤ { deepS with foreUp := false, up := 500000 }.up) ∧
    (let a := { plainAct with ents := [microcodeEnt] };
      let s := (actS Img.STAGING a).updTally 0 0 (fun y => { y with st := .opn, epoch := true });
      a.flips 0 = true ∧ s.bankIdle 0 true = false ∧ s.epoch 0 = false ∧ (actS Img.STAGING a).bankIdle 0 true = true) ∧
    ((imageS Img.STAGING).imgWhen.toNat ≤ (imageS Img.STAGING).fab.toNat + 100000) ∧
    ((imageS Img.STAGED).fab.toNat < ((imageS Img.STAGED).setDev .IMG_WHEN_LO_WHEN_LO 1).imgWhen.toNat) := by
  and_intros <;> decide

/-- An image without manifest entries in slot B, which stages. -/
def emptyImage : State := { imageS Img.STAGING [0, 16, 0, 0, 64, 0, 0, 0] with act := some plainAct }

theorem emptyImage_ents : (emptyImage.imageIn true).ents = [] := by
  have h : ptrInForce emptyImage.flash = some (0, goodPtr false) := good_in_force false _ (by decide +kernel) (by decide +kernel) (by decide +kernel)
  have hb : emptyImage.slotBase true = 0x2000000 := by simp only [State.slotBase, h, if_true, goodPtr]
  simp only [State.imageIn, hb]
  decide +kernel

/-- A shaft of an image without parts has no swap to stage. -/
theorem stageSwap_empty (bad : Option (Shaft × Nat)) (s : State) (g : Image) (n : Shaft) (h : g.ents = []) :
    State.stageSwap bad s g n = (s, none) := by
  have ht : s.text g Part.REGION n.val = [] := by simp [State.text, textOf, h]
  have hr : regionMembers [] = [] := by decide
  simp [State.stageSwap, ht, hr]

theorem witness_staged :
    let g := emptyImage.imageIn true;
    let r := State.stageParts g true 0 g.ents (emptyImage.stageBegin plainAct);
    let m := r.1.stagingUpset;
    r.2 = none ∧ (foldTry (fun x n => State.stageSwap m.1 x g n) Oct.indices m.2).2 = none ∧ plainAct.ents = [] ∧
      ∀ n : Shaft, plainAct.flips n = false := by
  have h := emptyImage_ents
  intro g r m
  have hr : r = (emptyImage.stageBegin plainAct, none) := by simp only [r, g, h, State.stageParts]
  refine ⟨by rw [hr], ?_, rfl, by decide⟩
  have hs : ∀ (x : State) (n : Shaft), State.stageSwap m.1 x g n = (x, none) := fun x n => stageSwap_empty m.1 x g n h
  simp [foldTry, hs, Oct.indices]

theorem witness_commit :
    (let m := (actS Img.STAGED plainAct).commitUpset; (m.2.commitGangs m.1 plainAct).2.1 = none) ∧
    (let a := { plainAct with swaps := [(0, 127)] };
      let s := (actS Img.STAGED a).updSh 0 (fun h => { h with swaps := [⟨[127], some 15, true⟩] });
      let m := s.commitUpset;
      (m.2.commitGangs m.1 a).2.1 = some 2) := by
  and_intros <;> decide

theorem witness_flash_writes :
    ({ deepS with pointerDue := some ⟨true, true, false⟩ }.pointerDue = some ⟨true, true, false⟩) ∧
    (deepS.foreUp = true ∧ { deepS with foreUp := false }.foreUp = false) := by
  and_intros <;> decide

/-! ### Boot, Foreman, resets -/

theorem witness_boot :
    (State.reset.boot = .due ∧ State.reset.por = false ∧ ptrInForce State.reset.flash = none) ∧
    (State.reset.bootCause false).1 ≠ Icf.NONE ∧ (State.reset.bootCause true).1 ≠ Icf.NONE ∧
    (let s := deepS (fun h => { h with inReset := true, boot := .due });
      (s.sh 0).inReset = true ∧ (s.sh 0).boot = .due ∧ s.boot = .done ∧ s.foreUp = true ∧ s.thermal 0 ≠ 4 ∧ (s.slotCause false (fun e => decide (e.shaft = 0))).1 ≠ Icf.NONE) ∧
    ((deepS.setDev .CAN_SHAFT_THERMAL 4).thermal 0 = 4) ∧
    ((State.reset.setDev .CLK_STATE_SHAFT 4 3).anyStartHeld = true ∧ State.reset.anyStartHeld = false ∧ deepS.startHeld 0 = false) := by
  and_intros <;> decide +kernel

theorem witness_boot_with_pointer :
    headerCause (flashed false []) 0x2000000 0x1000000 ≠ Icf.NONE ∧ headerCause (flashed false []) 0x10000 0x1000000 ≠ Icf.NONE := by
  and_intros <;> decide +kernel

theorem witness_recovery :
    (let r : Recovery := ⟨8191, 0⟩;
      let s := deepS (fun h => { h with recoveries := [r], planCheck := [(8191, frameCheck 0)] });
      takeFirst (fun r : Recovery => decide (r.frame = 8191)) (s.sh 0).recoveries = some (r, []) ∧ s.foreUp = true ∧ s.devGated .IMG = false ∧
        s.frameFromFlash 0 8191 = none ∧ s.shGated 0 .SCB = false ∧ (s.setReg 0 .SGATE_HALTED 1 Block.SCB.code).shGated 0 .SCB = true) := by
  and_intros <;> decide

theorem witness_recovery_from_plane :
    (let s := (deepS (fun h => { h with recoveries := [⟨8191, 0⟩], planCheck := [(8191, frameCheck 0)] })).setReg 0 .CTX_STOPE_ACTIVE 7 0;
      s.frameFromFlash 0 8191 = none ∧ s.frameFromPlane 0 8191 = some 0) ∧
    (deepS (fun h => { h with recoveries := [⟨8191, 0⟩], planCheck := [(8191, frameCheck 0)] })).frameFromPlane 0 8191 = none := by
  and_intros <;> decide +kernel

theorem witness_foreman :
    (ResetAsk.fore ∈ { deepS with resetsDue := [.fore] }.resetsDue ∧ deepS.boot = .done ∧ deepS.foreUp = true) ∧
    ((actS Img.STAGED plainAct).staging = true ∧ (actS Img.STAGED plainAct).act ≠ none) ∧
    (let s := { deepS with foreUp := false };
      s.foreUp = false ∧ s.boot = .done ∧ s.por = false ∧ s.log.length < 4096) := by
  and_intros <;> decide

theorem witness_power_and_resets :
    (ResetAsk.cold ∈ { deepS with resetsDue := [.cold] }.resetsDue ∧ deepS.por = false ∧ deepS.log.length < 4096 ∧ ResetAsk.cold ∉ deepS.resetsDue ∧ deepS.railsHold = true) ∧
    (let s := { deepS with por := true, log := [], up := 1000 };
      s.por = true ∧ s.goodSince + 1000 ≤ s.up ∧ s.log = []) ∧
    ({ deepS with por := true }.up < { deepS with por := true }.goodSince + 1000) ∧
    (∀ a ∈ [ResetAsk.shaft 0, .stope 0 127], a ∈ { deepS with resetsDue := [.shaft 0, .stope 0 127] }.resetsDue ∧ a ∉ deepS.resetsDue) ∧
    (deepS.staging = false ∧ deepS.testRun 0 = none) := by
  and_intros <;> decide

theorem witness_governor :
    (deepS.devGated .PWR = false ∧ deepS.dev .PWR_AVS_AVS_FAULT = 0 ∧ deepS.dev .PWR_AVS_REQ_MV < 1024 ∧ deepS.dev .GRD_DEV_CAP_MV < 1024 ∧ deepS.station48 = false) ∧
    ((deepS.setDev .PWR_AVS_AVS_FAULT 1).dev .PWR_AVS_AVS_FAULT ≠ 0) ∧
    ((deepS.setDev .PWR_CFG_GOV_EN 0).dev .PWR_CFG_GOV_EN = 0 ∧ (deepS.setDev .PWR_CFG_GOV_EN 1).dev .PWR_CFG_GOV_EN ≠ 0) ∧
    (let s := { deepS with up := 100 }.setDev .PWR_AVS_REQ_MV 700;
      s.dev .PWR_AVS_REQ_MV = 700 ∧ 700 < maxOf (s.liveNeeds [720]) ∧ maxOf (s.liveNeeds [690]) ≤ 700 ∧ s.lowerAt + 100 ≤ s.up ∧ 680 ≤ min 720 (700 + 25)) ∧
    ({ deepS with up := 99 }.up < deepS.lowerAt + 100 ∧ { deepS with station48 := true }.station48 = true) := by
  and_intros <;> decide

/-- Shaft 0 in DOZE state `d` and thermal state `t`. -/
def restS (d t : Nat) (g : ShaftSt → ShaftSt := id) : State := ({ deepS g with up := 100000 }.setDev .PWR_SHAFT_STATE d).setDev .CAN_SHAFT_THERMAL t

theorem witness_doze :
    ((restS 0 0).doze 0 = 0 ∧ (restS 0 0).dozeWaits 0 = false ∧ (restS 0 1).dozeWaits 0 = true) ∧
    ((restS 1 0).doze 0 = 1 ∧ (restS 1 0).anyOpen 0 = false ∧ ((restS 1 0).updTally 0 0 (fun y => { y with st := .opn })).anyOpen 0 = true) ∧
    ((restS 3 0).doze 0 = 3 ∧ (restS 3 0).thermal 0 ≠ 4 ∧ (restS 3 0).coldStart 0 = none ∧ ∀ l, l < 5 → (restS 3 0).layerWarm 0 l = true) ∧
    ((((restS 3 0).setDev .CAN_SENSOR_VALUE 0xF00 0).coldStart 0).isSome = true ∧ ([0, 1, 2, 3, 4, 5].foldl (fun (s : State) i => s.setDev .CAN_SENSOR_VALUE 0xF00 i) (restS 0 4)).layerWarm 0 0 = false) ∧
    ((restS 0 4).thermal 0 = 4 ∧ (restS 0 4 (fun h => { h with inReset := true })).held 0 = false ∧ (restS 0 4 (fun h => { h with coldHeld := true })).held 0 = true) := by
  and_intros <;> decide

theorem witness_canary :
    (deepS.dev .CAN_SENSOR_BROKEN 0 = 0) ∧ (hottest (deepS.shaftTemps 0)).isSome = true := by
  and_intros <;> decide

theorem witness_thermal :
    ((restS 0 1).thermal 0 = 1 ∧ ((restS 0 1).sh 0).thermal.tripAt + 800 ≤ (restS 0 1).up ∧ { restS 0 1 with up := 799 }.up < (deepS.sh 0).thermal.tripAt + 800) ∧
    (∀ t ∈ [2, 3],
      let s := restS 0 t (fun h => { h with thermal := { h.thermal with coolSince := some 0 } });
      s.thermal 0 = t ∧ (s.sh 0).thermal.coolSince = some 0 ∧ 0 + 100000 ≤ s.up ∧ s.dev .PWR_SHAFT_DOZE 0 = 0) ∧
    (let s := (restS 2 2 (fun h => { h with thermal := { h.thermal with coolSince := some 1 } })).setDev .PWR_SHAFT_DOZE 1;
      s.up < 1 + 100000 ∧ s.dev .PWR_SHAFT_DOZE 0 ≠ 0) := by
  and_intros <;> decide

theorem witness_step : deepS.pending = [] ∧ { deepS with pending := [.adrift 0] }.pending = .adrift 0 :: [] ∧ { deepS with slew := -1, frac := 32768 }.slew < 0 := by
  and_intros <;> decide

/-- R417: at a cap of 85 % a TEMPO of 20 is held to 24, the least at or above 20 ÷ 0.85; the admission handle allows 8.0 G/s × 25 % at CAP code 5. -/
theorem test_canary_handles : heldSetting 85 20 = 24 ∧ heldSetting 100 20 = 20 ∧ 80 * capPct 5 = 2000 := by decide

/-! ### Single steps and numbers of the spec's own examples -/

/-- Does an outcome end in a state of which `p` holds? -/
def ends (o : Host.Outcome State Fault Refusal) (p : State → Bool) : Bool :=
  match o with
  | .next t => p t
  | _ => false

/-- Chapter 2, "changing a route entry": step 1 is denied, steps 2, 3 and 4 go through. -/
theorem test_route_denied : ends (exec (.write (tells Opc.write [0x0000000E] 0x130010600)) readyS) (fun t =>
    decide (t.reg 3 .SHF_ROUTE_TARGET 384 = 0) && decide (t.cage.sent.map Reply.result = some (BitVec.ofNat 4 Res.DENIED))) = true := by
  decide
theorem test_route_key : ends (exec (.write (tells Opc.write [0x0000D501] 0x130000008)) readyS) (fun t =>
    t.deepOpen 3 && decide (t.cage.sent.map Reply.result = some 0)) = true := by
  decide
theorem test_route_wrong_key : ends (exec (.write (tells Opc.write [0x00000001] 0x130000008)) readyS) (fun t =>
    !t.deepOpen 3 && decide (t.cage.sent.map Reply.result = some (BitVec.ofNat 4 Res.DENIED))) = true := by
  decide
theorem test_route_written : ends (exec (.write (tells Opc.write [0x0000000E] 0x130010600)) (readyS.setReg 3 .SHF_CTL_DEEP_OPEN 1)) (fun t =>
    decide (t.reg 3 .SHF_ROUTE_TARGET 384 = 14) && decide (t.cage.sent.map Reply.result = some 0)) = true := by
  decide

/-- Chapter 3, "one register read": Lamp NOTICE, Result OK, ATTN 0x08, the data word 1. -/
theorem test_register_read :
    ends (exec (.read (let f := { asks Opc.read 1 0x130000008 with tag := 0x2C }
      { f with hcrc := crc16 (f.header 0x01) }))
      { readyS.setReg 3 .SHF_CTL_DEEP_OPEN 1 with log := [⟨0, 0, 0, 3, 0, 0, 0, 0⟩] })
      (fun t => decide (t.cage.sent = some (Reply.make 1 0 0x08 0x2C 0x01 [1]))) = true := by
  decide

/-- R64: the check value of each CRC, over the digits 1 to 9. -/
def digits : List Byte := [0x31, 0x32, 0x33, 0x34, 0x35, 0x36, 0x37, 0x38, 0x39]
theorem test_crc32 : crc32 digits = 0xCBF43926 := by decide
theorem test_crc16 : crc16 digits = 0x29B1 := by decide

/-- Chapter 5: x8 at 64 GT/s is capped at 32,768, x4 at 16 GT/s gives 10,000. Chapter 11: frame 395 of C2 of stope S3.U.12. Chapter 4: the vertical link of S2.U.47. -/
theorem test_numbers : quota false 5 8 = 32768 ∧ quota false 3 4 = 10000 ∧ frameAddr 76 2 395 = 625035 ∧ routerLink 47 = 11 ∧ linkRouter 11 = 38 := by decide

/-- Chapter 9: with FILL N − 1 and an item at the tail, row 6 writes a marker; then row 5 counts in it. -/
theorem test_gap_marker :
    let s := (queueS { inUse 0 7 with size := 3, hwm := 6 }).pushNow 0 131071 Tub.zero false;
    let t := s.1.pushNow 0 131071 Tub.zero false;
    (s.1.queue 0 131071).wr = 8 ∧ (s.1.queue 0 131071).tailMrk = true ∧ (s.1.queue 0 131071).gap = true ∧ (t.1.queue 0 131071).wr = 8 := by
  intro s t; and_intros <;> decide

/-- Chapter 9, "yielding": with WR − MARK at N the mark is lost. -/
theorem test_mark_lost :
    let s := ((queueS { inUse 105 115 with size := 4, hwm := 15, mode := true, mark := 100, markValid := true }).pushNow 0 131071 Tub.zero false).1;
    (s.queue 0 131071).wr = 116 ∧ (s.queue 0 131071).markLost = true ∧ (s.queue 0 131071).markValid = false := by
  intro s; and_intros <;> decide

/-- R204: ADD wraps: the sum 0 sets Z and C and clears N and V. -/
theorem test_add_wraps :
    ends (exec (.hewAdd 0 0 0 { noFields with bi := true, imm := 1 } .clean) (running 0x01 { noFields with bi := true, imm := 1 } Tally.zero (threadW0 0xFFFFFFFFFFFFFFFF)))
      (fun t => let x := t.thread 0 0 0; decide (x.reg 0 = 0) && x.z && x.c && !x.n && !x.v && decide (x.pc = 1)) = true := by
  decide

/-- R204: SAR keeps the sign. -/
theorem test_sar_keeps_sign :
    ends (exec (.hewSar 0 0 0 { noFields with bi := true, imm := 63 } .clean) (running 0x08 { noFields with bi := true, imm := 63 } Tally.zero (threadW0 0x8000000000000000)))
      (fun t => decide ((t.thread 0 0 0).reg 0 = 0xFFFFFFFFFFFFFFFF)) = true := by
  decide

/-- R80, R84: EVENT_READ takes the oldest entry away. -/
theorem test_event_read : ends (exec (.eventRead (asks Opc.eventRead 8)) readyS) (fun t => decide (t.log = []) && decide (t.cage.sent.map (fun r => r.data.length) = some 8)) = true := by
  decide

/-- R115: a µs without a command is 1,000 ns of fabric time. -/
theorem test_tick : ends (step State.reset) (fun t => decide (t.fab = 1000) && decide ((t.sh 7).clock = 1)) = true := by
  decide

/-- The queue is first in, first out. -/
theorem test_queue_front : ends (step { State.reset with pending := [.cageReady, .boot] }) (fun t => t.cage.ready && decide (t.pending = [.boot])) = true := by
  decide

/-- Chapter 10, "a collision between unequal aspects": port A of 1K×36 in mode OLD writes ones to lane 2 at 0x155, port B of 4K×9 in mode NEW writes zeros at 0x556 in the
same cycle. Row 170 keeps A's lane in byte 6 and side bit 6, A reads the old bytes, B reads A's lane, and B sees a collision; at 0x55E B is in row 171, and there is none. -/
theorem test_collision :
    let a : BlkReq := ⟨true, 0xFF, 0x155, (0x1FF <<< 18 : BitVec 72)⟩;
    let o := blkCycle [] 0 0x118A (some a) (some ⟨true, 0xFF, 0x556, 0⟩) 0 0;
    blkRow o.cells 0 170 = (0xFF : BitVec 72) <<< 48 ||| (1 : BitVec 72) <<< 70 ∧ o.a = some 0 ∧ o.b = some 0x1FF ∧ o.coll = true ∧
      (blkCycle [] 0 0x118A (some a) (some ⟨true, 0xFF, 0x55E, 0⟩) 0 0).coll = false ∧ blkByte 4684 170 6 = 0x1B727FC + 2 := by
  intro a o; and_intros <;> decide +kernel

/-- R268: with T = 2^40 and K = 40, W is 1 in whole mode, and in split mode, where K5 does nothing, it is T[32 + 8]; H is T[8] in both. -/
theorem test_table_modes :
    let c : CellCfg := ⟨1 <<< 40, false, 0, 0, []⟩;
    let k : Nat → Bool := fun i => (40 : BitVec 6).getLsbD i;
    let q : Nat → Bool := fun i => (8 : BitVec 6).getLsbD i;
    c.outW k = true ∧ c.outW q = false ∧ { c with split := true }.outW k = true ∧ { c with split := true }.outW q = true ∧ c.outH k = false := by
  intro c k q; and_intros <;> decide

end Sys2Proof.Tests
end

section
/-! SUPPORT. One access of the Cage (R42, R50, R76): the turn it takes, and what each outcome of the address means for a write and for a read. -/

namespace Sys2Proof.Machine

variable {s : State} {a : Nat} {x : WordAt} {o : WordOut} {sc : Nat} {b : Block}

/-- R76: what the free Cage takes up is carried out at once. -/
theorem State.cageTurn_of_free (h : s.CageFree) (f : State → State) : s.cageTurn f = f s := by
  obtain ⟨hready, hdue⟩ := h
  simp [State.cageTurn, hready, hdue]

theorem State.writeAt_denied {v : Word} (hm : s.meet a = .word x) (hd : State.writeDenied s s x v = true) :
    State.writeAt s s a v = (s, .denied) := by
  simp only [State.writeAt, hm, hd, if_true]

theorem State.writeAt_accepted {v : Word} (hm : s.meet a = .word x) (hd : State.writeDenied s s x v = false) :
    State.writeAt s s a v = (s.cageWrite x v, .ok) := by
  simp only [State.writeAt, hm, hd, Bool.false_eq_true, if_false]

theorem exec_registerWrite_of_free (h : s.CageFree) (a : Nat) (v : Word) :
    exec (.registerWrite a v) s = .next (State.writeAt s s a v).1 :=
  congrArg Host.Outcome.next (State.cageTurn_of_free h _)

theorem State.readAt_word (hm : s.meet a = .word x) :
    State.readAt s s a = ((s.beforeRead x).readWord x, (s.beforeRead x).wordValue x, .ok) := by
  simp only [State.readAt, hm]

/-- R42, R55: only a gated block counts a word it keeps from being read. -/
theorem State.readAt_out (hm : s.meet a = .out o sc b) (ho : o ≠ .byGate) : State.readAt s s a = (s, 0, o) := by
  simp only [State.readAt, hm, if_neg ho]

theorem exec_rcRead_of_free (h : s.CageFree) (a : Nat) : exec (.rcRead a) s = .next (State.readAt s s a).1 :=
  congrArg Host.Outcome.next (State.cageTurn_of_free h _)

theorem exec_timNowRead_of_free (h : s.CageFree) : exec .timNowRead s = .next (s.regRead 8 .TIM_NOW_LO 0) :=
  congrArg Host.Outcome.next (State.cageTurn_of_free h _)

/-- R55 to R57: the window of a device-common block is shut by its gate and by its return from it, and by nothing else. -/
theorem State.windowOut_dev (hg : s.gated 8 b = false) (hr : s.returning.contains (8, b) = false) : s.windowOut 8 b = none := by
  have hbusy : s.blockBusy 8 b = false := by rw [State.blockBusy, hr]; rfl
  simp [State.windowOut, hg, hbusy]

end Sys2Proof.Machine
end

section
/-! SUPPORT. The registers that stand for their kind: SHF.ROUTE for read-write fields, GATE_HITS for read-to-clear fields, and TIM.NOW_LO. -/

namespace Sys2Proof.Machine

/-- R16, R50: at the open Deep level a write of SHF.ROUTE is refused for a reserved encoding only. -/
theorem State.writeDenied_shfRoute {hdr : State} {sc : Nat} (h : hdr.deepOpen sc = true) (s : State) (e : Nat) (v : Word) :
    State.writeDenied hdr s (.reg sc .SHF_ROUTE e) v = Reg.reservedIn .SHF_ROUTE v := by
  have hro : Reg.readOnly .SHF_ROUTE e = false := by simp [Reg.readOnly, Reg.places, Fld.desc]
  simp [State.writeDenied, State.regBarred, State.whenBarred, keyWrong, hro, h]

theorem fieldOf_shfRouteTarget (v : Word) : fieldOf v .SHF_ROUTE_TARGET ⟨0, 1, 0⟩ = v.toNat % 16 := by
  simp [fieldOf, Fld.desc]

/-- R12: SHF.ROUTE has one field, and writing it does nothing else. -/
theorem State.cageWrite_shfRoute (s : State) (n : Shaft) (e : Nat) (v : Word) :
    s.cageWrite (.reg n.val .SHF_ROUTE e) v = s.setReg n .SHF_ROUTE_TARGET (v.toNat % 16) e := by
  rw [← fieldOf_shfRouteTarget]
  simp [State.cageWrite, State.writeWord, State.writeReg, keyWrong, State.storeReg, Reg.places, Place.elem, State.storeField, Fld.desc,
    State.putField, State.shaftEffect, State.setReg]

/-- R12: the read of GATE_HITS clears it. -/
theorem State.readWord_sgateHits (s : State) (n : Shaft) (e : Nat) :
    s.readWord (.reg n.val .SGATE_HITS e) = s.setReg n .SGATE_HITS_HITS 0 e := by
  simp [State.readWord, State.readReg, Reg.places, Place.elem, Fld.desc, State.setReg]

theorem State.readReg_timNowLo (s : State) (sc e : Nat) :
    s.readReg sc .TIM_NOW_LO e = s.setDev .TIM_NOW_HI_NOW_HI (s.fab.toNat / 2 ^ 32) := rfl

/-- R55: the block TIM neither gated nor on its way back, NOW_LO is read. -/
theorem State.regRead_timNowLo {s : State} (hg : s.gated 8 .TIM = false) (hr : s.returning.contains (8, .TIM) = false) :
    s.regRead 8 .TIM_NOW_LO 0 = s.setDev .TIM_NOW_HI_NOW_HI (s.fab.toNat / 2 ^ 32) := by
  have hopen : s.shut (.reg 8 .TIM_NOW_LO 0) = none := State.windowOut_dev hg hr
  simp only [State.regRead, hopen, State.readReg_timNowLo]

end Sys2Proof.Machine
end

section
/-! The access types of register fields (R12, R14, R16). -/

namespace Sys2Proof.Machine

/-- Settles O20: a write of SHF.ROUTE is refused whole or sets TARGET alone; a read meets its word or leaves the machine as it is. -/
theorem fieldAccess : Obligations.FieldAccess := by
  unfold Obligations.FieldAccess
  refine ⟨fun s n a e v hfree hmeet hdeep => ?_, fun s n a hfree =>
    ⟨fun x hmeet => ?_, fun o sc b hmeet ho => ?_, fun b hmeet => ?_, fun hg hr => ?_⟩⟩
  · have hden := State.writeDenied_shfRoute hdeep s e v
    rw [exec_registerWrite_of_free hfree]
    cases hres : Reg.reservedIn .SHF_ROUTE v with
    | true =>
      rw [State.writeAt_denied hmeet (hden.trans hres)]
      exact ⟨s, rfl, nofun, fun _ => rfl, rfl, fun _ _ _ _ _ => rfl⟩
    | false =>
      rw [State.writeAt_accepted hmeet (hden.trans hres), State.cageWrite_shfRoute]
      refine ⟨_, rfl, fun _ => ?_, nofun, rfl, fun g sc j hsc hne => ?_⟩
      · exact (State.getF_setF_same s _ _ _ _).trans (Nat.mod_mod _ 16)
      · exact State.getF_setF_other s _ (by omega) hsc hne
  · rw [exec_rcRead_of_free hfree, State.readAt_word hmeet]
  · rw [exec_rcRead_of_free hfree, State.readAt_out hmeet ho]
  · rw [exec_rcRead_of_free hfree, State.readAt_word hmeet]
    exact congrArg Host.Outcome.next (State.readWord_sgateHits s n b.code)
  · rw [exec_timNowRead_of_free hfree, State.regRead_timNowLo hg hr]

end Sys2Proof.Machine
end

section
/-! SUPPORT. More of one access of the Cage: while it is not ready (R76), a word its block keeps from being written (R55 to R57), and the write of
a register by a frame of its own. -/

namespace Sys2Proof.Machine

variable {s : State} {sc : Nat} {b : Block}

/-- R76: the Cage takes nothing up while it is not ready. -/
theorem State.cageTurn_of_not_ready (h : s.cage.ready = false) (f : State → State) : s.cageTurn f = s := by
  simp [State.cageTurn, h]

theorem State.writeAt_byGate {a : Nat} (hm : s.meet a = .out .byGate sc b) (v : Word) :
    State.writeAt s s a v = (s.gateHit sc b, .byGate) := by
  simp only [State.writeAt, hm, if_true]

/-- R42, R55: only a gated block counts a word it keeps from being written. -/
theorem State.writeAt_out {a : Nat} {o : WordOut} (hm : s.meet a = .out o sc b) (ho : o ≠ .byGate) (v : Word) :
    State.writeAt s s a v = (s, o) := by
  simp only [State.writeAt, hm, if_neg ho]

/-- R50 to R54: in an open window a register write is refused whole or carried out. -/
theorem State.regWrite_of_open {r : Reg} {e : Nat} (h : s.shut (.reg sc r e) = none) (v : Word) :
    s.regWrite sc r e v = if State.writeDenied s s (.reg sc r e) v then s else s.cageWrite (.reg sc r e) v := by
  simp only [State.regWrite, State.writeAlone, h]

/-- R31: SHF answers BUSY only while it returns from a gate. -/
theorem State.windowOut_shf (n : Shaft) (hg : s.gated n.val .SHF = false) (hr : s.returning.contains (n.val, .SHF) = false) :
    s.windowOut n.val .SHF = none := by
  have hbusy : s.blockBusy n.val .SHF = false := by rw [State.blockBusy, hr]; simp
  simp [State.windowOut, hg, hbusy]

theorem exec_shfDeepOpen_of_free (h : s.CageFree) (n : Shaft) (v : Word) :
    exec (.shfDeepOpen n v) s = .next (s.regWrite n.val .SHF_CTL 0 v) :=
  congrArg Host.Outcome.next (State.cageTurn_of_free h _)

theorem exec_devDeepOpen_of_free (h : s.CageFree) (v : Word) :
    exec (.devDeepOpen v) s = .next (s.regWrite 8 .DEV_CTL 0 v) :=
  congrArg Host.Outcome.next (State.cageTurn_of_free h _)

end Sys2Proof.Machine
end

section
/-! SUPPORT. The key of DEEP_OPEN (R54): SHF.CTL with SLICE 0b00 and DEV.CTL are refused for a wrong key only, and set DEEP_OPEN to bit 0. -/

namespace Sys2Proof.Machine

variable {v : Word}

theorem keyWrong_iff {r : Reg} (hr : r = .SHF_CTL ∨ r = .DEV_CTL) :
    keyWrong r v = true ↔ v.getLsbD 0 = true ∧ v.extractLsb' 8 8 ≠ 0xD5 := by
  rcases hr with rfl | rfl <;> simp [keyWrong]

theorem bit_getLsbD_zero (v : Word) : (v.extractLsb' 0 1).toNat = bit (v.getLsbD 0) := by
  rw [BitVec.extractLsb'_toNat, Nat.shiftRight_zero, BitVec.getLsbD, Nat.testBit_zero, bit]
  rcases Nat.mod_two_eq_zero_or_one v.toNat with h | h <;> simp [h]

theorem fieldOf_shfCtlSlice (h : v.extractLsb' 16 2 = 0) : fieldOf v .SHF_CTL_SLICE ⟨16, 1, 0⟩ = 0 := congrArg BitVec.toNat h

theorem State.writeDenied_of_keyWrong {r : Reg} (h : keyWrong r v = true) (hdr s : State) (sc e : Nat) :
    State.writeDenied hdr s (.reg sc r e) v = true := by
  simp [State.writeDenied, State.regBarred, h]

/-- R50: with SLICE 0b00 the write of SHF.CTL changes no Deep field, and the key alone decides. -/
theorem State.writeDenied_shfCtl (h : v.extractLsb' 16 2 = 0) (hdr s : State) (n : Shaft) :
    State.writeDenied hdr s (.reg n.val .SHF_CTL 0) v = keyWrong .SHF_CTL v := by
  have hslice := fieldOf_shfCtlSlice h
  simp [State.writeDenied, State.regBarred, State.whenBarred, State.changesDeep, State.changes, Reg.readOnly, Reg.reservedIn, Reg.places,
    Fld.reserved, Fld.desc, hslice]

/-- R50: DEV.CTL has no Deep field, and the key alone decides. -/
theorem State.writeDenied_devCtl (hdr s : State) : State.writeDenied hdr s (.reg 8 .DEV_CTL 0) v = keyWrong .DEV_CTL v := by
  simp [State.writeDenied, State.regBarred, State.whenBarred, State.changesDeep, Reg.readOnly, Reg.reservedIn, Reg.places,
    Fld.reserved, Fld.desc]

/-- R54, R432: with SLICE 0b00 the write of SHF.CTL asks for no slice reset. -/
theorem State.cageWrite_shfCtl (h : v.extractLsb' 16 2 = 0) (hkey : keyWrong .SHF_CTL v = false) (s : State) (n : Shaft) :
    s.cageWrite (.reg n.val .SHF_CTL 0) v = s.setReg n .SHF_CTL_DEEP_OPEN (bit (v.getLsbD 0)) := by
  have hpart : Reg.part .SHF_CTL v .SHF_CTL_SLICE = 0 := fieldOf_shfCtlSlice h
  rw [← bit_getLsbD_zero]
  simp [State.cageWrite, State.writeWord, State.writeReg, hkey, hpart, State.storeReg, Reg.places, Place.elem, State.storeField, Fld.desc,
    State.putField, fieldOf, State.shaftEffect, State.sliceWrite, State.setReg]

theorem State.cageWrite_devCtl (hkey : keyWrong .DEV_CTL v = false) (s : State) :
    s.cageWrite (.reg 8 .DEV_CTL 0) v = s.setDev .DEV_CTL_DEEP_OPEN (bit (v.getLsbD 0)) := by
  rw [← bit_getLsbD_zero]
  simp [State.cageWrite, State.writeWord, State.writeReg, hkey, State.storeReg, Reg.places, Place.elem, State.storeField, Fld.desc,
    State.putField, fieldOf, State.devEffect, State.setDev]

/-- R54: a write that the key alone can refuse, and that otherwise sets its field to bit 0. -/
theorem State.regWrite_of_key {s : State} {sc : Nat} {r : Reg} {set : Nat → State} (hr : r = .SHF_CTL ∨ r = .DEV_CTL)
    (hopen : s.shut (.reg sc r 0) = none) (hden : State.writeDenied s s (.reg sc r 0) v = keyWrong r v)
    (hset : keyWrong r v = false → s.cageWrite (.reg sc r 0) v = set (bit (v.getLsbD 0))) :
    s.regWrite sc r 0 v = if v.getLsbD 0 then if v.extractLsb' 8 8 = 0xD5 then set 1 else s else set 0 := by
  have hkey := keyWrong_iff (v := v) hr
  rw [State.regWrite_of_open hopen, hden]
  cases hw : keyWrong r v with
  | true =>
    obtain ⟨hb, hne⟩ := hkey.mp hw
    simp only [hb, if_true, if_neg hne]
  | false =>
    rw [hset hw]
    cases hb : v.getLsbD 0 with
    | false => rfl
    | true =>
      have hd : v.extractLsb' 8 8 = 0xD5 := by simpa [hw, hb] using hkey
      simp [hd, bit]

end Sys2Proof.Machine
end

section
/-! The writes of the Cage by outcome (R42, R50, R55 to R57), and the key of DEEP_OPEN (R54). -/

namespace Sys2Proof.Machine

/-- Settles O19: a write of the Cage meets one of the outcomes of R42; a write of DEEP_OPEN is refused for its key only. -/
theorem registerWrites : Obligations.RegisterWrites := by
  unfold Obligations.RegisterWrites
  refine ⟨fun s a v => ⟨fun hready => ?_, fun hfree => ⟨fun sc b hmeet => ?_, fun o sc b hmeet ho => ?_, fun x hmeet hden => ?_,
    fun x hmeet hacc => ?_⟩⟩, fun s n v hfree hshf hdev hret => ⟨fun hslice => ?_, ?_, fun hkey => ?_⟩⟩
  · exact congrArg Host.Outcome.next (State.cageTurn_of_not_ready hready _)
  · rw [exec_registerWrite_of_free hfree, State.writeAt_byGate hmeet, State.gateHit]
  · rw [exec_registerWrite_of_free hfree, State.writeAt_out hmeet ho]
  · rw [exec_registerWrite_of_free hfree, State.writeAt_denied hmeet hden]
  · rw [exec_registerWrite_of_free hfree, State.writeAt_accepted hmeet hacc]
  · have hopen : s.shut (.reg n.val .SHF_CTL 0) = none := State.windowOut_shf n hshf (by rw [hret]; rfl)
    rw [exec_shfDeepOpen_of_free hfree, State.regWrite_of_key (set := fun k => s.setReg n .SHF_CTL_DEEP_OPEN k) (.inl rfl) hopen
      (State.writeDenied_shfCtl hslice s s n) (fun hkey => State.cageWrite_shfCtl hslice hkey s n)]
  · have hopen : s.shut (.reg 8 .DEV_CTL 0) = none := State.windowOut_dev hdev (by rw [hret]; rfl)
    rw [exec_devDeepOpen_of_free hfree, State.regWrite_of_key (set := fun k => s.setDev .DEV_CTL_DEEP_OPEN k) (.inr rfl) hopen
      (State.writeDenied_devCtl s s) (fun hkey => State.cageWrite_devCtl hkey s)]
  · exact ⟨State.writeDenied_of_keyWrong ((keyWrong_iff (.inl rfl)).mpr hkey) s s n.val 0,
      State.writeDenied_of_keyWrong ((keyWrong_iff (.inr rfl)).mpr hkey) s s 8 0⟩

end Sys2Proof.Machine
end

section
/-! SUPPORT. Gates (R55 to R58): the write of GATE.EN, and what a block that halts or returns leaves in its GATE. -/

namespace Sys2Proof.Machine

variable {s : State} {sc : Nat} {b : Block}

/-- R41: the GATE registers of a window are numbered by the codes of its blocks. -/
theorem blockOf_code (h : b.ungateable = false) : blockOf b.code = b := by
  revert h
  cases b <;> decide

theorem blockIn_eq_true (hsc : sc ≤ 8) (hof : b.ofShaft = decide (sc < 8)) : blockIn sc b = true := by
  simp [blockIn, hsc, hof]

/-- R58: a block of its window has a gate unless it is ungateable. -/
theorem gateAt_eq_true (hsc : sc ≤ 8) (hof : b.ofShaft = decide (sc < 8)) (hun : b.ungateable = false) : gateAt sc b = true := by
  by_cases h : sc < 8
  · simp [gateAt, hun, hof, h]
  · have h8 : sc = 8 := by omega
    simp [gateAt, hun, hof, h8]

/-! ### The write of GATE.EN -/

/-- The GATE register of a block (R56). -/
def Block.gateReg (b : Block) : Reg := if b.ofShaft then .SGATE else .DGATE

theorem Block.gateReg_eq (b : Block) : b.gateReg = .SGATE ∨ b.gateReg = .DGATE := by
  unfold Block.gateReg; split <;> simp

/-- R56: GATE answers whatever its block's own window does. -/
theorem State.shut_gate {r : Reg} (hr : r = .SGATE ∨ r = .DGATE) (s : State) (sc e : Nat) : s.shut (.reg sc r e) = none := by
  rcases hr with rfl | rfl <;> rfl

/-- R50, R58: GATE has no Deep field, and its EN stands for every gateable block. -/
theorem State.writeDenied_gate {r : Reg} (hr : r = .SGATE ∨ r = .DGATE) {e : Nat} (h : (blockOf e).ungateable = false) (hdr s : State)
    (sc : Nat) (v : Word) : State.writeDenied hdr s (.reg sc r e) v = false := by
  rcases hr with rfl | rfl <;>
    simp [State.writeDenied, State.regBarred, State.whenBarred, State.changesDeep, Reg.readOnly, Reg.reservedIn, Reg.places, Fld.reserved,
      Fld.desc, keyWrong, h]

theorem State.cageWrite_gate {r : Reg} (hr : r = .SGATE ∨ r = .DGATE) (s : State) (sc e : Nat) (v : Word) :
    s.cageWrite (.reg sc r e) v = if v.getLsbD 0 then s.gateOn sc (blockOf e) else s.gateOff sc (blockOf e) := by
  rcases hr with rfl | rfl <;> rfl

/-- R55, R57: the write of the GATE of a gateable block asks it to stop, or lets it run. -/
theorem State.gateWrite_eq (hin : blockIn sc b = true) (hun : b.ungateable = false) (s : State) (v : Word) :
    s.gateWrite sc b v = if v.getLsbD 0 then s.gateOn sc b else s.gateOff sc b := by
  have hcode := blockOf_code hun
  have hwrite : s.gateWrite sc b v = s.regWrite sc b.gateReg b.code v := by rw [State.gateWrite, if_pos hin, Block.gateReg]
  rw [hwrite, State.regWrite_of_open (State.shut_gate b.gateReg_eq s sc b.code),
    State.writeDenied_gate b.gateReg_eq (by rw [hcode]; exact hun), State.cageWrite_gate b.gateReg_eq, hcode]
  rfl

theorem exec_gateEnable_of_free (h : s.CageFree) (hin : blockIn sc b = true) (hun : b.ungateable = false) :
    exec (.gateEnable sc b) s = .next (s.gateOn sc b) :=
  congrArg Host.Outcome.next ((State.cageTurn_of_free h _).trans (State.gateWrite_eq hin hun s 1))

theorem exec_gateDisable_of_free (h : s.CageFree) (hin : blockIn sc b = true) (hun : b.ungateable = false) :
    exec (.gateDisable sc b) s = .next (s.gateOff sc b) :=
  congrArg Host.Outcome.next ((State.cageTurn_of_free h _).trans (State.gateWrite_eq hin hun s 0))

section
variable (hat : gateAt sc b = true)
include hat

/-- R57: a block that halts on a condition is only asked to stop. -/
theorem State.gateOn_haltsLater (hen : s.gateEn sc b = false) (hret : s.returning.contains (sc, b) = false) (hl : b.haltsLater = true) :
    s.gateOn sc b = s.setGate sc b true false := by
  simp only [State.gateOn, hat, hen, hret, hl, Bool.not_true, Bool.or_self, Bool.false_eq_true, if_false, if_true]

/-- R57: any other block halts at once. -/
theorem State.gateOn_haltsAtOnce (hen : s.gateEn sc b = false) (hret : s.returning.contains (sc, b) = false) (hl : b.haltsLater = false) :
    s.gateOn sc b = (s.gateStops sc b).setGate sc b true true := by
  simp only [State.gateOn, hat, hen, hret, hl, Bool.not_true, Bool.or_self, Bool.false_eq_true, if_false]

/-- R57: GATE.EN 0 cancels a gate that has not halted. -/
theorem State.gateOff_pending (hen : s.gateEn sc b = true) (hg : s.gated sc b = false) : s.gateOff sc b = s.setGate sc b false false := by
  simp only [State.gateOff, hat, hen, hg, Bool.not_true, Bool.or_self, Bool.false_eq_true, if_false]

/-- R57: GATE.EN 0 begins the return of a block that has halted. -/
theorem State.gateOff_halted (hen : s.gateEn sc b = true) (hg : s.gated sc b = true) :
    s.gateOff sc b = { s.setGate sc b false true with returning := s.returning ++ [(sc, b)] } := by
  simp only [State.gateOff, hat, hen, hg, Bool.not_true, Bool.or_self, Bool.false_eq_true, if_false, if_true]

/-- R57: a block that is asked to stop halts once its condition is met; the wait for no open tally closes what is DONE (R144). -/
theorem State.blockHalt_halts (hl : b.haltsLater = true) (hen : s.gateEn sc b = true) (hg : s.gated sc b = false)
    (hm : s.mayHalt sc b = true) :
    s.blockHalt sc b = (if b = .IMG ∨ b = .SCB then s else s.closeDone (shaftOf sc)).setGate sc b true true := by
  simp [State.blockHalt, hat, hl, hen, hg, hm]

end

/-! ### Halt and return -/

/-- R57: without its condition a block does not halt. -/
theorem State.blockHalt_waits (hm : s.mayHalt sc b = false) : s.blockHalt sc b = s := by
  simp [State.blockHalt, hm]

theorem shaftOf_val (n : Shaft) : shaftOf n.val = n := Fin.ext (Nat.mod_eq_of_lt n.isLt)

theorem exec_blockHalt (sc : Nat) (b : Block) (s : State) : exec (.blockHalt sc b) s = .next (s.blockHalt sc b) := rfl
theorem exec_blockReturn (sc : Nat) (b : Block) (s : State) : exec (.blockReturn sc b) s = .next (s.blockReturn sc b) := rfl

/-- The blocks of a shaft that halt only with its tallies closed. -/
theorem haltsLater_of_tallyBlock (h : b ∈ [Block.HAU, .TLY, .CLM, .DIR, .HWR, .QMG]) :
    b.haltsLater = true ∧ b.ungateable = false ∧ b.ofShaft = true ∧ ¬(b = .IMG ∨ b = .SCB) := by
  revert b
  decide

/-- R400: the states in which IMG halts. -/
theorem State.mayHalt_img (s : State) : s.mayHalt 8 .IMG = true ↔ s.img = Img.IDLE ∨ s.img = Img.REFUSED ∨ s.img = Img.ARMED := by
  simp [State.mayHalt, or_assoc]

/-- The blocks that wait for no open tally (R100, R143, R183, R224, R266). -/
theorem State.mayHalt_of_mem (h : b ∈ [Block.HAU, .TLY, .CLM, .DIR, .HWR, .QMG]) (s : State) (n : Shaft) :
    s.mayHalt n.val b = !s.anyOpen n := by
  simp only [List.mem_cons, List.not_mem_nil, or_false] at h
  rcases h with rfl | rfl | rfl | rfl | rfl | rfl <;> simp only [State.mayHalt, shaftOf_val]

theorem State.gateEn_setGate (s : State) (sc : Nat) (b : Block) (en halted : Bool) : (s.setGate sc b en halted).gateEn sc b = en := by
  cases hb : b.ofShaft <;> cases en <;> simp [State.gateEn, State.setGate, hb, State.getF_setF_field, bit, Fld.desc]

theorem State.gated_setGate (s : State) (sc : Nat) (b : Block) (en halted : Bool) : (s.setGate sc b en halted).gated sc b = halted := by
  cases hb : b.ofShaft <;> cases halted <;> simp [State.gated, State.setGate, hb, bit, Fld.desc]

/-- R57: what every block leaves as it returns from its gate. -/
def State.returned (s : State) (sc : Nat) (b : Block) : State :=
  { s.setGate sc b false false with returning := s.returning.filter (fun x => x != (sc, b)) }

theorem State.gateEn_returned (s : State) (sc : Nat) (b : Block) : (s.returned sc b).gateEn sc b = false := s.gateEn_setGate sc b false false
theorem State.gated_returned (s : State) (sc : Nat) (b : Block) : (s.returned sc b).gated sc b = false := s.gated_setGate sc b false false

theorem State.blockReturn_of_ne_ptl (h : s.returning.contains (sc, b) = true) (hb : b ≠ .PTL) : s.blockReturn sc b = s.returned sc b := by
  simp only [State.blockReturn, h, if_true, if_neg hb, State.returned]

/-- R368: PTL checks its portals again as it returns. -/
theorem State.blockReturn_ptl {n : Shaft} (h : s.returning.contains (n.val, .PTL) = true) :
    s.blockReturn n.val .PTL = State.eachPortal (s.returned n.val .PTL)
      (fun p a => if a.regB n .PTL_CFG_ENABLE p.val then a.portalUp n p else a) := by
  simp only [State.blockReturn, h, if_true, State.returned, shaftOf_val]

end Sys2Proof.Machine
end

section
/-! Gates: a block is asked to stop, halts, and returns to service (R55 to R58). -/

namespace Sys2Proof.Machine

/-- Settles O21: the two writes of GATE.EN, the halt of each kind of block and the return, each by the lemma of its case. -/
theorem gates : Obligations.Gates := by
  unfold Obligations.Gates
  refine ⟨fun s sc b hfree hsc hof hun => ?_, fun s n b => ⟨fun hb hen hg => ?_, fun hen hg => ?_, fun hen hg => ?_,
    fun sc _ _ hb hret => ?_, fun hret => ?_⟩⟩
  · have hin := blockIn_eq_true hsc hof
    have hat := gateAt_eq_true hsc hof hun
    rw [exec_gateEnable_of_free hfree hin hun, exec_gateDisable_of_free hfree hin hun]
    refine ⟨fun hen hret => ⟨fun hl => ?_, fun hl => ?_⟩, fun hen hg => ?_, fun hen hg => ?_⟩
    · rw [State.gateOn_haltsLater hat hen hret hl]
    · rw [State.gateOn_haltsAtOnce hat hen hret hl]; rfl
    · rw [State.gateOff_pending hat hen hg]
    · rw [State.gateOff_halted hat hen hg]
  · obtain ⟨hl, hun, hof, hcloses⟩ := haltsLater_of_tallyBlock hb
    have hat : gateAt n.val b = true := gateAt_eq_true (by omega) (by simp [hof]) hun
    have hm := State.mayHalt_of_mem hb s n
    refine ⟨fun hopen => ?_, fun hopen => ?_⟩
    · rw [exec_blockHalt, State.blockHalt_halts hat hl hen hg (by rw [hm, hopen]; rfl), if_neg hcloses, shaftOf_val]
    · rw [exec_blockHalt, State.blockHalt_waits (by rw [hm, hopen]; rfl)]
  · have hat : gateAt n.val .SCB = true := gateAt_eq_true (by omega) (by simp [Block.ofShaft, Block.code]) rfl
    rw [exec_blockHalt, State.blockHalt_halts hat rfl hen hg rfl, if_pos (.inr rfl)]
  · refine ⟨fun hst => ?_, fun h1 h2 h3 => ?_⟩
    · rw [exec_blockHalt, State.blockHalt_halts rfl rfl hen hg ((State.mayHalt_img s).mpr hst), if_pos (.inl rfl)]
    · have hm : s.mayHalt 8 .IMG = false := by rw [← Bool.not_eq_true, State.mayHalt_img]; tauto
      rw [exec_blockHalt, State.blockHalt_waits hm]
  · rw [exec_blockReturn, State.blockReturn_of_ne_ptl hret hb]
    exact ⟨_, rfl, rfl, s.gateEn_returned sc b, s.gated_returned sc b, rfl, rfl⟩
  · rw [exec_blockReturn, State.blockReturn_ptl hret]
    rfl

end Sys2Proof.Machine
end

section
/-! What O23 says of the retired vertical links (R98) fails where HAU.VLINK.RETIRED holds more than its 16 bits, in a state the invariant of every step
shuts out: its statement asks for no such bound. -/

namespace Sys2Proof.Machine

/-- Reset, but VLINK.RETIRED of shaft 0 marks a link 16, which does not exist. -/
def State.overwideLinks : State := { State.reset with regs := [(Fld.HAU_VLINK_RETIRED.key 0 0, 2 ^ 16)] }

/-- Refutes O23: the retirement of link 0 writes the field anew, cut to its width, and the mark of link 16 is gone though only link 0 was retired. -/
theorem not_haulageHops : ¬ Obligations.HaulageHops := by
  unfold Obligations.HaulageHops
  intro h
  obtain ⟨-, hlinks⟩ := h State.overwideLinks 0
  obtain ⟨-, hretires⟩ := hlinks 0 (by decide)
  obtain ⟨-, -, hothers⟩ := hretires (by decide)
  exact absurd (hothers 16 (by decide)) (by decide)

end Sys2Proof.Machine
end

section
/-! What O25 says of RETURN_NOW without REFCLK (R111) fails where AUTO_RETURN holds more than its bit, in a state the invariant of every step shuts out:
the statement bounds CLK.QUAL alone. -/

namespace Sys2Proof.Machine

theorem exec_returnNow_of_free {s : State} (h : s.CageFree) :
    exec .returnNow s = .next (s.regWrite 8 .CLK_CFG 0 (s.regWith 8 .CLK_CFG 0 .CLK_CFG_RETURN_NOW 1)) :=
  congrArg Host.Outcome.next (State.cageTurn_of_free h _)

/-- Reset with the Cage ready and the Deep level of the device open, but AUTO_RETURN 2 in a field of one bit. -/
def State.overwideReturn : State :=
  { State.reset with
    regs := [(Fld.DEV_CTL_DEEP_OPEN.key 8 0, 1), (Fld.CLK_CFG_AUTO_RETURN.key 8 0, 2)]
    cage := { State.reset.cage with ready := true } }

/-- The write of CLK.CFG with RETURN_NOW 1 stores AUTO_RETURN back, cut to its bit. -/
theorem State.overwideReturn_regWrite :
    (State.overwideReturn.regWrite 8 .CLK_CFG 0 (State.overwideReturn.regWith 8 .CLK_CFG 0 .CLK_CFG_RETURN_NOW 1)).getF .CLK_CFG_AUTO_RETURN 8 0 = 0 := by
  decide

/-- Refutes O25: without REFCLK, RETURN_NOW does nothing but rewrite CLK.CFG, and that changes an AUTO_RETURN of 2 to 0. -/
theorem not_referenceClock : ¬ Obligations.ReferenceClock := by
  unfold Obligations.ReferenceClock
  rintro ⟨-, -, h⟩
  obtain ⟨-, -, hreturn⟩ := h State.overwideReturn 0
  have hfree : State.overwideReturn.CageFree := ⟨rfl, rfl⟩
  obtain ⟨hnothing, -⟩ := hreturn hfree (by decide) rfl (by decide)
  obtain ⟨t, ht, -, hsame⟩ := hnothing (by decide)
  rw [exec_returnNow_of_free hfree] at ht
  cases ht
  have hkept := hsame .CLK_CFG_AUTO_RETURN 8 0 (by decide)
  rw [State.overwideReturn_regWrite] at hkept
  exact absurd hkept (by decide)

end Sys2Proof.Machine
end

section
/-! SUPPORT. The register fields of the device-common window and of a shaft's window after a write, an event, or a counter raised: the laws of `State.getF` said
of `State.dev` and `State.reg`. -/

namespace Sys2Proof.Machine

variable {s : State} {n : Shaft} {f g : Fld} {e e' v : Nat}

theorem State.dev_setDev_same (s : State) (f : Fld) (v e : Nat) : (s.setDev f v e).dev f e = v % 2 ^ f.desc.width := s.getF_setF_same f 8 e v

theorem State.dev_setDev_field (h : g ≠ f) : (s.setDev f v e).dev g e' = s.dev g e' := s.getF_setF_field v h

theorem State.dev_event (c : BitVec 16) (sev : BitVec 8) (src unit : Nat) (d : BitVec 96) (h : g ≠ .EVL_STAT_DROPPED) :
    (s.event c sev src unit d).dev g e = s.dev g e := s.event_getF c sev src unit d h 8 e

theorem State.reg_setReg_same (s : State) (n : Shaft) (f : Fld) (v e : Nat) : (s.setReg n f v e).reg n f e = v % 2 ^ f.desc.width :=
  s.getF_setF_same f n.val e v

theorem State.reg_setReg_field {m : Shaft} (h : g ≠ f) : (s.setReg n f v e).reg m g e' = s.reg m g e' := s.getF_setF_field v h

theorem State.reg_event {m : Shaft} (c : BitVec 16) (sev : BitVec 8) (src unit : Nat) (d : BitVec 96) (h : g ≠ .EVL_STAT_DROPPED) :
    (s.event c sev src unit d).reg m g e = s.reg m g e := s.event_getF c sev src unit d h m.val e

/-- A bit fits its field. -/
theorem bit_mod_two (b : Bool) : bit b % 2 = bit b := by cases b <;> rfl

theorem State.devB_eq_true : s.devB f e = true ↔ s.dev f e ≠ 0 := bne_iff_ne
theorem State.devB_eq_false : s.devB f e = false ↔ s.dev f e = 0 := by simp [State.devB, State.dev]
theorem State.regB_eq_true : s.regB n f e = true ↔ s.reg n f e ≠ 0 := bne_iff_ne
theorem State.regB_eq_false : s.regB n f e = false ↔ s.reg n f e = 0 := by simp [State.regB, State.reg]

end Sys2Proof.Machine
end

section
/-! SUPPORT. The time exchange (R117 to R119): the correction of an offset, and what each of its commands does when it is due. -/

namespace Sys2Proof.Machine

variable {s : State} {x : Int}

theorem State.correct_of_le (h : x ≤ 10000) (s : State) : (s.correct x).fab = s.fab ∧ (s.correct x).slew = x := by
  have h1 : ¬ 10000 < x := by omega
  by_cases h2 : x < -10000 <;> simp [State.correct, h1, h2, State.devEvent]

theorem State.correct_of_lt (h : 10000 < x) (s : State) :
    s.correct x = ({ s with fab := s.fab + BitVec.ofInt 64 x, slew := 0 }).addDev .TIM_STAT_STEPS := by
  simp [State.correct, h]

/-- The correction leaves the record of the exchange as it is. -/
theorem State.correct_keeps (s : State) (x : Int) :
    (s.correct x).timeSent = s.timeSent ∧ (s.correct x).offsets = s.offsets ∧ (s.correct x).timeReplyAt = s.timeReplyAt := by
  unfold State.correct
  split
  · exact ⟨rfl, rfl, rfl⟩
  · split
    · simp [State.devEvent]
    · exact ⟨rfl, rfl, rfl⟩

/-- R118: a step of the counter is counted. -/
theorem State.correct_steps (h : 10000 < x) (s : State) : (s.correct x).dev .TIM_STAT_STEPS = min (s.dev .TIM_STAT_STEPS + 1) 65535 := by
  rw [State.correct_of_lt h]
  exact State.getF_addF_same _ _ _ _ _

/-- The record of an exchange whose offset is `x` (R117). -/
def State.exchanged (s : State) (x : Int) : State :=
  { s with timeSent := none, timeReplyAt := s.up, timeOffset := x, offsets := (x :: s.offsets).take 4 }

/-- R119: LOCKED, from the offsets of the last exchanges. -/
def lockedBy (l : List Int) : Bool := decide (l.length = 4) && l.all (fun y => decide (-40 ≤ y) && decide (y ≤ 40))

theorem bit_lockedBy (l : List Int) : bit (lockedBy l) = if l.length = 4 ∧ ∀ y ∈ l, -40 ≤ y ∧ y ≤ 40 then 1 else 0 := by
  simp [bit, lockedBy, List.all_eq_true]

theorem State.timeReply_of_due {t1 : BitVec 64} (t2 t3 : BitVec 64) (hsrc : s.dev .TIM_CFG_SOURCE ≠ 0) (hsent : s.timeSent = some t1)
    (hg : s.devGated .TIM = false) :
    s.timeReply t1 t2 t3 =
      let x := s.offsetOf t1 t2 t3 s.fab
      (((s.exchanged x).correct x).setDev .TIM_OFFSET_OFFSET (satOffset x)).setDev .TIM_STAT_LOCKED (bit (lockedBy ((x :: s.offsets).take 4))) := by
  rw [State.timeReply, State.devB_eq_true.mpr hsrc, hg]
  simp only [hsent, decide_true, Bool.and_self, Bool.not_false, if_true]
  rfl

theorem State.timeUnlocked_of_due (hl : s.dev .TIM_STAT_LOCKED ≠ 0) (h : s.timeReplyAt + 4 * s.timePeriod ≤ s.up) :
    s.timeUnlocked = (s.setDev .TIM_STAT_LOCKED 0).devEvent 0x0107 Sev.notice 0xFFFF (detail64 (BitVec.ofInt 64 s.timeOffset).toNat) := by
  simp only [State.timeUnlocked, State.devB_eq_true.mpr hl, h, decide_true, Bool.and_self, if_true]

theorem State.timeExchange_of_due (hsrc : s.dev .TIM_CFG_SOURCE ≠ 0) (hp : s.timePortal s.timeShaft s.timePort = true)
    (h : s.timeSentAt + s.timePeriod ≤ s.up) :
    s.timeExchange = { (s.guardFill s.timeShaft s.timePort).egressTub s.timeShaft s.timePort (timeTub 1 0 0) with timeSentAt := s.up } := by
  simp only [State.timeExchange, State.devB_eq_true.mpr hsrc, hp, h, decide_true, Bool.and_self, if_true]

theorem State.timeAnswer_of_own {n : Shaft} {p : Portal} (t1 : BitVec 64) (dwell : Nat) (hsrc : s.dev .TIM_CFG_SOURCE = 0)
    (hp : s.timePortal n p = true) :
    s.timeAnswer n p t1 dwell = (s.guardFill n p).egressTub n p (timeTub 2 t1 (s.fab - BitVec.ofNat 64 dwell)) := by
  simp only [State.timeAnswer, State.devB_eq_false.mpr hsrc, hp, Bool.not_false, Bool.and_self, if_true]

end Sys2Proof.Machine
end

section
/-! Time exchanges: a reply, the loss of LOCKED, a request sent and a request answered (R117 to R119). -/

namespace Sys2Proof.Machine

/-- Settles O26: each command by the lemma of the case in which it is due; the two writes after the correction touch neither the counter nor its slew. -/
theorem timeExchanges : Obligations.TimeExchanges := by
  unfold Obligations.TimeExchanges
  refine fun s t1 t2 t3 => ⟨fun hsrc hsent hg => ?_, fun hl h => ?_, fun hsrc hp h => ?_, fun n p dwell hsrc hp => ?_⟩
  · intro x l
    obtain ⟨hts, hoff, hat⟩ := (s.exchanged x).correct_keeps x
    refine ⟨_, congrArg Host.Outcome.next (State.timeReply_of_due t2 t3 hsrc hsent hg), hts, hoff, hat, ?_, fun hle => ?_, fun hlt => ?_⟩
    · rw [State.dev_setDev_same, ← bit_lockedBy]
      exact bit_mod_two _
    · exact (s.exchanged x).correct_of_le hle
    · have hc := State.correct_of_lt hlt (s.exchanged x)
      refine ⟨congrArg State.fab hc, congrArg State.slew hc, ?_⟩
      rw [State.dev_setDev_field (by decide), State.dev_setDev_field (by decide)]
      exact State.correct_steps hlt (s.exchanged x)
  · refine ⟨_, congrArg Host.Outcome.next (State.timeUnlocked_of_due hl h), ?_, State.event_shafts _ _ _ _ _ _⟩
    exact (State.dev_event _ _ _ _ _ (by decide)).trans (State.dev_setDev_same s _ 0 0)
  · exact congrArg Host.Outcome.next (State.timeExchange_of_due hsrc hp h)
  · exact congrArg Host.Outcome.next (State.timeAnswer_of_own t1 dwell hsrc hp)

end Sys2Proof.Machine
end

section
/-! SUPPORT. Stopes after a change of one of them. -/

namespace Sys2Proof.Machine

theorem State.stope_updStope_other (s : State) (n : Shaft) {k j : Nat} (f : Stope → Stope) (h : j ≠ k) :
    (s.updStope n k f).stope n j = s.stope n j := by
  simp only [State.stope, State.updStope, State.sh_updSh_same]
  exact Tbl.get_upd_other _ _ f h

theorem State.reg_updStope (s : State) (n m : Shaft) (k e : Nat) (f : Stope → Stope) (g : Fld) : (s.updStope n k f).reg m g e = s.reg m g e := rfl

theorem State.sh_updStope_same (s : State) (n : Shaft) (k : Nat) (f : Stope → Stope) :
    (s.updStope n k f).sh n = { s.sh n with stopes := Tbl.upd Stope.zero (s.sh n).stopes k f } := State.sh_updSh_same s n _

/-- What a change of one stope keeps of that stope, it keeps of every stope. -/
theorem State.stope_updStope_keeps {α : Type} (proj : Stope → α) (s : State) (n : Shaft) (k j : Nat) {f : Stope → Stope}
    (hf : ∀ x, proj (f x) = proj x) : proj ((s.updStope n k f).stope n j) = proj (s.stope n j) := by
  by_cases h : j = k
  · rw [h, State.stope_updStope_same, hf]
  · rw [State.stope_updStope_other s n f h]

end Sys2Proof.Machine
end

section
/-! SUPPORT. Pacers (R104 to R106): what a pacer that settles or ramps shows, what it leaves of the settings, and the cases of a new target. -/

namespace Sys2Proof.Machine

variable {s t u : State} {n : Shaft} {k : Nat}

/-! ### A pacer settles or ramps -/

/-- The pacer of stope `k` ramps by `r`. -/
def State.pacerRamps (s : State) (n : Shaft) (k : Nat) (r : Ramp) : State :=
  (s.setReg n .PCE_STOPE_RAMPING 1 k).updStope n k (fun y => { y with ramp := some r })

theorem State.pacerSettle_ramp (s : State) (n : Shaft) (k : Nat) : ((s.pacerSettle n k).stope n k).ramp = none := by
  rw [State.pacerSettle, State.stope_updStope_same]

theorem State.pacerSettle_ramping (s : State) (n : Shaft) (k : Nat) : (s.pacerSettle n k).reg n .PCE_STOPE_RAMPING k = 0 := by
  rw [State.pacerSettle, State.reg_updStope, State.reg_setReg_same, Nat.zero_mod]

theorem State.pacerSettle_active (s : State) (n : Shaft) (k : Nat) :
    (s.pacerSettle n k).reg n .PCE_STOPE_ACTIVE k = bit (s.pacerTarget n k).1 := by
  rw [State.pacerSettle, State.reg_updStope, State.reg_setReg_field (by decide), State.reg_setReg_same]
  exact bit_mod_two _

theorem State.pacerRamps_ramp (s : State) (n : Shaft) (k : Nat) (r : Ramp) : ((s.pacerRamps n k r).stope n k).ramp = some r := by
  rw [State.pacerRamps, State.stope_updStope_same]

theorem State.pacerRamps_ramping (s : State) (n : Shaft) (k : Nat) (r : Ramp) : (s.pacerRamps n k r).reg n .PCE_STOPE_RAMPING k = 1 := by
  rw [State.pacerRamps, State.reg_updStope, State.reg_setReg_same]
  rfl

/-! ### Settings of pacers -/

/-- Every register of shaft `n` but ACTIVE and RAMPING reads the same in `t` as in `s`. -/
def SamePacerRegs (s t : State) (n : Shaft) : Prop :=
  ∀ (g : Fld) (e : Nat), g ≠ .PCE_STOPE_ACTIVE → g ≠ .PCE_STOPE_RAMPING → t.reg n g e = s.reg n g e

theorem SamePacerRegs.refl (s : State) (n : Shaft) : SamePacerRegs s s n := fun _ _ _ _ => rfl

theorem SamePacerRegs.trans (h : SamePacerRegs s t n) (h' : SamePacerRegs t u n) : SamePacerRegs s u n :=
  fun g e ha hr => (h' g e ha hr).trans (h g e ha hr)

/-- The pacers of shaft `n` have the same settings in `t` as in `s`: the registers, the fallbacks, and the pacer handle. -/
structure SamePacing (s t : State) (n : Shaft) : Prop where
  regs : SamePacerRegs s t n
  fellBack : ∀ j, (t.stope n j).fellBack = (s.stope n j).fellBack
  thermal : (t.sh n).thermal = (s.sh n).thermal

theorem SamePacing.refl (s : State) (n : Shaft) : SamePacing s s n := ⟨.refl s n, fun _ => rfl, rfl⟩

theorem SamePacing.trans (h : SamePacing s t n) (h' : SamePacing t u n) : SamePacing s u n where
  regs := h.regs.trans h'.regs
  fellBack j := (h'.fellBack j).trans (h.fellBack j)
  thermal := h'.thermal.trans h.thermal

theorem SamePacing.target (h : SamePacing s t n) (k : Nat) : t.pacerTarget n k = s.pacerTarget n k := by
  have hsrc : t.regB n .PCE_STOPE_SRC k = s.regB n .PCE_STOPE_SRC k := congrArg (· != 0) (h.regs .PCE_STOPE_SRC k (by decide) (by decide))
  simp only [State.pacerTarget, hsrc, h.fellBack, h.thermal, h.regs .PCE_STOPE_DIV k (by decide) (by decide),
    h.regs .PCE_STOPE_TEMPO k (by decide) (by decide)]

theorem State.pacerSettle_pacing (s : State) (n : Shaft) (k : Nat) : SamePacing s (s.pacerSettle n k) n where
  regs g e ha hr := by rw [State.pacerSettle, State.reg_updStope, State.reg_setReg_field hr, State.reg_setReg_field ha]
  fellBack j := State.stope_updStope_keeps Stope.fellBack _ n k j (fun _ => rfl)
  thermal := by rw [State.pacerSettle, State.sh_updStope_same]; rfl

theorem State.pacerRamps_pacing (s : State) (n : Shaft) (k : Nat) (r : Ramp) : SamePacing s (s.pacerRamps n k r) n where
  regs g e _ hr := by rw [State.pacerRamps, State.reg_updStope, State.reg_setReg_field hr]
  fellBack j := State.stope_updStope_keeps Stope.fellBack _ n k j (fun _ => rfl)
  thermal := by rw [State.pacerRamps, State.sh_updStope_same]; rfl

/-! ### A new target (R104) -/

theorem State.pacerRetarget_of_eq {old : Bool × Nat} (h : s.pacerTarget n k = old) : s.pacerRetarget n k old = s := if_pos h

theorem State.pacerRetarget_of_idle {old : Bool × Nat} (h : s.pacerTarget n k ≠ old) (hi : s.pacerRuns n = false ∨ s.pacerOf n k ≠ k) :
    s.pacerRetarget n k old = s.pacerSettle n k := by
  have hb : (!s.pacerRuns n || decide (s.pacerOf n k ≠ k)) = true := by
    rcases hi with hi | hi <;> simp [hi]
  simp only [State.pacerRetarget, if_neg h, hb, if_true]

/-- The ramp by which the pacer of stope `k` goes on, or starts from `old`. -/
def State.rampFrom (s : State) (n : Shaft) (k : Nat) (old : Bool × Nat) : Ramp := (s.stope n k).ramp.getD ⟨old.1, old.2, 16 * old.2⟩

/-- Within one source the step is measured in that source's own unit; between two of them with the tap of the moment. -/
theorem State.pacerRetarget_of_runs {old : Bool × Nat} (h : s.pacerTarget n k ≠ old) (hr : s.pacerRuns n = true) (hk : s.pacerOf n k = k) :
    s.pacerRetarget n k old =
      if (s.rampFrom n k old).locked = (s.pacerTarget n k).1 then
        if (s.rampFrom n k old).near (s.pacerTarget n k) 1 then s.pacerSettle n k else s.pacerRamps n k (s.rampFrom n k old)
      else if (s.rampFrom n k old).near (s.pacerTarget n k) s.tapNow.1 then s.tapNow.2.pacerSettle n k
      else s.tapNow.2.pacerRamps n k (s.rampFrom n k old) := by
  have hb : (!s.pacerRuns n || decide (s.pacerOf n k ≠ k)) = false := by simp [hr, hk]
  simp only [State.pacerRetarget, if_neg h, hb, Bool.false_eq_true, if_false]
  rw [← State.rampFrom]
  split <;> rfl

theorem State.tapNow_pacing (s : State) (n : Shaft) : SamePacing s s.tapNow.2 n := ⟨.refl s n, fun _ => rfl, rfl⟩

/-- A new target changes no setting. -/
theorem State.pacerRetarget_pacing (s : State) (n : Shaft) (k : Nat) (old : Bool × Nat) : SamePacing s (s.pacerRetarget n k old) n := by
  by_cases h : s.pacerTarget n k = old
  · rw [State.pacerRetarget_of_eq h]; exact .refl s n
  by_cases hi : s.pacerRuns n = false ∨ s.pacerOf n k ≠ k
  · rw [State.pacerRetarget_of_idle h hi]; exact s.pacerSettle_pacing n k
  obtain ⟨hr, hk⟩ : s.pacerRuns n = true ∧ s.pacerOf n k = k := by simpa using hi
  rw [State.pacerRetarget_of_runs h hr hk]
  split
  · split
    · exact s.pacerSettle_pacing n k
    · exact s.pacerRamps_pacing n k _
  · split
    · exact (s.tapNow_pacing n).trans (State.pacerSettle_pacing _ n k)
    · exact (s.tapNow_pacing n).trans (State.pacerRamps_pacing _ n k _)

/-! ### A ramp step and a forced switch (R104, R105) -/

theorem State.pacerStep_of_switch {tap : Nat} {r : Ramp} (h : (s.stope n k).ramp = some r) (hr : s.pacerRuns n = true)
    (hm : rampMove r (s.pacerTarget n k) tap = .switch) : s.pacerStep n k tap = s.pacerSettle n k := by
  simp [State.pacerStep, h, hr, hm]

theorem State.pacerStep_of_run {tap now16 : Nat} {r : Ramp} (h : (s.stope n k).ramp = some r) (hr : s.pacerRuns n = true)
    (hm : rampMove r (s.pacerTarget n k) tap = .run now16) :
    s.pacerStep n k tap = s.updStope n k (fun x => { x with ramp := some { r with now16 := now16 } }) := by
  simp [State.pacerStep, h, hr, hm]

theorem State.pacerForce_of_ramp {r : Ramp} (h : (s.stope n k).ramp = some r) (hr : s.pacerRuns n = true)
    (hl : (s.pacerTarget n k).1 ≠ r.locked) : s.pacerForce n k = s.pacerSwitch n k r.locked := by
  simp [State.pacerForce, h, hr, hl]

theorem State.stope_event (c : BitVec 16) (sev : BitVec 8) (src unit : Nat) (d : BitVec 96) :
    (s.event c sev src unit d).stope n k = s.stope n k := by rw [State.stope, State.sh_event, State.stope]

theorem State.pacerSwitch_ramp (s : State) (n : Shaft) (k : Nat) (left : Bool) : ((s.pacerSwitch n k left).stope n k).ramp = none := by
  rw [State.pacerSwitch, State.shEvent, State.stope_event]
  exact s.pacerSettle_ramp n k

/-- But for FORCED, a forced switch leaves a register as the change to the target does. -/
theorem State.pacerSwitch_reg {g : Fld} (s : State) (n : Shaft) (k : Nat) (left : Bool) (hd : g ≠ .EVL_STAT_DROPPED) (hf : g ≠ .PCE_STOPE_FORCED) :
    (s.pacerSwitch n k left).reg n g k = (s.pacerSettle n k).reg n g k := by
  rw [State.pacerSwitch, State.shEvent, State.reg_event _ _ _ _ _ hd, State.reg_setReg_field hf]

theorem State.pacerSwitch_forced (s : State) (n : Shaft) (k : Nat) (left : Bool) : (s.pacerSwitch n k left).reg n .PCE_STOPE_FORCED k = 1 := by
  rw [State.pacerSwitch, State.shEvent, State.reg_event _ _ _ _ _ (by decide), State.reg_setReg_same]
  rfl

theorem State.pacerSwitch_log (n : Shaft) (k : Nat) (left : Bool) (h : s.log.length < 4096) :
    (s.pacerSwitch n k left).log =
      s.log ++ [⟨s.fab, 0x0104, 2, BitVec.ofNat 8 n.val, BitVec.ofNat 16 k, s.seq, detail (bit left), BitVec.ofNat 16 s.dropped⟩] :=
  congrArg State.log (State.event_room ((s.pacerSettle n k).setReg n .PCE_STOPE_FORCED 1 k) 0x0104 Sev.warning n.val k _ h)

/-! ### The tempo PLL (R106) -/

/-- Does the loss of the tempo PLL, or its return, change the source of stope `k`? -/
def State.mustFall (s : State) (n : Shaft) (lost : Bool) (k : Nat) : Bool :=
  if lost then s.regB n .PCE_STOPE_SRC k && s.regB n .PCE_STOPE_AUTO_FB k && !(s.stope n k).fellBack else (s.stope n k).fellBack

/-- What the loss of the tempo PLL, or its return, does to the pacer of stope `k`. -/
def State.pacerFalls (n : Shaft) (lost : Bool) (s : State) (k : Nat) : State :=
  if s.mustFall n lost k then (s.updStope n k (fun x => { x with fellBack := lost })).pacerRetarget n k (s.pacerTarget n k) else s

theorem State.pacerFallback_eq (s : State) (n : Shaft) (lost : Bool) :
    s.pacerFallback n lost = (List.range 128).foldl (State.pacerFalls n lost) s := rfl

theorem State.pacerFalls_regs (s : State) (n : Shaft) (lost : Bool) (k : Nat) : SamePacerRegs s (s.pacerFalls n lost k) n := by
  unfold State.pacerFalls
  split
  · exact (State.pacerRetarget_pacing _ n k _).regs
  · exact .refl s n

theorem State.pacerFalls_fellBack_same (s : State) (n : Shaft) (lost : Bool) (k : Nat) :
    ((s.pacerFalls n lost k).stope n k).fellBack = if s.mustFall n lost k then lost else (s.stope n k).fellBack := by
  unfold State.pacerFalls
  split
  · rw [(State.pacerRetarget_pacing _ n k _).fellBack, State.stope_updStope_same]
  · rfl

theorem State.pacerFalls_fellBack_other (s : State) (n : Shaft) (lost : Bool) {k j : Nat} (h : j ≠ k) :
    ((s.pacerFalls n lost k).stope n j).fellBack = (s.stope n j).fellBack := by
  unfold State.pacerFalls
  split
  · rw [(State.pacerRetarget_pacing _ n k _).fellBack, State.stope_updStope_other _ _ _ h]
  · rfl

/-- A fold whose steps keep `Q` ends with `P a` for each `a` of the list, when the step of `a` makes `P a` so and no step undoes it. -/
theorem foldl_establishes {α β : Type} {P : α → β → Prop} {Q : β → Prop} {f : β → α → β} (hQ : ∀ b a, Q b → Q (f b a))
    (hkeep : ∀ b a a', Q b → P a b → P a (f b a')) (hset : ∀ b a, Q b → P a (f b a)) (l : List α) (b : β) (hb : Q b) :
    Q (l.foldl f b) ∧ ∀ a ∈ l, P a (l.foldl f b) := by
  induction l using List.reverseRecOn with
  | nil => exact ⟨hb, nofun⟩
  | append_singleton l x ih =>
    obtain ⟨hq, hp⟩ := ih
    rw [List.foldl_concat]
    refine ⟨hQ _ x hq, fun a ha => ?_⟩
    rcases List.mem_append.mp ha with ha | ha
    · exact hkeep _ a x hq (hp a ha)
    · rw [List.mem_singleton.mp ha]
      exact hset _ x hq

/-- R106: after the loss of the tempo PLL every locked pacer with AUTO_FB 1 has fallen back. -/
theorem State.pacerFallback_lost (s : State) (n : Shaft) :
    SamePacerRegs s (s.pacerFallback n true) n ∧
      ∀ k ∈ List.range 128, s.reg n .PCE_STOPE_SRC k = 1 → s.reg n .PCE_STOPE_AUTO_FB k = 1 →
        ((s.pacerFallback n true).stope n k).fellBack = true := by
  rw [State.pacerFallback_eq]
  refine foldl_establishes (f := State.pacerFalls n true)
    (Q := fun a => SamePacerRegs s a n)
    (P := fun k (a : State) => s.reg n .PCE_STOPE_SRC k = 1 → s.reg n .PCE_STOPE_AUTO_FB k = 1 → (a.stope n k).fellBack = true)
    ?_ ?_ ?_ _ _ (.refl s n)
  · exact fun a k hq => hq.trans (a.pacerFalls_regs n true k)
  · intro a k j hq hp hsrc hfb
    by_cases hk : k = j
    · rw [← hk, State.pacerFalls_fellBack_same, hp hsrc hfb, ite_self]
    · rw [State.pacerFalls_fellBack_other a n true hk, hp hsrc hfb]
  · intro a k hq hsrc hfb
    have h1 : a.regB n .PCE_STOPE_SRC k = true :=
      State.regB_eq_true.mpr (by rw [hq _ _ (by decide) (by decide), hsrc]; decide)
    have h2 : a.regB n .PCE_STOPE_AUTO_FB k = true :=
      State.regB_eq_true.mpr (by rw [hq _ _ (by decide) (by decide), hfb]; decide)
    rw [State.pacerFalls_fellBack_same, State.mustFall, h1, h2]
    cases (a.stope n k).fellBack <;> rfl

/-- R106: after the return of the tempo PLL no pacer is in fallback. -/
theorem State.pacerFallback_back (s : State) (n : Shaft) :
    SamePacerRegs s (s.pacerFallback n false) n ∧
      ∀ k ∈ List.range 128, ((s.pacerFallback n false).stope n k).fellBack = false := by
  rw [State.pacerFallback_eq]
  refine foldl_establishes (f := State.pacerFalls n false)
    (Q := fun a => SamePacerRegs s a n)
    (P := fun k (a : State) => (a.stope n k).fellBack = false) ?_ ?_ ?_ _ _ (.refl s n)
  · exact fun a k hq => hq.trans (a.pacerFalls_regs n false k)
  · intro a k j hq hp
    by_cases hk : k = j
    · rw [← hk, State.pacerFalls_fellBack_same, hp, ite_self]
    · rw [State.pacerFalls_fellBack_other a n false hk, hp]
  · intro a k hq
    rw [State.pacerFalls_fellBack_same, State.mustFall]
    cases (a.stope n k).fellBack <;> rfl

/-! ### The write of PCE.STOPE[k] -/

theorem State.seamsOut_setF {f : Fld} (s : State) (n : Shaft) (sc e v : Nat) (hd : .PWR_SHAFT_STATE ≠ f) (ht : .CAN_SHAFT_THERMAL ≠ f) :
    (s.setF f sc e v).seamsOut n = s.seamsOut n := by
  unfold State.seamsOut State.doze State.thermal State.dev
  rw [State.getF_setF_field s v hd, State.getF_setF_field s v ht]
  rfl

/-- Whether the pacers of a shaft run hangs on three register fields: the gate of PCE, DOZE and THERMAL. -/
theorem State.pacerRuns_setF {f : Fld} (s : State) (n : Shaft) (sc e v : Nat) (hg : .SGATE_HALTED ≠ f) (hd : .PWR_SHAFT_STATE ≠ f)
    (ht : .CAN_SHAFT_THERMAL ≠ f) : (s.setF f sc e v).pacerRuns n = s.pacerRuns n := by
  have hpce : (s.setF f sc e v).shGated n .PCE = s.shGated n .PCE := congrArg (· != 0) (State.getF_setF_field s v hg)
  rw [State.pacerRuns, hpce, State.seamsOut_setF s n sc e v hd ht, State.pacerRuns]
  rfl

/-- R55 to R57: the window of a shaft's block is shut by its gate and by its layer, and by nothing else. -/
theorem State.windowOut_shaft {b : Block} (hg : s.gated n.val b = false) (hb : s.blockBusy n.val b = false) : s.windowOut n.val b = none := by
  simp [State.windowOut, hg, hb]

/-- R16, R50: at the open Deep level a write of PCE.STOPE is refused for a reserved encoding only. -/
theorem State.writeDenied_pceStope {hdr : State} {sc : Nat} (h : hdr.deepOpen sc = true) (s : State) (e : Nat) (v : Word) :
    State.writeDenied hdr s (.reg sc .PCE_STOPE e) v = Reg.reservedIn .PCE_STOPE v := by
  have hro : Reg.readOnly .PCE_STOPE e = false := by simp [Reg.readOnly, Reg.places, Fld.desc]
  simp [State.writeDenied, State.regBarred, State.whenBarred, keyWrong, hro, h]

/-- R12: the fields of PCE.STOPE[k] as the written word leaves them: four settings, and FORCED, which a 1 clears. -/
def State.pceStored (s : State) (n : Shaft) (k : Nat) (v : Word) : State :=
  ((((s.setReg n .PCE_STOPE_TEMPO (v.toNat % 256) k).setReg n .PCE_STOPE_SRC (v.toNat / 256 % 2) k).setReg n .PCE_STOPE_DIV
    (v.toNat / 512 % 128) k).setReg n .PCE_STOPE_AUTO_FB (v.toNat / 65536 % 2) k).setReg n .PCE_STOPE_FORCED
    (s.reg n .PCE_STOPE_FORCED k - (s.reg n .PCE_STOPE_FORCED k &&& fieldOf v .PCE_STOPE_FORCED ⟨26, 1, 0⟩)) k

theorem State.pceStored_tempo (s : State) (n : Shaft) (k : Nat) (v : Word) : (s.pceStored n k v).reg n .PCE_STOPE_TEMPO k = v.toNat % 256 := by
  rw [State.pceStored, State.reg_setReg_field (by decide), State.reg_setReg_field (by decide), State.reg_setReg_field (by decide),
    State.reg_setReg_field (by decide), State.reg_setReg_same]
  exact Nat.mod_mod _ 256

theorem State.pceStored_src (s : State) (n : Shaft) (k : Nat) (v : Word) : (s.pceStored n k v).reg n .PCE_STOPE_SRC k = v.toNat / 256 % 2 := by
  rw [State.pceStored, State.reg_setReg_field (by decide), State.reg_setReg_field (by decide), State.reg_setReg_field (by decide),
    State.reg_setReg_same]
  exact Nat.mod_mod _ 2

theorem State.pceStored_div (s : State) (n : Shaft) (k : Nat) (v : Word) : (s.pceStored n k v).reg n .PCE_STOPE_DIV k = v.toNat / 512 % 128 := by
  rw [State.pceStored, State.reg_setReg_field (by decide), State.reg_setReg_field (by decide), State.reg_setReg_same]
  exact Nat.mod_mod _ 128

theorem State.pceStored_autoFb (s : State) (n : Shaft) (k : Nat) (v : Word) :
    (s.pceStored n k v).reg n .PCE_STOPE_AUTO_FB k = v.toNat / 65536 % 2 := by
  rw [State.pceStored, State.reg_setReg_field (by decide), State.reg_setReg_same]
  exact Nat.mod_mod _ 2

theorem State.pceStored_pacerRuns (s : State) (n : Shaft) (k : Nat) (v : Word) : (s.pceStored n k v).pacerRuns n = s.pacerRuns n := by
  simp only [State.pceStored, State.setReg]
  rw [State.pacerRuns_setF, State.pacerRuns_setF, State.pacerRuns_setF, State.pacerRuns_setF, State.pacerRuns_setF] <;> decide

theorem State.pceStored_pacerOf (s : State) (n : Shaft) (k : Nat) (v : Word) : (s.pceStored n k v).pacerOf n k = s.pacerOf n k := by
  simp [State.pacerOf, State.regB, State.pceStored, State.setReg, State.getF_setF_field]

/-- Writing the fields moves no ramp. -/
theorem State.pceStored_stope (s : State) (n : Shaft) (k : Nat) (v : Word) (j : Nat) : (s.pceStored n k v).stope n j = s.stope n j := rfl

theorem State.cageWrite_pceStope (s : State) (n : Shaft) (k : Nat) (v : Word) :
    s.cageWrite (.reg n.val .PCE_STOPE k) v = (s.pceStored n k v).pacerRetarget n k (s.pacerTarget n k) := by
  simp [State.cageWrite, State.writeWord, State.writeReg, keyWrong, State.storeReg, Reg.places, Place.elem, State.storeField, Fld.desc,
    State.putField, State.shaftEffect, State.setReg, State.reg, State.pceStored, State.getF_setF_field, fieldOf, Nat.shiftRight_eq_div_pow]

theorem exec_pceStopeWrite_of_open {v : Word} (hk : k < 128) (hfree : s.CageFree) (hg : s.gated n.val .PCE = false)
    (hb : s.blockBusy n.val .PCE = false) (hd : s.deepOpen n.val = true) (hv : Reg.reservedIn .PCE_STOPE v = false) :
    exec (.pceStopeWrite n k v) s = .next ((s.pceStored n k v).pacerRetarget n k (s.pacerTarget n k)) := by
  have hopen : s.shut (.reg n.val .PCE_STOPE k) = none := State.windowOut_shaft hg hb
  refine congrArg Host.Outcome.next ((State.cageTurn_of_free hfree _).trans ((if_pos hk).trans ?_))
  rw [State.regWrite_of_open hopen, State.writeDenied_pceStope hd, hv, State.cageWrite_pceStope]
  rfl

end Sys2Proof.Machine
end

section
/-! Pacers: a ramp step, a forced switch, the write of PCE.STOPE[k], and the tempo PLL (R104 to R106). -/

namespace Sys2Proof.Machine

/-- R104: the pacer that takes up the target its new settings give, by the cases of a new target. -/
theorem State.pceStopeWrite_ramp (s : State) (n : Shaft) (k : Nat) (v : Word) :
    let old := s.pacerTarget n k
    let t := (s.pceStored n k v).pacerRetarget n k old
    let new := t.pacerTarget n k
    let r := s.rampFrom n k old
    let settled := (t.stope n k).ramp = none ∧ t.reg n .PCE_STOPE_RAMPING k = 0 ∧ t.reg n .PCE_STOPE_ACTIVE k = bit new.1
    let ramps := (t.stope n k).ramp = some r ∧ t.reg n .PCE_STOPE_RAMPING k = 1
    (new = old → (t.stope n k).ramp = (s.stope n k).ramp) ∧
      (new ≠ old → s.pacerRuns n = false ∨ s.pacerOf n k ≠ k → settled) ∧
      (new ≠ old → s.pacerRuns n = true → s.pacerOf n k = k →
        (r.locked = new.1 → if r.near new 1 then settled else ramps) ∧ (r.locked ≠ new.1 → settled ∨ ramps)) := by
  intro old t new r settled ramps
  have hnew : new = (s.pceStored n k v).pacerTarget n k := ((s.pceStored n k v).pacerRetarget_pacing n k old).target k
  have hr : (s.pceStored n k v).rampFrom n k old = r := rfl
  have hsettle (a : State) (ha : SamePacing (s.pceStored n k v) a n) (ht : t = a.pacerSettle n k) : settled := by
    refine ⟨?_, ?_, ?_⟩
    · rw [ht, State.pacerSettle_ramp]
    · rw [ht, State.pacerSettle_ramping]
    · rw [ht, State.pacerSettle_active, ha.target k, hnew]
  have hramps (a : State) (ht : t = a.pacerRamps n k r) : ramps := by
    refine ⟨?_, ?_⟩
    · rw [ht, State.pacerRamps_ramp]
    · rw [ht, State.pacerRamps_ramping]
  refine ⟨fun h => ?_, fun h hi => ?_, fun h hruns hk => ?_⟩
  · have ht : t = s.pceStored n k v := State.pacerRetarget_of_eq (hnew ▸ h)
    rw [ht, State.pceStored_stope]
  · refine hsettle _ (.refl _ n) (State.pacerRetarget_of_idle (hnew ▸ h) ?_)
    rwa [State.pceStored_pacerRuns, State.pceStored_pacerOf]
  · have ht := State.pacerRetarget_of_runs (s := s.pceStored n k v) (hnew ▸ h) ((s.pceStored_pacerRuns n k v).trans hruns)
      ((s.pceStored_pacerOf n k v).trans hk)
    rw [← hnew, hr] at ht
    refine ⟨fun hl => ?_, fun hl => ?_⟩
    · rw [if_pos hl] at ht
      split
      · next hn => exact hsettle _ (.refl _ n) (ht.trans (if_pos hn))
      · next hn => exact hramps _ (ht.trans (if_neg hn))
    · rw [if_neg hl] at ht
      by_cases hn : r.near new (s.pceStored n k v).tapNow.1 = true
      · exact .inl (hsettle _ (State.tapNow_pacing _ n) (ht.trans (if_pos hn)))
      · exact .inr (hramps _ (ht.trans (if_neg hn)))

/-- Settles O24: a ramp step and a forced switch by what they leave, the write of PCE.STOPE[k] by the cases of a new target, the tempo PLL by its fold over
the stopes. -/
theorem pacers : Obligations.Pacers := by
  unfold Obligations.Pacers
  refine ⟨fun s n k tap r _ hramp => ⟨fun hr hm => ?_, fun now16 hr hm => ?_, fun hl hr hlog => ?_⟩,
    fun s n => ⟨fun k v hk hfree hg hb hd hv => ?_, ?_, ?_⟩⟩
  · refine ⟨_, congrArg Host.Outcome.next (State.pacerStep_of_switch hramp hr hm), s.pacerSettle_ramp n k, s.pacerSettle_ramping n k,
      s.pacerSettle_active n k, rfl, (s.pacerSettle_pacing n k).regs _ k (by decide) (by decide)⟩
  · exact congrArg Host.Outcome.next (State.pacerStep_of_run hramp hr hm)
  · refine ⟨_, congrArg Host.Outcome.next (State.pacerForce_of_ramp hramp hr hl), s.pacerSwitch_ramp n k _, ?_, s.pacerSwitch_forced n k _, ?_,
      State.pacerSwitch_log n k _ hlog⟩
    · rw [State.pacerSwitch_reg s n k _ (by decide) (by decide), State.pacerSettle_ramping]
    · rw [State.pacerSwitch_reg s n k _ (by decide) (by decide), State.pacerSettle_active]
  · have hsame := ((s.pceStored n k v).pacerRetarget_pacing n k (s.pacerTarget n k)).regs
    refine ⟨_, exec_pceStopeWrite_of_open hk hfree hg hb hd hv, ?_, ?_, ?_, ?_, s.pceStopeWrite_ramp n k v⟩
    · rw [hsame _ k (by decide) (by decide), State.pceStored_tempo]
    · rw [hsame _ k (by decide) (by decide), State.pceStored_src]
    · rw [hsame _ k (by decide) (by decide), State.pceStored_div]
    · rw [hsame _ k (by decide) (by decide), State.pceStored_autoFb]
  · obtain ⟨hregs, hfell⟩ := (s.setReg n .PCE_TPLL_LOCK 0).pacerFallback_lost n
    refine ⟨_, rfl, ?_, fun k hk hsrc hfb => hfell k (List.mem_range.mpr hk) ?_ ?_⟩
    · rw [hregs _ 0 (by decide) (by decide), State.reg_setReg_same, Nat.zero_mod]
    · rw [State.reg_setReg_field (by decide), hsrc]
    · rw [State.reg_setReg_field (by decide), hfb]
  · obtain ⟨hregs, hfell⟩ := (s.setReg n .PCE_TPLL_LOCK 1).pacerFallback_back n
    refine ⟨_, rfl, ?_, fun k hk _ => hfell k (List.mem_range.mpr hk)⟩
    rw [hregs _ 0 (by decide) (by decide), State.reg_setReg_same]
    rfl

end Sys2Proof.Machine
end

section
/-! SUPPORT. Rows of block memory (R287): a row after a row has been written, and the bits of a row after a port's write (R288). -/

namespace Sys2Proof.Machine

/-- Bytes in rising order spell the bits they were taken from. -/
theorem leNat_extract {w : Nat} (v : BitVec w) (a k : Nat) :
    leNat ((List.range' a k).map (fun b => v.extractLsb' (8 * b) 8)) = v.toNat / 2 ^ (8 * a) % 2 ^ (8 * k) := by
  induction k generalizing a with
  | zero => simp [leNat, Nat.mod_one]
  | succ k ih =>
    have hpow : 2 ^ (8 * (a + 1)) = 2 ^ (8 * a) * 256 := by rw [Nat.mul_add, Nat.pow_add]
    have hpow' : 2 ^ (8 * (k + 1)) = 256 * 2 ^ (8 * k) := by rw [Nat.mul_add, Nat.pow_add, Nat.mul_comm]
    simp only [List.range'_succ, List.map_cons, leNat, ih]
    rw [hpow, hpow', ← Nat.div_div_eq_div_mul, Nat.mod_mul, BitVec.extractLsb'_toNat, Nat.shiftRight_eq_div_pow]

variable (c : List Host.Cell) (m row : Nat)

theorem blkRow_blkPutRow_same (v : BitVec 72) : blkRow (blkPutRow c m row v) m row = v := by
  have htake : memTake 0 (blkPutRow c m row v) (blkByte m row 0) 9 = (List.range 9).map (fun b => v.extractLsb' (8 * b) 8) :=
    memTake_memPut 0 _ _ c
  rw [blkRow, htake, List.range_eq_range', leNat_extract]
  have hv : v.toNat / 2 ^ (8 * 0) % 2 ^ (8 * 9) = v.toNat := by rw [Nat.mul_zero, Nat.pow_zero, Nat.div_one]; exact Nat.mod_eq_of_lt v.isLt
  rw [hv, BitVec.ofNat_toNat, BitVec.setWidth_eq]

theorem blkRow_blkPutRow_other {r : Nat} (h : row ≠ r) (v : BitVec 72) : blkRow (blkPutRow c m r v) m row = blkRow c m row := by
  have htake : memTake 0 (blkPutRow c m r v) (blkByte m row 0) 9 = memTake 0 c (blkByte m row 0) 9 := by
    refine List.map_congr_left (fun i hi => ?_)
    have hi9 : i < 9 := List.mem_range.mp hi
    refine memGet_memPut_other 0 _ _ _ c ?_
    simp only [blkByte, List.length_map, List.length_range]
    omega
  rw [blkRow, htake, blkRow]

/-- A word laid over another by a mask. -/
theorem getLsbD_merge {w : Nat} (x y z : BitVec w) (i : Nat) :
    ((x &&& ~~~z) ||| (y &&& z)).getLsbD i = if z.getLsbD i then y.getLsbD i else x.getLsbD i := by
  by_cases hi : i < w
  · simp only [BitVec.getLsbD_or, BitVec.getLsbD_and, BitVec.getLsbD_not, hi, decide_true, Bool.true_and]
    cases z.getLsbD i <;> simp
  · simp [BitVec.getLsbD_of_ge _ _ (Nat.le_of_not_lt hi)]

/-- R288: a port's write takes its data where it writes, and keeps every other bit. -/
theorem blkRow_blkWrite (asp : Nat) (q : BlkReq) (i : Nat) :
    (blkRow (blkWrite c m asp q) m row).getLsbD i =
      if q.row asp = row ∧ (q.writes asp).getLsbD i = true then (q.spread asp).getLsbD i else (blkRow c m row).getLsbD i := by
  by_cases hrow : q.row asp = row
  · subst hrow
    by_cases hw : q.writes asp = 0
    · simp [blkWrite, hw]
    · simp only [blkWrite, if_neg hw, blkRow_blkPutRow_same, getLsbD_merge, true_and]
  · rw [if_neg (fun h => hrow h.1)]
    simp only [blkWrite]
    split
    · rfl
    · rw [blkRow_blkPutRow_other c m row (Ne.symm hrow)]

/-! ### One cycle of the two ports (R288 to R290) -/

/-- Does this access of a port with aspect `asp`, if there is one, write bit `i` of row `row`? -/
def writesBit (r : Option BlkReq) (asp row i : Nat) : Prop := ∃ q, r = some q ∧ q.row asp = row ∧ (q.writes asp).getLsbD i = true

theorem writesBit_some {q : BlkReq} {asp row i : Nat} :
    writesBit (some q) asp row i ↔ q.row asp = row ∧ (q.writes asp).getLsbD i = true := by
  simp [writesBit]

theorem not_writesBit_none {asp row i : Nat} : ¬ writesBit none asp row i := by
  rintro ⟨q, hq, -⟩
  cases hq

/-- The memory after the access of one port, if there is one. -/
def blkAccess (c : List Host.Cell) (m asp : Nat) (r : Option BlkReq) : List Host.Cell :=
  match r with
  | some q => blkWrite c m asp q
  | none => c

theorem blkCycle_cells (x : BitVec 13) (ra rb : Option BlkReq) (ka kb : BitVec 72) :
    (blkCycle c m x ra rb ka kb).cells = blkAccess (blkAccess c m (portAspect x true) rb) m (portAspect x false) ra := by
  cases ra <;> cases rb <;> rfl

theorem blkRow_blkAccess_writes {asp i : Nat} {q : BlkReq} (h : writesBit (some q) asp row i) :
    (blkRow (blkAccess c m asp (some q)) m row).getLsbD i = (q.spread asp).getLsbD i :=
  (blkRow_blkWrite c m row asp q i).trans (if_pos (writesBit_some.mp h))

theorem blkRow_blkAccess_keeps {asp i : Nat} {r : Option BlkReq} (h : ¬ writesBit r asp row i) :
    (blkRow (blkAccess c m asp r) m row).getLsbD i = (blkRow c m row).getLsbD i := by
  cases r with
  | none => rfl
  | some q => exact (blkRow_blkWrite c m row asp q i).trans (if_neg (fun hq => h (writesBit_some.mpr hq)))

theorem blkAccess_wf {asp : Nat} {r : Option BlkReq} (h : Memory.wf 0 c = true) : Memory.wf 0 (blkAccess c m asp r) = true := by
  cases r with
  | none => exact h
  | some q => exact blkWrite_wf c m asp q h

/-- Two words meet in a bit unless nothing is in both. -/
theorem and_ne_zero_iff {w : Nat} (x y : BitVec w) : x &&& y ≠ 0 ↔ ∃ i, x.getLsbD i = true ∧ y.getLsbD i = true := by
  refine ⟨fun h => ?_, fun ⟨i, hx, hy⟩ h => ?_⟩
  · by_contra hno
    refine h (BitVec.eq_of_getLsbD_eq (fun i _ => ?_))
    simp only [BitVec.getLsbD_and, BitVec.ofNat_eq_ofNat, BitVec.getLsbD_zero, Bool.and_eq_false_iff]
    by_cases hx : x.getLsbD i = true
    · exact .inr (Bool.eq_false_iff.mpr (fun hy => hno ⟨i, hx, hy⟩))
    · exact .inl (Bool.eq_false_iff.mpr hx)
  · have hi : (x &&& y).getLsbD i = true := by rw [BitVec.getLsbD_and, hx, hy]; rfl
    simp [h] at hi

/-- R290: the collision output says that both ports write one bit. -/
theorem blkCycle_coll (x : BitVec 13) (ra rb : Option BlkReq) (ka kb : BitVec 72) :
    (blkCycle c m x ra rb ka kb).coll = true ↔
      ∃ row i, writesBit ra (portAspect x false) row i ∧ writesBit rb (portAspect x true) row i := by
  cases ra with
  | none => exact ⟨nofun, fun ⟨_, _, h, _⟩ => absurd h not_writesBit_none⟩
  | some p =>
    cases rb with
    | none => exact ⟨nofun, fun ⟨_, _, _, h⟩ => absurd h not_writesBit_none⟩
    | some q =>
      have hcoll : (blkCycle c m x (some p) (some q) ka kb).coll = true ↔
          p.row (portAspect x false) = q.row (portAspect x true) ∧ p.writes (portAspect x false) &&& q.writes (portAspect x true) ≠ 0 := by
        simp [blkCycle]
      simp only [hcoll, and_ne_zero_iff, writesBit_some]
      exact ⟨fun ⟨hrow, i, hp, hq⟩ => ⟨_, i, ⟨hrow, hp⟩, rfl, hq⟩, fun ⟨row, i, ⟨hpr, hp⟩, hqr, hq⟩ => ⟨hpr.trans hqr.symm, i, hp, hq⟩⟩

/-- R289: what a reading port shows, and what a writing port shows in each mode. -/
theorem readOut_some (x : BitVec 13) (b : Bool) (q : BlkReq) (before after : List Host.Cell) (kept : BitVec 72) :
    let asp := portAspect x b
    let o := readOut x b (some q) before after m kept
    (q.write = false → o = some (q.gather asp (blkRow before m (q.row asp)))) ∧
      (q.write = true → portMode x b = 0 → o = some (q.gather asp (blkRow after m (q.row asp)))) ∧
      (q.write = true → portMode x b = 1 → o = some (q.gather asp (blkRow before m (q.row asp)))) ∧
      (q.write = true → portMode x b = 2 → o = some kept) := by
  refine ⟨fun hw => ?_, fun hw hm => ?_, fun hw hm => ?_, fun hw hm => ?_⟩
  · simp [readOut, hw]
  all_goals simp [readOut, hw, hm]

/-- R288 to R290: one cycle of the two ports of a memory. -/
theorem blkCycle_spec (x : BitVec 13) (ra rb : Option BlkReq) (ka kb : BitVec 72) (hwf : Memory.wf 0 c = true) :
    let o := blkCycle c m x ra rb ka kb
    let pa := portAspect x false
    let pb := portAspect x true
    (∀ row i,
      (∀ q, ra = some q → writesBit ra pa row i → (blkRow o.cells m row).getLsbD i = (q.spread pa).getLsbD i) ∧
      (∀ q, rb = some q → ¬writesBit ra pa row i → writesBit rb pb row i → (blkRow o.cells m row).getLsbD i = (q.spread pb).getLsbD i) ∧
      (¬writesBit ra pa row i → ¬writesBit rb pb row i → (blkRow o.cells m row).getLsbD i = (blkRow c m row).getLsbD i)) ∧
    Memory.wf 0 o.cells = true := by
  intro o pa pb
  have hcells : o.cells = blkAccess (blkAccess c m pb rb) m pa ra := blkCycle_cells c m x ra rb ka kb
  rw [hcells]
  refine ⟨fun row i => ⟨fun q hq ha => ?_, fun q hq ha hb => ?_, fun ha hb => ?_⟩, blkAccess_wf _ _ (blkAccess_wf _ _ hwf)⟩
  · subst hq
    exact blkRow_blkAccess_writes _ m row ha
  · subst hq
    rw [blkRow_blkAccess_keeps _ m row ha, blkRow_blkAccess_writes c m row hb]
  · rw [blkRow_blkAccess_keeps _ m row ha, blkRow_blkAccess_keeps c m row hb]

end Sys2Proof.Machine
end

section
/-! SUPPORT. The logic of a stope (R268 to R271, R102): a cell's outputs, joiners, the carry chain, and a pacer edge in its flip-flops. -/

namespace Sys2Proof.Machine

/-! ### Cells -/

/-- The number that the low bits of a word spell. -/
theorem tableIndex_getLsbD {w : Nat} (k : BitVec w) (m : Nat) : tableIndex (fun i => k.getLsbD i) m = k.toNat % 2 ^ m := by
  induction m with
  | zero => simp [tableIndex, Nat.mod_one]
  | succ m ih =>
    have hstep : tableIndex (fun i => k.getLsbD i) (m + 1) = tableIndex (fun i => k.getLsbD i) m + if k.getLsbD m then 2 ^ m else 0 := by
      simp only [tableIndex, List.range_succ, List.foldl_concat]
    rw [hstep, ih, Nat.mod_pow_succ, ← Nat.toNat_testBit, ← BitVec.getLsbD]
    cases k.getLsbD m <;> simp

theorem CellCfg.outW_whole {c : CellCfg} (h : c.split = false) (k : BitVec 6) : c.outW (fun i => k.getLsbD i) = c.table.getLsbD k.toNat := by
  have hk : tableIndex (fun i => k.getLsbD i) 6 = k.toNat := (tableIndex_getLsbD k 6).trans (Nat.mod_eq_of_lt k.isLt)
  rw [CellCfg.outW, h, hk]
  rfl

theorem CellCfg.outW_split {c : CellCfg} (h : c.split = true) (k : BitVec 6) :
    c.outW (fun i => k.getLsbD i) = c.table.getLsbD (32 + k.toNat % 32) := by
  rw [CellCfg.outW, h, tableIndex_getLsbD]
  rfl

theorem CellCfg.outH_eq (c : CellCfg) (k : BitVec 6) : c.outH (fun i => k.getLsbD i) = c.table.getLsbD (k.toNat % 32) := by
  rw [CellCfg.outH, tableIndex_getLsbD]
  rfl

theorem flopAfter_force (forceTo enable data now : Bool) : flopAfter true forceTo enable data now = forceTo := rfl
theorem flopAfter_enable (forceTo data now : Bool) : flopAfter false forceTo true data now = data := rfl
theorem flopAfter_keep (forceTo data now : Bool) : flopAfter false forceTo false data now = now := rfl

/-! ### Joiners and the carry chain -/

variable {s : State} {n : Shaft} {k : Nat}

/-- R269: a pair joiner chooses by input 7 of its odd cell. -/
theorem State.sig_pair (s : State) (n : Shaft) (k m t p : Nat) :
    s.sig n (m + 1) k (.pair t p) = if s.sig n m k (.input t (2 * p + 1) 7) then s.sig n m k (.w t (2 * p + 1)) else s.sig n m k (.w t (2 * p)) := by
  rw [State.sig]
  cases s.sig n m k (.input t (2 * p + 1) 7) <;> rfl

/-- R269: a quad joiner chooses by input 7 of its first cell. -/
theorem State.sig_quad (s : State) (n : Shaft) (k m t p : Nat) :
    s.sig n (m + 1) k (.quad t p) = if s.sig n m k (.input t (4 * p) 7) then s.sig n m k (.pair t (2 * p + 1)) else s.sig n m k (.pair t (2 * p)) := by
  rw [State.sig]
  cases s.sig n m k (.input t (4 * p) 7) <;> rfl

theorem TileCfg.joiner_pair {x : TileCfg} {p : Nat} (h : x.pairs.getLsbD p = true) (t : Nat) : x.joiner t (2 * p + 1) = some (.pair t p) := by
  have hodd : (2 * p + 1) % 2 = 1 := by omega
  have hhalf : (2 * p + 1) / 2 = p := by omega
  rw [TileCfg.joiner, hodd, hhalf, if_pos ⟨rfl, h⟩]

theorem TileCfg.joiner_quad {x : TileCfg} {q : Nat} (h : x.quads.getLsbD q = true) (t : Nat) : x.joiner t (4 * q) = some (.quad t q) := by
  have heven : ¬ (4 * q) % 2 = 1 := by omega
  have hfour : (4 * q) % 4 = 0 := by omega
  have hq : 4 * q / 4 = q := by omega
  rw [TileCfg.joiner, if_neg (fun hp => heven hp.1), hfour, hq, if_pos ⟨rfl, h⟩]

/-- R269: a joiner's output stands in place of its cell's H. -/
theorem State.sig_h_of_joiner {t c : Nat} {j : Sig} (h : (tileCfg (s.stope n k).active t).joiner t c = some j) (m : Nat) :
    s.sig n (m + 1) k (.h t c) = s.sig n m k j := by
  rw [State.sig, h]

/-- R271: the chain goes on from the tile to the south, and starts with 0 where there is none. -/
theorem State.carryOut_south {t : Nat} (h : (tileCfg (s.stope n k).active t).carry = .south) (m : Nat) :
    s.carryOut n k (m + 1) t 0 =
      Config.carry (cellCfg (s.stope n k).active t 0) (BitVec.ofNat 6 (tableIndex (fun j => s.signal n k (.input t 0 j)) 6))
        (if 32 ≤ t then s.carryOut n k m (t - 32) 15 else false) := by
  rw [State.carryOut, h]
  by_cases ht : 32 ≤ t <;> simp [tileBeside, ht]

/-! ### A pacer edge -/

theorem getLsbD_one_shiftLeft {w : Nat} (m j : Nat) : ((1 : BitVec w) <<< m).getLsbD j = (decide (j < w) && decide (m = j)) := by
  have htwo : (1 : BitVec w) <<< m = BitVec.twoPow w m := (BitVec.twoPow_eq w m).symm
  rw [htwo, BitVec.getLsbD_twoPow]
  by_cases h : m = j <;> simp [h]

/-- A word built bit by bit. -/
theorem getLsbD_foldl_or {w : Nat} (p : Nat → Bool) (m j : Nat) :
    ((List.range m).foldl (fun (a : BitVec w) i => if p i then a ||| ((1 : BitVec w) <<< i) else a) 0).getLsbD j
      = (decide (j < w) && decide (j < m) && p j) := by
  induction m with
  | zero => simp
  | succ m ih =>
    rw [List.range_succ, List.foldl_concat]
    generalize (List.range m).foldl _ _ = a at ih ⊢
    have hstep : (if p m then a ||| ((1 : BitVec w) <<< m) else a).getLsbD j = (a.getLsbD j || (p m && decide (j < w) && decide (m = j))) := by
      cases p m
      · simp
      · simp only [if_true, BitVec.getLsbD_or, getLsbD_one_shiftLeft, Bool.true_and]
    rw [hstep, ih]
    by_cases hj : m = j
    · subst hj
      simp [Bool.and_comm]
    · have hlt : (j < m + 1) = (j < m) := propext (by omega)
      simp only [hj, hlt, decide_false, Bool.and_false, Bool.or_false]

theorem State.flopsNext_getLsbD (s : State) (n : Shaft) (k i : Nat) (hi : i < 16384) :
    (s.flopsNext n k).getLsbD i = s.flopNext n k (i / 32) (i % 16) (decide (16 ≤ i % 32)) := by
  rw [State.flopsNext, getLsbD_foldl_or (fun i => s.flopNext n k (i / 32) (i % 16) (decide (16 ≤ i % 32)))]
  simp [hi]

theorem State.driveOuts_ff (s : State) (n : Shaft) (k i : Nat) : ((s.driveOuts n k).stope n i).ff = (s.stope n i).ff :=
  State.stope_updStope_keeps Stope.ff s n k i (fun _ => rfl)

/-- R270: an edge gives every flip-flop of a stope the value `flopNext` names. -/
theorem State.clockStopes_ff (s : State) (n : Shaft) (k : Nat) : ((s.clockStopes n [k]).stope n k).ff = s.flopsNext n k := by
  simp only [State.clockStopes, List.foldl_cons, List.foldl_nil, State.driveOuts_ff, State.stope_updStope_same]

theorem State.clockStopes_flop (s : State) (n : Shaft) (k : Nat) {t c : Nat} (b : Bool) (ht : t < 512) (hc : c < 16) :
    ((s.clockStopes n [k]).stope n k).ff.getLsbD (32 * t + 16 * bit b + c) = s.flopNext n k t c b := by
  have hb : bit b ≤ 1 := by cases b <;> decide
  have htile : (32 * t + 16 * bit b + c) / 32 = t := by omega
  have hcell : (32 * t + 16 * bit b + c) % 16 = c := by omega
  have hhalf : decide (16 ≤ (32 * t + 16 * bit b + c) % 32) = b := by
    cases b <;> simp only [bit, Bool.false_eq_true, if_true, if_false, decide_eq_true_eq, decide_eq_false_iff_not] <;> omega
  rw [State.clockStopes_ff, State.flopsNext_getLsbD s n k _ (by omega), htile, hcell, hhalf]

/-- R102: a pacer whose access waits for a port that stands still has no edge; its cycle is stretched, which is counted. -/
theorem State.pacerEdge_of_stopped (hp : s.regB n .STP_STAT_PAIRED k = false) (hr : s.stopeRuns n k = true) (hw : (s.stope n k).waiting = none)
    (ha : (s.stope n k).acc ≠ []) (hs : s.portsStopped n = true) :
    s.pacerEdge n k = (s.addReg n .PCE_SLIP_STRETCH k).updStope n k (fun x => { x with stretched := true }) := by
  have hks : (s.clocked n k).filter (fun j => s.stopeRuns n j) = [k] := by simp [State.clocked, hp, hr]
  have hretry : s.stopeRetry n k = s := by simp [State.stopeRetry, hw]
  have hwaits : s.handshakeWaits n k = true := by simp [State.handshakeWaits, ha, hs]
  simp [State.pacerEdge, hks, hretry, hwaits]

end Sys2Proof.Machine
end

section
/-! SUPPORT. What a change of a shaft leaves alone in the rules of a stope's port, and what of it a stope's own change leaves alone. -/

namespace Sys2Proof.Machine

variable {s : State} {n : Shaft} {k : Nat} {F : ShaftSt → ShaftSt}

theorem State.updStope_updStope (s : State) (n : Shaft) (k : Nat) (f g : Stope → Stope) :
    (s.updStope n k f).updStope n k g = s.updStope n k (fun x => g (f x)) := by
  simp [State.updStope]

/-- A change of a stope is what it makes of that stope. -/
theorem State.updStope_congr {f g : Stope → Stope} (h : f (s.stope n k) = g (s.stope n k)) : s.updStope n k f = s.updStope n k g := by
  simp only [State.stope, State.sh] at h
  simp only [State.updStope, State.updSh, Oct.upd, Tbl.upd, h]

theorem State.tally_updSh (h : ∀ x, (F x).tallies = x.tallies) (t : Nat) : (s.updSh n F).tally n t = s.tally n t := by
  rw [State.tally, State.sh_updSh_same, h, ← State.tally]

theorem State.stope_updSh (h : ∀ x, (F x).stopes = x.stopes) (j : Nat) : (s.updSh n F).stope n j = s.stope n j := by
  rw [State.stope, State.sh_updSh_same, h, ← State.stope]

theorem State.tubPending_updSh (h : ∀ x, (F x).tallies = x.tallies) (t : Tub) : (s.updSh n F).tubPending n t = s.tubPending n t := by
  simp only [State.tubPending, State.tally_updSh h]

theorem State.seamsOut_updSh (h : ∀ x, (F x).inReset = x.inReset) : (s.updSh n F).seamsOut n = s.seamsOut n := by
  rw [State.seamsOut, State.sh_updSh_same, h]
  rfl

theorem State.pacerRuns_updSh (h : ∀ x, (F x).inReset = x.inReset) (hb : ∀ x, (F x).boot = x.boot) :
    (s.updSh n F).pacerRuns n = s.pacerRuns n := by
  rw [State.pacerRuns, State.seamsOut_updSh h, State.sh_updSh_same, hb]
  rfl

theorem State.opBefore_updSh (hf : ∀ x, (F x).flights = x.flights) (hq : ∀ x, (F x).qops = x.qops) (hp : ∀ x, (F x).pushWaits = x.pushWaits)
    (hr : ∀ x, (F x).ringOps = x.ringOps) (i : Nat) : (s.updSh n F).opBefore n k i = s.opBefore n k i := by
  simp only [State.opBefore, State.sh_updSh_same, hf, hq, hp, hr]

variable (s n k) (g : Stope → Stope)

theorem State.tubPending_updStope (t : Tub) : (s.updStope n k g).tubPending n t = s.tubPending n t :=
  State.tubPending_updSh (F := fun h => { h with stopes := Tbl.upd Stope.zero h.stopes k g }) (fun _ => rfl) t

theorem State.pacerRuns_updStope : (s.updStope n k g).pacerRuns n = s.pacerRuns n :=
  State.pacerRuns_updSh (F := fun h => { h with stopes := Tbl.upd Stope.zero h.stopes k g }) (fun _ => rfl) (fun _ => rfl)

theorem State.opBefore_updStope (j i : Nat) : (s.updStope n k g).opBefore n j i = s.opBefore n j i :=
  State.opBefore_updSh (F := fun h => { h with stopes := Tbl.upd Stope.zero h.stopes k g }) (fun _ => rfl) (fun _ => rfl) (fun _ => rfl)
    (fun _ => rfl) i

end Sys2Proof.Machine
end

section
/-! SUPPORT. A stope's haulage port (R242, R243, R294, R295): what it delivers next, and what an injection sends out. -/

namespace Sys2Proof.Machine

variable {s : State} {n : Shaft} {k : Nat} {f : Flight} {before after : List Flight}

/-! ### Delivery -/

theorem takeFirst_append {α : Type} {p : α → Bool} {a : α} (l r : List α) (hl : ∀ b ∈ l, p b = false) (ha : p a = true) :
    takeFirst p (l ++ a :: r) = some (a, l ++ r) := by
  induction l with
  | nil => simp [takeFirst, ha]
  | cons b l ih =>
    have hb := hl b List.mem_cons_self
    have hrest := ih (fun x hx => hl x (List.mem_cons_of_mem _ hx))
    simp [takeFirst, hb, hrest]

/-- Does the port of stope `k` take this flit next when it comes first? -/
def State.stopeWants (s : State) (n : Shaft) (k : Nat) (f : Flight) : Bool :=
  (f.atStope k && s.stopeTakes n k f.tub) || (s.stopeGets n k f).isSome

/-- With nothing held, the first flit the port takes leaves haulage: a result into its reserved place, a tub as R242 says. -/
theorem State.stopeNext_of_first (hhold : (s.stope n k).hold = []) (hl : (s.sh n).flights = before ++ f :: after)
    (hb : ∀ g ∈ before, s.stopeWants n k g = false) (hf : s.stopeWants n k f = true) :
    s.stopeNext n k =
      (s.stopeGets n k f).elim (((s.updSh n (fun h => { h with flights := before ++ after })).leaveTransit n f.tub).stopeTake n k f.tub)
        (fun r => (s.updSh n (fun h => { h with flights := before ++ after })).updStope n k (fun x => { x with results := x.results ++ [r] })) := by
  have hnone : takeFirst (fun t => !s.tubPending n t && s.stopeTakes n k t) (s.stope n k).hold = none := by rw [hhold]; rfl
  have hsome : takeFirst (fun f => (f.atStope k && s.stopeTakes n k f.tub) || (s.stopeGets n k f).isSome) (s.sh n).flights
      = some (f, before ++ after) := by
    rw [hl]
    exact takeFirst_append before after hb hf
  simp only [State.stopeNext, hnone, hsome]
  cases s.stopeGets n k f <;> rfl

theorem State.stopeGets_of_tub (h : f.act = .stope k) : s.stopeGets n k f = none := by
  rw [State.stopeGets, h]

theorem State.stopeGets_of_turn {i : Nat} {r : QResult} (h : f.act = .stopeRes k i r) (ht : f.there = true) (hturn : s.opBefore n k i = false) :
    s.stopeGets n k f = some r := by
  simp [State.stopeGets, h, ht, hturn]

theorem State.stopeWants_of_tub (h : f.act = .stope k) (ht : f.there = true) (htake : s.stopeTakes n k f.tub = true) : s.stopeWants n k f = true := by
  simp [State.stopeWants, Flight.atStope, h, ht, htake]

theorem State.stopeWants_of_turn {r : QResult} (h : s.stopeGets n k f = some r) : s.stopeWants n k f = true := by
  simp [State.stopeWants, h]

theorem State.stopeWants_other (h : f.act ≠ .stope k) (hg : s.stopeGets n k f = none) : s.stopeWants n k f = false := by
  simp [State.stopeWants, Flight.atStope, h, hg]

/-- A tub made without speculation leaves no TRANSIT. -/
theorem State.leaveTransit_of_not_spc {t : Tub} (h : t.spc = false) : s.leaveTransit n t = s := by
  simp [State.leaveTransit, h]

/-! ### What the port does with a tub (R242) -/

/-- A tub of VC 0 or 1 of a tally goes into its buffer, and its tally is the last one seen (R243). -/
theorem State.stopeBuffer_of_tally {t : Tub} (hv : Cls.vc t.cls ≠ 2) (ht : t.tv = true) :
    s.stopeBuffer n k t = s.updStope n k (fun x => { x with buf01 := x.buf01 ++ [t], last := some (t.tally.toNat, t.gen) }) := by
  simp only [State.stopeBuffer, if_neg hv, ht, if_true]

theorem State.stopeTake_of_not_pending {t : Tub} (h : s.tubPending n t = false) : s.stopeTake n k t = s.stopeBuffer n k t := by
  simp [State.stopeTake, h]

theorem State.stopeTake_held {t : Tub} (h : s.tubPending n t = true) (he : s.reg n .STP_SPEC_EXPOSE k = 0) (hl : (s.stope n k).hold.length < 64) :
    s.stopeTake n k t = s.updStope n k (fun x => { x with hold := x.hold ++ [t] }) := by
  have hroom : ¬ 64 ≤ (s.stope n k).hold.length := by omega
  simp [State.stopeTake, h, State.regB_eq_false.mpr he, hroom]

theorem State.stopeTake_exposed {t : Tub} (h : s.tubPending n t = true) (he : s.reg n .STP_SPEC_EXPOSE k ≠ 0) (hl : (s.stope n k).lineage = [])
    (hv : Cls.vc t.cls ≠ 2) (ht : t.tv = true) :
    s.stopeTake n k t = s.updStope n k (fun x =>
      { x with lineage := x.lineage ++ [t.tally.toNat], buf01 := x.buf01 ++ [{ t with unconf := true }], last := some (t.tally.toNat, t.gen) }) := by
  have hbuf (a : State) := State.stopeBuffer_of_tally (s := a) (n := n) (k := k) (t := { t with unconf := true }) hv ht
  simp [State.stopeTake, h, State.regB_eq_true.mpr he, hl, hbuf, State.updStope_updStope]

/-! ### STOPE_DELIVER with nothing taken -/

/-- The state in which the port delivers when the design took nothing: RELEASED follows the design, and the stope is written back as it is. -/
def State.portIdle (s : State) (n : Shaft) (k : Nat) (rel : Bool) : State :=
  (s.setReg n .STP_STAT_RELEASED (bit rel) k).updStope n k (fun x => x)

variable {rel : Bool}

theorem State.stopeTaken_nothing (s : State) (n : Shaft) (k : Nat) (rel : Bool) : s.stopeTaken n k ⟨0, 0, 0, rel⟩ = s.portIdle n k rel := by
  have hid : (fun x : Stope => { x with
      buf01 := x.buf01.drop 0, buf2 := x.buf2.drop 0, results := x.results.drop 0, outstanding := x.outstanding - min 0 x.results.length }) = fun x => x :=
    funext (fun x => by simp)
  rw [State.stopeTaken, hid]
  rfl

theorem State.portIdle_stope (s : State) (n : Shaft) (k : Nat) (rel : Bool) : (s.portIdle n k rel).stope n k = s.stope n k :=
  State.stope_updStope_same _ n k _

theorem State.portIdle_reg {g : Fld} (h : g ≠ .STP_STAT_RELEASED) (s : State) (n : Shaft) (k e : Nat) (rel : Bool) :
    (s.portIdle n k rel).reg n g e = s.reg n g e := State.reg_setReg_field h

theorem State.portIdle_stopeRuns (s : State) (n : Shaft) (k : Nat) (rel : Bool) : (s.portIdle n k rel).stopeRuns n k = s.stopeRuns n k := by
  have hruns : (s.portIdle n k rel).pacerRuns n = s.pacerRuns n := by
    rw [State.portIdle, State.pacerRuns_updStope, State.setReg, State.pacerRuns_setF s n _ _ _ (by decide) (by decide) (by decide)]
  simp only [State.stopeRuns, hruns, State.portIdle_stope]

theorem State.portIdle_stopeGets (s : State) (n : Shaft) (k : Nat) (rel : Bool) (f : Flight) :
    (s.portIdle n k rel).stopeGets n k f = s.stopeGets n k f := by
  have hturn (i : Nat) : (s.portIdle n k rel).opBefore n k i = s.opBefore n k i := State.opBefore_updStope _ n k _ k i
  simp only [State.stopeGets, hturn]

theorem State.portIdle_flights (s : State) (n : Shaft) (k : Nat) (rel : Bool) : ((s.portIdle n k rel).sh n).flights = (s.sh n).flights := by
  rw [State.portIdle, State.sh_updStope_same]
  rfl

/-- The state that a delivery starts from, once flit lists have changed: where the stope is written again, as if it had not been. -/
theorem State.portIdle_updStope (s : State) (n : Shaft) (k : Nat) (rel : Bool) (l : List Flight) (g : Stope → Stope) :
    ((s.portIdle n k rel).updSh n (fun h => { h with flights := l })).updStope n k g =
      ((s.setReg n .STP_STAT_RELEASED (bit rel) k).updSh n (fun h => { h with flights := l })).updStope n k g := by
  simp [State.portIdle, State.updStope]

theorem exec_stopeDeliver_nothing (hk : k < 128) (hr : s.stopeRuns n k = true) (hg : s.shGated n .STP = false) :
    exec (.stopeDeliver n k ⟨0, 0, 0, rel⟩) s = .next ((s.portIdle n k rel).stopeNext n k) := by
  have hlt : ¬ 128 ≤ k := by omega
  rw [← State.stopeTaken_nothing]
  exact congrArg Host.Outcome.next (by rw [if_neg hlt, hr, hg]; rfl)

/-- The flits before the one the port takes are none it takes. -/
theorem State.portIdle_passes (hb : ∀ g ∈ before, g.act ≠ .stope k ∧ s.stopeGets n k g = none) (rel : Bool) :
    ∀ g ∈ before, (s.portIdle n k rel).stopeWants n k g = false := by
  intro g hg
  obtain ⟨hact, hgets⟩ := hb g hg
  exact State.stopeWants_other hact ((s.portIdle_stopeGets n k rel g).trans hgets)

/-- R242, R295: the first tub that stands at the port and has room is taken from haulage. -/
theorem State.portIdle_takes (hr : s.stopeRuns n k = true) (hg : s.shGated n .STP = false) (hhold : (s.stope n k).hold = [])
    (hl : (s.sh n).flights = before ++ f :: after) (hact : f.act = .stope k) (ht : f.there = true)
    (hb : ∀ g ∈ before, g.act ≠ .stope k ∧ s.stopeGets n k g = none) (hspc : f.tub.spc = false) (hroom : (s.stope n k).buf01.length < 8) (rel : Bool) :
    (s.portIdle n k rel).stopeNext n k =
      ((s.portIdle n k rel).updSh n (fun h => { h with flights := before ++ after })).stopeTake n k f.tub := by
  have hgated : (s.portIdle n k rel).shGated n .STP = false :=
    (congrArg (· != 0) (s.portIdle_reg (g := .SGATE_HALTED) (by decide) n k _ rel)).trans hg
  have htake : (s.portIdle n k rel).stopeTakes n k f.tub = true := by
    simp [State.stopeTakes, State.portIdle_stope, State.portIdle_stopeRuns, hroom, hr, hgated]
  rw [State.stopeNext_of_first (by rw [State.portIdle_stope, hhold]) (by rw [State.portIdle_flights, hl]) (State.portIdle_passes hb rel)
    (State.stopeWants_of_tub hact ht htake), State.stopeGets_of_tub hact]
  exact congrArg (State.stopeTake · n k f.tub) (State.leaveTransit_of_not_spc hspc)

/-- R295: a result whose turn it is takes its reserved place. -/
theorem State.portIdle_gets {i : Nat} {r : QResult} (hhold : (s.stope n k).hold = []) (hl : (s.sh n).flights = before ++ f :: after)
    (hact : f.act = .stopeRes k i r) (ht : f.there = true) (hturn : s.opBefore n k i = false)
    (hb : ∀ g ∈ before, g.act ≠ .stope k ∧ s.stopeGets n k g = none) (rel : Bool) :
    (s.portIdle n k rel).stopeNext n k =
      ((s.setReg n .STP_STAT_RELEASED (bit rel) k).updSh n (fun h => { h with flights := before ++ after })).updStope n k
        (fun x => { x with results := x.results ++ [r] }) := by
  have hgets : (s.portIdle n k rel).stopeGets n k f = some r :=
    (s.portIdle_stopeGets n k rel f).trans (State.stopeGets_of_turn hact ht hturn)
  rw [State.stopeNext_of_first (by rw [State.portIdle_stope, hhold]) (by rw [State.portIdle_flights, hl]) (State.portIdle_passes hb rel)
    (State.stopeWants_of_turn hgets), hgets]
  exact s.portIdle_updStope n k rel _ _

theorem State.tubPending_iff {t : Tub} (ht : t.tv = true) :
    s.tubPending n t = true ↔ (s.tally n t.tally.toNat).gen = t.gen ∧ (s.tally n t.tally.toNat).st ≠ .free ∧ (s.tally n t.tally.toNat).spec = .pending := by
  simp [State.tubPending, ht, and_assoc]

/-- What the port does with a tub hangs on the tally, EXPOSE and the stope as they were before the delivery. -/
theorem State.portIdle_tubPending (l : List Flight) (t : Tub) :
    ((s.portIdle n k rel).updSh n (fun h => { h with flights := l })).tubPending n t = s.tubPending n t := by
  rw [State.tubPending_updSh (F := fun h => { h with flights := l }) (fun _ => rfl), State.portIdle, State.tubPending_updStope]
  rfl

theorem State.portIdle_updSh_stope (l : List Flight) :
    ((s.portIdle n k rel).updSh n (fun h => { h with flights := l })).stope n k = s.stope n k := by
  rw [State.stope_updSh (F := fun h => { h with flights := l }) (fun _ => rfl), State.portIdle_stope]

theorem State.portIdle_updSh_expose (l : List Flight) :
    ((s.portIdle n k rel).updSh n (fun h => { h with flights := l })).reg n .STP_SPEC_EXPOSE k = s.reg n .STP_SPEC_EXPOSE k :=
  s.portIdle_reg (by decide) n k k rel

/-! ### Injection -/

/-- R102: with nothing waiting at the port the design's operation is asked for. -/
theorem exec_stopeInject_of_ready {r : StopeReq} (hk : k < 128) (hr : s.stopeRuns n k = true) (hw : (s.stope n k).waiting = none) :
    exec (.stopeInject n k ⟨r, rel⟩) s = .next ((s.setReg n .STP_STAT_RELEASED (bit rel) k).stopeAsk n k r) := by
  have hretry : s.stopeRetry n k = s := by simp [State.stopeRetry, hw]
  refine congrArg Host.Outcome.next ((if_pos hk).trans ?_)
  simp [State.stopeInject, hr, hretry, hw]

/-- A push of stope `k` waits for room (R257). -/
def State.stopePushes (s : State) (n : Shaft) (k : Nat) : Prop := ∃ w ∈ (s.sh n).pushWaits, ∃ i, w.by_ = .stope k i

/-- Whether an operation has to wait for its own kind's limit: the lineage list for a tub, four operations outstanding for the queue manager. -/
def State.stopeLimited (s : State) (n : Shaft) (k : Nat) (r : StopeReq) : Bool :=
  let full := decide (4 ≤ (s.stope n k).outstanding)
  let lineage := decide ((s.stope n k).lineage ≠ []) && !s.regB n .STP_SPEC_STAINED k
  match r with
  | .send _ _ _ => lineage
  | .qpush _ _ _ => full || lineage
  | _ => full

theorem any_eq_false_of_forall {α : Type} {p : α → Bool} {l : List α} (h : ∀ a ∈ l, p a = false) : l.any p = false :=
  List.any_eq_false.mpr (fun a ha => Bool.eq_false_iff.mp (h a ha))

/-- R102: at a port in service behind which no push waits, an operation waits for its own limit alone. -/
theorem State.stopeWaits_eq (hg : s.shGated n .STP = false) (hp : ¬ s.stopePushes n k) (r : StopeReq) : s.stopeWaits n k r = s.stopeLimited n k r := by
  simp only [State.stopeWaits, hg]
  rw [any_eq_false_of_forall]
  · cases r <;> rfl
  · intro w hw
    split
    · next k' i hby =>
      rw [decide_eq_false_iff_not]
      rintro rfl
      exact hp ⟨w, hw, i, hby⟩
    · rfl

theorem State.stopeLimited_send {c : BitVec 4} {d : BitVec 8} {b : BitVec 512} (hl : (s.stope n k).lineage = []) :
    s.stopeLimited n k (.send c d b) = false := by
  simp [State.stopeLimited, hl]

/-- R121, R243: a tub sent by a stope without a stain, and by none of its tallies, enters haulage at the stope's router. -/
theorem State.stopeAsk_send {c : BitVec 4} {d : BitVec 8} {b : BitVec 512} (hw : s.stopeWaits n k (.send c d b) = false)
    (hs : s.reg n .STP_SPEC_STAINED k = 0) (hlast : (s.stope n k).last = none) (hc : c.toNat < 0xB) (hd : d.toNat < 128) :
    s.stopeAsk n k (.send c d b) = s.updSh n (fun h =>
      { h with flights := h.flights ++ [⟨{ Tub.zero with cls := c, body := b }, .router k, .router k, d, .stope d.toNat, some k, none⟩] }) := by
  have hcls : Cls.reserved c = false := by simp [Cls.reserved]; omega
  have hdest : ¬ (0x83 ≤ d.toNat) := by omega
  have htag : s.stopeTag n k { Tub.zero with cls := c, body := b } = { Tub.zero with cls := c, body := b } := by rw [State.stopeTag, hlast]
  have henter : s.enterTransit n { Tub.zero with cls := c, body := b } = s := rfl
  simp [State.stopeAsk, hw, State.stopeTub, State.regB_eq_false.mpr hs, htag, hdest, henter, State.inject, hcls, stopeAct, hd]

/-- The queue operations that carry no tub, by what the design asks for (R294). -/
def bareQops (q : Nat) : List (StopeReq × StopeQop) :=
  [(.qpop q, .pop), (.qmark q, .mark), (.qunmark q, .unmark), (.qrwnd q, .rewind)]

theorem mem_bareQops {r : StopeReq} {o : StopeQop} {q : Nat} :
    (r, o) ∈ bareQops q ↔ r = .qpop q ∧ o = .pop ∨ r = .qmark q ∧ o = .mark ∨ r = .qunmark q ∧ o = .unmark ∨ r = .qrwnd q ∧ o = .rewind := by
  simp [bareQops]

/-- R295: they wait while four are outstanding. -/
theorem State.stopeLimited_bare {r : StopeReq} {o : StopeQop} {q : Nat} (hro : (r, o) ∈ bareQops q) (s : State) (n : Shaft) (k : Nat) :
    s.stopeLimited n k r = decide (4 ≤ (s.stope n k).outstanding) := by
  rcases mem_bareQops.mp hro with ⟨rfl, -⟩ | ⟨rfl, -⟩ | ⟨rfl, -⟩ | ⟨rfl, -⟩ <;> rfl

/-- R294, R295: such an operation sets out for the queue manager with the next number of the stope. -/
theorem State.stopeAsk_bare {r : StopeReq} {o : StopeQop} {q : Nat} (hro : (r, o) ∈ bareQops q) (hw : s.stopeWaits n k r = false) :
    s.stopeAsk n k r = (s.updSh n (fun h =>
      { h with flights := h.flights ++ [⟨Tub.zero, .router k, .router k, 0x81, .stopeOp k (s.stope n k).issued q o, none, none⟩] })).updStope n k
        (fun x => { x with outstanding := x.outstanding + 1, issued := x.issued + 1 }) := by
  rcases mem_bareQops.mp hro with ⟨rfl, rfl⟩ | ⟨rfl, rfl⟩ | ⟨rfl, rfl⟩ | ⟨rfl, rfl⟩ <;>
    simp only [State.stopeAsk, hw, Bool.false_eq_true, if_false] <;> rfl

theorem State.stopeAsk_waits {r : StopeReq} (hw : s.stopeWaits n k r = true) :
    s.stopeAsk n k r = s.updStope n k (fun x => { x with waiting := some r }) := by
  simp only [State.stopeAsk, hw, if_true]

end Sys2Proof.Machine
end

section
/-! A stope: its haulage port, its cells and flip-flops, and its block memories. -/

namespace Sys2Proof.Machine

/-- R242, R243: the tub at the port is delivered, held, or exposed. -/
theorem stopeDeliver_tub {s : State} {n : Shaft} {k : Nat} {f : Flight} {before after : List Flight} {rel : Bool} (hk : k < 128)
    (hr : s.stopeRuns n k = true) (hg : s.shGated n .STP = false) (hhold : (s.stope n k).hold = [])
    (hl : (s.sh n).flights = before ++ f :: after) (hact : f.act = .stope k) (ht : f.there = true)
    (hb : ∀ g ∈ before, g.act ≠ .stope k ∧ s.stopeGets n k g = none) (hspc : f.tub.spc = false) (hv : Cls.vc f.tub.cls ≠ 2)
    (hroom : (s.stope n k).buf01.length < 8) (htv : f.tub.tv = true) :
    let out := (s.setReg n .STP_STAT_RELEASED (bit rel) k).updSh n (fun h => { h with flights := before ++ after })
    (s.tubPending n f.tub = false → exec (.stopeDeliver n k ⟨0, 0, 0, rel⟩) s = .next (out.updStope n k (fun x =>
      { x with buf01 := x.buf01 ++ [f.tub], last := some (f.tub.tally.toNat, f.tub.gen) }))) ∧
    (s.tubPending n f.tub = true → s.reg n .STP_SPEC_EXPOSE k = 0 → exec (.stopeDeliver n k ⟨0, 0, 0, rel⟩) s = .next (out.updStope n k (fun x =>
      { x with hold := [f.tub] }))) ∧
    (s.tubPending n f.tub = true → s.reg n .STP_SPEC_EXPOSE k ≠ 0 → (s.stope n k).lineage = [] →
      exec (.stopeDeliver n k ⟨0, 0, 0, rel⟩) s = .next (out.updStope n k (fun x =>
        { x with
          lineage := [f.tub.tally.toNat], buf01 := x.buf01 ++ [{ f.tub with unconf := true }], last := some (f.tub.tally.toNat, f.tub.gen) }))) := by
  intro out
  have hout : out.stope n k = s.stope n k := State.stope_updSh (F := fun h => { h with flights := before ++ after }) (fun _ => rfl) k
  rw [exec_stopeDeliver_nothing hk hr hg, State.portIdle_takes hr hg hhold hl hact ht hb hspc hroom]
  have hpend := State.portIdle_tubPending (s := s) (n := n) (k := k) (rel := rel) (before ++ after) f.tub
  refine ⟨fun hp => ?_, fun hp he => ?_, fun hp he hlin => ?_⟩
  · rw [State.stopeTake_of_not_pending (hpend.trans hp), State.stopeBuffer_of_tally hv htv, State.portIdle_updStope]
  · rw [State.stopeTake_held (hpend.trans hp) ((State.portIdle_updSh_expose _).trans he) (by rw [State.portIdle_updSh_stope, hhold]; decide),
      State.portIdle_updStope]
    exact congrArg Host.Outcome.next (State.updStope_congr (by rw [hout, hhold]; rfl))
  · rw [State.stopeTake_exposed (hpend.trans hp) (fun h => he ((State.portIdle_updSh_expose _).symm.trans h))
      (by rw [State.portIdle_updSh_stope, hlin]) hv htv, State.portIdle_updStope]
    exact congrArg Host.Outcome.next (State.updStope_congr (by rw [hout, hlin]; rfl))

/-- R102, R294, R295: what the design injects at a port behind which nothing waits. -/
theorem stopeInject_ready {s : State} {n : Shaft} {k : Nat} {rel : Bool} (hk : k < 128) (hr : s.stopeRuns n k = true)
    (hg : s.shGated n .STP = false) (hw : (s.stope n k).waiting = none) (hp : ¬ s.stopePushes n k) (r : StopeReq) :
    exec (.stopeInject n k ⟨r, rel⟩) s = .next ((s.setReg n .STP_STAT_RELEASED (bit rel) k).stopeAsk n k r) ∧
      (s.setReg n .STP_STAT_RELEASED (bit rel) k).stopeWaits n k r = (s.setReg n .STP_STAT_RELEASED (bit rel) k).stopeLimited n k r := by
  refine ⟨exec_stopeInject_of_ready hk hr hw, State.stopeWaits_eq (s := s.setReg n .STP_STAT_RELEASED (bit rel) k) ?_ hp r⟩
  exact (congrArg (· != 0) (State.reg_setReg_field (g := .SGATE_HALTED) (by decide))).trans hg

/-- Settles O33: the port by what it delivers next and what an operation waits for, the logic by the equations of its cells, joiners, carry chain and edge, a
block memory by the two accesses one after the other. -/
theorem stopePorts : Obligations.StopePorts := by
  unfold Obligations.StopePorts
  refine ⟨fun s n k rel hk hr hg => ⟨?_, ?_, ?_, ?_⟩, ⟨?_, ?_, fun s n k hk => ⟨?_, ?_, ?_, ?_⟩⟩, ?_⟩
  · intro before after f hhold hl hact ht hb hspc hv hroom htv
    obtain ⟨hdeliver, hheld, hexposed⟩ := stopeDeliver_tub (rel := rel) hk hr hg hhold hl hact ht hb hspc hv hroom htv
    have hpend := State.tubPending_iff (s := s) (n := n) htv
    exact ⟨fun hp => hdeliver (Bool.eq_false_iff.mpr (fun h => hp (hpend.mp h))), fun hp => hheld (hpend.mpr hp), fun hp => hexposed (hpend.mpr hp)⟩
  · intro before after f i r hhold hl hact ht hturn hb
    rw [exec_stopeDeliver_nothing hk hr hg, State.portIdle_gets hhold hl hact ht hturn hb]
  · intro c d b hw hp hs hlin hlast hc hd
    obtain ⟨hexec, hwaits⟩ := stopeInject_ready (rel := rel) hk hr hg hw hp (.send c d b)
    rw [hexec, State.stopeAsk_send (hwaits.trans (State.stopeLimited_send hlin)) ((State.reg_setReg_field (by decide)).trans hs) hlast hc hd]
  · intro r q o hro hw hp
    obtain ⟨hexec, hwaits⟩ := stopeInject_ready (rel := rel) hk hr hg hw hp r
    rw [State.stopeLimited_bare hro] at hwaits
    refine ⟨fun hlt => ?_, fun hge => ?_⟩
    · rw [hexec, State.stopeAsk_bare hro (hwaits.trans (decide_eq_false (Nat.not_le.mpr hlt)))]
      rfl
    · rw [hexec, State.stopeAsk_waits (hwaits.trans (decide_eq_true hge))]
  · exact fun c k => ⟨fun h => CellCfg.outW_whole h k, fun h => CellCfg.outW_split h k, c.outH_eq k⟩
  · exact fun forceTo enable data now => ⟨flopAfter_force .., flopAfter_enable .., flopAfter_keep ..⟩
  · exact fun m t p => ⟨s.sig_pair n k m t p, s.sig_quad n k m t p, fun _ h => State.sig_h_of_joiner (TileCfg.joiner_pair h t) m,
      fun _ h => State.sig_h_of_joiner (TileCfg.joiner_quad h t) m⟩
  · exact fun m t h => State.carryOut_south h m
  · exact fun t c b ht hc => s.clockStopes_flop n k b ht hc
  · intro hp hr hw ha hs
    rw [State.pacerEdge_of_stopped hp hr hw ha hs]
    exact ⟨State.stope_updStope_same _ n k _, State.getF_addF_same s _ _ _ _⟩
  · intro c m x ra rb ka kb hwf
    obtain ⟨hrows, hcells⟩ := blkCycle_spec c m x ra rb ka kb hwf
    refine ⟨fun row i _ _ => hrows row i, blkCycle_coll c m x ra rb ka kb, hcells, fun q hq => ?_, fun q hq => ?_⟩
    · subst hq
      exact readOut_some m x false q c _ ka
    · subst hq
      exact readOut_some m x true q c _ kb

end Sys2Proof.Machine
end

section
/-! SUPPORT. The clocks of the machine (R115, R118, R136), and that what a µs brings to the shafts' work leaves them alone: one equation per operation. -/

namespace Sys2Proof.Machine

/-- What a tick moves on, with the queue of commands: uptime, fabric time with its fraction and the offset still to be slewed, and the tally clocks. -/
structure Times where
  pending : List Instr
  up : Nat
  fab : BitVec 64
  frac : BitVec 16
  slew : Int
  clocks : Oct (BitVec 32)

def State.times (s : State) : Times := ⟨s.pending, s.up, s.fab, s.frac, s.slew, s.shafts.mapAll (fun _ h => h.clock)⟩

theorem Oct.get_mapAll {α β : Type} (f : Fin 8 → α → β) (o : Oct α) (i : Fin 8) : (o.mapAll f).get i = f i (o.get i) := by
  fin_cases i <;> rfl

/-- A map to which a change of one of the eight is nothing. -/
theorem Oct.mapAll_upd {α β : Type} (g : α → β) (o : Oct α) (i : Fin 8) (f : α → α) (h : ∀ a, g (f a) = g a) :
    (o.upd i f).mapAll (fun _ => g) = o.mapAll (fun _ => g) := by
  fin_cases i <;> simp [Oct.mapAll, Oct.upd, Oct.set, Oct.get, h]

section
variable (s : State) (n : Shaft)

/-! ### The state's own operations -/

@[simp] theorem State.setF_times (f : Fld) (sc e v : Nat) : (s.setF f sc e v).times = s.times := rfl
@[simp] theorem State.setReg_times (f : Fld) (v e : Nat) : (s.setReg n f v e).times = s.times := rfl
@[simp] theorem State.setDev_times (f : Fld) (v e : Nat) : (s.setDev f v e).times = s.times := rfl
@[simp] theorem State.addReg_times (f : Fld) (e k : Nat) : (s.addReg n f e k).times = s.times := rfl
@[simp] theorem State.addDev_times (f : Fld) (e k : Nat) : (s.addDev f e k).times = s.times := rfl
@[simp] theorem State.free_times : s.free.2.times = s.times := rfl
@[simp] theorem State.tapNow_times : s.tapNow.2.times = s.times := rfl

@[simp] theorem State.updSh_times {F : ShaftSt → ShaftSt} (h : ∀ x, (F x).clock = x.clock) : (s.updSh n F).times = s.times :=
  congrArg (Times.mk s.pending s.up s.fab s.frac s.slew) (Oct.mapAll_upd ShaftSt.clock s.shafts n F h)

@[simp] theorem State.updTally_times (t : Nat) (f : Tally → Tally) : (s.updTally n t f).times = s.times := s.updSh_times n (fun _ => rfl)
@[simp] theorem State.updStope_times (k : Nat) (f : Stope → Stope) : (s.updStope n k f).times = s.times := s.updSh_times n (fun _ => rfl)
@[simp] theorem State.updThread_times (h k : Nat) (f : Thread → Thread) : (s.updThread n h k f).times = s.times := s.updSh_times n (fun _ => rfl)
@[simp] theorem State.updPtl_times (p : Portal) (f : PortalSt → PortalSt) : (s.updPtl n p f).times = s.times := s.updSh_times n (fun _ => rfl)
@[simp] theorem State.setQueue_times (q : Nat) (d : QDesc) : (s.setQueue n q d).times = s.times := s.updSh_times n (fun _ => rfl)
@[simp] theorem State.setSlot_times (i : Nat) (t : Tub) : (s.setSlot n i t).times = s.times := s.updSh_times n (fun _ => rfl)

@[simp] theorem State.event_times (c : BitVec 16) (v : BitVec 8) (src unit : Nat) (d : BitVec 96) : (s.event c v src unit d).times = s.times := by
  unfold State.event
  split <;> rfl

@[simp] theorem State.shEvent_times (c : BitVec 16) (v : BitVec 8) (unit : Nat) (d : BitVec 96) : (s.shEvent n c v unit d).times = s.times :=
  s.event_times c v n.val unit d

@[simp] theorem State.limEvent_times (c : BitVec 16) (v : BitVec 8) (unit : Nat) (d : Nat → BitVec 96) (key k : Nat) :
    (s.limEvent n c v unit d key k).times = s.times := by
  simp only [State.limEvent]
  split_ifs <;> simp

/-- A fold leaves the clocks alone when each of its steps does. -/
@[simp] theorem foldl_times {α : Type} {f : State → α → State} (h : ∀ a x, (f a x).times = a.times) (l : List α) (s : State) :
    (l.foldl f s).times = s.times :=
  foldl_keeps (fun a : State => a.times = s.times) f (fun a x ha => (h a x).trans ha) l s rfl

@[simp] theorem State.eachPortal_times {f : Portal → State → State} (h : ∀ p a, (f p a).times = a.times) : (s.eachPortal f).times = s.times :=
  foldl_times (fun a p => h p a) _ s

@[simp] theorem State.eachShaft_times {f : Shaft → State → State} (h : ∀ m a, (f m a).times = a.times) : (s.eachShaft f).times = s.times :=
  foldl_times (fun a m => h m a) _ s

/-! ### A stope's port and a pacer edge (R101 to R103) -/

@[simp] theorem State.inject_times (t : Tub) (src : Pos) (d : BitVec 8) (act : Arrive) (k : Option Nat) (p : Option Portal) :
    (s.inject n t src d act k p).times = s.times := by
  unfold State.inject
  split <;> simp

@[simp] theorem State.enterTransit_times (t : Tub) : (s.enterTransit n t).times = s.times := by
  simp only [State.enterTransit, State.raiseTransit]
  split
  · split <;> simp
  · rfl

@[simp] theorem State.stopeQueueOp_times (k q : Nat) (o : StopeQop) : (s.stopeQueueOp n k q o).times = s.times := by
  simp [State.stopeQueueOp]

@[simp] theorem State.stopeTub_times (k : Nat) (t : Tub) (target : BitVec 8 ⊕ Nat) : (s.stopeTub n k t target).times = s.times := by
  unfold State.stopeTub
  split
  · simp
  · cases target with
    | inl d => dsimp only; split <;> simp
    | inr q => simp

@[simp] theorem State.stopeAsk_times (k : Nat) (r : StopeReq) : (s.stopeAsk n k r).times = s.times := by
  unfold State.stopeAsk
  split
  · simp
  · cases r <;> simp

@[simp] theorem State.stopeRetry_times (k : Nat) : (s.stopeRetry n k).times = s.times := by
  unfold State.stopeRetry
  split <;> simp

@[simp] theorem State.memoryCycle_times (k base j : Nat) : (s.memoryCycle n k base j).times = s.times := by
  simp only [State.memoryCycle]
  split <;> simp

@[simp] theorem State.memoryCycles_times (k : Nat) : (s.memoryCycles n k).times = s.times :=
  foldl_times (fun a j => a.memoryCycle_times n k s.freeCtr j) _ _

@[simp] theorem State.driveOuts_times (k : Nat) : (s.driveOuts n k).times = s.times := s.updStope_times n k _

@[simp] theorem State.clockStopes_times (ks : List Nat) : (s.clockStopes n ks).times = s.times := by
  simp [State.clockStopes]

@[simp] theorem State.pacerPeriod_times (k : Nat) : (s.pacerPeriod n k).2.times = s.times := by
  unfold State.pacerPeriod
  extract_lets r at_
  have hr : r.2.times = s.times := s.tapNow_times
  split_ifs with hlock hm
  · exact hr
  · exact (State.addReg_times ..).trans hr
  · exact hr

@[simp] theorem State.portHandshake_times (k period : Nat) : (s.portHandshake n k period).2.times = s.times := by
  simp only [State.portHandshake]
  split <;> simp

@[simp] theorem State.pacerEdge_times (k : Nat) : (s.pacerEdge n k).times = s.times := by
  simp only [State.pacerEdge]
  split
  · simp
  · rw [State.updStope_times]
    split_ifs <;> simp

@[simp] theorem State.endStretch_times (k : Nat) : (s.endStretch n k).times = s.times := by
  simp only [State.endStretch]
  split <;> simp

@[simp] theorem State.nextEdge_times (until_ : Nat) : (s.nextEdge n until_).2.times = s.times := by
  simp only [State.nextEdge]
  split <;> simp

@[simp] theorem State.edgesUntil_times (until_ fuel : Nat) : (s.edgesUntil n until_ fuel).times = s.times := by
  induction fuel generalizing s with
  | zero => rfl
  | succ fuel ih =>
    have hnext := s.nextEdge_times n until_
    rw [State.edgesUntil]
    split
    · next heq => rw [heq] at hnext; exact hnext
    · next heq => rw [heq] at hnext; rw [ih, State.pacerEdge_times]; exact hnext

@[simp] theorem State.edgesOfUs_times : (s.edgesOfUs n).times = s.times := by
  simp [State.edgesOfUs]

/-! ### The commands that end with a µs (R154, R250, R264) -/

@[simp] theorem State.clmLoad_times (c : Nat) : (s.clmLoad n c).1.times = s.times := by
  simp only [State.clmLoad]
  split <;> simp

@[simp] theorem State.clmMap_times (c g : Nat) : (s.clmMap n c g).1.times = s.times := by
  simp only [State.clmMap, State.joinGranule]
  split
  · rfl
  · split <;> simp

@[simp] theorem State.clmUnmap_times (g : Nat) : (s.clmUnmap n g).1.times = s.times := by
  simp only [State.clmUnmap]
  split
  · rfl
  · split <;> simp

@[simp] theorem State.clmEnd_times : (s.clmEnd n).times = s.times := by
  unfold State.clmEnd
  split
  · rfl
  · simp only [State.updSh_times, State.setReg_times, implies_true]
    split <;> simp

end
end Sys2Proof.Machine
end

section
/-! SUPPORT. The clocks of the machine and the queue manager, the portals and the image controller, whose work leaves them alone. -/

namespace Sys2Proof.Machine

section
variable (s : State) (n : Shaft) (q : Nat)

/-! ### The slots of the queue manager (R251) -/

@[simp] theorem State.fcPins_times : (s.fcPins n).times = s.times := rfl

@[simp] theorem State.pushOp_times (t : Tub) (by_ : Producer) : (s.pushOp n q t by_).times = s.times := s.updSh_times n (fun _ => rfl)

@[simp] theorem State.ringSend_times (d : QDesc) (i : Nat) (data : Option Tub) : (s.ringSend n d i data).times = s.times := by
  cases data <;> simp [State.ringSend]

@[simp] theorem State.ringWrite_times (d : QDesc) (i : Nat) (t : Tub) : (s.ringWrite n q d i t).times = s.times := by
  unfold State.ringWrite
  split <;> simp

@[simp] theorem State.putQueue_times (w : QWrite) : (s.putQueue n q w).times = s.times := by
  simp only [State.putQueue]
  split <;> simp

@[simp] theorem State.finishQueue_times : (s.finishQueue n q).times = s.times := by
  unfold State.finishQueue
  split <;> simp

@[simp] theorem State.invalidQ_times : (s.invalidQ n).times = s.times := rfl

@[simp] theorem State.applyPush_times (t : Tub) (canWait : Bool) : (s.applyPush n q t canWait).1.times = s.times := by
  simp only [State.applyPush]
  split
  · rfl
  · split
    · rfl
    · rfl
    · simp
    · dsimp only
      split_ifs <;> simp

@[simp] theorem State.applyPop_times (quiet : Bool) : (s.applyPop n q quiet).1.times = s.times := by
  simp only [State.applyPop]
  split_ifs
  · rfl
  all_goals split <;> simp

@[simp] theorem State.applyMark_times (set : Bool) : (s.applyMark n q set).1.times = s.times := by
  simp only [State.applyMark]
  split <;> simp

@[simp] theorem State.applyRewind_times : (s.applyRewind n q).1.times = s.times := by
  simp only [State.applyRewind]
  split
  · rfl
  · split <;> simp

@[simp] theorem State.ringRead_times (i : Nat) (by_ : Producer) (u : Bool) : (s.ringRead n q i by_ u).times = s.times := by
  simp only [State.ringRead]
  split <;> simp

@[simp] theorem State.stopeResult_times (k i : Nat) (r : QResult) : (s.stopeResult n k i r).times = s.times := s.updSh_times n (fun _ => rfl)

@[simp] theorem State.hostEnds_times (r : Nat) : (s.hostEnds n r).times = s.times := rfl

@[simp] theorem State.addPushWait_times (w : PushWait) : (s.addPushWait n w).times = s.times := s.updSh_times n (fun _ => rfl)

@[simp] theorem State.leaveTransit_times (t : Tub) : (s.leaveTransit n t).times = s.times := by
  simp only [State.leaveTransit]
  split <;> simp

@[simp] theorem State.deliverPop_times (by_ : Producer) (t : Tub) (u v : Bool) : (s.deliverPop n by_ t u v).times = s.times := by
  cases by_ with
  | hewer h k => simp [State.deliverPop]
  | stope k i => simp [State.deliverPop]
  | host =>
    unfold State.deliverPop
    rw [State.hostEnds_times, State.setReg_times, foldl_times (fun a i => a.setReg_times n _ _ i)]
  | egress p => simp only [State.deliverPop]; split <;> simp
  | intake p => simp only [State.deliverPop]; split <;> simp
  | portal p => rfl
  | gone => rfl

@[simp] theorem State.handPop_times (by_ : Producer) (r : Popped) : (s.handPop n q by_ r).times = s.times := by
  cases r <;> simp [State.handPop]

@[simp] theorem State.deliverPush_times (t : Tub) (by_ : Producer) (o : PushOut) (sets : Bool) :
    (s.deliverPush n q t by_ o sets).times = s.times := by
  unfold State.deliverPush
  split
  · simp
  · simp
  · simp
  · split <;> simp
  · rfl

theorem State.takeOp_times {p : StopeQop → Bool} {o : QOp} {s1 : State} (h : s.takeOp n q p = some (o, s1)) : s1.times = s.times := by
  unfold State.takeOp at h
  split at h
  · exact absurd h (by simp)
  · obtain ⟨-, rfl⟩ := Prod.mk.inj (Option.some.inj h)
    simp

@[simp] theorem State.slotRewind_times : (s.slotRewind n q).times = s.times := by
  unfold State.slotRewind
  split
  · rfl
  · next h =>
    dsimp only
    split <;> simp [s.takeOp_times n q h]

@[simp] theorem State.slotMark_times : (s.slotMark n q).times = s.times := by
  unfold State.slotMark
  split
  · rfl
  · next h =>
    dsimp only
    split <;> simp [s.takeOp_times n q h]

@[simp] theorem State.slotPop_times : (s.slotPop n q).times = s.times := by
  unfold State.slotPop
  split
  · rfl
  · next h => simp [s.takeOp_times n q h]

@[simp] theorem State.slotPush_times : (s.slotPush n q).times = s.times := by
  unfold State.slotPush
  split
  · rfl
  · next h =>
    split
    · dsimp only
      split <;> simp [s.takeOp_times n q h]
    · exact s.takeOp_times n q h

@[simp] theorem State.slotCommand_times : (s.slotCommand n q).times = s.times := by
  unfold State.slotCommand
  split
  · rfl
  · split <;> simp

@[simp] theorem State.slotEnd_times : (s.slotEnd n q).times = s.times := by
  simp [State.slotEnd]

@[simp] theorem State.oneSlot_times : (s.oneSlot n q).times = s.times := by
  simp [State.oneSlot]

@[simp] theorem State.queueBounds_times : (s.queueBounds n).times = s.times := by
  simp only [State.queueBounds]
  split
  · rw [foldl_times]
    · split <;> simp
    · intro a o
      split <;> simp
  · rfl

/-! ### A portal that retrains (R341) and the timing of its shaft (R111) -/

variable (p : Portal)

@[simp] theorem State.setTiming_times (new : Nat) (lane : Option Nat) : (s.setTiming n new lane).times = s.times := by
  simp [State.setTiming]

@[simp] theorem State.tryLoop_times : (s.tryLoop n).times = s.times := by
  unfold State.tryLoop
  split
  · split <;> simp
  · rfl

@[simp] theorem State.enterHoldover_times : (s.enterHoldover n).times = s.times := by
  simp [State.enterHoldover]

@[simp] theorem State.unqualify_times (l : Nat) : (s.unqualify n l).times = s.times := by
  simp only [State.unqualify]
  split
  · split <;> simp
  · rfl

@[simp] theorem State.laneIdle_times (l : Nat) : (s.laneIdle n l).times = s.times := by
  simp [State.laneIdle]

@[simp] theorem State.setPst_times (v : Nat) : (s.setPst n p v).times = s.times := rfl

@[simp] theorem State.takeDown_times (st cause : Nat) : (s.takeDown n p st cause).times = s.times := by
  simp only [State.takeDown]
  split <;> simp

@[simp] theorem State.enterDetect_times : (s.enterDetect n p).times = s.times := by
  simp [State.enterDetect]

@[simp] theorem State.linkReset_times (d : Machine.Deferred) : (s.linkReset n p d).1.times = s.times := by
  simp only [State.linkReset]
  split
  · simp
  · dsimp only
    split <;> simp

@[simp] theorem State.retrain_times : (s.retrain n p).times = s.times := by
  simp only [State.retrain]
  split <;> simp

@[simp] theorem State.wakesOver_times : (s.wakesOver n).times = s.times :=
  s.eachPortal_times (fun p a => by split <;> simp)

/-! ### What a µs brings -/

@[simp] theorem State.readbackUs_times : (s.readbackUs n).times = s.times := by
  unfold State.readbackUs
  split <;> simp

@[simp] theorem State.shaftUs_times : (s.shaftUs n).times = s.times := by
  simp [State.shaftUs]

@[simp] theorem State.setFlash_times (f : List Host.Cell) : State.times { s with flash := f } = s.times := rfl

@[simp] theorem State.settingAppend_times (r : List Byte) : (s.settingAppend r).times = s.times := by
  simp only [State.settingAppend]
  split <;> simp

@[simp] theorem State.settingClear_times : s.settingClear.times = s.times := by
  simp [State.settingClear]

@[simp] theorem State.imgUs_times : s.imgUs.times = s.times := by
  have hbusy : (if s.devB .IMG_CMD_STAT_BUSY then s.setDev .IMG_CMD_STAT_BUSY 0 else s).times = s.times := by
    split <;> rfl
  simp only [State.imgUs]
  split
  · exact hbusy
  · split
    · exact (State.settingAppend_times _ _).trans hbusy
    · exact (State.settingClear_times _).trans hbusy

/-- A tick moves the clocks on as `State.clocks` says, and what the µs brings to the shafts and to the image controller adds nothing. -/
theorem State.tick_times : s.tick.times = s.clocks.times := by
  unfold State.tick
  split
  · rfl
  · rw [State.imgUs_times, State.eachShaft_times _ (fun m a => a.shaftUs_times m)]

end
end Sys2Proof.Machine
end

section
/-! PROOF. O57: a step runs the command at the front of the queue, and a tick when none waits. -/

namespace Sys2Proof.Machine

/-! ### The clocks in one µs (R115, R118, R136) -/

theorem State.clocks_sh (s : State) (hpor : s.por = false) (n : Shaft) : s.clocks.sh n = { s.sh n with clock := (s.sh n).clock + 1 } := by
  simp only [State.sh, State.clocks, hpor, Bool.false_eq_true, if_false]
  exact Oct.get_mapAll _ _ n

theorem State.clocks_shafts_of_por (s : State) (hpor : s.por = true) : s.clocks.shafts = s.shafts := by
  simp [State.clocks, hpor]

theorem State.tick_sh_clock (s : State) (n : Shaft) : (s.tick.sh n).clock = (s.clocks.sh n).clock := by
  have h := congrArg (fun x => x.clocks.get n) s.tick_times
  simpa only [State.times, Oct.get_mapAll, State.sh] using h

/-- R118: with no offset outstanding, a µs is 1,000 ns. -/
theorem State.clocks_of_slew_zero (s : State) (h : s.slew = 0) : s.clocks.fab = s.fab + 1000 ∧ s.clocks.slew = 0 ∧ s.clocks.frac = s.frac := by
  simp [State.clocks, slewPart, h]

theorem slewPart_of_pos {slew : Int} (frac : BitVec 16) (h : 0 < slew) :
    slewPart slew frac = if frac.toNat < 32768 then (0, BitVec.ofNat 16 (frac.toNat + 32768), slew)
      else (1, BitVec.ofNat 16 (frac.toNat - 32768), slew - 1) := by
  simp only [slewPart, h, if_true]
  by_cases hf : frac.toNat < 32768
  · rw [if_pos (by omega), if_pos hf]
  · rw [if_neg (by omega), if_neg hf, show frac.toNat + 32768 - 65536 = frac.toNat - 32768 by omega]

theorem slewPart_of_neg {slew : Int} (frac : BitVec 16) (h : slew < 0) :
    slewPart slew frac = if 32768 ≤ frac.toNat then (0, BitVec.ofNat 16 (frac.toNat - 32768), slew)
      else (-1, BitVec.ofNat 16 (frac.toNat + 32768), slew + 1) := by
  simp only [slewPart, Int.not_lt.mpr h.le, h, if_false, if_true]

/-- R118: an offset ahead takes half a nanosecond more, which shows in fabric time in every second µs. -/
theorem State.clocks_of_slew_pos (s : State) (h : 0 < s.slew) :
    (s.frac.toNat < 32768 → s.clocks.fab = s.fab + 1000 ∧ s.clocks.slew = s.slew ∧ s.clocks.frac.toNat = s.frac.toNat + 32768) ∧
    (32768 ≤ s.frac.toNat → s.clocks.fab = s.fab + 1001 ∧ s.clocks.slew = s.slew - 1 ∧ s.clocks.frac.toNat + 32768 = s.frac.toNat) := by
  have hlt := s.frac.isLt
  refine ⟨fun hf => ?_, fun hf => ?_⟩
  · simp only [State.clocks, slewPart_of_pos _ h, hf, if_true]
    refine ⟨by simp, trivial, ?_⟩
    rw [BitVec.toNat_ofNat]
    omega
  · simp only [State.clocks, slewPart_of_pos _ h, Nat.not_lt.mpr hf, if_false]
    refine ⟨BitVec.add_assoc .., trivial, ?_⟩
    rw [BitVec.toNat_ofNat]
    omega

/-- R118: an offset behind takes half a nanosecond less, which shows in fabric time in every second µs. -/
theorem State.clocks_of_slew_neg (s : State) (h : s.slew < 0) :
    (32768 ≤ s.frac.toNat → s.clocks.fab = s.fab + 1000 ∧ s.clocks.slew = s.slew ∧ s.clocks.frac.toNat + 32768 = s.frac.toNat) ∧
    (s.frac.toNat < 32768 → s.clocks.fab = s.fab + 999 ∧ s.clocks.slew = s.slew + 1 ∧ s.clocks.frac.toNat = s.frac.toNat + 32768) := by
  have hlt := s.frac.isLt
  refine ⟨fun hf => ?_, fun hf => ?_⟩
  · simp only [State.clocks, slewPart_of_neg _ h, hf, if_true]
    refine ⟨by simp, trivial, ?_⟩
    rw [BitVec.toNat_ofNat]
    omega
  · simp only [State.clocks, slewPart_of_neg _ h, Nat.not_le.mpr hf, if_false]
    refine ⟨BitVec.add_assoc .., trivial, ?_⟩
    rw [BitVec.toNat_ofNat]
    omega

/-! ### A shaft that a µs brings nothing -/

/-- No pacer of the shaft runs, and no command, readback or wake of it is under way. -/
def State.Quiet (s : State) (n : Shaft) : Prop :=
  s.pacersRunning n = [] ∧ (s.sh n).claimCmd = none ∧ (s.sh n).queueCmd = none ∧ (∀ o ∈ (s.sh n).qops, o.by_ ≠ .host) ∧
    s.reg n .CTX_RB_STAT_BUSY = 0 ∧ ∀ p : Portal, (s.ptl n p).wakeAt = none

variable {s : State} {n : Shaft}

theorem State.edgesUntil_of_none (h : s.pacersRunning n = []) (until_ fuel : Nat) : s.edgesUntil n until_ fuel = s := by
  cases fuel <;> simp [State.edgesUntil, State.nextEdge, h]

theorem State.edgesOfUs_of_none (h : s.pacersRunning n = []) : s.edgesOfUs n = s := by
  simp [State.edgesOfUs, h, State.edgesUntil_of_none h]

theorem State.clmEnd_of_none (h : (s.sh n).claimCmd = none) : s.clmEnd n = s := by
  simp [State.clmEnd, h]

theorem State.queueBounds_of_none (hcmd : (s.sh n).queueCmd = none) (hops : ∀ o ∈ (s.sh n).qops, o.by_ ≠ .host) : s.queueBounds n = s := by
  have hfind : (s.sh n).qops.find? (fun o => decide (o.by_ = .host)) = none := List.find?_eq_none.mpr (by simpa using hops)
  simp only [State.queueBounds, hcmd]
  split
  · exact foldl_keeps (fun a => a = s) _ (by rintro a o rfl; rw [hfind]) _ s rfl
  · rfl

theorem State.wakesOver_of_none (h : ∀ p : Portal, (s.ptl n p).wakeAt = none) : s.wakesOver n = s :=
  foldl_keeps (fun a => a = s) _ (by rintro a p rfl; simp [h]) _ s rfl

theorem State.readbackUs_of_zero (h : s.reg n .CTX_RB_STAT_BUSY = 0) : s.readbackUs n = s := by
  simp [State.readbackUs, State.regB_eq_false.mpr h]

theorem State.shaftUs_of_quiet (h : s.Quiet n) : s.shaftUs n = s := by
  obtain ⟨hpacers, hclaim, hqueue, hops, hrb, hwakes⟩ := h
  rw [State.shaftUs, State.edgesOfUs_of_none hpacers, State.clmEnd_of_none hclaim, State.queueBounds_of_none hqueue hops,
    State.wakesOver_of_none hwakes, State.readbackUs_of_zero hrb]

theorem State.imgUs_of_idle (hbusy : s.dev .IMG_CMD_STAT_BUSY = 0) (hjob : s.setJob = none) : s.imgUs = s := by
  simp [State.imgUs, State.devB_eq_false.mpr hbusy, hjob]

/-- The tally clock of a shaft says nothing of its pacers. -/
theorem State.pacersRunning_clocks (hpor : s.por = false) : s.clocks.pacersRunning n = s.pacersRunning n := by
  simp only [State.pacersRunning, State.clocked, State.stopeRuns, State.stope, State.pacerRuns, State.seamsOut, s.clocks_sh hpor]
  rfl

theorem State.Quiet.clocks (hpor : s.por = false) (h : s.Quiet n) : s.clocks.Quiet n := by
  obtain ⟨hpacers, hrest⟩ := h
  refine ⟨(State.pacersRunning_clocks hpor).trans hpacers, ?_⟩
  simp only [State.ptl, s.clocks_sh hpor]
  exact hrest

/-- With every shaft quiet and the image controller idle, a tick moves the clocks and nothing else. -/
theorem State.tick_of_quiet (hbusy : s.dev .IMG_CMD_STAT_BUSY = 0) (hjob : s.setJob = none) (hpor : s.por = false)
    (hquiet : ∀ n : Shaft, s.Quiet n) : s.tick = s.clocks := by
  have hshafts : s.clocks.eachShaft (fun n a => a.shaftUs n) = s.clocks :=
    foldl_keeps (fun a => a = s.clocks) _ (by rintro a m rfl; exact State.shaftUs_of_quiet ((hquiet m).clocks hpor)) _ s.clocks rfl
  rw [State.tick, if_neg (by simp [hpor]), hshafts]
  exact State.imgUs_of_idle hbusy hjob

/-- In POR a tick moves the clocks alone. -/
theorem State.tick_of_por (hpor : s.por = true) : s.tick = s.clocks := by
  simp [State.tick, hpor]

/-- Settles O57: a tick takes its clocks from `State.clocks` (`State.tick_times`), and is `State.clocks` in POR and when nothing is under way. -/
theorem stepRunsFrontCommand : Obligations.StepRunsFrontCommand := by
  refine ⟨fun s c rest hp => by rw [step, hp], fun s hp => ⟨s.tick, by rw [step, hp], ?_⟩⟩
  have hfab : s.tick.fab = s.clocks.fab := congrArg Times.fab s.tick_times
  have hslew : s.tick.slew = s.clocks.slew := congrArg Times.slew s.tick_times
  have hfrac : s.tick.frac = s.clocks.frac := congrArg Times.frac s.tick_times
  rw [hfab, hslew, hfrac]
  refine ⟨congrArg Times.up s.tick_times, (congrArg Times.pending s.tick_times).trans hp, fun n => ?_, fun hpor => ?_, ?_,
    s.clocks_of_slew_zero, s.clocks_of_slew_pos, s.clocks_of_slew_neg⟩
  · rw [s.tick_sh_clock]
    cases hpor : s.por with
    | true => rw [State.sh, s.clocks_shafts_of_por hpor]; rfl
    | false => rw [s.clocks_sh hpor]; rfl
  · rw [State.tick_of_por hpor]
    exact ⟨rfl, rfl, rfl, s.clocks_shafts_of_por hpor⟩
  · intro hpor hbusy hjob hquiet
    rw [State.tick_of_quiet hbusy hjob hpor hquiet]
    exact ⟨rfl, rfl, rfl, s.clocks_sh hpor⟩

end Sys2Proof.Machine
end

section
/-! SUPPORT. A shaft after the state's own operations, as one record, and the register fields, which those on a shaft leave alone: what a tally, a portal
or a line shows afterwards is read off the record. -/

namespace Sys2Proof.Machine

section
variable (s : State) (n m : Shaft)

/-! ### The shaft -/

theorem State.sh_setReg (f : Fld) (v e : Nat) : (s.setReg m f v e).sh n = s.sh n := rfl
theorem State.sh_addReg (f : Fld) (e k : Nat) : (s.addReg m f e k).sh n = s.sh n := rfl

theorem State.sh_shEvent (c : BitVec 16) (v : BitVec 8) (unit : Nat) (d : BitVec 96) : (s.shEvent m c v unit d).sh n = s.sh n :=
  s.sh_event c v m.val unit d n

theorem State.sh_updTally (t : Nat) (f : Tally → Tally) :
    (s.updTally n t f).sh n = { s.sh n with tallies := Tbl.upd Tally.zero (s.sh n).tallies t f } := s.sh_updSh_same n _

theorem State.sh_updThread (h k : Nat) (f : Thread → Thread) :
    (s.updThread n h k f).sh n = { s.sh n with threads := Tbl.upd Thread.idle (s.sh n).threads (16 * h + k) f } := s.sh_updSh_same n _

theorem State.sh_updPtl (p : Portal) (f : PortalSt → PortalSt) :
    (s.updPtl n p f).sh n = { s.sh n with portals := (s.sh n).portals.upd p f } := s.sh_updSh_same n _

theorem State.sh_setSlot (i : Nat) (t : Tub) : (s.setSlot n i t).sh n = { s.sh n with slots := Tbl.set Tub.zero (s.sh n).slots i t } :=
  s.sh_updSh_same n _

theorem State.sh_setLock (l : Nat) (r : Option LockRec) : (s.setLock n l r).sh n = { s.sh n with locks := Tbl.set none (s.sh n).locks l r } :=
  s.sh_updSh_same n _

theorem State.sh_setEnt (set w : Nat) (e : DirEnt) :
    (s.setEnt n set w e).sh n = { s.sh n with dir := Tbl.set DirEnt.zero (s.sh n).dir (14 * set + w) e } := s.sh_updSh_same n _

theorem State.sh_putSetQ (set : Nat) (l : List Nat) :
    (s.putSetQ n set l).sh n = { s.sh n with setWait := Tbl.set [] (s.sh n).setWait set l } := s.sh_updSh_same n _

theorem State.sh_lane (p : Portal) (t : Tub) :
    (s.lane n p t).sh n = { s.sh n with portals := (s.sh n).portals.upd p (fun x => { x with lane := x.lane ++ [t] }) } := s.sh_updPtl n p _

theorem State.sh_sendWork (w : Work) : (s.sendWork n w).sh n = { s.sh n with dispatchQ := (s.sh n).dispatchQ ++ [w] } := by
  simp only [State.sendWork, State.sh_updSh_same]
  split <;> rfl

/-- A limited event leaves its own record in the shaft and nothing else. -/
theorem State.limEvent_keeps {α : Type} (proj : ShaftSt → α) (h : ∀ x l, proj { x with limits := l } = proj x) (c : BitVec 16) (v : BitVec 8)
    (unit : Nat) (d : Nat → BitVec 96) (key k : Nat) : proj ((s.limEvent n c v unit d key k).sh n) = proj (s.sh n) := by
  simp only [State.limEvent]
  split_ifs <;> simp [State.sh_shEvent, h]

/-! ### Register fields -/

variable {f g : Fld} {e e' : Nat}

theorem State.reg_addReg_same (f : Fld) (e k : Nat) : (s.addReg n f e k).reg n f e = min (s.reg n f e + k) (2 ^ f.desc.width - 1) :=
  s.getF_addF_same f n.val e k

theorem State.reg_addReg_field (k : Nat) (h : g ≠ f) : (s.addReg n f e k).reg m g e' = s.reg m g e' := s.getF_addF_field h

theorem State.reg_of_regs {s t : State} (h : t.regs = s.regs) (g : Fld) (e : Nat) : t.reg m g e = s.reg m g e := by
  simp only [State.reg, State.getF, h]

theorem State.regs_updSh (f : ShaftSt → ShaftSt) : (s.updSh n f).regs = s.regs := rfl

theorem State.reg_updTally (t : Nat) (f : Tally → Tally) (g : Fld) (e : Nat) : (s.updTally n t f).reg m g e = s.reg m g e := rfl
theorem State.reg_updPtl (p : Portal) (f : PortalSt → PortalSt) (g : Fld) (e : Nat) : (s.updPtl n p f).reg m g e = s.reg m g e := rfl
theorem State.reg_setLock (l : Nat) (r : Option LockRec) (g : Fld) (e : Nat) : (s.setLock n l r).reg m g e = s.reg m g e := rfl
theorem State.reg_setEnt (set w : Nat) (x : DirEnt) (g : Fld) (e : Nat) : (s.setEnt n set w x).reg m g e = s.reg m g e := rfl
theorem State.reg_lane (p : Portal) (t : Tub) (g : Fld) (e : Nat) : (s.lane n p t).reg m g e = s.reg m g e := rfl

theorem State.reg_shEvent (c : BitVec 16) (v : BitVec 8) (unit : Nat) (d : BitVec 96) (h : g ≠ .EVL_STAT_DROPPED) :
    (s.shEvent n c v unit d).reg m g e = s.reg m g e := State.reg_event c v n.val unit d h

theorem State.reg_limEvent (c : BitVec 16) (v : BitVec 8) (unit : Nat) (d : Nat → BitVec 96) (key k : Nat) (h : g ≠ .EVL_STAT_DROPPED) :
    (s.limEvent n c v unit d key k).reg m g e = s.reg m g e := s.limEvent_getF n c v unit d key k h m.val e

theorem State.reg_sendWork (w : Work) (h : g ≠ .HWR_STAT3_THREAD_WAIT) : (s.sendWork n w).reg m g e = s.reg m g e := by
  simp only [State.sendWork]
  split
  · exact s.reg_addReg_field n m 1 h
  · rfl

/-! ### Tallies -/

variable {t j : Nat}

theorem State.tally_of_sh {s a : State} {n : Shaft} (h : (a.sh n).tallies = (s.sh n).tallies) (t : Nat) : a.tally n t = s.tally n t := by
  rw [State.tally, h, ← State.tally]

theorem State.tally_addReg (f : Fld) (e k t : Nat) : (s.addReg m f e k).tally n t = s.tally n t := rfl

theorem State.tally_lane (p : Portal) (x : Tub) (t : Nat) : (s.lane n p x).tally n t = s.tally n t :=
  State.tally_of_sh (by rw [State.sh_lane]) t

theorem State.tally_sendWork (w : Work) (t : Nat) : (s.sendWork n w).tally n t = s.tally n t :=
  State.tally_of_sh (by rw [State.sh_sendWork]) t

theorem State.tally_setLock (l : Nat) (r : Option LockRec) (t : Nat) : (s.setLock n l r).tally n t = s.tally n t :=
  State.tally_of_sh (by rw [State.sh_setLock]) t

theorem State.tally_putSetQ (set : Nat) (l : List Nat) (t : Nat) : (s.putSetQ n set l).tally n t = s.tally n t :=
  State.tally_of_sh (by rw [State.sh_putSetQ]) t

theorem State.tally_updTally_other (f : Tally → Tally) (h : j ≠ t) : (s.updTally n t f).tally n j = s.tally n j := by
  simpa only [State.tally, State.sh_updTally] using Tbl.get_upd_other _ _ f h

end
end Sys2Proof.Machine
end

section
/-! SUPPORT. The end of a tally (R129, R138): its thread idled, its record as DONE and as expired, and what neither touches. -/

namespace Sys2Proof.Machine

section
variable (s : State) (n : Shaft) (t : Nat)

/-! ### The thread of a tally -/

theorem State.endThread_of_none {s : State} {n : Shaft} {t : Nat} (h : (s.tally n t).run = none) : s.endThread n t = s := by
  simp only [State.endThread, h]

/-- Ending the thread of a tally touches threads, that tally, and who waits for queue operations. -/
theorem State.endThread_keeps {α : Type} (proj : ShaftSt → α)
    (h : ∀ x th ys pw ro, proj { x with threads := th, tallies := ys, pushWaits := pw, ringOps := ro } = proj x) :
    proj ((s.endThread n t).sh n) = proj (s.sh n) := by
  unfold State.endThread
  split
  · rfl
  · simp only [State.sh_updSh_same, State.sh_updTally, State.sh_updThread]
    exact h _ _ _ _ _

theorem State.endThread_regs : (s.endThread n t).regs = s.regs := by
  unfold State.endThread
  split <;> rfl

theorem State.tally_endThread_same : (s.endThread n t).tally n t = { s.tally n t with run := none } := by
  unfold State.endThread
  split
  · next h => rw [← h]
  · simp only [State.tally, State.sh_updSh_same, State.sh_updTally, State.sh_updThread, Tbl.get_upd_same]

theorem State.tally_endThread_other {j : Nat} (h : j ≠ t) : (s.endThread n t).tally n j = s.tally n j := by
  unfold State.endThread
  split
  · rfl
  · simp only [State.tally, State.sh_updSh_same, State.sh_updTally, State.sh_updThread, Tbl.get_upd_other _ _ _ h]

theorem State.thread_endThread {h k : Nat} (hr : (s.tally n t).run = some (h, k)) : (s.endThread n t).thread n h k = Thread.idle := by
  simp only [State.endThread, hr, State.thread, State.sh_updSh_same, State.sh_updTally, State.sh_updThread, Tbl.get_upd_same]

/-! ### DONE -/

theorem State.tally_tallyDone_same : (s.tallyDone n t).tally n t =
    { s.tally n t with st := .done, waitFor := .nothing, park := { (s.tally n t).park with valid := false } } := by
  simp only [State.tallyDone, State.tally, State.sh_updSh_same, State.sh_updTally, Tbl.get_upd_same]

theorem State.tally_tallyDone_other {j : Nat} (h : j ≠ t) : (s.tallyDone n t).tally n j = s.tally n j := by
  simp only [State.tallyDone, State.tally, State.sh_updSh_same, State.sh_updTally, Tbl.get_upd_other _ _ _ h]

/-- A tally's going to DONE touches that tally and the dispatch queue. -/
theorem State.tallyDone_keeps {α : Type} (proj : ShaftSt → α) (h : ∀ x ys q, proj { x with tallies := ys, dispatchQ := q } = proj x) :
    proj ((s.tallyDone n t).sh n) = proj (s.sh n) := by
  simp only [State.tallyDone, State.sh_updSh_same, State.sh_updTally]
  exact h _ _ _

/-! ### Expiry (R138) -/

/-- R240: only a tally that speculates is aborted. -/
theorem State.specAbort_of_not_pending {s : State} {n : Shaft} {t : Nat} (h : (s.tally n t).spec ≠ .pending) : s.specAbort n t = s := by
  simp only [State.specAbort, if_pos h]

/-- The record of a tally that has expired at clock `c`. -/
def Tally.expireAt (y : Tally) (c : BitVec 32) : Tally :=
  { y with run := none, st := .done, waitFor := .nothing, park := { y.park with valid := false }, expired := true, expiredAt := c }

section
variable {s n t} (h : (s.tally n t).spec ≠ .pending)
include h

theorem State.tally_markExpired_same : (s.markExpired n t).tally n t = (s.tally n t).expireAt (s.sh n).clock := by
  simp only [State.markExpired]
  rw [State.tally_of_sh (State.limEvent_keeps _ n ShaftSt.tallies (fun _ _ => rfl) ..), State.tally_addReg, State.tally_updTally_same,
    State.tally_tallyDone_same, State.tally_endThread_same, State.specAbort_of_not_pending h]
  rfl

theorem State.tally_markExpired_other {j : Nat} (hj : j ≠ t) : (s.markExpired n t).tally n j = s.tally n j := by
  simp only [State.markExpired]
  rw [State.tally_of_sh (State.limEvent_keeps _ n ShaftSt.tallies (fun _ _ => rfl) ..), State.tally_addReg,
    State.tally_updTally_other _ _ _ hj, State.tally_tallyDone_other _ _ _ hj, State.tally_endThread_other _ _ _ hj,
    State.specAbort_of_not_pending h]

/-- The expiry of a tally that does not speculate touches no more than its end does, and the record of its event. -/
theorem State.markExpired_keeps {α : Type} (proj : ShaftSt → α) (hp : ∀ x th ys pw ro q l,
    proj { x with threads := th, tallies := ys, pushWaits := pw, ringOps := ro, dispatchQ := q, limits := l } = proj x) :
    proj ((s.markExpired n t).sh n) = proj (s.sh n) := by
  simp only [State.markExpired]
  rw [State.limEvent_keeps _ n proj (fun x l => hp x x.threads x.tallies x.pushWaits x.ringOps x.dispatchQ l), State.sh_addReg,
    State.sh_updTally]
  refine (hp _ _ _ _ _ _ _).trans ?_
  rw [State.tallyDone_keeps _ n t proj (fun x ys q => hp x x.threads ys x.pushWaits x.ringOps q x.limits),
    State.endThread_keeps _ n t proj (fun x th ys pw ro => hp x th ys pw ro x.dispatchQ x.limits), State.specAbort_of_not_pending h]

theorem State.thread_markExpired {a k : Nat} (hr : (s.tally n t).run = some (a, k)) : (s.markExpired n t).thread n a k = Thread.idle := by
  have hthreads : ((s.markExpired n t).sh n).threads = ((s.endThread n t).sh n).threads := by
    simp only [State.markExpired]
    rw [State.limEvent_keeps _ n ShaftSt.threads (fun _ _ => rfl), State.sh_addReg, State.sh_updTally]
    exact (State.tallyDone_keeps _ n t ShaftSt.threads (fun _ _ _ => rfl)).trans (by rw [State.specAbort_of_not_pending h])
  rw [State.thread, hthreads, ← State.thread, State.thread_endThread s n t hr]

theorem State.reg_markExpired : (s.markExpired n t).reg n .TLY_STAT_EXPIRED = min (s.reg n .TLY_STAT_EXPIRED + 1) 65535 := by
  simp only [State.markExpired]
  rw [State.reg_limEvent _ _ _ _ _ _ _ _ _ (by decide), State.reg_addReg_same, State.specAbort_of_not_pending h]
  refine congrArg (fun k => min (k + 1) 65535) ((State.reg_of_regs n ?_ _ _))
  exact s.endThread_regs n t

end

end
end Sys2Proof.Machine
end

section
/-! SUPPORT. The answers of tallies (R363, R364), and the expiry of a LINE tally (R138) with what it leaves. -/

namespace Sys2Proof.Machine

section
variable {s a : State} {n : Shaft} {t : Nat}

/-- R364: an answer is its template and its source tub. -/
theorem State.answerTub_of_formers (hf : (a.sh n).formers = (s.sh n).formers) (i : Nat) (src : BitVec 512) (wdog : Bool) :
    a.answerTub n i src wdog = s.answerTub n i src wdog := by
  simp only [State.answerTub, hf]

/-- The answer of a tally is made of its request and its GEN. -/
theorem State.tallyAnswer_congr (hf : (a.sh n).formers = (s.sh n).formers) (hr : (a.tally n t).request = (s.tally n t).request)
    (hg : (a.tally n t).gen = (s.tally n t).gen) (i : Nat) (wdog : Bool) : a.tallyAnswer n t i wdog = s.tallyAnswer n t i wdog := by
  simp only [State.tallyAnswer, State.answerTub_of_formers hf, hr, hg]

/-- R129: a tally whose answer has not gone does not become FREE. -/
theorem State.tryFree_of_answer_kept (hans : (s.tally n t).answers = true) (hgone : (s.tally n t).ans ≠ .gone) : s.tryFree n t = s := by
  simp [State.tryFree, State.mayFree, hans, hgone]

/-- After the expiry of a tally that waited for no way and is no recall, nothing is left to release. -/
theorem State.afterExpiry_of_line {y : Tally} (hway : y.waitFor ≠ .way) (hrec : y.recallRec = none) :
    s.afterExpiry n t y = s.tryFree n t := by
  simp only [State.afterExpiry, if_neg hway, hrec]

/-- The tallies the expiry statement is about: LINE tallies in OPEN or WAIT that do not speculate and wait for no way. -/
structure Tally.Expirable (y : Tally) : Prop where
  line : y.kind = .line
  running : y.st = .opn ∨ y.st = .wait
  sure : y.spec ≠ .pending
  noRecall : y.recallRec = none
  noWay : y.waitFor ≠ .way

/-- R138: such a tally ends, and its answer takes the deadline lane. -/
theorem State.expireWith_of_expirable (h : (s.tally n t).Expirable) (i : Nat) :
    s.expireWith n t i = ((s.markExpired n t).answerSent n t).lane n (s.tally n t).portal (s.tallyAnswer n t i true) := by
  have hrecord := State.tally_markExpired_same h.sure
  have hans : (s.markExpired n t).tallyAnswer n t i true = s.tallyAnswer n t i true :=
    State.tallyAnswer_congr (State.markExpired_keeps h.sure ShaftSt.formers (fun _ _ _ _ _ _ _ => rfl)) (by rw [hrecord]; rfl)
      (by rw [hrecord]; rfl) i true
  have hsent : ((((s.markExpired n t).answerSent n t).lane n (s.tally n t).portal (s.tallyAnswer n t i true)).tally n t) =
      { (s.tally n t).expireAt (s.sh n).clock with ans := .sent } := by
    rw [State.tally_lane, State.answerSent, State.tally_updTally_same, hrecord]
  simp only [State.expireWith, if_pos h.running, h.line, hans, State.afterExpiry_of_line h.noWay h.noRecall]
  refine State.tryFree_of_answer_kept ?_ ?_
  · rw [hsent]; simp [Tally.answers, Tally.expireAt, h.line]
  · rw [hsent]; simp

/-- What the end of tally `t` by expiry leaves (R138). -/
structure State.Ends (s a : State) (n : Shaft) (t : Nat) : Prop where
  record : a.tally n t = { (s.tally n t).expireAt (s.sh n).clock with ans := .sent }
  thread : ∀ h k, (s.tally n t).run = some (h, k) → a.thread n h k = Thread.idle
  lane : (a.ptl n (s.tally n t).portal).lane = (s.ptl n (s.tally n t).portal).lane ++ [s.tallyAnswer n t Ans.TIMEOUT true]
  count : a.reg n .TLY_STAT_EXPIRED = min (s.reg n .TLY_STAT_EXPIRED + 1) 65535
  others : ∀ j, j ≠ t → a.tally n j = s.tally n j

theorem State.ends_expire (h : (s.tally n t).Expirable) : s.Ends (s.expire n t) n t := by
  rw [State.expire, State.expireWith_of_expirable h]
  refine ⟨?_, fun k j hr => ?_, ?_, State.reg_markExpired h.sure, fun j hj => ?_⟩
  · rw [State.tally_lane, State.answerSent, State.tally_updTally_same, State.tally_markExpired_same h.sure]
  · have hidle := State.thread_markExpired h.sure hr
    rw [State.thread] at hidle ⊢
    rw [State.sh_lane, State.answerSent, State.sh_updTally, hidle]
  · have hportals : ((s.markExpired n t).sh n).portals = (s.sh n).portals :=
      State.markExpired_keeps h.sure ShaftSt.portals (fun _ _ _ _ _ _ _ => rfl)
    simp only [State.ptl, State.sh_lane, State.answerSent, State.sh_updTally, Oct.get_upd_same, hportals]
  · rw [State.tally_lane, State.answerSent, State.tally_updTally_other _ _ _ hj, State.tally_markExpired_other h.sure hj]

/-- What was taken out of haulage before makes no difference to how a tally ends. -/
theorem State.ends_expire_of_flights (h : (s.tally n t).Expirable) (l : List Flight) :
    s.Ends ((s.updSh n (fun x => { x with flights := l })).expire n t) n t := by
  have htally : (s.updSh n (fun x => { x with flights := l })).tally n = s.tally n := funext (State.tally_updSh (fun _ => rfl))
  obtain ⟨hrecord, hthread, hlane, hcount, hothers⟩ := State.ends_expire (s := s.updSh n (fun x => { x with flights := l })) (htally ▸ h)
  simp only [htally, State.ptl, State.tallyAnswer, State.answerTub, State.sh_updSh_same, State.reg_updSh] at *
  exact ⟨hrecord, hthread, hlane, hcount, hothers⟩

/-! ### What ends a tally -/

/-- R138: before its deadline the watchdog leaves a tally alone. -/
theorem State.deadlineExpiry_early (h : s.passed n (s.tally n t).deadline = false) : s.deadlineExpiry n t = s := by
  simp [State.deadlineExpiry, h]

theorem State.deadlineExpiry_due (hout : s.lodeOut n = false) (h : s.passed n (s.tally n t).deadline = true)
    (hrun : (s.tally n t).st = .opn ∨ (s.tally n t).st = .wait) : s.deadlineExpiry n t = s.expire n t := by
  have hnot : (s.tally n t).errorWaits = false := by
    rcases hrun with h | h <;> simp [Tally.errorWaits, h]
  simp [State.deadlineExpiry, hout, h, hnot]

/-- R435: the first LAYER_ABSENT reply that has come back expires the tally it names. -/
theorem State.layerAbsentExpiry_of_first {before after : List Flight} {f : Flight} (hl : (s.sh n).flights = before ++ f :: after)
    (hf : f.act = .hau ∧ f.there = true) (hb : ∀ g ∈ before, ¬(g.act = .hau ∧ g.there = true)) (htv : f.tub.tv = true)
    (hgen : f.tub.gen = (s.tally n f.tub.tally.toNat).gen)
    (hrun : (s.tally n f.tub.tally.toNat).st = .opn ∨ (s.tally n f.tub.tally.toNat).st = .wait) :
    s.layerAbsentExpiry n = (s.updSh n (fun h => { h with flights := before ++ after })).expire n f.tub.tally.toNat := by
  have hfirst : takeFirst (fun f : Flight => decide (f.act = .hau) && f.there) (s.sh n).flights = some (f, before ++ after) := by
    rw [hl]
    exact takeFirst_append before after (fun g hg => by simpa using hb g hg) (by simpa using hf)
  simp only [State.layerAbsentExpiry, hfirst]
  exact if_pos ⟨htv, hgen.symm, hrun⟩

/-- The word of TLY_KILL names its tally, with GO 1 (R138). -/
theorem part_make_tlyKill (t : BitVec 15) :
    Reg.part .TLY_KILL (Reg.make .TLY_KILL [(.TLY_KILL_TALLY, t.toNat), (.TLY_KILL_GO, 1)]) .TLY_KILL_TALLY = t.toNat ∧
    Reg.part .TLY_KILL (Reg.make .TLY_KILL [(.TLY_KILL_TALLY, t.toNat), (.TLY_KILL_GO, 1)]) .TLY_KILL_GO = 1 := by
  have hword : Reg.make .TLY_KILL [(.TLY_KILL_TALLY, t.toNat), (.TLY_KILL_GO, 1)] = t.setWidth 32 ||| 0x80000000#32 := by
    simp [Reg.make, Reg.places, Fld.desc, Nat.mod_eq_of_lt t.isLt]
  have hpart : ∀ v : Word, Reg.part .TLY_KILL v .TLY_KILL_TALLY = (v.extractLsb' 0 15).toNat ∧
      Reg.part .TLY_KILL v .TLY_KILL_GO = (v.extractLsb' 31 1).toNat := fun v => ⟨rfl, rfl⟩
  have hbit : ∀ j, (0x80000000#32).getLsbD j = decide (j = 31) := fun j => by
    rw [show (0x80000000#32) = BitVec.twoPow 32 31 from rfl, BitVec.getLsbD_twoPow]
    simp [eq_comm]
  have htally : (t.setWidth 32 ||| 0x80000000#32).extractLsb' 0 15 = t := by
    refine BitVec.eq_of_getLsbD_eq fun j hj => ?_
    simp only [BitVec.getLsbD_extractLsb', BitVec.getLsbD_or, BitVec.getLsbD_setWidth, hbit]
    simp [hj, show j < 32 by omega, show j ≠ 31 by omega]
  have hgo : (t.setWidth 32 ||| 0x80000000#32).extractLsb' 31 1 = 1#1 := by
    refine BitVec.eq_of_getLsbD_eq fun j hj => ?_
    obtain rfl : j = 0 := by omega
    simp only [BitVec.getLsbD_extractLsb', BitVec.getLsbD_or, hbit]
    simp
  rw [(hpart _).1, (hpart _).2, hword, htally, hgo]
  exact ⟨rfl, rfl⟩

/-- R138: with the block open, TLY.KILL expires the tally it names. -/
theorem exec_tlyKill_of_open (h : s.Open n.val .TLY) (t : BitVec 15) : exec (.tlyKill n t) s = .next (s.expire n t.toNat) := by
  obtain ⟨hfree, hgate, hbusy, hdeep⟩ := h
  obtain ⟨htally, hgo⟩ := part_make_tlyKill t
  refine congrArg Host.Outcome.next ((State.cageTurn_of_free hfree _).trans ?_)
  rw [State.go]
  generalize Reg.make .TLY_KILL [(.TLY_KILL_TALLY, t.toNat), (.TLY_KILL_GO, 1)] = v at *
  have hopen : s.shut (.reg n.val .TLY_KILL 0) = none := by
    simp [State.shut, WordAt.isGate, WordAt.sc, WordAt.blk, State.windowOut, Reg.blk, hgate, hbusy]
  have hden : State.writeDenied s s (.reg n.val .TLY_KILL 0) v = false := by
    simp [State.writeDenied, State.regBarred, State.whenBarred, Reg.readOnly, Reg.reservedIn, Reg.places, Fld.reserved, Fld.desc, keyWrong,
      hdeep]
  rw [State.regWrite_of_open hopen, hden]
  simp [State.cageWrite, State.writeWord, State.writeReg, keyWrong, State.storeReg, Reg.places, Place.elem, State.storeField, Fld.desc, State.shaftEffect, State.killTally, htally, hgo]

end
end Sys2Proof.Machine
end

section
/-! The end of a tally by its deadline, by TLY.KILL and by LAYER_ABSENT (R138, R140, R435). -/

namespace Sys2Proof.Machine

/-- Settles O28: each of the three commands is `State.expire` of the tally, whose end is read off `State.Ends`. -/
theorem tallyExpiry : Obligations.TallyExpiry := by
  unfold Obligations.TallyExpiry
  intro s n t y ends
  have hends : ∀ {c : Instr} {t' : State}, exec c s = .next t' → s.Ends t' n t → ends c := by
    rintro c t' hexec ⟨hrecord, hthread, hlane, hcount, hothers⟩
    refine ⟨t', hexec, ?_⟩
    rw [hrecord]
    exact ⟨rfl, rfl, rfl, rfl, rfl, rfl, rfl, hthread, hlane, hcount, hothers⟩
  refine ⟨fun hearly => congrArg Host.Outcome.next (State.deadlineExpiry_early hearly), fun hline hrun hsure hrec hway => ?_⟩
  have hexp : (s.tally n t).Expirable := ⟨hline, hrun, hsure, hrec, hway⟩
  refine ⟨fun hout hdue => ?_, fun hopen ht => ?_, fun before after f hl hact hthere hbefore htv ht hgen => ?_⟩
  · exact hends (congrArg Host.Outcome.next (State.deadlineExpiry_due hout hdue hrun)) (State.ends_expire hexp)
  · have hexec := exec_tlyKill_of_open hopen (BitVec.ofNat 15 t)
    rw [BitVec.toNat_ofNat, Nat.mod_eq_of_lt ht] at hexec
    exact hends hexec (State.ends_expire hexp)
  · subst ht
    exact hends (congrArg Host.Outcome.next (State.layerAbsentExpiry_of_first hl ⟨hact, hthere⟩ hbefore htv hgen hrun))
      (State.ends_expire_of_flights hexp _)

end Sys2Proof.Machine
end

section
/-! SUPPORT. Responses of tallies (R131), their waits (R129, R192), and what a tally that becomes FREE gives back: its tub slots, its thread, its line
(R129, R132, R175). -/

namespace Sys2Proof.Machine

section
variable {s : State} {n : Shaft} {t : Nat}

/-! ### Matching and waking -/

/-- R131: the first tub that has reached the tally store is matched. -/
theorem State.responseMatch_of_first {before after : List Flight} {f : Flight} (hl : (s.sh n).flights = before ++ f :: after)
    (hf : f.act = .tallyStore ∧ f.there = true) (hb : ∀ g ∈ before, ¬(g.act = .tallyStore ∧ g.there = true)) (hspc : f.tub.spc = false)
    (hout : s.lodeOut n = false) :
    s.responseMatch n none = (s.updSh n (fun h => { h with flights := before ++ after })).matchTub n f.tub := by
  have hfirst : takeFirst (fun f : Flight => decide (f.act = .tallyStore) && f.there) (s.sh n).flights = some (f, before ++ after) := by
    rw [hl]
    exact takeFirst_append before after (fun g hg => by simpa using hb g hg) (by simpa using hf)
  simp only [State.responseMatch, hfirst, hout, Bool.false_eq_true, if_false, State.leaveTransit_of_not_spc hspc]
  rfl

/-- R131: a tub of another generation is stale. -/
theorem State.matchTub_of_other_gen {x : Tub} (h : (s.tally n x.tally.toNat).gen ≠ x.gen) : s.matchTub n x = s.addReg n .TLY_STAT2_STALE := by
  simp only [State.matchTub, if_pos h]

theorem State.wake_of_not_wait (h : (s.tally n t).st ≠ .wait) : s.wake n t = s := by
  simp [State.wake, h]

/-- R131: a matched tub is kept in the lowest free slot; a tally in OPEN is not woken. -/
theorem State.keepTub_of_open {i : Nat} (hslot : s.freeSlot n = some i) (hst : (s.tally n t).st = .opn) (x : Tub) :
    s.keepTub n t x = (s.takeSlot n i x).updTally n t (fun y => { y with rcvd := y.rcvd ++ [i] }) := by
  simp only [State.keepTub, hslot]
  refine State.wake_of_not_wait ?_
  have htally : (s.takeSlot n i x).tally n t = s.tally n t :=
    State.tally_of_sh (by rw [State.takeSlot, State.sh_updSh_same, State.sh_setSlot]) t
  rw [State.tally_updTally_same, htally, hst]
  decide

/-- The free pool of a shaft says which slot is taken next (R248). -/
theorem State.freeSlot_congr {a : State} (hp : (a.sh n).pool = (s.sh n).pool) (hr : a.regs = s.regs) : a.freeSlot n = s.freeSlot n := by
  simp only [State.freeSlot, hp, State.reg_of_regs n hr]

/-- R131: a tub of an OPEN tally lowers PENDING and is kept for the handler. -/
theorem State.matchTub_of_open {i : Nat} {x : Tub} (hgen : (s.tally n x.tally.toNat).gen = x.gen) (hst : (s.tally n x.tally.toNat).st = .opn)
    (hkind : (s.tally n x.tally.toNat).kind ≠ .forward) (hslot : s.freeSlot n = some i) :
    s.matchTub n x = ((s.updTally n x.tally.toNat (fun y => { y with pending := y.pending - 1 })).takeSlot n i x).updTally n x.tally.toNat
      (fun y => { y with rcvd := y.rcvd ++ [i] }) := by
  have hless : (s.updTally n x.tally.toNat (fun y => { y with pending := y.pending - 1 })).freeSlot n = some i := by
    rw [← hslot]; exact State.freeSlot_congr (by rw [State.sh_updTally]) rfl
  simp only [State.matchTub, hgen, ne_eq, not_true, if_false, hst, hkind]
  exact State.keepTub_of_open hless (by rw [State.tally_updTally_same, hst]) x

/-- R129: a tally whose timed wait has passed goes back to OPEN, and on to the hewers. -/
theorem State.wake_of_timer {b : Nat} (hst : (s.tally n t).st = .wait) (hw : (s.tally n t).waitFor = .timed b)
    (h : s.passed n (s.tally n t).timer = true) :
    s.wake n t = (s.updTally n t (fun y => { y with st := .opn, waitFor := .nothing })).sendWork n ⟨t, true⟩ := by
  simp [State.wake, State.waitMet, hst, hw, h]

theorem exec_tallyTimer (n : Shaft) (t : Nat) (s : State) :
    exec (.tallyTimer n t) s = .next (if s.passed n (s.tally n t).timer then s.wake n t else s) := rfl

/-! ### Tub slots and the thread -/

/-- Giving tub slots back touches the slots and the pool. -/
theorem State.giveSlots_keeps {α : Type} (s : State) (n : Shaft) (proj : ShaftSt → α) (h : ∀ x sl p, proj { x with slots := sl, pool := p } = proj x)
    (l : List Nat) : proj ((s.giveSlots n l).sh n) = proj (s.sh n) := by
  unfold State.giveSlots
  refine foldl_keeps (fun a : State => proj (a.sh n) = proj (s.sh n)) _ ?_ l s rfl
  intro a i ha
  rw [State.sh_updSh_same, State.sh_setSlot]
  exact (h (a.sh n) _ _).trans ha

theorem State.giveSlots_regs (s : State) (n : Shaft) (l : List Nat) : (s.giveSlots n l).regs = s.regs := by
  unfold State.giveSlots
  refine foldl_keeps (fun a : State => a.regs = s.regs) _ ?_ l s rfl
  exact fun _ _ ha => ha

/-- A tally that becomes FREE touches its slots and thread, its record, the sweep's list and the dispatch queue. -/
theorem State.dropTally_keeps {α : Type} (s : State) (n : Shaft) (t : Nat) (proj : ShaftSt → α) (h : ∀ x sl p th ys pw ro sw q,
    proj { x with slots := sl, pool := p, threads := th, tallies := ys, pushWaits := pw, ringOps := ro, sweep := sw, dispatchQ := q } = proj x) :
    proj ((s.dropTally n t).sh n) = proj (s.sh n) := by
  simp only [State.dropTally, State.sh_updSh_same, State.sh_updTally]
  refine (h _ _ _ _ _ _ _ _ _).trans ?_
  rw [State.endThread_keeps _ n t proj (fun x th ys pw ro => h x x.slots x.pool th ys pw ro x.sweep x.dispatchQ),
    State.giveSlots_keeps _ n proj (fun x sl p => h x sl p x.threads x.tallies x.pushWaits x.ringOps x.sweep x.dispatchQ)]

theorem State.dropTally_regs (s : State) (n : Shaft) (t : Nat) : (s.dropTally n t).regs = s.regs :=
  (State.endThread_regs _ n t).trans (State.giveSlots_regs s n _)

theorem State.tally_dropTally_st (s : State) (n : Shaft) (t : Nat) : ((s.dropTally n t).tally n t).st = .free := by
  simp only [State.dropTally, State.tally, State.sh_updSh_same, State.sh_updTally, Tbl.get_upd_same]

/-! ### The line -/

/-- Settling a way touches its entry and the evictions that wait for it. -/
theorem State.settleWay_keeps {α : Type} (s : State) (n : Shaft) (set w : Nat) (proj : ShaftSt → α)
    (h : ∀ x d r, proj { x with dir := d, recallWait := r } = proj x) : proj ((s.settleWay n set w).sh n) = proj (s.sh n) := by
  have hent : ∀ e, proj ((s.setEnt n set w e).sh n) = proj (s.sh n) := fun e => by
    rw [State.sh_setEnt]; exact h _ _ (s.sh n).recallWait
  simp only [State.settleWay]
  split_ifs
  · rw [State.subF, State.sh_setF, State.forgetEvict, State.sh_updSh_same]
    exact (h _ _ _).trans (hent _)
  · exact hent _
  · rfl

/-- A line's new state touches its entry and the evictions that wait for its way. -/
theorem State.setLineState_keeps {α : Type} (s : State) (n : Shaft) (l : Nat) (v : BitVec 3) (proj : ShaftSt → α)
    (h : ∀ x d r, proj { x with dir := d, recallWait := r } = proj x) : proj ((s.setLineState n l v).sh n) = proj (s.sh n) := by
  unfold State.setLineState
  split
  · rfl
  · rw [State.settleWay_keeps _ n _ _ proj h, State.sh_setEnt]
    exact h _ _ (s.sh n).recallWait

/-- Of the register fields it changes no more than the claim's count of entries. -/
theorem State.reg_settleWay (s : State) (n m : Shaft) (set w : Nat) {g : Fld} (hg : g ≠ .CLM_ENTRY5_ENTRIES) (e : Nat) :
    (s.settleWay n set w).reg m g e = s.reg m g e := by
  simp only [State.settleWay]
  split_ifs
  · exact State.getF_setF_field _ _ hg
  · rfl
  · rfl

theorem State.reg_setLineState (s : State) (n m : Shaft) (l : Nat) (v : BitVec 3) {g : Fld} (hg : g ≠ .CLM_ENTRY5_ENTRIES) (e : Nat) :
    (s.setLineState n l v).reg m g e = s.reg m g e := by
  unfold State.setLineState
  split
  · rfl
  · exact State.reg_settleWay _ n m _ _ hg e

theorem State.lockAt_of_sh {a : State} (h : (a.sh n).locks = (s.sh n).locks) (l : Nat) : a.lockAt n l = s.lockAt n l := by
  rw [State.lockAt, h, ← State.lockAt]

theorem State.lockAt_putSetQ (s : State) (n : Shaft) (set : Nat) (q : List Nat) (l : Nat) : (s.putSetQ n set q).lockAt n l = s.lockAt n l :=
  State.lockAt_of_sh (by rw [State.sh_putSetQ]) l

theorem State.lockAt_setLock_same (s : State) (n : Shaft) (l : Nat) (r : Option LockRec) : (s.setLock n l r).lockAt n l = r := by
  rw [State.lockAt, State.sh_setLock, Tbl.get_set_same]

theorem State.setQ_of_sh {a : State} (h : (a.sh n).setWait = (s.sh n).setWait) (set : Nat) : a.setQ n set = s.setQ n set := by
  rw [State.setQ, h, ← State.setQ]

/-- R132: a line that nobody waits for is unlocked and takes its release state. -/
theorem State.releaseLine_of_alone {l : Nat} (h : s.lockAt n l = some ⟨t, []⟩) (v : BitVec 3) :
    s.releaseLine n l v = (s.setLock n l none).setLineState n l v := by
  simp only [State.releaseLine, h, State.skipExpired]

/-- R175: a set for which nobody waits. -/
theorem State.serveSet_of_empty {set : Nat} (h : s.setQ n set = []) : s.serveSet n set = s.putSetQ n set [] := by
  simp only [State.serveSet, h, State.serveQ]

/-- The lines and sets after a tally with the lock has become FREE: what follows touches only its line. -/
def State.unheld (s : State) (n : Shaft) (t : Nat) : State := (s.dropTally n t).updTally n t (fun y => { y with lock := false })

theorem State.unheld_keeps {α : Type} (s : State) (n : Shaft) (t : Nat) (proj : ShaftSt → α) (h : ∀ x sl p th ys pw ro sw q,
    proj { x with slots := sl, pool := p, threads := th, tallies := ys, pushWaits := pw, ringOps := ro, sweep := sw, dispatchQ := q } = proj x) :
    proj ((s.unheld n t).sh n) = proj (s.sh n) := by
  rw [State.unheld, State.sh_updTally]
  exact (h _ _ _ _ _ _ _ _ _).trans (s.dropTally_keeps n t proj h)

/-- R129: a tally that holds its line alone, for whose set nobody waits, becomes FREE with its line released. -/
theorem State.freeNow_of_alone (hrec : (s.tally n t).recallRec = none) (hlock : (s.tally n t).lock = true)
    (hl : s.lockAt n (s.tally n t).line = some ⟨t, []⟩) (hq : s.setQ n (homeSet (s.tally n t).line) = []) :
    s.freeNow n t = (((s.unheld n t).setLock n (s.tally n t).line none).setLineState n (s.tally n t).line (s.tally n t).final).putSetQ n
      (homeSet (s.tally n t).line) [] := by
  have hl' : (s.unheld n t).lockAt n (s.tally n t).line = some ⟨t, []⟩ :=
    (State.lockAt_of_sh (s.unheld_keeps n t ShaftSt.locks (fun _ _ _ _ _ _ _ _ _ => rfl)) _).trans hl
  simp only [State.freeNow, hrec, hlock, if_true]
  rw [← State.unheld, State.releaseLine_of_alone hl', State.serveSet_of_empty]
  refine (State.setQ_of_sh ?_ _).trans hq
  rw [State.setLineState_keeps _ n _ _ ShaftSt.setWait (fun _ _ _ => rfl), State.sh_setLock]
  exact s.unheld_keeps n t ShaftSt.setWait (fun _ _ _ _ _ _ _ _ _ => rfl)

/-- What is left of such a tally: it is FREE, its line unlocked, and register fields are as before but the claim's count of entries. -/
theorem State.freeNow_of_alone_leaves (hrec : (s.tally n t).recallRec = none) (hlock : (s.tally n t).lock = true)
    (hl : s.lockAt n (s.tally n t).line = some ⟨t, []⟩) (hq : s.setQ n (homeSet (s.tally n t).line) = []) :
    ((s.freeNow n t).tally n t).st = .free ∧ (s.freeNow n t).lockAt n (s.tally n t).line = none ∧
      ∀ (g : Fld) (e : Nat), g ≠ .CLM_ENTRY5_ENTRIES → (s.freeNow n t).reg n g e = s.reg n g e := by
  rw [State.freeNow_of_alone hrec hlock hl hq]
  refine ⟨?_, ?_, fun g e hg => ?_⟩
  · rw [State.tally_putSetQ, State.tally_of_sh (State.setLineState_keeps _ n _ _ ShaftSt.tallies (fun _ _ _ => rfl)),
      State.tally_setLock, State.unheld, State.tally_updTally_same]
    exact s.tally_dropTally_st n t
  · rw [State.lockAt_putSetQ, State.lockAt_of_sh (State.setLineState_keeps _ n _ _ ShaftSt.locks (fun _ _ _ => rfl)),
      State.lockAt_setLock_same]
  · exact (State.reg_setLineState _ n n _ _ hg e).trans (State.reg_of_regs n (s.dropTally_regs n t) g e)

/-! ### Abandonment (R140) -/

theorem State.sh_abandonedEvent (s : State) (n m : Shaft) (t : Nat) (y : Tally) : (s.abandonedEvent n t y).sh m = s.sh m :=
  State.sh_shEvent ..

theorem State.reg_abandonedEvent (s : State) (n : Shaft) (t : Nat) (y : Tally) :
    (s.abandonedEvent n t y).reg n .SHF_ATTN_TALLY_ABANDONED = 1 ∧
    (s.abandonedEvent n t y).reg n .TLY_STAT3_ABANDONED = min (s.reg n .TLY_STAT3_ABANDONED + 1) 65535 := by
  rw [State.abandonedEvent, State.reg_shEvent _ _ _ _ _ _ _ (by decide), State.reg_shEvent _ _ _ _ _ _ _ (by decide)]
  refine ⟨State.reg_setReg_same .., ?_⟩
  rw [State.reg_setReg_field (by decide)]
  exact s.reg_addReg_same n _ _ _

/-- R140: a tally that has drained for DRAIN_US is counted as abandoned and becomes FREE. -/
theorem State.abandon_of_drained (hst : (s.tally n t).st = .done) (hexp : (s.tally n t).expired = true) (hlock : (s.tally n t).lock = true)
    (hpend : 0 < (s.tally n t).pending) (hpar : (s.tally n t).parent = none)
    (h : s.passed n ((s.tally n t).expiredAt + BitVec.ofNat 32 (s.reg n .TLY_CFG2_DRAIN_US)) = true) :
    s.abandon n t = (s.abandonedEvent n t (s.tally n t)).freeNow n t := by
  simp only [State.abandon, hst, hexp, hlock, hpend, h, and_self, if_true, hpar, State.tryParent]

end
end Sys2Proof.Machine
end

section
/-! Responses of a tally, the end of its timed wait, and its abandonment (R129, R131, R140). -/

namespace Sys2Proof.Machine

/-- Settles O29: the match by the tally's GEN and state, the timer by the wait it ends, the abandonment by what a tally that holds its line alone gives back
when it becomes FREE. -/
theorem tallyResponsesAndEnd : Obligations.TallyResponsesAndEnd := by
  unfold Obligations.TallyResponsesAndEnd
  refine fun s n => ⟨?_, fun t b => ?_, fun t => ?_⟩
  · intro before after f hl hact hthere hbefore hspc hout t y out
    have hmatch : exec (.responseMatch n none) s = .next (out.matchTub n f.tub) := congrArg Host.Outcome.next (State.responseMatch_of_first hl ⟨hact, hthere⟩ hbefore hspc hout)
    have htally : out.tally n = s.tally n := funext (State.tally_updSh (fun _ => rfl))
    refine ⟨fun hgen => ?_, fun i hgen hst hkind hslot => ?_⟩
    · exact hmatch.trans (congrArg _ (State.matchTub_of_other_gen (by rw [htally]; exact hgen)))
    · have hfree : out.freeSlot n = some i := by
        rw [← hslot]; exact State.freeSlot_congr (by rw [State.sh_updSh_same]) rfl
      exact hmatch.trans (congrArg _ (State.matchTub_of_open (by rw [htally]; exact hgen) (by rw [htally]; exact hst)
        (by rw [htally]; exact hkind) hfree))
  · refine ⟨fun hearly => ?_, fun hdue hst hw => ?_⟩
    · rw [exec_tallyTimer, hearly]; rfl
    · rw [exec_tallyTimer, hdue, if_pos rfl, State.wake_of_timer hst hw hdue]
      refine ⟨_, rfl, ?_, ?_, fun j hj => ?_⟩
      · rw [State.tally_sendWork, State.tally_updTally_same]
      · rw [State.sh_sendWork, State.sh_updTally]
      · rw [State.tally_sendWork, State.tally_updTally_other _ _ _ hj]
  · intro y hst hexp hlock hpend hkind hrec hpar hdrained hl hq
    have hsh := s.sh_abandonedEvent n n t y
    have htally : (s.abandonedEvent n t y).tally n t = y := State.tally_of_sh (by rw [hsh]) t
    obtain ⟨hfree, hunlocked, hregs⟩ := State.freeNow_of_alone_leaves (s := s.abandonedEvent n t y) (n := n) (t := t) (by rw [htally]; exact hrec)
      (by rw [htally]; exact hlock) (by rw [htally]; exact (State.lockAt_of_sh (congrArg ShaftSt.locks hsh) _).trans hl)
      (by rw [htally]; exact (State.setQ_of_sh (congrArg ShaftSt.setWait hsh) _).trans hq)
    obtain ⟨hattn, hcount⟩ := s.reg_abandonedEvent n t y
    rw [htally] at hunlocked
    refine ⟨_, congrArg Host.Outcome.next (State.abandon_of_drained hst hexp hlock hpend hpar hdrained), hfree, hunlocked, ?_, ?_⟩
    · rw [hregs _ _ (by decide), hattn]
    · rw [hregs _ _ (by decide), hcount]

end Sys2Proof.Machine
end

section
/-! SUPPORT. Admission up to the tally (R126, R35, R360 to R366): the unit taken from PTL.INQ[p], the shape and the route of a request, and each check with the
answer it gives. -/

namespace Sys2Proof.Machine

section
variable {s : State} {n : Shaft} {p : Portal} {r : Tub}

/-! ### The unit -/

/-- R360: an ingress entry is popped only while there is no whole unit. -/
theorem State.fillUnit_of_done (h : unitDone (s.ptl n p).inGot = true) (k : Nat) : s.fillUnit n p k = s := by
  cases k <;> simp [State.fillUnit, h]

/-- The state in which the only entry of PTL.INQ[p] has been taken. -/
def State.inTaken (s : State) (n : Shaft) (p : Portal) : State := s.updPtl n p (fun x => { x with inGot := [] })

/-- R126: a REQ without DAT tubs is a whole unit, and goes through the checks alone. -/
theorem State.admission_of_one (hw : s.engineWorks n = true) (hgot : (s.ptl n p).inGot = [r]) (hcls : r.cls = 0) (hdata : r.data = false)
    (u : DirCheck) : s.admission n p u = (s.inTaken n p).intake n p r [] u := by
  have hdats : reqDats r = 0 := by simp [reqDats, hdata]
  have hunit : unitDone [r] = true := by simp [unitDone, hdats]
  have hfill : s.fillUnit n p 66 = s := State.fillUnit_of_done (by rw [hgot, hunit]) 66
  have hreq : r.cls = Cls.REQ := hcls
  simp only [State.admission, hw, if_true, hfill, State.takeUnit, hgot, hunit, hreq, hdats]
  rfl

/-! ### Shape and route -/

/-- R126 check 3: the shape of a request, with the fields as numbers. -/
theorem shapeOk_iff (r : Tub) : shapeOk r = true ↔
    if r.haul then 1 ≤ r.lines.toNat ∧ r.lines.toNat ≤ 64 ∧ r.addr.toNat % 64 = 0 ∧ r.addr.toNat % 4096 + 64 * r.lines.toNat ≤ 4096
    else r.lines = 1 := by
  have hlow : r.addr.extractLsb' 0 6 = 0#6 ↔ r.addr.toNat % 64 = 0 := by
    rw [BitVec.toNat_eq, BitVec.extractLsb'_toNat]; rfl
  have hpage : (r.addr.extractLsb' 0 12).toNat = r.addr.toNat % 4096 := by rw [BitVec.extractLsb'_toNat]; rfl
  have hone : r.lines.toNat = 1 ↔ r.lines = 1 := (BitVec.toNat_eq (y := 1)).symm
  unfold shapeOk
  split <;> simp [hlow, hpage, hone, and_assoc]

/-- R33: the granule of an address of the plane. -/
theorem granule_of_lt {a : BitVec 64} (h : a.toNat < 2 ^ 40) : (a.extractLsb' 30 10).toNat = a.toNat / 2 ^ 30 := by
  rw [BitVec.extractLsb'_toNat, Nat.shiftRight_eq_div_pow]
  exact Nat.mod_eq_of_lt (by omega)

/-- R35: target 1 is this shaft. -/
theorem State.route_here (hlt : r.addr.toNat < 2 ^ 40) (ht : s.reg n .SHF_ROUTE_TARGET (r.addr.toNat / 2 ^ 30) = 1) : s.route n r = .here := by
  simp only [State.route, if_pos hlt, granule_of_lt hlt, ht, if_true]

/-- R35: a block route answers a request that has not been forwarded. -/
theorem State.route_blocked (h : 2 ^ 40 ≤ r.addr.toNat ∨ s.reg n .SHF_ROUTE_TARGET (r.addr.toNat / 2 ^ 30) = 0) (hfwd : r.fwd = false) :
    s.route n r = .answer Ans.UNMAPPED true := by
  have htarget : (if r.addr.toNat < 2 ^ 40 then s.reg n .SHF_ROUTE_TARGET (r.addr.extractLsb' 30 10).toNat else 0) = 0 := by
    split
    · next hlt => rw [granule_of_lt hlt]; exact h.resolve_left (by omega)
    · rfl
  simp only [State.route, htarget, hfwd]
  rfl

/-! ### The checks in their order -/

/-- R126 check 1: the deadline of a request, from its time stamp. -/
def State.late (s : State) (n : Shaft) (r : Tub) : Bool := s.passed n (r.stamp + BitVec.ofNat 32 (s.reg n .TLY_CFG_DEADLINE_US))

variable {dats : List Tub} {u : DirCheck}

theorem State.intake_late (h : s.late n r = true) : s.intake n p r dats u = s.refuse n p r Ans.TIMEOUT := by
  rw [State.late] at h
  simp only [State.intake, h, if_true]

/-- R126 check 2: a haul of 0 lines is done. -/
theorem State.intake_empty (hl : s.late n r = false) (h : r.haul = true ∧ r.lines = 0) :
    s.intake n p r dats u = s.refuse n p r Ans.SUCCESS := by
  rw [State.late] at hl
  simp only [State.intake, hl, Bool.false_eq_true, if_false, if_pos h]

/-- R126 check 3. -/
theorem State.intake_badShape (hl : s.late n r = false) (he : ¬(r.haul = true ∧ r.lines = 0)) (h : shapeOk r = false) :
    s.intake n p r dats u = (s.addReg n .TLY_STAT3_BAD_HAUL).refuse n p r Ans.ERROR := by
  rw [State.late] at hl
  simp only [State.intake, hl, Bool.false_eq_true, if_false, if_neg he, h, Bool.not_false, if_true]

section
variable (hl : s.late n r = false) (hs : shapeOk r = true)
include hl hs

omit hl in
/-- A request of good shape is no haul of 0 lines. -/
theorem not_empty_of_shapeOk : ¬(r.haul = true ∧ r.lines = 0) := by
  rintro ⟨hh, hz⟩
  have hshape := (shapeOk_iff r).mp hs
  rw [if_pos hh, hz] at hshape
  exact absurd hshape.1 (by decide)

/-- R126 check 4. -/
theorem State.intake_blocked (h : 2 ^ 40 ≤ r.addr.toNat ∨ s.reg n .SHF_ROUTE_TARGET (r.addr.toNat / 2 ^ 30) = 0) (hfwd : r.fwd = false) :
    s.intake n p r dats u = (s.addReg n .SHF_FWD_STAT_ROUTE_MISS).refuse n p r Ans.UNMAPPED := by
  have hempty := not_empty_of_shapeOk hs
  rw [State.late] at hl
  simp only [State.intake, hl, Bool.false_eq_true, if_false, if_neg hempty, hs, Bool.not_true, State.route_blocked h hfwd, if_true]

/-- The tallies a request served here needs (R126 check 5). -/
def Tub.needs (r : Tub) : Nat := if r.haul then r.lines.toNat + 1 else 1

variable (hlt : r.addr.toNat < 2 ^ 40) (ht : s.reg n .SHF_ROUTE_TARGET (r.addr.toNat / 2 ^ 30) = 1)
include hlt ht

/-- The checks left for a request served here, in their order. -/
theorem State.intake_here : s.intake n p r dats u =
    if s.admissionShut n then s.refuse n p r Ans.RETRY
    else if s.freeCount n < r.needs then (s.addReg n .TLY_STAT_NO_TALLY).refuse n p r Ans.RETRY
    else if s.reg n .TLY_QUOTA_QUOTA p.val < s.openWork n p + r.needs then (s.addReg n .TLY_STAT4_OVER_QUOTA).refuse n p r Ans.RETRY
    else
      let s1 := if r.haul then s.openHaul n p r dats u else s.openOne n p r dats u
      (s1.quotaWake n p (s1.openWork n p)).noteTaken n r.needs := by
  rw [State.late] at hl
  by_cases hh : r.haul = true
  · have hz : ¬r.lines = 0 := fun h => not_empty_of_shapeOk hs ⟨hh, h⟩
    simp only [State.intake, hl, Bool.false_eq_true, if_false, hs, Bool.not_true, State.route_here hlt ht, Tub.needs, hh, hz, and_true,
      and_false, if_true]
  · simp only [State.intake, hl, Bool.false_eq_true, if_false, hs, Bool.not_true, State.route_here hlt ht, Tub.needs, hh, false_and, and_false]

/-- R366: admission that is shut answers RETRY. -/
theorem State.intake_shut (h : s.admissionShut n = true) : s.intake n p r dats u = s.refuse n p r Ans.RETRY := by
  rw [State.intake_here hl hs hlt ht, if_pos h]

variable (ho : s.admissionShut n = false)
include ho

theorem State.intake_noTally (h : s.freeCount n < r.needs) :
    s.intake n p r dats u = (s.addReg n .TLY_STAT_NO_TALLY).refuse n p r Ans.RETRY := by
  rw [State.intake_here hl hs hlt ht, if_neg (by simp [ho]), if_pos h]

theorem State.intake_overQuota (hc : r.needs ≤ s.freeCount n) (h : s.reg n .TLY_QUOTA_QUOTA p.val < s.openWork n p + r.needs) :
    s.intake n p r dats u = (s.addReg n .TLY_STAT4_OVER_QUOTA).refuse n p r Ans.RETRY := by
  rw [State.intake_here hl hs hlt ht, if_neg (by simp [ho]), if_neg (by omega), if_pos h]

/-- R126 check 7: a request for one line that passes every check opens its tally. -/
theorem State.intake_one (hh : r.haul = false) (hc : 1 ≤ s.freeCount n) (hq : s.openWork n p + 1 ≤ s.reg n .TLY_QUOTA_QUOTA p.val) :
    s.intake n p r dats u = ((s.openOne n p r dats u).quotaWake n p ((s.openOne n p r dats u).openWork n p)).noteTaken n 1 := by
  have hneeds : r.needs = 1 := by simp [Tub.needs, hh]
  rw [State.intake_here hl hs hlt ht, hneeds, if_neg (by simp [ho]), if_neg (by omega), if_neg (by omega)]
  simp only [hh, Bool.false_eq_true, if_false]

end

/-! ### What taking the entry leaves -/

theorem State.sh_inTaken (s : State) (n : Shaft) (p : Portal) :
    (s.inTaken n p).sh n = { s.sh n with portals := (s.sh n).portals.upd p (fun x => { x with inGot := [] }) } := s.sh_updPtl n p _

theorem State.reg_inTaken (s : State) (n : Shaft) (p : Portal) (m : Shaft) (f : Fld) (e : Nat) : (s.inTaken n p).reg m f e = s.reg m f e := rfl
theorem State.admissionShut_inTaken (s : State) (n : Shaft) (p : Portal) : (s.inTaken n p).admissionShut n = s.admissionShut n := rfl

theorem State.late_inTaken (s : State) (n : Shaft) (p : Portal) (r : Tub) : (s.inTaken n p).late n r = s.late n r := by
  simp only [State.late, State.passed, State.sh_inTaken, State.reg_inTaken]

/-- Which tallies are used, and for what. -/
theorem State.usedTallies_inTaken (s : State) (n : Shaft) (p : Portal) : (s.inTaken n p).usedTallies n = s.usedTallies n := by
  simp only [State.usedTallies, State.sh_inTaken]

theorem State.freeCount_inTaken (s : State) (n : Shaft) (p : Portal) : (s.inTaken n p).freeCount n = s.freeCount n := by
  simp only [State.freeCount, State.usedTallies_inTaken]
  rfl

theorem State.freeTally_inTaken (s : State) (n : Shaft) (p : Portal) : (s.inTaken n p).freeTally n = s.freeTally n := by
  simp only [State.freeTally, State.usedTallies_inTaken, State.reserveBase, State.reg_inTaken]

theorem State.openWork_inTaken (s : State) (n : Shaft) (p q : Portal) : (s.inTaken n p).openWork n q = s.openWork n q := by
  simp only [State.openWork, State.sh_inTaken]

/-- An answer of admission is made from the tub of the request alone (R364). -/
theorem State.refuse_inTaken {a : State} (ha : a.sh n = (s.inTaken n p).sh n) (r : Tub) (i : Nat) :
    a.refuse n p r i = a.updPtl n p (fun x => { x with lane := x.lane ++ [s.answerTub n i r.body true] }) := by
  rw [State.refuse, State.answerTub_of_formers (s := s) (by rw [ha, State.sh_inTaken]), State.lane]

end
end Sys2Proof.Machine
end

section
/-! SUPPORT. A tally that has been opened and is served (R129, R132, R148, R172 to R176): on the way it stays what it was opened as, whatever waits, recalls and
victims the service brings, and its shaft's portals are left alone. -/

namespace Sys2Proof.Machine

/-! ### Which tallies are taken -/

theorem Tbl.mem_of_get_ne {V : Type} {d : V} {l : Tbl V} {k : Nat} (h : Tbl.get d l k ≠ d) : (k, Tbl.get d l k) ∈ l := by
  induction l with
  | nil => exact absurd rfl h
  | cons e l ih =>
    obtain ⟨j, v⟩ := e
    by_cases hk : k = j
    · subst hk
      simp [Tbl.get]
    · simp only [Tbl.get, if_neg hk] at h ⊢
      exact List.mem_cons_of_mem _ (ih h)

/-- A tally that is not FREE is in use. -/
theorem State.mem_usedTallies {s : State} {n : Shaft} {t : Nat} (h : (s.tally n t).st ≠ .free) : t ∈ s.usedTallies n := by
  have hmem : (t, s.tally n t) ∈ (s.sh n).tallies := Tbl.mem_of_get_ne (fun hz => h (by rw [State.tally, hz]; rfl))
  exact List.mem_map.mpr ⟨_, List.mem_filter.mpr ⟨hmem, by simpa using h⟩, rfl⟩

theorem not_mem_of_lowestFree {used : List Nat} {base k i : Nat} (h : lowestFree used base k = some i) : i ∉ used := by
  induction k generalizing base with
  | zero => simp [lowestFree] at h
  | succ k ih =>
    simp only [lowestFree] at h
    split at h
    · exact ih h
    · next hn =>
      obtain rfl : base = i := by simpa using h
      simpa using hn

/-- The reserve gives out no tally in use (R127). -/
theorem State.freeReserve_ne {s : State} {n : Shaft} {t m : Nat} (hlive : (s.tally n t).st ≠ .free) (h : s.freeReserve n = some m) : m ≠ t := by
  rintro rfl
  exact not_mem_of_lowestFree h (State.mem_usedTallies hlive)

/-! ### What a tally stays -/

/-- What a tally is opened with and keeps while it is served (R129). -/
def Tally.identity (y : Tally) : Kind × BitVec 8 × Portal × BitVec 10 × DWord × BitVec 32 × BitVec 32 × BitVec 512 × Bool × Nat × Spec :=
  (y.kind, y.gen, y.portal, y.agent, y.lineAddr, y.deadline, y.stamp, y.request, y.epoch, y.pending, y.spec)

/-- From `s` to `a` tally `t` stays what it is, and the portals of the shaft with their widths are left alone. -/
structure State.Serves (s a : State) (n : Shaft) (t : Nat) : Prop where
  identity : (a.tally n t).identity = (s.tally n t).identity
  live : (s.tally n t).st ≠ .free → (a.tally n t).st ≠ .free
  portals : (a.sh n).portals = (s.sh n).portals
  width : ∀ f ∈ [Fld.PTL_STATE_PRESENT, .PTL_STATE_TRAINED], ∀ e, a.reg n f e = s.reg n f e

/-- A change of a tally's record that leaves what it is, and does not free it. -/
def Tally.Mild (f : Tally → Tally) : Prop := ∀ y, (f y).identity = y.identity ∧ (y.st ≠ .free → (f y).st ≠ .free)

namespace State.Serves

variable {s a : State} {n : Shaft} {t m : Nat}

theorem refl (s : State) (n : Shaft) (t : Nat) : s.Serves s n t := ⟨rfl, id, rfl, fun _ _ _ => rfl⟩

/-- Serving what shows the same tallies and portals. -/
theorem of_sh (h : s.Serves a n t) {b : State} (htallies : (b.sh n).tallies = (a.sh n).tallies) (hportals : (b.sh n).portals = (a.sh n).portals)
    (hwidth : ∀ f ∈ [Fld.PTL_STATE_PRESENT, .PTL_STATE_TRAINED], ∀ e, b.reg n f e = a.reg n f e) : s.Serves b n t := by
  have htally : b.tally n t = a.tally n t := State.tally_of_sh htallies t
  exact ⟨by rw [htally]; exact h.identity, by rw [htally]; exact h.live, hportals.trans h.portals, fun f hf e => (hwidth f hf e).trans (h.width f hf e)⟩

theorem updSh (h : s.Serves a n t) {F : ShaftSt → ShaftSt} (htallies : ∀ x, (F x).tallies = x.tallies := by intro; rfl)
    (hportals : ∀ x, (F x).portals = x.portals := by intro; rfl) :
    s.Serves (a.updSh n F) n t :=
  h.of_sh (by rw [State.sh_updSh_same, htallies]) (by rw [State.sh_updSh_same, hportals]) (fun _ _ _ => rfl)

theorem setF (h : s.Serves a n t) {f : Fld} {sc e v : Nat} (hf : f ∉ [Fld.PTL_STATE_PRESENT, .PTL_STATE_TRAINED] := by decide) :
    s.Serves (a.setF f sc e v) n t :=
  h.of_sh rfl rfl (fun _ hg _ => State.getF_setF_field a v (fun hgf => hf (hgf ▸ hg)))

theorem limEvent (h : s.Serves a n t) (c : BitVec 16) (v : BitVec 8) (unit : Nat) (d : Nat → BitVec 96) (key k : Nat) :
    s.Serves (a.limEvent n c v unit d key k) n t :=
  h.of_sh (a.limEvent_keeps n ShaftSt.tallies (fun _ _ => rfl) ..) (a.limEvent_keeps n ShaftSt.portals (fun _ _ => rfl) ..)
    (fun f hf e => a.reg_limEvent n n c v unit d key k (by rintro rfl; revert hf; decide))

theorem updTally_other (h : s.Serves a n t) (hm : m ≠ t) (f : Tally → Tally) : s.Serves (a.updTally n m f) n t := by
  have htally : (a.updTally n m f).tally n t = a.tally n t := State.tally_updTally_other a n f (Ne.symm hm)
  exact ⟨by rw [htally]; exact h.identity, by rw [htally]; exact h.live, by rw [State.sh_updTally]; exact h.portals, h.width⟩

theorem updTally (h : s.Serves a n t) {f : Tally → Tally} (hf : Tally.Mild f := by exact fun _ => ⟨rfl, by simp⟩) : s.Serves (a.updTally n m f) n t := by
  by_cases hm : m = t
  · subst hm
    exact ⟨by rw [State.tally_updTally_same, (hf _).1]; exact h.identity, fun hs => by rw [State.tally_updTally_same]; exact (hf _).2 (h.live hs),
      by rw [State.sh_updTally]; exact h.portals, h.width⟩
  · exact h.updTally_other hm f

theorem sendWork (h : s.Serves a n t) (w : Work) : s.Serves (a.sendWork n w) n t :=
  h.of_sh (by rw [State.sh_sendWork]) (by rw [State.sh_sendWork]) (fun f hf e => a.reg_sendWork n n w (by rintro rfl; revert hf; decide))

theorem dispatchTally (h : s.Serves a n t) (m : Nat) : s.Serves (a.dispatchTally n m) n t :=
  (h.updTally).sendWork _

theorem setEnt (h : s.Serves a n t) (set w : Nat) (e : DirEnt) : s.Serves (a.setEnt n set w e) n t := h.updSh
theorem setLock (h : s.Serves a n t) (l : Nat) (r : Option LockRec) : s.Serves (a.setLock n l r) n t := h.updSh

/-- R121: a tub put into haulage. -/
theorem inject (h : s.Serves a n t) (x : Tub) (src : Pos) (d : BitVec 8) (act : Arrive) (k : Option Nat) (p : Option Portal) :
    s.Serves (a.inject n x src d act k p) n t := by
  unfold State.inject
  split
  · exact (h.setF).limEvent ..
  · exact h.updSh

/-! ### Waiting, recalls and victims -/

theorem park (h : s.Serves a n t) (m l : Nat) (r : LockRec) : s.Serves (a.park n m l r) n t := by
  have hholder : ∀ j, s.Serves ((a.setLock n l (some { r with queue := r.queue ++ [m] })).updTally n j (fun y => { y with holdTail := some m })) n t :=
    fun j => (h.setLock _ _).updTally
  simp only [State.park]
  refine State.Serves.updTally ?_
  split
  · exact h.setLock _ _
  · exact hholder _

theorem recallReady (h : s.Serves a n t) (hm : m ≠ t) : s.Serves (a.recallReady n m) n t := by
  unfold State.recallReady
  split
  · exact h
  · exact (h.updTally_other hm _).dispatchTally _

theorem recallLines (h : s.Serves a n t) (hm : m ≠ t) (l : List Nat) : s.Serves (a.recallLines n m l) n t := by
  induction l generalizing a with
  | nil => exact h.recallReady hm
  | cons i rest ih =>
    unfold State.recallLines
    split
    · exact h
    · dsimp only
      split
      · exact (h.park _ _ _).updTally_other hm _
      · exact ih (((h.setLock _ _).updTally_other hm _).setEnt _ _ _)

/-- R176: a recall opens with another tally. -/
theorem openRecall (h : s.Serves a n t) (hm : m ≠ t) (set w : Nat) (c : RecallFor) : s.Serves (a.openRecall n m set w c) n t := by
  simp only [State.openRecall]
  refine State.Serves.recallLines ?_ hm _
  have hopen : ∀ i, s.Serves (a.openTally n m i) n t := fun i => (h.updTally_other hm _).setF
  have hrec : ∀ (i : TallyInit) (f : Tally → Tally) (r : Option Nat),
      s.Serves (((((a.openTally n m i).updTally n m f).setRecallOf n set w r).forgetEvict n set w).addReg n .DIR_STAT_RECALLS) n t := fun i f r =>
    (((((hopen i).updTally_other hm f).updSh).updSh).setF)
  split
  · exact ((hrec _ _ _).setF).updSh
  · exact hrec _ _ _

section
variable (hlive : (s.tally n t).st ≠ .free)
include hlive

theorem recallNow (h : s.Serves a n t) (set w : Nat) (c : RecallFor) (wait : RecallWait) : s.Serves (a.recallNow n set w c wait) n t := by
  unfold State.recallNow
  split
  · next m hfree =>
    split
    · exact h.openRecall (State.freeReserve_ne (h.live hlive) hfree) _ _ _
    · exact h.updSh
  · exact h.updSh

theorem tryVictim (h : s.Serves a n t) (set : Nat) : s.Serves (a.tryVictim n set) n t := by
  unfold State.tryVictim
  split
  · exact h
  · split
    · exact (h.setF).limEvent ..
    · exact h.recallNow hlive _ _ _ _

end

/-! ### The line -/

theorem foldl {α : Type} (h : s.Serves a n t) (f : State → α → State) (hf : ∀ b x, s.Serves b n t → s.Serves (f b x) n t) (l : List α) :
    s.Serves (l.foldl f a) n t := foldl_keeps (fun b => s.Serves b n t) f hf l a h

theorem touchWay (h : s.Serves a n t) (set w : Nat) (taken : Bool) : s.Serves (a.touchWay n set w taken) n t := by
  unfold State.touchWay
  extract_lets age aged
  refine State.Serves.setEnt (h.foldl _ (fun b v hb => ?_) _) _ _ _
  dsimp only
  split
  · exact hb.setEnt _ _ _
  · exact hb

theorem hitLine (h : s.Serves a n t) (m l w : Nat) : s.Serves (a.hitLine n m l w) n t :=
  (((h.setEnt _ _ _).touchWay _ _ _).updTally).dispatchTally _

theorem newLine (h : s.Serves a n t) (m l w : Nat) : s.Serves (a.newLine n m l w) n t := by
  have htake : s.Serves (a.takeWay n (homeSet l) w (homeTag l) (homeIdx l)) n t :=
    ((h.setEnt _ _ _).touchWay _ _ _).setF
  exact ((htake.foldl _ (fun b i hb => hb.setEnt _ _ _) _).updTally).dispatchTally _

section
variable (hlive : (s.tally n t).st ≠ .free)
include hlive

theorem allocate (h : s.Serves a n t) (m l : Nat) : s.Serves (a.allocate n m l) n t := by
  simp only [State.allocate]
  split
  · exact h.hitLine _ _ _
  · split
    · exact h.newLine _ _ _
    · exact State.Serves.tryVictim hlive ((h.updSh).updTally) _

theorem acquire (h : s.Serves a n t) (m l : Nat) : s.Serves (a.acquire n m l) n t := by
  unfold State.acquire
  split
  · exact h.park _ _ _
  · exact State.Serves.allocate hlive ((h.setLock _ _).updTally) _ _

/-! ### The claim checks (R148) -/

omit hlive in
theorem claimChecks (h : s.Serves a n t) (m : Nat) : s.Serves (a.claimChecks n m).1 n t := by
  have hclaim : ∀ c, s.Serves (a.updTally n m (fun y => { y with claim := some c })) n t := fun c => h.updTally
  unfold State.claimChecks
  dsimp only
  split
  · exact h.setF
  · split_ifs
    · exact (hclaim _).setF
    · exact hclaim _
    · exact (hclaim _).setF

theorem serve (h : s.Serves a n t) (hkind : (s.tally n t).kind ≠ .haulLine) : s.Serves (a.serve n t .good) n t := by
  have hchecks := h.claimChecks t
  have hsame : ((a.claimChecks n t).1.tally n t).kind = (s.tally n t).kind := congrArg Prod.fst hchecks.identity
  have hkind' : ((a.claimChecks n t).1.tally n t).kind ≠ .haulLine := by rwa [hsame]
  unfold State.serve
  dsimp only
  split
  · simp only [State.dirCheck, ite_self]
    exact State.Serves.acquire hlive hchecks _ _
  · rw [if_neg hkind']
    refine State.Serves.inject (State.Serves.updTally ?_) ..
    exact hchecks.updTally.updSh

end
end State.Serves
end Sys2Proof.Machine
end

section
/-! SUPPORT. A request for one line that has passed every check (R126, R129, R132, R148, R172): the tally it opens, and where its service takes it when its
address is unmapped and when its line is found. -/

namespace Sys2Proof.Machine

section
variable {s : State} {n : Shaft} {p : Portal} {r : Tub} {t : Nat}

/-! ### Opening -/

theorem State.tally_setReg (s : State) (n m : Shaft) (f : Fld) (v e t : Nat) : (s.setReg m f v e).tally n t = s.tally n t := rfl

/-- R129: a tally that opens is OPEN, is what it was opened as, and is no recall. -/
theorem State.tally_openTally (s : State) (n : Shaft) (t : Nat) (i : TallyInit) :
    ((s.openTally n t i).tally n t).st = .opn ∧ ((s.openTally n t i).tally n t).recallRec = none ∧
    ((s.openTally n t i).tally n t).identity =
      (i.kind, (s.tally n t).gen + 1, i.portal, i.agent, i.lineAddr, i.deadline, i.stamp, i.request, i.epoch, i.pending, .none) := by
  simp only [State.openTally, State.tally_setReg, State.tally_updTally_same]
  exact ⟨trivial, rfl, rfl⟩

theorem State.openTally_keeps {α : Type} (s : State) (n : Shaft) (t : Nat) (i : TallyInit) (proj : ShaftSt → α)
    (h : ∀ x ys, proj { x with tallies := ys } = proj x) : proj ((s.openTally n t i).sh n) = proj (s.sh n) := by
  simp only [State.openTally, State.sh_setReg, State.sh_updTally]
  exact h _ _

theorem State.reg_openTally (s : State) (n m : Shaft) (t : Nat) (i : TallyInit) {g : Fld} (hg : g ≠ .TLY_COUNT_PEAK) (e : Nat) :
    (s.openTally n t i).reg m g e = s.reg m g e := State.reg_setReg_field hg

/-- R126 check 7: a request without DAT tubs opens the lowest FREE tally and is served. -/
theorem State.openOne_of_alone (h : s.freeTally n = some t) (u : DirCheck) :
    s.openOne n p r [] u = (s.openTally n t (s.initFor n p r .line)).serve n t u := by
  have hst := (s.tally_openTally n t (s.initFor n p r .line)).1
  simp only [State.openOne, h, List.foldl_nil]
  exact if_pos hst

/-! ### After admission -/

/-- R341: a portal on all the lanes it trained has no reduced quota. -/
theorem State.quotaWake_of_full (h : s.reg n .PTL_STATE_PRESENT p.val = s.reg n .PTL_STATE_TRAINED p.val) (work : Nat) :
    s.quotaWake n p work = s := by
  simp [State.quotaWake, State.overWidth, h]

/-- R417: the count of tallies opened stands in the thermal record. -/
theorem State.noteTaken_keeps {α : Type} (s : State) (n : Shaft) (k : Nat) (proj : ShaftSt → α) (h : ∀ x y, proj { x with thermal := y } = proj x) :
    proj ((s.noteTaken n k).sh n) = proj (s.sh n) := by
  unfold State.noteTaken
  split
  · rfl
  · rw [State.sh_updSh_same]; exact h _ _

theorem State.noteTaken_regs (s : State) (n : Shaft) (k : Nat) : (s.noteTaken n k).regs = s.regs := by
  unfold State.noteTaken
  split <;> rfl

/-! ### The claim checks (R148) -/

/-- R148: the claim of an address of the plane. -/
theorem State.claimOf_of_lt {a : DWord} (h : a.toNat < 2 ^ 40) : s.claimOf n a =
    if s.regB n .CLM_MAP_VALID (a.toNat / 2 ^ 30) && s.regB n .CLM_ENTRY0_VALID (s.reg n .CLM_MAP_CLAIM (a.toNat / 2 ^ 30)) then
      some (s.reg n .CLM_MAP_CLAIM (a.toNat / 2 ^ 30)) else none := by
  simp only [State.claimOf, granule_of_lt h]

/-- R148: an unmapped tally is DONE, its answer on its way to its portal's egress queue. -/
theorem State.serve_of_unmapped (h : s.claimOf n (s.tally n t).lineAddr = none) (hk : (s.tally n t).kind ≠ .haulLine) (u : DirCheck) :
    s.serve n t u = (((s.addReg n .CLM_STAT_UNMAPPED).tallyDone n t).answerSent n t).lodeSend n (s.tally n t).portal
      (s.tallyAnswer n t Ans.UNMAPPED false) := by
  have hchecks : s.claimChecks n t = (s.addReg n .CLM_STAT_UNMAPPED, some Ans.UNMAPPED) := by simp only [State.claimChecks, h]
  have htally := s.tally_addReg n n .CLM_STAT_UNMAPPED 0 1 t
  simp only [State.serve, hchecks, htally, if_neg hk]
  rfl

/-- R148: a tally with the rights acquires its line. -/
theorem State.serve_of_rights {c : Nat} (hclaim : s.claimOf n (s.tally n t).lineAddr = some c) (hrec : (s.tally n t).recallRec = none)
    (hcache : (s.reg n .DIR_NEED_NEED ((s.tally n t).request.extractLsb' 0 8).toNat).testBit 2 = true → s.regB n .CLM_ENTRY0_CACHEABLE c = true)
    (hrights : s.rightsHeld n c (s.reg n .DIR_NEED_NEED ((s.tally n t).request.extractLsb' 0 8).toNat) (s.tally n t).agent = true) :
    s.serve n t .good = (s.updTally n t (fun y => { y with claim := some c })).acquire n t (homeLine c (s.tally n t).lineAddr) := by
  have hneed : ((s.reg n .DIR_NEED_NEED ((s.tally n t).request.extractLsb' 0 8).toNat).testBit 2 && !s.regB n .CLM_ENTRY0_CACHEABLE c) = false := by
    cases hb : (s.reg n .DIR_NEED_NEED ((s.tally n t).request.extractLsb' 0 8).toNat).testBit 2
    · rfl
    · simp [hcache hb]
  have hchecks : s.claimChecks n t = (s.updTally n t (fun y => { y with claim := some c }), none) := by
    simp only [State.claimChecks, hclaim, hneed, Bool.false_eq_true, if_false]
    exact if_pos hrights
  have hline : ((s.updTally n t (fun y => { y with claim := some c })).tally n t).line = homeLine c (s.tally n t).lineAddr := by
    rw [State.tally_updTally_same, Tally.line, Tally.inClaim, hrec]
    rfl
  simp only [State.serve, hchecks, State.dirCheck, ite_self, hline]

/-! ### The line (R132, R172) -/

theorem State.ent_of_sh {a : State} (h : (a.sh n).dir = (s.sh n).dir) (set w : Nat) : a.ent n set w = s.ent n set w := by
  rw [State.ent, h, ← State.ent]

theorem State.findWay_of_sh {a : State} (hd : (a.sh n).dir = (s.sh n).dir) (hq : (a.sh n).quarantined = (s.sh n).quarantined)
    (hr : (a.sh n).recalls = (s.sh n).recalls) (set : Nat) (tag : BitVec 11) : a.findWay n set tag = s.findWay n set tag := by
  have hquar : ∀ w, a.quarantine n set w = s.quarantine n set w := fun w => by rw [State.quarantine, hq, ← State.quarantine]
  have hrec : ∀ w, a.recallOf n set w = s.recallOf n set w := fun w => by rw [State.recallOf, hr, ← State.recallOf]
  have hfree : ∀ w, a.wayFree n set w = s.wayFree n set w := fun w => by
    rw [State.wayFree, hquar, hrec, State.ent_of_sh hd, ← State.wayFree]
  exact List.find?_congr fun w _ => by rw [hquar, hfree, State.ent_of_sh hd]

/-- R132: an unlocked line whose sector has an entry is taken in it. -/
theorem State.acquire_of_hit {l w : Nat} (hlock : s.lockAt n l = none) (hway : s.findWay n (homeSet l) (homeTag l) = some w) :
    s.acquire n t l = ((s.setLock n l (some ⟨t, []⟩)).updTally n t (fun y => { y with lock := true })).hitLine n t l w := by
  have hsh : (((s.setLock n l (some ⟨t, []⟩)).updTally n t (fun y => { y with lock := true })).sh n) = _ :=
    (State.sh_updTally _ n t _).trans (by rw [State.sh_setLock])
  have hway' := (State.findWay_of_sh (s := s) (by rw [hsh]) (by rw [hsh]) (by rw [hsh]) (homeSet l) (homeTag l)).trans hway
  simp only [State.acquire, hlock, State.allocate, hway']

theorem DirEnt.line_setLine_same (e : DirEnt) (i : Nat) (v : BitVec 3) : (e.setLine i v).line i = v := by
  obtain h | h | h | h : i % 4 = 0 ∨ i % 4 = 1 ∨ i % 4 = 2 ∨ i % 4 = 3 := by omega
  all_goals simp only [DirEnt.setLine, DirEnt.line, h]

theorem DirEnt.line_age (e : DirEnt) (a : BitVec 3) (i : Nat) : ({ e with age := a }).line i = e.line i := rfl

theorem State.ent_setEnt_same (s : State) (n : Shaft) (set w : Nat) (e : DirEnt) : (s.setEnt n set w e).ent n set w = e := by
  rw [State.ent, State.sh_setEnt, Tbl.get_set_same]

theorem State.ent_setEnt_other (s : State) (n : Shaft) (set : Nat) {v w : Nat} (e : DirEnt) (h : w ≠ v) :
    (s.setEnt n set v e).ent n set w = s.ent n set w := by
  simpa only [State.ent, State.sh_setEnt] using Tbl.get_set_other DirEnt.zero _ e (by omega)

/-- R173: the way that is hit or taken is the youngest, and is otherwise as it was. -/
theorem State.ent_touchWay_same (s : State) (n : Shaft) (set w : Nat) (taken : Bool) :
    (s.touchWay n set w taken).ent n set w = { s.ent n set w with age := 0 } := by
  unfold State.touchWay
  extract_lets age aged
  have haged : aged.ent n set w = s.ent n set w := by
    refine foldl_keeps (fun a : State => a.ent n set w = s.ent n set w) _ ?_ _ s rfl
    intro a v ha
    dsimp only
    split
    · next hv => rw [State.ent_setEnt_other _ n set _ (Ne.symm hv.1), ha]
    · exact ha
  exact (State.ent_setEnt_same ..).trans (congrArg (fun e : DirEnt => { e with age := 0 }) haged)

theorem State.touchWay_keeps {α : Type} (s : State) (n : Shaft) (set w : Nat) (taken : Bool) (proj : ShaftSt → α)
    (h : ∀ x d, proj { x with dir := d } = proj x) : proj ((s.touchWay n set w taken).sh n) = proj (s.sh n) := by
  unfold State.touchWay
  extract_lets age aged
  have hent : ∀ (a : State) v e, proj ((a.setEnt n set v e).sh n) = proj (a.sh n) := fun a v e => by
    rw [State.sh_setEnt]; exact h _ _
  rw [hent]
  refine foldl_keeps (fun a : State => proj (a.sh n) = proj (s.sh n)) _ ?_ _ s rfl
  intro a v ha
  dsimp only
  split
  · rw [hent, ha]
  · exact ha

theorem State.sh_dispatchTally (s : State) (n : Shaft) (t : Nat) : (s.dispatchTally n t).sh n =
    { s.sh n with
      tallies := Tbl.upd Tally.zero (s.sh n).tallies t (fun y => { y with st := .opn, parked := false, waitFor := .nothing })
      dispatchQ := (s.sh n).dispatchQ ++ [⟨t, false⟩] } := by
  rw [State.dispatchTally, State.sh_sendWork, State.sh_updTally]

/-- What is left when tally `t` has line `l` in way `w`, where it did not read BUSY. -/
structure State.Hit (s a : State) (n : Shaft) (t l w : Nat) : Prop where
  record : a.tally n t = { s.tally n t with
    prior := (s.ent n (homeSet l) w).line (homeIdx l), st := .opn, parked := false, waitFor := .nothing }
  busy : (a.ent n (homeSet l) w).line (homeIdx l) = 4
  young : (a.ent n (homeSet l) w).age = 0
  work : (a.sh n).dispatchQ = (s.sh n).dispatchQ ++ [⟨t, false⟩]
  locks : (a.sh n).locks = (s.sh n).locks

theorem State.hit_hitLine {l w : Nat} (h : (s.ent n (homeSet l) w).line (homeIdx l) ≠ 4) : s.Hit (s.hitLine n t l w) n t l w := by
  have hprior : (if (s.ent n (homeSet l) w).line (homeIdx l) = Ln.BUSY then Ln.I else (s.ent n (homeSet l) w).line (homeIdx l)) =
      (s.ent n (homeSet l) w).line (homeIdx l) := if_neg h
  have hkeeps : ∀ {α : Type} (proj : ShaftSt → α), (∀ x d, proj { x with dir := d } = proj x) →
      proj (((s.busyLine n (homeSet l) w (homeIdx l)).touchWay n (homeSet l) w false).sh n) = proj (s.sh n) := fun proj hp => by
    rw [State.touchWay_keeps _ n _ w false proj hp, State.busyLine, State.sh_setEnt]
    exact hp _ _
  have hent : ((s.hitLine n t l w).ent n (homeSet l) w) =
      { (s.ent n (homeSet l) w).setLine (homeIdx l) Ln.BUSY with age := 0 } := by
    rw [State.ent_of_sh (s := (s.busyLine n (homeSet l) w (homeIdx l)).touchWay n (homeSet l) w false)
      (by rw [State.hitLine, State.sh_dispatchTally, State.sh_updTally]), State.ent_touchWay_same, State.busyLine, State.ent_setEnt_same]
  refine ⟨?_, ?_, ?_, ?_, ?_⟩
  · rw [State.hitLine, State.dispatchTally, State.tally_sendWork, State.tally_updTally_same, State.tally_updTally_same, hprior,
      State.tally_of_sh (hkeeps ShaftSt.tallies (fun _ _ => rfl))]
  · rw [hent, DirEnt.line_age, DirEnt.line_setLine_same]; rfl
  · rw [hent]
  · rw [State.hitLine, State.sh_dispatchTally, State.sh_updTally]
    exact congrArg (· ++ _) (hkeeps ShaftSt.dispatchQ (fun _ _ => rfl))
  · rw [State.hitLine, State.sh_dispatchTally, State.sh_updTally]
    exact hkeeps ShaftSt.locks (fun _ _ => rfl)

end
end Sys2Proof.Machine
end

section
/-! SUPPORT. ADMISSION of a request for one line (R126): the machine with the request's tally just opened, and the service that follows. -/

namespace Sys2Proof.Machine

section
variable {s : State} {n : Shaft} {p : Portal} {r : Tub} {t : Nat}

/-- The entry of PTL.INQ[p] taken and tally `t` opened for request `r` (R129). -/
def State.opened (s : State) (n : Shaft) (p : Portal) (r : Tub) (t : Nat) : State :=
  (s.inTaken n p).openTally n t ((s.inTaken n p).initFor n p r .line)

theorem State.opened_keeps {α : Type} (s : State) (n : Shaft) (p : Portal) (r : Tub) (t : Nat) (proj : ShaftSt → α)
    (h : ∀ x ys ps, proj { x with tallies := ys, portals := ps } = proj x) : proj ((s.opened n p r t).sh n) = proj (s.sh n) := by
  rw [State.opened, State.openTally_keeps _ n t _ proj (fun x ys => h x ys x.portals), State.sh_inTaken]
  exact h _ (s.sh n).tallies _

theorem State.reg_opened (s : State) (n : Shaft) (p : Portal) (r : Tub) (t : Nat) (m : Shaft) {g : Fld} (hg : g ≠ .TLY_COUNT_PEAK) (e : Nat) :
    (s.opened n p r t).reg m g e = s.reg m g e := State.reg_openTally _ n m t _ hg e

theorem State.regB_opened (s : State) (n : Shaft) (p : Portal) (r : Tub) (t : Nat) (m : Shaft) {g : Fld} (hg : g ≠ .TLY_COUNT_PEAK) (e : Nat) :
    (s.opened n p r t).regB m g e = s.regB m g e := congrArg (· != 0) (s.reg_opened n p r t m hg e)

theorem State.identity_opened (s : State) (n : Shaft) (p : Portal) {r : Tub} (t : Nat) (hep : r.ep = none) :
    ((s.opened n p r t).tally n t).identity = (.line, (s.tally n t).gen + 1, p, r.srcAgent, r.addr,
      r.stamp + BitVec.ofNat 32 (s.reg n .TLY_CFG_DEADLINE_US), r.stamp, r.body, s.epoch n, 0, .none) := by
  have htally : (s.inTaken n p).tally n t = s.tally n t := State.tally_of_sh (by rw [State.sh_inTaken]) t
  obtain ⟨-, -, hident⟩ := (s.inTaken n p).tally_openTally n t ((s.inTaken n p).initFor n p r .line)
  rw [State.opened, hident, htally, State.initFor, hep]
  rfl

/-- R126: a request for one line that passes every check is served in its tally, and counted for the thermal cap (R417). -/
theorem State.admission_of_passed (hw : s.engineWorks n = true) (hgot : (s.ptl n p).inGot = [r]) (hcls : r.cls = 0) (hdata : r.data = false)
    (hhaul : r.haul = false) (hlines : r.lines = 1) (hlate : s.late n r = false) (hlt : r.addr.toNat < 2 ^ 40)
    (ht : s.reg n .SHF_ROUTE_TARGET (r.addr.toNat / 2 ^ 30) = 1) (ho : s.admissionShut n = false) (hfree : s.freeTally n = some t)
    (hc : 1 ≤ s.freeCount n) (hq : s.openWork n p + 1 ≤ s.reg n .TLY_QUOTA_QUOTA p.val)
    (hfull : s.reg n .PTL_STATE_PRESENT p.val = s.reg n .PTL_STATE_TRAINED p.val) :
    s.admission n p .good = ((s.opened n p r t).serve n t .good).noteTaken n 1 ∧
      (s.opened n p r t).Serves ((s.opened n p r t).serve n t .good) n t := by
  have hshape : shapeOk r = true := by rw [shapeOk_iff, hhaul]; exact hlines
  obtain ⟨hst, -, hident⟩ := (s.inTaken n p).tally_openTally n t ((s.inTaken n p).initFor n p r .line)
  have hkind : ((s.opened n p r t).tally n t).kind = .line := congrArg Prod.fst hident
  have hserves : (s.opened n p r t).Serves ((s.opened n p r t).serve n t .good) n t :=
    State.Serves.serve (by rw [State.opened, hst]; decide) (State.Serves.refl _ n t) (by rw [hkind]; decide)
  refine ⟨?_, hserves⟩
  have hone : (s.inTaken n p).openOne n p r [] .good = (s.opened n p r t).serve n t .good :=
    State.openOne_of_alone ((s.freeTally_inTaken n p).trans hfree) .good
  have hwidth : ((s.opened n p r t).serve n t .good).reg n .PTL_STATE_PRESENT p.val =
      ((s.opened n p r t).serve n t .good).reg n .PTL_STATE_TRAINED p.val := by
    rw [hserves.width _ (by simp), hserves.width _ (by simp), State.reg_opened _ _ _ _ _ _ (by decide),
      State.reg_opened _ _ _ _ _ _ (by decide), hfull]
  rw [State.admission_of_one hw hgot hcls hdata, State.intake_one ((s.late_inTaken n p r).trans hlate) hshape hlt ht
    ((s.admissionShut_inTaken n p).trans ho) hhaul (by rw [State.freeCount_inTaken]; exact hc) (by rw [State.openWork_inTaken]; exact hq), hone,
    State.quotaWake_of_full hwidth]

/-! ### The two ends of its service -/

/-- R92: a tub of no reserved class that the tally store sends enters haulage. -/
theorem State.lodeSend_of_class {x : Tub} (h : Cls.reserved x.cls = false) (s : State) (n : Shaft) (p : Portal) :
    s.lodeSend n p x = s.updSh n (fun h =>
      { h with flights := h.flights ++ [⟨x, .station .lode 0, .station .lode 0, 0x81, .egress p, none, none⟩] }) := by
  simp only [State.lodeSend, State.inject, h, Bool.false_eq_true, if_false]
  rfl

theorem State.sh_lodeSend_of_class {x : Tub} (h : Cls.reserved x.cls = false) (s : State) (n : Shaft) (p : Portal) : (s.lodeSend n p x).sh n =
    { s.sh n with flights := (s.sh n).flights ++ [⟨x, .station .lode 0, .station .lode 0, 0x81, .egress p, none, none⟩] } := by
  rw [State.lodeSend_of_class h, State.sh_updSh_same]

theorem State.tally_lodeSend_of_class {x : Tub} (h : Cls.reserved x.cls = false) (s : State) (n : Shaft) (p : Portal) (t : Nat) :
    (s.lodeSend n p x).tally n t = s.tally n t := State.tally_of_sh (by rw [State.sh_lodeSend_of_class h]) t

/-- Whether the address of a request is mapped (R148). -/
def State.mapped (s : State) (n : Shaft) (r : Tub) : Bool :=
  s.regB n .CLM_MAP_VALID (r.addr.toNat / 2 ^ 30) && s.regB n .CLM_ENTRY0_VALID (s.reg n .CLM_MAP_CLAIM (r.addr.toNat / 2 ^ 30))

theorem State.claimOf_opened (s : State) (n : Shaft) (p : Portal) (t : Nat) (hep : r.ep = none) (hlt : r.addr.toNat < 2 ^ 40) :
    (s.opened n p r t).claimOf n ((s.opened n p r t).tally n t).lineAddr =
      if s.mapped n r then some (s.reg n .CLM_MAP_CLAIM (r.addr.toNat / 2 ^ 30)) else none := by
  have hident := s.identity_opened n p t hep
  simp only [Tally.identity, Prod.mk.injEq] at hident
  obtain ⟨-, -, -, -, haddr, -⟩ := hident
  rw [haddr, State.claimOf_of_lt hlt, State.regB_opened _ _ _ _ _ _ (by decide), State.regB_opened _ _ _ _ _ _ (by decide),
    State.reg_opened _ _ _ _ _ _ (by decide), State.mapped]

/-- R148: a tally whose address is unmapped is DONE and counted, and its answer, made of its request and GEN, is under way to its portal. -/
theorem State.serve_unmapped_leaves (hclaim : s.claimOf n (s.tally n t).lineAddr = none) (hkind : (s.tally n t).kind = .line) :
    ((s.serve n t .good).tally n t).st = .done ∧
    (s.serve n t .good).reg n .CLM_STAT_UNMAPPED = min (s.reg n .CLM_STAT_UNMAPPED + 1) 65535 ∧
    ((s.serve n t .good).sh n).flights = (s.sh n).flights ++ [⟨(s.serve n t .good).tallyAnswer n t Ans.UNMAPPED false,
      .station .lode 0, .station .lode 0, 0x81, .egress (s.tally n t).portal, none, none⟩] := by
  have hk : (s.tally n t).kind ≠ .haulLine := by rw [hkind]; decide
  have hsent : (s.serve n t .good).tally n t = { ((s.addReg n .CLM_STAT_UNMAPPED).tallyDone n t).tally n t with ans := .sent } := by
    rw [State.serve_of_unmapped hclaim hk, State.tally_lodeSend_of_class rfl, State.answerSent, State.tally_updTally_same]
  rw [State.tally_tallyDone_same, State.tally_addReg] at hsent
  have hformers : ((s.serve n t .good).sh n).formers = (s.sh n).formers := by
    rw [State.serve_of_unmapped hclaim hk, State.sh_lodeSend_of_class rfl, State.answerSent, State.sh_updTally]
    exact State.tallyDone_keeps _ n t ShaftSt.formers (fun _ _ _ => rfl)
  refine ⟨by rw [hsent], ?_, ?_⟩
  · rw [State.serve_of_unmapped hclaim hk, State.lodeSend_of_class rfl]
    exact s.reg_addReg_same n .CLM_STAT_UNMAPPED 0 1
  · rw [State.tallyAnswer_congr hformers (by rw [hsent]) (by rw [hsent]), State.serve_of_unmapped hclaim hk,
      State.sh_lodeSend_of_class rfl, State.answerSent, State.sh_updTally]
    exact congrArg (· ++ _) (State.tallyDone_keeps _ n t ShaftSt.flights (fun _ _ _ => rfl))

/-- R148: the tally of an unmapped request. -/
theorem State.opened_unmapped (hep : r.ep = none) (hlt : r.addr.toNat < 2 ^ 40) (hm : s.mapped n r = false) :
    (((s.opened n p r t).serve n t .good).tally n t).st = .done ∧
    ((s.opened n p r t).serve n t .good).reg n .CLM_STAT_UNMAPPED = min (s.reg n .CLM_STAT_UNMAPPED + 1) 65535 ∧
    (((s.opened n p r t).serve n t .good).sh n).flights = (s.sh n).flights ++
      [⟨((s.opened n p r t).serve n t .good).tallyAnswer n t Ans.UNMAPPED false,
      .station .lode 0, .station .lode 0, 0x81, .egress p, none, none⟩] := by
  have hclaim := s.claimOf_opened n p t hep hlt
  have hident := s.identity_opened n p t hep
  simp only [Tally.identity, Prod.mk.injEq] at hident
  obtain ⟨hkind, -, hportal, -⟩ := hident
  rw [hm] at hclaim
  obtain ⟨hst, hcount, hflights⟩ := State.serve_unmapped_leaves hclaim hkind
  rw [State.reg_opened _ _ _ _ _ _ (by decide)] at hcount
  rw [hportal, s.opened_keeps n p r t ShaftSt.flights (fun _ _ _ => rfl)] at hflights
  exact ⟨hst, hcount, hflights⟩

theorem State.lockAt_updTally (s : State) (n : Shaft) (t : Nat) (f : Tally → Tally) (l : Nat) : (s.updTally n t f).lockAt n l = s.lockAt n l :=
  State.lockAt_of_sh (by rw [State.sh_updTally]) l

/-- What is left when tally `t` has its claim `c` and its line `l` in way `w` of its set (R132, R172). -/
structure State.Served (s a : State) (n : Shaft) (t c l w : Nat) : Prop where
  opn : (a.tally n t).st = .opn
  lock : (a.tally n t).lock = true
  claim : (a.tally n t).claim = some c
  prior : (a.tally n t).prior = (s.ent n (homeSet l) w).line (homeIdx l)
  holder : a.lockAt n l = some ⟨t, []⟩
  busy : (a.ent n (homeSet l) w).line (homeIdx l) = 4
  young : (a.ent n (homeSet l) w).age = 0
  work : (a.sh n).dispatchQ = (s.sh n).dispatchQ ++ [⟨t, false⟩]

/-- R132, R172: an unlocked line that is found in the directory and not BUSY is the tally's. -/
theorem State.served_acquire {c l w : Nat} (hlock : s.lockAt n l = none) (hway : s.findWay n (homeSet l) (homeTag l) = some w)
    (hbusy : (s.ent n (homeSet l) w).line (homeIdx l) ≠ 4) :
    s.Served ((s.updTally n t (fun y => { y with claim := some c })).acquire n t l) n t c l w := by
  have hsh := s.sh_updTally n t (fun y => { y with claim := some c })
  have hacquire := State.acquire_of_hit (t := t) (l := l) (w := w) ((State.lockAt_of_sh (by rw [hsh]) l).trans hlock)
    ((State.findWay_of_sh (by rw [hsh]) (by rw [hsh]) (by rw [hsh]) _ _).trans hway)
  have hlocked : ((((s.updTally n t (fun y => { y with claim := some c })).setLock n l (some ⟨t, []⟩)).updTally n t
      (fun y => { y with lock := true })).sh n).dir = (s.sh n).dir := by
    rw [State.sh_updTally, State.sh_setLock, hsh]
  obtain ⟨hrecord, hline, hyoung, hwork, hlocks⟩ := State.hit_hitLine (t := t) (l := l) (w := w) (by rw [State.ent_of_sh hlocked]; exact hbusy)
  rw [hacquire]
  rw [State.tally_updTally_same, State.tally_setLock, State.tally_updTally_same, State.ent_of_sh hlocked] at hrecord
  refine ⟨by rw [hrecord], by rw [hrecord], by rw [hrecord], by rw [hrecord], ?_, hline, hyoung, ?_⟩
  · rw [State.lockAt_of_sh hlocks, State.lockAt_updTally, State.lockAt_setLock_same]
  · rw [hwork, State.sh_updTally, State.sh_setLock, hsh]

/-- The rights of an agent's group are the same once a tally has been opened (R151, R152). -/
theorem State.rightsHeld_opened (s : State) (n : Shaft) (p : Portal) (r : Tub) (t c need : Nat) (a : BitVec 10) :
    (s.opened n p r t).rightsHeld n c need a = s.rightsHeld n c need a := by
  have hreg : ∀ (g : Fld) (e : Nat), g ≠ .TLY_COUNT_PEAK → (s.opened n p r t).reg n g e = s.reg n g e := fun g e hg =>
    s.reg_opened n p r t n hg e
  have hdev : ∀ (g : Fld) (e : Nat), g ≠ .TLY_COUNT_PEAK → (s.opened n p r t).dev g e = s.dev g e := fun g e hg => State.getF_setF_field _ _ hg
  rw [State.rightsHeld, hreg _ _ (by decide), hreg _ _ (by decide), hreg _ _ (by decide), hdev _ _ (by decide), hdev _ _ (by decide),
    hdev _ _ (by decide), ← State.rightsHeld]

/-- R132, R148, R172: the tally of a request with the rights, whose line is unlocked and found. -/
theorem State.opened_hit {c l w : Nat} (hep : r.ep = none) (hlt : r.addr.toNat < 2 ^ 40) (hm : s.mapped n r = true)
    (hc : s.reg n .CLM_MAP_CLAIM (r.addr.toNat / 2 ^ 30) = c) (hl : homeLine c r.addr = l)
    (hcache : (s.reg n .DIR_NEED_NEED r.opcode.toNat).testBit 2 = true → s.regB n .CLM_ENTRY0_CACHEABLE c = true)
    (hrights : s.rightsHeld n c (s.reg n .DIR_NEED_NEED r.opcode.toNat) r.srcAgent = true) (hlock : s.lockAt n l = none)
    (hway : s.findWay n (homeSet l) (homeTag l) = some w) (hbusy : (s.ent n (homeSet l) w).line (homeIdx l) ≠ 4) :
    s.Served ((s.opened n p r t).serve n t .good) n t c l w := by
  have hkeeps : ∀ {α : Type} (proj : ShaftSt → α), (∀ x ys ps, proj { x with tallies := ys, portals := ps } = proj x) →
      proj ((s.opened n p r t).sh n) = proj (s.sh n) := fun proj hp => s.opened_keeps n p r t proj hp
  have hclaim := s.claimOf_opened n p t hep hlt
  have hident := s.identity_opened n p t hep
  have hrec : ((s.opened n p r t).tally n t).recallRec = none := (State.tally_openTally ..).2.1
  simp only [Tally.identity, Prod.mk.injEq] at hident
  obtain ⟨-, -, -, hagent, haddr, -, -, hrequest, -⟩ := hident
  have hneed : (s.opened n p r t).reg n .DIR_NEED_NEED (((s.opened n p r t).tally n t).request.extractLsb' 0 8).toNat =
      s.reg n .DIR_NEED_NEED r.opcode.toNat := by
    rw [s.reg_opened n p r t n (by decide), hrequest]; rfl
  rw [hm, if_pos rfl, hc] at hclaim
  rw [State.serve_of_rights hclaim hrec (by rw [hneed, State.regB_opened _ _ _ _ _ _ (by decide)]; exact hcache)
    (by rw [hneed, hagent, State.rightsHeld_opened]; exact hrights), haddr, hl]
  have hdir := hkeeps ShaftSt.dir (fun _ _ _ => rfl)
  obtain ⟨hopn, hlocked, hclaimed, hprior, hholder, hbusy', hyoung, hwork⟩ := State.served_acquire (s := s.opened n p r t) (t := t) (c := c)
    ((State.lockAt_of_sh (hkeeps ShaftSt.locks (fun _ _ _ => rfl)) l).trans hlock)
    ((State.findWay_of_sh hdir (hkeeps ShaftSt.quarantined (fun _ _ _ => rfl)) (hkeeps ShaftSt.recalls (fun _ _ _ => rfl)) _ _).trans hway)
    (by rw [State.ent_of_sh hdir]; exact hbusy)
  rw [State.ent_of_sh hdir] at hprior
  rw [hkeeps ShaftSt.dispatchQ (fun _ _ _ => rfl)] at hwork
  exact ⟨hopn, hlocked, hclaimed, hprior, hholder, hbusy', hyoung, hwork⟩

end
end Sys2Proof.Machine
end

section
/-! Admission: the checks in their order, and the tally a request opens (R126, R129, R132, R141, R148, R172, R363 to R366). -/

namespace Sys2Proof.Machine

/-- R126, R141: each check that fails answers by the deadline lane, with no tally. -/
theorem admission_refuses (s : State) (n : Shaft) (p : Portal) (r : Tub) (hw : s.engineWorks n = true) (hgot : (s.ptl n p).inGot = [r])
    (hcls : r.cls = 0) (hdata : r.data = false) {a : State} {i : Nat} (ha : a.sh n = (s.inTaken n p).sh n)
    (h : (s.inTaken n p).intake n p r [] .good = a.refuse n p r i) :
    exec (.admission n p .good) s = .next (a.updPtl n p (fun x => { x with lane := x.lane ++ [s.answerTub n i r.body true] })) :=
  congrArg Host.Outcome.next ((State.admission_of_one hw hgot hcls hdata .good).trans (h.trans (State.refuse_inTaken ha r i)))

/-- Settles O27: a check that fails by the lemma of that check; a request that passes them all by its tally as opened, which its service keeps
(`State.Serves`), and by the two outcomes of the service that are stated: unmapped, and its line found. -/
theorem admission : Obligations.Admission := by
  unfold Obligations.Admission
  refine ⟨?_, ?_⟩
  · intro s n p r hw hgot hcls hdata taken due late shape here blocked need answers
    have hrefuse : ∀ {a : State} {i : Nat}, a.sh n = taken.sh n → taken.intake n p r [] .good = a.refuse n p r i → answers a i :=
      fun ha h => admission_refuses s n p r hw hgot hcls hdata ha h
    have hlate : ∀ b, s.passed n due = b → taken.late n r = b := fun b h => (s.late_inTaken n p r).trans h
    have hontime : ¬late → taken.late n r = false := fun h => hlate false (by simpa [late] using h)
    have hshape : shape → shapeOk r = true := (shapeOk_iff r).mpr
    refine ⟨fun h => ?_, fun hl hh hz => ?_, fun hl he hs => ?_, fun hl hs hb hfwd => ?_, fun hl hs hh ho => ?_, fun hl hs hh ho hc => ?_,
      fun hl hs hh ho hc hq => ?_⟩
    · exact hrefuse rfl (State.intake_late (hlate true h))
    · exact hrefuse rfl (State.intake_empty (hontime hl) ⟨hh, hz⟩)
    · exact hrefuse rfl (State.intake_badShape (hontime hl) he (by rw [← Bool.not_eq_true, shapeOk_iff]; exact hs))
    · exact hrefuse rfl (State.intake_blocked (hontime hl) (hshape hs) hb hfwd)
    · exact hrefuse rfl (State.intake_shut (hontime hl) (hshape hs) hh.1 hh.2 ho)
    · exact hrefuse rfl (State.intake_noTally (hontime hl) (hshape hs) hh.1 hh.2 ho ((s.freeCount_inTaken n p).trans_lt hc))
    · exact hrefuse rfl (State.intake_overQuota (hontime hl) (hshape hs) hh.1 hh.2 ho (hc.trans_eq (s.freeCount_inTaken n p).symm)
        (hq.trans_eq (congrArg (· + need) (s.openWork_inTaken n p p).symm)))
  · intro s n p r t hw hgot hcls hdata hhaul hlines hep due hlate hlt ht ho hfree hc hq hfull g c mapped
    obtain ⟨hadm, hserves⟩ := State.admission_of_passed hw hgot hcls hdata hhaul hlines hlate hlt ht ho hfree hc hq hfull
    have hident := hserves.identity.trans (s.identity_opened n p t hep)
    have htally : (((s.opened n p r t).serve n t .good).noteTaken n 1).tally n t = ((s.opened n p r t).serve n t .good).tally n t :=
      State.tally_of_sh (State.noteTaken_keeps _ n 1 ShaftSt.tallies (fun _ _ => rfl)) t
    have hgot' : ((((s.opened n p r t).serve n t .good).noteTaken n 1).ptl n p).inGot = [] := by
      rw [State.ptl, State.noteTaken_keeps _ n 1 ShaftSt.portals (fun _ _ => rfl), hserves.portals, State.opened,
        State.openTally_keeps _ n t _ ShaftSt.portals (fun _ _ => rfl), State.sh_inTaken, Oct.get_upd_same]
    refine ⟨_, congrArg Host.Outcome.next hadm, ?_⟩
    simp only [htally]
    simp only [Tally.identity, Prod.mk.injEq] at hident
    obtain ⟨hkind, hgen, hportal, hagent, haddr, hdue, hstamp, hrequest, hepoch, hpending, hspec⟩ := hident
    refine ⟨hkind, hgen, hportal, hagent, haddr, hdue, hstamp, hrequest, hepoch, hpending, hspec, hgot', fun hm => ?_,
      fun w hm hcache hrights hlock hway hbusy => ?_⟩
    · obtain ⟨hst, hcount, hflights⟩ := State.opened_unmapped (p := p) (t := t) hep hlt hm
      refine ⟨hst, (State.reg_of_regs n (State.noteTaken_regs _ n 1) _ _).trans hcount, ?_⟩
      rw [State.noteTaken_keeps _ n 1 ShaftSt.flights (fun _ _ => rfl), hflights,
        State.tallyAnswer_congr (State.noteTaken_keeps _ n 1 ShaftSt.formers (fun _ _ => rfl)) (by rw [htally]) (by rw [htally])]
    · obtain ⟨hopn, hlocked, hclaim, hprior, hholder, hline, hyoung, hwork⟩ :=
        State.opened_hit (p := p) (t := t) hep hlt hm rfl rfl hcache hrights hlock hway hbusy
      have hdir := State.noteTaken_keeps ((s.opened n p r t).serve n t .good) n 1 ShaftSt.dir (fun _ _ => rfl)
      rw [State.lockAt_of_sh (State.noteTaken_keeps _ n 1 ShaftSt.locks (fun _ _ => rfl)), State.ent_of_sh hdir,
        State.noteTaken_keeps _ n 1 ShaftSt.dispatchQ (fun _ _ => rfl)]
      exact ⟨hopn, hlocked, hclaim, hprior, hholder, hline, hyoung, hwork⟩

end Sys2Proof.Machine
end

section
/-! SUPPORT. Portals after a change of one of them, and the credits a station withholds (R90). -/

namespace Sys2Proof.Machine

section
variable {s a : State} {n : Shaft} {p : Portal}

theorem State.ptl_of_sh (h : (a.sh n).portals = (s.sh n).portals) (p : Portal) : a.ptl n p = s.ptl n p := by
  rw [State.ptl, h, ← State.ptl]

theorem State.updPtl_updPtl (s : State) (n : Shaft) (p : Portal) (f g : PortalSt → PortalSt) :
    (s.updPtl n p f).updPtl n p g = s.updPtl n p (fun x => g (f x)) := by
  simp [State.updPtl]

/-- A change of a portal is what it makes of that portal. -/
theorem State.updPtl_congr {f g : PortalSt → PortalSt} (h : f (s.ptl n p) = g (s.ptl n p)) : s.updPtl n p f = s.updPtl n p g := by
  simp only [State.ptl, State.sh] at h
  simp only [State.updPtl, State.updSh, Oct.upd, h]

theorem State.ptl_addReg (s : State) (n m : Shaft) (p : Portal) (f : Fld) (e k : Nat) : (s.addReg m f e k).ptl n p = s.ptl n p := rfl
theorem State.ptl_setReg (s : State) (n m : Shaft) (p : Portal) (f : Fld) (v e : Nat) : (s.setReg m f v e).ptl n p = s.ptl n p := rfl

/-- Whether new requests are cooled says nothing of the portals (R366). -/
theorem State.cooling_updPtl (s : State) (n : Shaft) (p : Portal) (f : PortalSt → PortalSt) : (s.updPtl n p f).cooling n = s.cooling n := by
  rw [State.cooling, State.seamsOut, State.sh_updPtl]
  rfl

theorem State.croute_updPtl (s : State) (n : Shaft) (p q : Portal) (f : PortalSt → PortalSt) (c : BitVec 4) :
    (s.updPtl n p f).croute n q c = s.croute n q c := by
  simp only [State.croute, State.sh_updPtl]

/-- R90: the check of a station's credits changes the portal's own mark of it and nothing else of the shaft. -/
theorem State.creditCheck_keeps {α : Type} (s : State) (n : Shaft) (p : Portal) (proj : ShaftSt → α)
    (h : ∀ x ps, proj { x with portals := ps } = proj x) : proj ((s.creditCheck n p).sh n) = proj (s.sh n) := by
  have hupd : ∀ f, proj ((s.updPtl n p f).sh n) = proj (s.sh n) := fun f => by rw [State.sh_updPtl]; exact h _ _
  simp only [State.creditCheck]
  split_ifs
  · exact hupd _
  · rfl
  · exact hupd _
  · rfl

theorem State.ptl_creditCheck {α : Type} (s : State) (n : Shaft) (p : Portal) (proj : PortalSt → α)
    (h : ∀ x b, proj { x with creditHold := b } = proj x) : proj ((s.creditCheck n p).ptl n p) = proj (s.ptl n p) := by
  have hupd : ∀ b, proj ((s.updPtl n p (fun x => { x with creditHold := b })).ptl n p) = proj (s.ptl n p) := fun b => by
    rw [State.ptl_updPtl_same]; exact h _ _
  simp only [State.creditCheck]
  split_ifs
  · exact hupd _
  · rfl
  · exact hupd _
  · rfl

theorem State.reg_creditCheck (s : State) (n m : Shaft) (p : Portal) {g : Fld} (hg : g ≠ .HAU_STAT2_CREDIT_HOLD) (e : Nat) :
    (s.creditCheck n p).reg m g e = s.reg m g e := by
  simp only [State.creditCheck]
  split_ifs
  · rfl
  · rfl
  · exact (State.getF_addF_field _ hg)
  · rfl

end
end Sys2Proof.Machine
end

section
/-! SUPPORT. FLIT_RECEIVE (R125, R342 to R344, R360): a Drift flit that fails its CRC, one that is next in sequence, a REQ in it, and the Recovery of a portal in
PCIe mode. -/

namespace Sys2Proof.Machine

section
variable {s : State} {n : Shaft} {p : Portal} {f : Flit}

theorem exec_flitReceive_drift (hup : s.moverUp n p = true) (hd : (s.ptl n p).cfg.drift = true) (f : Flit) :
    exec (.flitReceive n p (.drift f)) s = .next ((s.rxDrift n p f).creditCheck n p) := by
  have h : s.flitReceive n p (.drift f) = (s.rxDrift n p f).creditCheck n p := by
    unfold State.flitReceive
    rw [hup, hd]
    rfl
  exact congrArg Host.Outcome.next h

theorem exec_flitReceive_recovery (hup : s.moverUp n p = true) (hd : (s.ptl n p).cfg.drift = false) :
    exec (.flitReceive n p .pcieRecovery) s = .next (s.retrain n p) := by
  have h : s.flitReceive n p .pcieRecovery = s.retrain n p := by
    unfold State.flitReceive
    rw [hup, hd]
    rfl
  exact congrArg Host.Outcome.next h

/-- R344, R440: within its limit of link resets a portal that retrains is counted and in RECOVERY from now on. -/
theorem State.retrain_of_within (h : (s.recentResets n p).length < s.resetLimit n p) :
    s.retrain n p = ((((s.addReg n .PTL_STAT3_RETRAINS p.val).updPtl n p
      (fun x => { x with resets := s.recentResets n p ++ [s.up], deferred := .none })).setPst n p Pst.RECOVERY).updPtl n p
      (fun x => { x with recoveryAt := s.up, replays := 0, wakeAt := none })) := by
  have hlimit : (s.addReg n .PTL_STAT3_RETRAINS p.val).resetLimit n p = s.resetLimit n p := State.getF_addF_field s (by decide)
  have hwithin : ((s.addReg n .PTL_STAT3_RETRAINS p.val).recentResets n p).length <
      (s.addReg n .PTL_STAT3_RETRAINS p.val).resetLimit n p := hlimit ▸ h
  rw [State.retrain, State.linkReset, if_pos hwithin]
  rfl

theorem State.retrain_within (h : (s.recentResets n p).length < s.resetLimit n p) :
    (s.retrain n p).pst n p = Pst.RECOVERY ∧ ((s.retrain n p).ptl n p).recoveryAt = s.up ∧
    (s.retrain n p).reg n .PTL_STAT3_RETRAINS p.val = min (s.reg n .PTL_STAT3_RETRAINS p.val + 1) 65535 := by
  rw [State.retrain_of_within h]
  refine ⟨?_, by rw [State.ptl_updPtl_same], ?_⟩
  · rw [State.pst, State.reg_updPtl]
    exact State.reg_setReg_same ..
  · rw [State.reg_updPtl, State.setPst, State.reg_setReg_field (by decide), State.reg_updPtl]
    exact s.reg_addReg_same n .PTL_STAT3_RETRAINS p.val 1

/-- R342: a flit with a wrong CRC asks for a replay. -/
theorem State.rxDrift_of_bad (h : f.good = false) : s.rxDrift n p f = s.askReplay n p := by
  rw [State.rxDrift, h]
  rfl

/-- R343: the flits an acknowledgement frees. -/
def PortalSt.acked (x : PortalSt) (f : Flit) : PortalSt :=
  let rest := x.unacked.filter (fun e => !seqUpTo e.1 f.ack)
  { x with unacked := rest, replays := if rest.length < x.unacked.length then 0 else x.replays }

/-- R341: a wake the partner has completed. -/
def PortalSt.woken (x : PortalSt) : PortalSt := if x.cfg.drift && x.wakes then x else { x with wakeAt := none }

/-- The credits a flit gives. -/
def PortalSt.credited (x : PortalSt) (f : Flit) : PortalSt := { x with credits := (List.range 3).map (fun k => x.credits.getD k 0 + f.credit k) }

/-- What a portal notes of a flit that is next in sequence. -/
def PortalSt.taken (x : PortalSt) (f : Flit) : PortalSt :=
  let y := ((x.acked f).woken).credited f
  { y with expFseq := y.expFseq + 1 }

theorem PortalSt.woken_keeps {α : Type} (x : PortalSt) (proj : PortalSt → α) (h : ∀ y w, proj { y with wakeAt := w } = proj y) :
    proj x.woken = proj x := by
  rw [PortalSt.woken]
  split
  · rfl
  · exact h x none

theorem State.rxAck_of_not_nak (h : f.nak = false) : s.rxAck n p f = (s.updPtl n p (fun x => x.acked f), true) := by
  rw [State.rxAck, h]
  exact Prod.ext (State.updPtl_congr rfl) rfl

/-- R342, R343: a DATA flit that is next in sequence is taken, and its tubs are received in order. -/
theorem State.rxDrift_of_next (hgood : f.good = true) (hnak : f.nak = false) (htype : f.ftype = Ft.DATA) (hseq : f.fseq = (s.ptl n p).expFseq) :
    s.rxDrift n p f = ((List.range 7).filterMap f.slot).foldl (fun a t => a.rxSlot n p t) (s.updPtl n p (fun x => x.taken f)) := by
  have hhead : ((s.rxAck n p f).1.wakeDone n p).rxCredits n p f = s.updPtl n p (fun x => ((x.acked f).woken).credited f) := by
    rw [State.rxAck_of_not_nak hnak, State.rxCredits, State.wakeDone, State.updPtl_updPtl, State.updPtl_updPtl]
    rfl
  have hup : (s.rxAck n p f).2 = true := by rw [State.rxAck_of_not_nak hnak]
  have hexp : ((s.updPtl n p (fun x => ((x.acked f).woken).credited f)).ptl n p).expFseq = (s.ptl n p).expFseq := by
    rw [State.ptl_updPtl_same]
    exact PortalSt.woken_keeps _ (·.expFseq) fun _ _ => rfl
  have hdata : ¬(f.ftype ≠ Ft.DATA ∧ f.ftype ≠ Ft.CONTROL) := fun h => h.1 htype
  rw [State.rxDrift, hgood]
  simp only [hhead, hup, hexp, hseq, htype]
  simp [State.updPtl_updPtl, Ft.DATA, Ft.CONTROL]
  rfl

/-- R125: a request as it is accepted at `now`, its sideband of a slot cleared. -/
def Slot.asRequest (r : Slot) (now : BitVec 32) : Tub := { r.tub with line := 0, poison := false, ep := none }.put 24 0 now

theorem State.accept_req {t : Tub} (hc : t.cls = Cls.REQ) (hm : (s.ptl n p).markWait = false) (he : (s.ptl n p).partnerEpoch = none) :
    s.accept n p t = { t.put 24 0 (s.sh n).clock with ep := none } := by
  rw [State.accept, if_pos hc, State.rxEpoch, hm, he]
  rfl

/-- R360: by the DIRECT route a request of a shaft that is not cooling goes to the claims of its own portal. -/
theorem State.classRoute_req {t : Tub} (hc : t.cls = Cls.REQ) (hroute : (s.croute n p Cls.REQ).1 = 0) (hcool : s.cooling n = false) :
    s.classRoute n p t = (s.inward n p t (.ingress p), .go (.ingress p)) := by
  have hdirect : s.direct n p t = (s.inward n p t (.ingress p), .go (.ingress p)) := by rw [State.direct, if_pos hc]
  have hkept : ¬(Cls.reserved Cls.REQ = true) := by decide
  rw [State.classRoute, hc, if_neg hkept, if_neg (fun h => Bool.false_ne_true (hcool ▸ h.2)), hroute]
  exact hdirect

/-- R125, R360: a request of a slot, accepted, is on its way to the claims of its portal. -/
theorem State.rxSlot_req {r : Slot} (hc : r.tub.cls = Cls.REQ) (ha : r.answer = false) (hroute : (s.croute n p Cls.REQ).1 = 0)
    (hcool : s.cooling n = false) (hm : (s.ptl n p).markWait = false) (he : (s.ptl n p).partnerEpoch = none) :
    s.rxSlot n p r = (((s.updPtl n p (fun x => { x with creditsDue := addAt x.creditsDue 0 1 })).inward n p (r.asRequest (s.sh n).clock)
      (.ingress p)).setFollow n p (followCount (r.asRequest (s.sh n).clock)) (.go (.ingress p))) := by
  have hdat : r.tub.cls ≠ Cls.DAT := by rw [hc]; decide
  have htub : s.accept n p { r.tub with line := if r.tub.cls = Cls.DAT then r.tub.line else 0
                                        poison := r.tub.poison && decide (r.tub.cls = Cls.DAT) } = r.asRequest (s.sh n).clock := by
    rw [if_neg hdat, decide_eq_false hdat, Bool.and_false]
    exact State.accept_req (t := { r.tub with line := 0, poison := false }) hc hm he
  have hcls : (r.asRequest (s.sh n).clock).cls = Cls.REQ := hc
  rw [State.rxSlot, htub]
  simp only [hcls, ha]
  rw [if_neg (by decide), if_neg (by decide), if_neg (by decide),
    State.classRoute_req hcls ((congrArg Prod.fst (s.croute_updPtl n p p _ Cls.REQ)).trans hroute) ((s.cooling_updPtl n p _).trans hcool)]
  rfl

/-- What a request of a slot leaves: the flight to the claims, and a credit due to the partner. -/
theorem State.rxSlot_req_effect {r : Slot} (hc : r.tub.cls = Cls.REQ) (ha : r.answer = false) (hroute : (s.croute n p Cls.REQ).1 = 0)
    (hcool : s.cooling n = false) (hm : (s.ptl n p).markWait = false) (he : (s.ptl n p).partnerEpoch = none) :
    ((s.rxSlot n p r).sh n).flights =
      (s.sh n).flights ++ [⟨r.asRequest (s.sh n).clock, .unit .adit, .unit .adit, Layer.lode.dest, .ingress p, none, some p⟩] ∧
    (s.rxSlot n p r).ptl n p = { s.ptl n p with
      creditsDue := addAt (s.ptl n p).creditsDue 0 1
      follow := ((s.rxSlot n p r).ptl n p).follow } := by
  have hkept : ¬(Cls.reserved (r.asRequest (s.sh n).clock).cls = true) := by
    rw [show (r.asRequest (s.sh n).clock).cls = Cls.REQ from hc]
    decide
  rw [State.rxSlot_req hc ha hroute hcool hm he, State.inward, State.inject, if_neg hkept, State.setFollow]
  constructor
  · rw [State.sh_updPtl, State.sh_updSh_same, State.sh_updPtl]
  · rw [State.ptl_updPtl_same, State.ptl, State.sh_updSh_same, ← State.ptl, State.ptl_updPtl_same]

theorem Flit.slots_of_single {r : Slot} (h0 : f.slot 0 = some r) (hrest : ∀ i, 0 < i → i < 7 → f.slot i = none) :
    (List.range 7).filterMap f.slot = [r] := by
  have hnone : ((List.range 6).map (· + 1)).filterMap f.slot = [] := by
    refine List.filterMap_eq_nil_iff.mpr fun i hi => ?_
    obtain ⟨j, hj, rfl⟩ := List.mem_map.mp hi
    exact hrest _ j.succ_pos (Nat.succ_lt_succ (List.mem_range.mp hj))
  rw [show List.range 7 = 0 :: (List.range 6).map (· + 1) from rfl, List.filterMap_cons, h0, hnone]

/-- What a flit leaves that carries one request and is next in sequence. -/
theorem State.rxDrift_req {r : Slot} (hgood : f.good = true) (hnak : f.nak = false) (htype : f.ftype = Ft.DATA)
    (hseq : f.fseq = (s.ptl n p).expFseq) (hslots : (List.range 7).filterMap f.slot = [r]) (hc : r.tub.cls = Cls.REQ) (ha : r.answer = false)
    (hroute : (s.croute n p Cls.REQ).1 = 0) (hcool : s.cooling n = false) (hm : (s.ptl n p).markWait = false) (he : (s.ptl n p).partnerEpoch = none) :
    ((s.rxDrift n p f).sh n).flights =
      (s.sh n).flights ++ [⟨r.asRequest (s.sh n).clock, .unit .adit, .unit .adit, Layer.lode.dest, .ingress p, none, some p⟩] ∧
    (s.rxDrift n p f).ptl n p = { (s.ptl n p).taken f with
      creditsDue := addAt (s.ptl n p).creditsDue 0 1
      follow := ((s.rxDrift n p f).ptl n p).follow } := by
  have hkept {α : Type} (proj : PortalSt → α) (h : ∀ y w, proj { y with wakeAt := w } = proj y) := PortalSt.woken_keeps ((s.ptl n p).acked f) proj h
  have hptl : (s.updPtl n p (fun x => x.taken f)).ptl n p = (s.ptl n p).taken f := State.ptl_updPtl_same ..
  have hsh : ((s.updPtl n p (fun x => x.taken f)).sh n).flights = (s.sh n).flights ∧ ((s.updPtl n p (fun x => x.taken f)).sh n).clock = (s.sh n).clock := by
    rw [State.sh_updPtl]
    exact ⟨rfl, rfl⟩
  have heff := State.rxSlot_req_effect (s := s.updPtl n p (fun x => x.taken f)) hc ha
    ((congrArg Prod.fst (s.croute_updPtl n p p _ Cls.REQ)).trans hroute) ((s.cooling_updPtl n p _).trans hcool)
    ((congrArg PortalSt.markWait hptl).trans ((hkept (·.markWait) fun _ _ => rfl).trans hm))
    ((congrArg PortalSt.partnerEpoch hptl).trans ((hkept (·.partnerEpoch) fun _ _ => rfl).trans he))
  rw [hptl, hsh.1, hsh.2] at heff
  rw [State.rxDrift_of_next hgood hnak htype hseq, hslots]
  refine ⟨heff.1, heff.2.trans ?_⟩
  rw [show ((s.ptl n p).taken f).creditsDue = (s.ptl n p).creditsDue from hkept (·.creditsDue) fun _ _ => rfl]
  rfl

theorem PortalSt.taken_expFseq (x : PortalSt) : (x.taken f).expFseq = x.expFseq + 1 :=
  congrArg (· + 1) (PortalSt.woken_keeps (x.acked f) (·.expFseq) fun _ _ => rfl)

theorem PortalSt.taken_unacked (x : PortalSt) : (x.taken f).unacked = x.unacked.filter (fun e => (f.ack - e.1).msb) := by
  refine (PortalSt.woken_keeps (x.acked f) (·.unacked) fun _ _ => rfl).trans (List.filter_congr fun e _ => ?_)
  exact Bool.not_not _

theorem PortalSt.taken_credits (x : PortalSt) :
    (x.taken f).credits = [x.credits.getD 0 0 + f.credit 0, x.credits.getD 1 0 + f.credit 1, x.credits.getD 2 0 + f.credit 2] := by
  have h : (x.acked f).woken.credits = x.credits := PortalSt.woken_keeps (x.acked f) (·.credits) fun _ _ => rfl
  rw [← h]
  rfl

end
end Sys2Proof.Machine
end

section
/-! SUPPORT. FLIT_TRANSMIT of a Drift portal (R90, R91, R342, R343): a replay first, then a control flit, then tubs that have a credit, else IDLE. -/

namespace Sys2Proof.Machine

section
variable {s : State} {n : Shaft} {p : Portal}

theorem exec_flitTransmit_drift (hup : s.moverUp n p = true) (hd : (s.ptl n p).cfg.drift = true) :
    exec (.flitTransmit n p) s = .next ((s.creditCheck n p).txDrift n p) := by
  have h : s.flitTransmit n p = (s.creditCheck n p).txDrift n p := by
    unfold State.flitTransmit
    rw [hup, hd]
    rfl
  exact congrArg Host.Outcome.next h

/-- R343: the flit a replay asks for goes out again, and is counted. -/
theorem State.txDrift_replay {q : BitVec 12} (h : (s.ptl n p).replayAt = some q) :
    (s.txDrift n p).reg n .PTL_STAT3_REPLAYS p.val = min (s.reg n .PTL_STAT3_REPLAYS p.val + 1) 65535 ∧
    ((s.txDrift n p).ptl n p).unacked = (s.ptl n p).unacked ∧ ((s.txDrift n p).ptl n p).txq = (s.ptl n p).txq := by
  unfold State.txDrift
  simp only [h]
  refine ⟨(s.updPtl n p _).reg_addReg_same n .PTL_STAT3_REPLAYS p.val 1, ?_, ?_⟩ <;>
  · rw [State.ptl_addReg, State.ptl_updPtl_same]

/-- R91: without anything to send only a head goes out. -/
theorem State.txDrift_idle (h : (s.ptl n p).replayAt = none) (hlen : (s.ptl n p).unacked.length < 256) (hq : (s.ptl n p).txq = []) :
    s.txDrift n p = s.headSent n p := by
  unfold State.txDrift
  simp only [h, hq]
  rw [if_neg (Nat.not_le.mpr hlen)]
  rfl

/-- R91: a control item goes in a flit of its own. -/
theorem State.txDrift_control {c : BitVec 8} {d : BitVec 64} (h : (s.ptl n p).replayAt = none) (hlen : (s.ptl n p).unacked.length < 256)
    (hq : (s.ptl n p).txq = [.control c d]) :
    ∃ f, s.txDrift n p = (s.updPtl n p (fun x => { x with credits := (s.ptl n p).credits, txq := [] })).sendFlit n p f := by
  unfold State.txDrift
  simp only [h, hq]
  rw [if_neg (Nat.not_le.mpr hlen)]
  exact ⟨_, congrArg (State.sendFlit · n p _) (State.updPtl_congr rfl)⟩

/-- R90: what a tub of virtual channel `v` leaves of the credits. -/
def creditsAfter (c : List Nat) (v : Nat) : List Nat := if v = 2 then c else c.set v (c.getD v 0 - 1)

theorem takeSlots_single_of_credit {c : List Nat} {b : Tub} {a : Bool} {y : BitVec 15} {g : BitVec 4}
    (h : (Cls.vc b.cls).toNat = 2 ∨ 0 < c.getD (Cls.vc b.cls).toNat 0) :
    takeSlots 7 c [.tub b a y g] = ([⟨b, a, y, g⟩], creditsAfter c (Cls.vc b.cls).toNat, []) := by
  rw [takeSlots, if_pos h, takeSlots]
  rfl

theorem takeSlots_single_of_not {c : List Nat} {b : Tub} {a : Bool} {y : BitVec 15} {g : BitVec 4}
    (h : ¬((Cls.vc b.cls).toNat = 2 ∨ 0 < c.getD (Cls.vc b.cls).toNat 0)) : (takeSlots 7 c [.tub b a y g]).1 = [] := by
  rw [takeSlots, if_neg h]

/-- R90, R91: a tub that needs no credit, or has one, goes out. -/
theorem State.txDrift_tub {b : Tub} {a : Bool} {y : BitVec 15} {g : BitVec 4} (h : (s.ptl n p).replayAt = none)
    (hlen : (s.ptl n p).unacked.length < 256) (hq : (s.ptl n p).txq = [.tub b a y g])
    (hcredit : (Cls.vc b.cls).toNat = 2 ∨ 0 < (s.ptl n p).credits.getD (Cls.vc b.cls).toNat 0) :
    ∃ f l, s.txDrift n p = ((s.updPtl n p (fun x => { x with
      credits := creditsAfter (s.ptl n p).credits (Cls.vc b.cls).toNat, txq := [] })).sendFlit n p f).noteRequest l := by
  unfold State.txDrift
  simp only [h, hq]
  rw [if_neg (Nat.not_le.mpr hlen), takeSlots_single_of_credit hcredit]
  exact ⟨_, _, rfl⟩

/-- R90: a tub that lacks its credit stays, and only a head goes out. -/
theorem State.txDrift_withheld {b : Tub} {a : Bool} {y : BitVec 15} {g : BitVec 4} (h : (s.ptl n p).replayAt = none)
    (hlen : (s.ptl n p).unacked.length < 256) (hq : (s.ptl n p).txq = [.tub b a y g])
    (hcredit : ¬((Cls.vc b.cls).toNat = 2 ∨ 0 < (s.ptl n p).credits.getD (Cls.vc b.cls).toNat 0)) : s.txDrift n p = s.headSent n p := by
  unfold State.txDrift
  simp only [h, hq]
  rw [if_neg (Nat.not_le.mpr hlen), takeSlots_single_of_not hcredit]
  rfl

theorem State.ptl_noteRequest (s : State) (n : Shaft) (p : Portal) (l : List Slot) : (s.noteRequest l).ptl n p = s.ptl n p := by
  rw [State.noteRequest]
  split <;> rfl

/-- The head of a flit takes the NAK and the credits due with it and nothing else of the portal. -/
theorem State.headSent_keeps {α : Type} (s : State) (n : Shaft) (p : Portal) (proj : PortalSt → α)
    (h : ∀ (x : PortalSt) (d : List Nat), proj { x with nakDue := false, creditsDue := d } = proj { x with nakDue := false }) :
    proj ((s.headSent n p).ptl n p) = proj { s.ptl n p with nakDue := false } := by
  rw [State.headSent, State.ptl_updPtl_same]
  exact h _ _

/-- R342: a flit that leaves with a number of its own is kept. -/
theorem State.ptl_sendFlit (s : State) (n : Shaft) (p : Portal) (f : Flit) :
    (s.sendFlit n p f).ptl n p = { (s.headSent n p).ptl n p with
      unacked := (s.ptl n p).unacked ++ [((s.ptl n p).nextFseq, f.sealed)], nextFseq := (s.ptl n p).nextFseq + 1 } := by
  rw [State.sendFlit, State.ptl_updPtl_same, s.headSent_keeps n p (·.unacked) fun _ _ => rfl, s.headSent_keeps n p (·.nextFseq) fun _ _ => rfl]

/-- A portal once its only item, and the credits the item takes, went out in flit `f`. -/
structure PortalSt.SentOnly (x y : PortalSt) (f : Flit) (c : List Nat) : Prop where
  txq : y.txq = []
  unacked : y.unacked = x.unacked ++ [(x.nextFseq, f)]
  nextFseq : y.nextFseq = x.nextFseq + 1
  credits : y.credits = c

theorem State.sendFlit_sentOnly (s : State) (n : Shaft) (p : Portal) (f : Flit) (c : List Nat) :
    (s.ptl n p).SentOnly (((s.updPtl n p (fun x => { x with credits := c, txq := [] })).sendFlit n p f).ptl n p) f.sealed c := by
  have hptl := State.ptl_updPtl_same s n p (fun x => { x with credits := c, txq := [] })
  rw [State.ptl_sendFlit, hptl]
  refine ⟨?_, rfl, rfl, ?_⟩
  · exact (State.headSent_keeps _ n p (·.txq) fun _ _ => rfl).trans (congrArg PortalSt.txq hptl)
  · exact (State.headSent_keeps _ n p (·.credits) fun _ _ => rfl).trans (congrArg PortalSt.credits hptl)

/-- The virtual channel of an item: a control flit needs no credit, as the tubs of channel 2 need none (R90). -/
def TxItem.vc : TxItem → Nat
  | .tub b _ _ _ => (Cls.vc b.cls).toNat
  | _ => 2

/-- R90, R91: an item that needs no credit, or has one, goes out alone. -/
theorem State.txDrift_sends {i : TxItem} (h : (s.ptl n p).replayAt = none) (hlen : (s.ptl n p).unacked.length < 256) (hq : (s.ptl n p).txq = [i])
    (hmsg : ∀ m, i ≠ .msg m) (hcredit : i.vc = 2 ∨ 0 < (s.ptl n p).credits.getD i.vc 0) :
    ∃ f, (s.ptl n p).SentOnly ((s.txDrift n p).ptl n p) f (creditsAfter (s.ptl n p).credits i.vc) := by
  cases i with
  | msg m => exact absurd rfl (hmsg m)
  | control c d =>
    obtain ⟨f, hf⟩ := State.txDrift_control h hlen hq
    exact ⟨f.sealed, hf ▸ s.sendFlit_sentOnly n p f _⟩
  | tub b a y g =>
    obtain ⟨f, l, hf⟩ := State.txDrift_tub h hlen hq hcredit
    rw [hf, State.ptl_noteRequest]
    exact ⟨f.sealed, s.sendFlit_sentOnly n p f _⟩

/-- R90: an item without the credit it needs stays. -/
theorem State.txDrift_waits {i : TxItem} (h : (s.ptl n p).replayAt = none) (hlen : (s.ptl n p).unacked.length < 256) (hq : (s.ptl n p).txq = [i])
    (hv : i.vc ≠ 2) (hc : (s.ptl n p).credits.getD i.vc 0 = 0) : s.txDrift n p = s.headSent n p := by
  cases i with
  | msg m => exact absurd rfl hv
  | control c d => exact absurd rfl hv
  | tub b a y g => exact State.txDrift_withheld h hlen hq fun hcredit => hcredit.elim hv (Nat.not_lt.mpr (Nat.le_of_eq hc))

end
end Sys2Proof.Machine
end

section
/-! OBLIGATION O34. -/

namespace Sys2Proof.Machine

theorem flits_recovery {s : State} {n : Shaft} {p : Portal} (hup : s.moverUp n p = true) (hd : (s.ptl n p).cfg.drift = false)
    (h : (s.recentResets n p).length < s.resetLimit n p) :
    ∃ t : State, exec (.flitReceive n p .pcieRecovery) s = .next t ∧
      t.pst n p = Pst.RECOVERY ∧ (t.ptl n p).recoveryAt = s.up ∧ t.reg n .PTL_STAT3_RETRAINS p.val = min (s.reg n .PTL_STAT3_RETRAINS p.val + 1) 65535 :=
  ⟨_, exec_flitReceive_recovery hup hd, State.retrain_within h⟩

theorem flits_badCrc {s : State} {n : Shaft} {p : Portal} {f : Flit} (hup : s.moverUp n p = true) (hd : (s.ptl n p).cfg.drift = true)
    (hbad : f.extractLsb' 4032 64 ≠ crc64 f.covered) :
    ∃ t : State, exec (.flitReceive n p (.drift f)) s = .next t ∧ (t.ptl n p).nakDue = true ∧ (t.ptl n p).expFseq = (s.ptl n p).expFseq ∧
      (t.ptl n p).unacked = (s.ptl n p).unacked ∧ (t.sh n).flights = (s.sh n).flights ∧ (t.sh n).tallies = (s.sh n).tallies := by
  have hasks : s.rxDrift n p f = s.askReplay n p := State.rxDrift_of_bad (decide_eq_false hbad)
  have hptl : (s.askReplay n p).ptl n p = { s.ptl n p with nakDue := true } := State.ptl_updPtl_same ..
  have hsh : ((s.askReplay n p).sh n).flights = (s.sh n).flights ∧ ((s.askReplay n p).sh n).tallies = (s.sh n).tallies := by
    rw [State.askReplay, State.sh_updPtl]
    exact ⟨rfl, rfl⟩
  refine ⟨_, exec_flitReceive_drift hup hd f, ?_⟩
  rw [hasks, State.ptl_creditCheck _ n p (·.nakDue) fun _ _ => rfl, State.ptl_creditCheck _ n p (·.expFseq) fun _ _ => rfl,
    State.ptl_creditCheck _ n p (·.unacked) fun _ _ => rfl, State.creditCheck_keeps _ n p (·.flights) fun _ _ => rfl,
    State.creditCheck_keeps _ n p (·.tallies) fun _ _ => rfl, hptl]
  exact ⟨rfl, rfl, rfl, hsh⟩

theorem flits_request {s : State} {n : Shaft} {p : Portal} {f : Flit} {r : Slot} (hup : s.moverUp n p = true) (hd : (s.ptl n p).cfg.drift = true)
    (hgood : f.extractLsb' 4032 64 = crc64 f.covered) (hnak : f.nak = false) (htype : f.ftype = Ft.DATA) (hseq : f.fseq = (s.ptl n p).expFseq)
    (h0 : f.slot 0 = some r) (hrest : ∀ i, 0 < i → i < 7 → f.slot i = none) (hc : r.tub.cls = Cls.REQ) (ha : r.answer = false)
    (hroute : (s.croute n p Cls.REQ).1 = 0) (hcool : s.cooling n = false) (hm : (s.ptl n p).markWait = false)
    (he : (s.ptl n p).partnerEpoch = none) :
    ∃ t : State, exec (.flitReceive n p (.drift f)) s = .next t ∧ (t.ptl n p).expFseq = (s.ptl n p).expFseq + 1 ∧
      (t.ptl n p).unacked = (s.ptl n p).unacked.filter (fun e => (f.ack - e.1).msb) ∧
      (t.ptl n p).credits = [(s.ptl n p).credits.getD 0 0 + f.credit 0, (s.ptl n p).credits.getD 1 0 + f.credit 1,
        (s.ptl n p).credits.getD 2 0 + f.credit 2] ∧
      (t.ptl n p).creditsDue = addAt (s.ptl n p).creditsDue 0 1 ∧
      (t.sh n).flights = (s.sh n).flights ++
        [⟨r.asRequest (s.sh n).clock, .unit .adit, .unit .adit, Layer.lode.dest, .ingress p, none, some p⟩] := by
  obtain ⟨hflights, hptl⟩ := State.rxDrift_req (decide_eq_true hgood) hnak htype hseq (Flit.slots_of_single h0 hrest) hc ha hroute hcool hm he
  refine ⟨_, exec_flitReceive_drift hup hd f, ?_⟩
  rw [State.ptl_creditCheck _ n p (·.expFseq) fun _ _ => rfl, State.ptl_creditCheck _ n p (·.unacked) fun _ _ => rfl,
    State.ptl_creditCheck _ n p (·.credits) fun _ _ => rfl, State.ptl_creditCheck _ n p (·.creditsDue) fun _ _ => rfl,
    State.creditCheck_keeps _ n p (·.flights) fun _ _ => rfl, hptl]
  exact ⟨PortalSt.taken_expFseq _, PortalSt.taken_unacked _, PortalSt.taken_credits _, rfl, hflights⟩

section
variable {s : State} {n : Shaft} {p : Portal}

/-- A portal with something to repeat, and one without, are so after the check of the station's credits too. -/
theorem State.creditCheck_portal (s : State) (n : Shaft) (p : Portal) :
    ((s.creditCheck n p).ptl n p).replayAt = (s.ptl n p).replayAt ∧ ((s.creditCheck n p).ptl n p).unacked = (s.ptl n p).unacked ∧
    ((s.creditCheck n p).ptl n p).txq = (s.ptl n p).txq ∧ ((s.creditCheck n p).ptl n p).nextFseq = (s.ptl n p).nextFseq ∧
    ((s.creditCheck n p).ptl n p).credits = (s.ptl n p).credits :=
  ⟨s.ptl_creditCheck n p (·.replayAt) fun _ _ => rfl, s.ptl_creditCheck n p (·.unacked) fun _ _ => rfl,
    s.ptl_creditCheck n p (·.txq) fun _ _ => rfl, s.ptl_creditCheck n p (·.nextFseq) fun _ _ => rfl,
    s.ptl_creditCheck n p (·.credits) fun _ _ => rfl⟩

theorem flits_replay {q : BitVec 12} (hup : s.moverUp n p = true) (hd : (s.ptl n p).cfg.drift = true) (h : (s.ptl n p).replayAt = some q) :
    ∃ t : State, exec (.flitTransmit n p) s = .next t ∧ t.reg n .PTL_STAT3_REPLAYS p.val = min (s.reg n .PTL_STAT3_REPLAYS p.val + 1) 65535 ∧
      (t.ptl n p).unacked = (s.ptl n p).unacked ∧ (t.ptl n p).txq = (s.ptl n p).txq := by
  obtain ⟨hreplay, hunacked, htxq, -⟩ := s.creditCheck_portal n p
  obtain ⟨hreg, hu, hq⟩ := State.txDrift_replay (hreplay.trans h)
  rw [State.reg_creditCheck s n n p (by decide)] at hreg
  exact ⟨_, exec_flitTransmit_drift hup hd, hreg, hu.trans hunacked, hq.trans htxq⟩

theorem flits_idle (hup : s.moverUp n p = true) (hd : (s.ptl n p).cfg.drift = true) (h : (s.ptl n p).replayAt = none)
    (hlen : (s.ptl n p).unacked.length < 256) (hq : (s.ptl n p).txq = []) :
    ∃ t : State, exec (.flitTransmit n p) s = .next t ∧ (t.ptl n p).unacked = (s.ptl n p).unacked ∧ (t.ptl n p).nextFseq = (s.ptl n p).nextFseq ∧
      (t.ptl n p).nakDue = false ∧ (t.ptl n p).credits = (s.ptl n p).credits := by
  obtain ⟨hreplay, hunacked, htxq, hnext, hcredits⟩ := s.creditCheck_portal n p
  refine ⟨_, exec_flitTransmit_drift hup hd, ?_⟩
  rw [State.txDrift_idle (hreplay.trans h) (hunacked ▸ hlen) (htxq.trans hq)]
  exact ⟨(State.headSent_keeps _ n p (·.unacked) fun _ _ => rfl).trans hunacked, (State.headSent_keeps _ n p (·.nextFseq) fun _ _ => rfl).trans hnext,
    State.headSent_keeps _ n p (·.nakDue) fun _ _ => rfl, (State.headSent_keeps _ n p (·.credits) fun _ _ => rfl).trans hcredits⟩

theorem flits_sends {i : TxItem} (hup : s.moverUp n p = true) (hd : (s.ptl n p).cfg.drift = true) (h : (s.ptl n p).replayAt = none)
    (hlen : (s.ptl n p).unacked.length < 256) (hq : (s.ptl n p).txq = [i]) (hmsg : ∀ m, i ≠ .msg m)
    (hcredit : i.vc = 2 ∨ 0 < (s.ptl n p).credits.getD i.vc 0) :
    ∃ (t : State) (f : Flit), exec (.flitTransmit n p) s = .next t ∧ (t.ptl n p).txq = [] ∧
      (t.ptl n p).unacked = (s.ptl n p).unacked ++ [((s.ptl n p).nextFseq, f)] ∧ (t.ptl n p).nextFseq = (s.ptl n p).nextFseq + 1 ∧
      (t.ptl n p).credits = creditsAfter (s.ptl n p).credits i.vc := by
  obtain ⟨hreplay, hunacked, htxq, hnext, hcredits⟩ := s.creditCheck_portal n p
  obtain ⟨f, hsent⟩ := State.txDrift_sends (hreplay.trans h) (hunacked ▸ hlen) (htxq.trans hq) hmsg (hcredits ▸ hcredit)
  obtain ⟨hq', hu, hn, hc⟩ := hsent
  rw [hunacked, hnext] at hu
  rw [hnext] at hn
  rw [hcredits] at hc
  exact ⟨_, f, exec_flitTransmit_drift hup hd, hq', hu, hn, hc⟩

theorem flits_waits {i : TxItem} (hup : s.moverUp n p = true) (hd : (s.ptl n p).cfg.drift = true) (h : (s.ptl n p).replayAt = none)
    (hlen : (s.ptl n p).unacked.length < 256) (hq : (s.ptl n p).txq = [i]) (hv : i.vc ≠ 2) (hc : (s.ptl n p).credits.getD i.vc 0 = 0) :
    ∃ t : State, exec (.flitTransmit n p) s = .next t ∧ (t.ptl n p).txq = (s.ptl n p).txq ∧ (t.ptl n p).unacked = (s.ptl n p).unacked := by
  obtain ⟨hreplay, hunacked, htxq, -, hcredits⟩ := s.creditCheck_portal n p
  refine ⟨_, exec_flitTransmit_drift hup hd, ?_⟩
  rw [State.txDrift_waits (hreplay.trans h) (hunacked ▸ hlen) (htxq.trans hq) hv (hcredits ▸ hc)]
  exact ⟨(State.headSent_keeps _ n p (·.txq) fun _ _ => rfl).trans htxq, (State.headSent_keeps _ n p (·.unacked) fun _ _ => rfl).trans hunacked⟩

end

/-- Settles O34: what the station's check of credits leaves alone, then the receiver by its flit, and the transmitter by what it has to send. -/
theorem flits : Obligations.Flits := by
  unfold Obligations.Flits
  constructor
  · intro s n p f hup x
    refine ⟨flits_recovery hup, flits_badCrc hup, ?_⟩
    intro r hd hgood hnak htype hseq h0 hrest hc ha _ hroute hcool hm he
    exact flits_request hup hd hgood hnak htype hseq h0 hrest hc ha hroute hcool hm he
  · intro s n p hup hd x
    refine ⟨fun q => flits_replay hup hd, fun h hlen => ⟨flits_idle hup hd h hlen, fun i hq hmsg => ?_⟩⟩
    cases i with
    | msg m => exact absurd rfl (hmsg m)
    | control c d =>
      exact ⟨flits_sends hup hd h hlen hq hmsg, flits_waits hup hd h hlen hq⟩
    | tub b a y g =>
      exact ⟨flits_sends hup hd h hlen hq hmsg, flits_waits hup hd h hlen hq⟩

end Sys2Proof.Machine
end

section
/-! SUPPORT. The expansion set of a directory entry (R166), by its sharer mode, and what ADD_SHARER leaves of it (R164, R168). -/

namespace Sys2Proof.Machine

variable {s : State} {n : Shaft} {e : DirEnt} {a b : BitVec 10}

/-- The agent is present (R166). -/
def State.agentPresent (s : State) (n : Shaft) (b : BitVec 10) : Prop :=
  (s.reg n .DIR_PRESENT_PRESENT (b.toNat / 32)).testBit (b.toNat % 32) = true

/-! ### Membership by mode -/

theorem State.mem_expansion_exact (h : e.mode.toNat ≤ 3) : b ∈ s.expansion n e ↔ b ∈ e.ids := by
  rw [State.expansion, if_pos h]

/-- The agents, in rising order, whose number satisfies `p`. -/
theorem mem_filterMap_agents (p : Nat → Bool) :
    b ∈ (List.range 1024).filterMap (fun k => if p k then some (BitVec.ofNat 10 k) else none) ↔ p b.toNat = true := by
  simp only [List.mem_filterMap, List.mem_range]
  constructor
  · rintro ⟨k, hk, hb⟩
    obtain ⟨hp, rfl⟩ : p k = true ∧ BitVec.ofNat 10 k = b := by simpa using hb
    simpa [Nat.mod_eq_of_lt hk] using hp
  · exact fun hp => ⟨b.toNat, b.isLt, by simp [hp]⟩

/-- A mode that lists no IDs holds present agents only (R166). -/
theorem State.mem_expansion_wide (h : ¬ e.mode.toNat ≤ 3) :
    b ∈ s.expansion n e ↔
      s.agentPresent n b ∧ (if e.mode = Shr.COARSE then e.sharers.getLsbD (b.toNat / 32) else decide (e.mode = Shr.BROADCAST)) = true := by
  rw [State.expansion, if_neg h]
  exact (mem_filterMap_agents _).trans Bool.and_eq_true_iff

theorem State.mem_expansion_coarse (h : e.mode = Shr.COARSE) :
    b ∈ s.expansion n e ↔ s.agentPresent n b ∧ e.sharers.getLsbD (b.toNat / 32) = true := by
  rw [State.mem_expansion_wide (by rw [h]; decide), if_pos h]

theorem State.mem_expansion_broadcast (h : e.mode = Shr.BROADCAST) : b ∈ s.expansion n e ↔ s.agentPresent n b := by
  rw [State.mem_expansion_wide (by rw [h]; decide), if_neg (by rw [h]; decide)]
  exact and_iff_left (decide_eq_true h)

/-- R168: a COARSE entry that becomes BROADCAST loses no present agent. -/
theorem State.mem_expansion_broaden (hmode : e.mode = Shr.COARSE) (hp : s.agentPresent n b) (h : e.sharers.getLsbD (b.toNat / 32) = true)
    (limit : Nat) : b ∈ s.expansion n (e.broaden limit) := by
  unfold DirEnt.broaden
  split
  · exact (State.mem_expansion_broadcast rfl).mpr hp
  · exact (State.mem_expansion_coarse hmode).mpr ⟨hp, h⟩

/-! ### Group bits -/

theorem groupBit_getLsbD (a : BitVec 10) {k : Nat} (hk : k < 32) : (groupBit a).getLsbD k = decide (a.toNat / 32 = k) := by
  rw [groupBit, getLsbD_one_shiftLeft]
  simp [hk]

theorem getLsbD_foldl_groupBit (l : List (BitVec 10)) (g : BitVec 32) (b : BitVec 10) :
    (l.foldl (fun g i => g ||| groupBit i) g).getLsbD (b.toNat / 32) = true ↔
      g.getLsbD (b.toNat / 32) = true ∨ ∃ i ∈ l, i.toNat / 32 = b.toNat / 32 := by
  have hk : b.toNat / 32 < 32 := by have := b.isLt; omega
  induction l generalizing g with
  | nil => simp
  | cons i l ih => simp [ih, groupBit_getLsbD i hk, or_assoc]

/-! ### EXACT lists -/

theorem DirEnt.ids_length (h : e.mode.toNat ≤ 3) : e.ids.length = e.mode.toNat := by
  simp [DirEnt.ids, h]

theorem DirEnt.withIds_mode {l : List (BitVec 10)} (h : l.length ≤ 3) (e : DirEnt) : (e.withIds l).mode.toNat = l.length := by
  simp [DirEnt.withIds, Nat.min_eq_left h]
  omega

/-- The ten bits at place `i` of three IDs side by side. -/
theorem extractLsb'_of_places (x y z : BitVec 10) :
    let v : BitVec 32 := x.setWidth 32 <<< 0 ||| y.setWidth 32 <<< 10 ||| z.setWidth 32 <<< 20
    v.extractLsb' 0 10 = x ∧ v.extractLsb' 10 10 = y ∧ v.extractLsb' 20 10 = z := by
  refine ⟨?_, ?_, ?_⟩ <;>
  · refine BitVec.eq_of_getLsbD_eq fun i hi => ?_
    simp only [BitVec.getLsbD_extractLsb', BitVec.getLsbD_or, BitVec.getLsbD_shiftLeft, BitVec.getLsbD_setWidth]
    have hx := x.getLsbD_of_ge
    have hy := y.getLsbD_of_ge
    have hz := z.getLsbD_of_ge
    grind

theorem DirEnt.ids_withIds {l : List (BitVec 10)} (h : l.length ≤ 3) (e : DirEnt) : (e.withIds l).ids = l := by
  have hm := DirEnt.withIds_mode h e
  obtain ⟨h0, h1, h2⟩ := extractLsb'_of_places (l[0]?.getD 0) (l[1]?.getD 0) (l[2]?.getD 0)
  rw [DirEnt.ids, hm, if_pos h]
  simp only [DirEnt.withIds]
  rw [show 10 * 0 = 0 from rfl, show 10 * 1 = 10 from rfl, show 10 * 2 = 20 from rfl, h0, h1, h2]
  match l, h with
  | [], _ => rfl
  | [_], _ => rfl
  | [_, _], _ => rfl
  | [_, _, _], _ => rfl

/-! ### ADD_SHARER -/

/-- R168: what ADD_SHARER makes of an entry holds every present agent that is the one added or was in the expansion set. -/
theorem State.mem_expansion_addSharer (hmode : e.mode.toNat ≤ 5) (limit : Nat) (hp : s.agentPresent n b) (hb : b = a ∨ b ∈ s.expansion n e) :
    b ∈ s.expansion n (e.addSharer a limit) := by
  unfold DirEnt.addSharer
  by_cases hbroadcast : e.mode = Shr.BROADCAST
  · rw [if_pos hbroadcast]
    exact (State.mem_expansion_broadcast hbroadcast).mpr hp
  rw [if_neg hbroadcast]
  by_cases hcoarse : e.mode = Shr.COARSE
  · rw [if_pos hcoarse]
    refine State.mem_expansion_broaden (e := { e with sharers := e.sharers ||| groupBit a }) hcoarse hp ?_ limit
    have hk : b.toNat / 32 < 32 := by have := b.isLt; omega
    rw [BitVec.getLsbD_or, groupBit_getLsbD a hk]
    rcases hb with rfl | hb
    · simp
    · simp [((State.mem_expansion_coarse hcoarse).mp hb).2]
  rw [if_neg hcoarse]
  have hexact : e.mode.toNat ≤ 3 := by
    have h4 : e.mode.toNat ≠ 4 := fun h => hcoarse (BitVec.eq_of_toNat_eq h)
    have h5 : e.mode.toNat ≠ 5 := fun h => hbroadcast (BitVec.eq_of_toNat_eq h)
    omega
  rw [State.mem_expansion_exact hexact] at hb
  by_cases hmem : e.ids.contains a = true
  · rw [if_pos hmem, State.mem_expansion_exact hexact]
    rcases hb with rfl | hb
    · simpa using hmem
    · exact hb
  rw [if_neg hmem]
  have hids : b ∈ e.ids ++ [a] := by simpa using hb.symm
  by_cases hfull : e.mode = Shr.EXACT3
  · rw [if_pos hfull]
    exact State.mem_expansion_broaden rfl hp ((getLsbD_foldl_groupBit _ 0 b).mpr (.inr ⟨b, hids, rfl⟩)) limit
  · rw [if_neg hfull]
    have hlen : (e.ids ++ [a]).length ≤ 3 := by
      have h3 : e.mode.toNat ≠ 3 := fun h => hfull (BitVec.eq_of_toNat_eq h)
      simp [DirEnt.ids_length hexact]
      omega
    rw [State.mem_expansion_exact (by rw [DirEnt.withIds_mode hlen]; exact hlen), DirEnt.ids_withIds hlen]
    exact hids

end Sys2Proof.Machine
end

section
/-! ADD_SHARER loses no present agent (R166, R168). -/

namespace Sys2Proof.Machine

/-- Settles O5: mode by mode, the entry ADD_SHARER leaves covers what it covered and the agent added. -/
theorem addSharerCovers : Obligations.AddSharerCovers := by
  unfold Obligations.AddSharerCovers
  exact fun s n e a limit hmode =>
    ⟨fun ha => State.mem_expansion_addSharer hmode limit ha (.inl rfl), fun b hp hb => State.mem_expansion_addSharer hmode limit hp (.inr hb)⟩

end Sys2Proof.Machine
end

section
/-! What O36 says of a recall that waited (R175) fails where the EVICT of one way waits twice: the second wait ends with the recall that opens, and the statement
keeps all of them. -/

namespace Sys2Proof.Machine

/-- Reset, but way 0 of set 0 of shaft 0 holds a line in M, and two EVICTs of that way wait for the reserve. -/
def State.evictedTwice : State :=
  State.reset.updSh 0 (fun h => { h with dir := [(0, { DirEnt.zero with st0 := Ln.M })], recallWait := [.evict 0 0, .evict 0 0] })

/-- R168: the recall that opens for the first EVICT ends the wait of the second. -/
theorem State.evictedTwice_recallOpen : ((State.evictedTwice.recallOpen 0).sh 0).recallWait = [] := by
  decide

/-- Refutes O36: the recall of way 0 opens and no EVICT waits any more, where the statement leaves the second one waiting. -/
theorem not_directoryUpkeep : ¬ Obligations.DirectoryUpkeep := by
  unfold Obligations.DirectoryUpkeep
  intro h
  obtain ⟨-, -, hopens, -⟩ := h State.evictedTwice 0
  obtain ⟨t', ht', hwait, -⟩ := hopens 0 0 32512 [.evict 0 0] (by decide) (by decide) (by decide) (by decide) (by decide) (by decide) (by decide)
    (by decide) (by decide)
  obtain rfl : State.evictedTwice.recallOpen 0 = t' := Host.Outcome.next.inj ht'
  rw [State.evictedTwice_recallOpen] at hwait
  cases hwait

end Sys2Proof.Machine
end

section
/-! SUPPORT. A change of one thing as what it makes of that thing: two changes of a shaft, a tally or a thread that agree where they are applied are one. -/

namespace Sys2Proof.Machine

variable {s : State} {n : Shaft} {h k t : Nat}

theorem State.updSh_congr {F G : ShaftSt → ShaftSt} (e : F (s.sh n) = G (s.sh n)) : s.updSh n F = s.updSh n G := by
  simp only [State.sh] at e
  simp only [State.updSh, Oct.upd, e]

theorem State.updTally_congr {f g : Tally → Tally} (e : f (s.tally n t) = g (s.tally n t)) : s.updTally n t f = s.updTally n t g := by
  simp only [State.tally] at e
  exact State.updSh_congr (by simp only [Tbl.upd, e])

theorem State.updThread_congr {f g : Thread → Thread} (e : f (s.thread n h k) = g (s.thread n h k)) :
    s.updThread n h k f = s.updThread n h k g := by
  simp only [State.thread] at e
  exact State.updSh_congr (by simp only [Tbl.upd, e])

/-- The low bits of a word, said in the two ways the model and the statements say it. -/
theorem extractLsb'_zero_eq_setWidth {w : Nat} (x : BitVec w) (v : Nat) : x.extractLsb' 0 v = x.setWidth v := BitVec.eq_of_toNat_eq (by simp)

theorem State.thread_of_sh {a : State} (e : (a.sh n).threads = (s.sh n).threads) (h k : Nat) : a.thread n h k = s.thread n h k := by
  rw [State.thread, e, ← State.thread]

theorem State.thread_updSh {F : ShaftSt → ShaftSt} (e : ∀ x, (F x).threads = x.threads) (h k : Nat) : (s.updSh n F).thread n h k = s.thread n h k :=
  State.thread_of_sh (by rw [State.sh_updSh_same, e]) h k

end Sys2Proof.Machine
end

section
/-! SUPPORT. A hewer's step (R200 to R209) to its outcome: a trap, a step on, or a result in the thread; each for an instruction that is legal, issues, and does not
stand at the last address. -/

namespace Sys2Proof.Machine

variable {s a : State} {n : Shaft} {h k t : Nat} {op : BitVec 8} {i : HewFields} {f : Form} {body : Hew → State → HewRes} {cause : Nat} {x : Thread}

theorem Hew.pend_of (s : State) (n : Shaft) (h k t : Nat) (i : HewFields) : (Hew.of s n h k t i).pend = s.speculates n t := rfl

theorem State.hewStep_trap (hs : s.Steps n h k t op i f) (hb : body (Hew.of s n h k t i) s = .trap cause) :
    s.hewStep n h k op i .clean (fun _ => f) body = s.hewTrap n h k t cause (s.thread n h k).pc.toNat (i.word op) := by
  obtain ⟨hissues, hlegal, -⟩ := hs
  rw [State.hewStep_run hissues _ hlegal, hb]
  rfl

/-- What leaves the thread as it was steps on. -/
theorem State.hewStep_stepOn (hs : s.Steps n h k t op i f) (hb : body (Hew.of s n h k t i) s = .go a) (ha : a.thread n h k = s.thread n h k) :
    s.hewStep n h k op i .clean (fun _ => f) body = a.stepOn n h k := by
  obtain ⟨hissues, hlegal, hpc⟩ := hs
  rw [State.hewStep_run hissues _ hlegal, hb, Hew.finish_go _ _ _ _ hpc]
  have hstep : ∀ y : Thread, y = s.thread n h k → { y with pc := (s.thread n h k).pc + 1, steps := y.steps + 1 } = y.stepped := by
    rintro _ rfl
    rfl
  exact State.updThread_congr (hstep _ ha)

/-- A thread written anew steps on. -/
theorem State.hewStep_put (hs : s.Steps n h k t op i f) (hb : body (Hew.of s n h k t i) s = .go ((Hew.of s n h k t i).put a x))
    (hx : x.pc = (s.thread n h k).pc) : s.hewStep n h k op i .clean (fun _ => f) body = a.updThread n h k (fun _ => x.stepped) := by
  obtain ⟨hissues, hlegal, hpc⟩ := hs
  rw [State.hewStep_run hissues _ hlegal, hb, Hew.finish_go _ _ _ _ hpc, Hew.put]
  refine (State.updThread_updThread ..).trans (State.updThread_congr ?_)
  simp only [Thread.stepped, hx]
  rfl

/-- A change of the thread beside what else is done. -/
theorem State.hewStep_change {F : Thread → Thread} (hs : s.Steps n h k t op i f)
    (hb : body (Hew.of s n h k t i) s = .go ((Hew.of s n h k t i).put a (F (s.thread n h k)))) (hpc : ∀ y, (F y).pc = y.pc)
    (ha : a.thread n h k = s.thread n h k) :
    s.hewStep n h k op i .clean (fun _ => f) body = a.updThread n h k (fun y => (F y).stepped) :=
  (State.hewStep_put hs hb (hpc _)).trans (State.updThread_congr (by rw [ha]))

/-- A result in Wd, and nothing else (R202). -/
theorem State.hewStep_write {v : DWord} (hs : s.Steps n h k t op i f) (hb : body (Hew.of s n h k t i) s = (Hew.of s n h k t i).write s v) :
    s.hewStep n h k op i .clean (fun _ => f) body = s.updThread n h k (fun x => (x.setReg i.d v (s.speculates n t)).stepped) :=
  State.hewStep_change (F := fun y => y.setReg i.d v (s.speculates n t)) hs hb (fun _ => rfl) rfl

end Sys2Proof.Machine
end

section
/-! SUPPORT. A recall that opens or waits for the reserve (R175, R176) leaves the threads of its shaft alone. -/

namespace Sys2Proof.Machine

theorem State.threads_park (s : State) (n : Shaft) (t l : Nat) (r : LockRec) : ((s.park n t l r).sh n).threads = (s.sh n).threads := by
  simp only [State.park]
  split
  · rw [State.sh_updTally, State.sh_setLock]
  · rw [State.sh_updTally, State.sh_updTally, State.sh_setLock]

theorem State.threads_recallReady (s : State) (n : Shaft) (t : Nat) : ((s.recallReady n t).sh n).threads = (s.sh n).threads := by
  unfold State.recallReady
  split
  · rfl
  · rw [State.sh_dispatchTally, State.sh_updTally]

theorem State.threads_recallLines (s : State) (n : Shaft) (t : Nat) (l : List Nat) : ((s.recallLines n t l).sh n).threads = (s.sh n).threads := by
  induction l generalizing s with
  | nil => exact s.threads_recallReady n t
  | cons i rest ih =>
    unfold State.recallLines
    split
    · rfl
    · dsimp only
      split
      · rw [State.sh_updTally, State.threads_park]
      · rw [ih, State.sh_setEnt, State.sh_updTally, State.sh_setLock]

theorem State.threads_openRecall (s : State) (n : Shaft) (t set w : Nat) (c : RecallFor) :
    ((s.openRecall n t set w c).sh n).threads = (s.sh n).threads := by
  have hopen : ∀ (i : TallyInit) (f : Tally → Tally),
      (((((s.openTally n t i).updTally n t f).setRecallOf n set w (some t)).forgetEvict n set w).sh n).threads = (s.sh n).threads := fun i f => by
    rw [State.forgetEvict, State.sh_updSh_same, State.setRecallOf, State.sh_updSh_same, State.sh_updTally]
    exact State.openTally_keeps s n t i ShaftSt.threads fun _ _ => rfl
  simp only [State.openRecall]
  rw [State.threads_recallLines]
  split
  · rw [State.sh_updSh_same, State.sh_addReg, State.sh_addReg]
    exact hopen ..
  · rw [State.sh_addReg]
    exact hopen ..

theorem State.thread_recallNow (s : State) (n : Shaft) (set w : Nat) (c : RecallFor) (wait : RecallWait) (h k : Nat) :
    (s.recallNow n set w c wait).thread n h k = s.thread n h k := by
  unfold State.recallNow
  split
  · split
    · exact State.thread_of_sh (s.threads_openRecall ..) h k
    · exact State.thread_updSh (by intro; rfl) h k
  · exact State.thread_updSh (by intro; rfl) h k

end Sys2Proof.Machine
end

section
/-! SUPPORT. The directory instructions of a hewer (R168, R169, R204, R209, R230, R231), each by what it finds: the entry of its tally's sector, a recall, an agent that
does not exist, or a tally that speculates. -/

namespace Sys2Proof.Machine

variable {s : State} {n : Shaft} {h k t : Nat} {i : HewFields}

theorem Hew.recallRec_of_recall (e : (s.tally n t).kind = .recall) : (Hew.of s n h k t i).recallRec = true := decide_eq_true e
theorem Hew.recallRec_of_other (e : (s.tally n t).kind ≠ .recall) : (Hew.of s n h k t i).recallRec = false := decide_eq_false e

theorem DirEnt.zero_bits : DirEnt.zero.bits = 0 := by decide

/-! ### LOOKUP -/

theorem exec_hewLookup (hs : s.Steps n h k t 0x28 i { d := true }) :
    exec (.hewLookup n h k i .clean .good) s = .next (s.updThread n h k (fun x =>
      (x.setReg i.d ((Hew.of s n h k t i).entry s).bits (s.speculates n t)).stepped)) :=
  congrArg Host.Outcome.next (State.hewStep_write hs rfl)

theorem Hew.entry_of_recall {r : RecallRec} (hr : (s.tally n t).recallRec = some r) :
    (Hew.of s n h k t i).entry s = { (if s.quarantine n r.set r.way then DirEnt.zero else s.ent n r.set r.way) with
      st0 := r.line 0, st1 := r.line 1, st2 := r.line 2, st3 := r.line 3 } := by
  simp only [Hew.entry, Hew.of, hr]
  rfl

section
variable (hr : (s.tally n t).recallRec = none)
include hr

theorem Hew.entry_of_absent (hw : s.findWay n (homeSet (s.tally n t).line) (homeTag (s.tally n t).line) = none) :
    (Hew.of s n h k t i).entry s = DirEnt.zero := by
  simp only [Hew.entry, Hew.of, hr, hw]

theorem Hew.entry_of_present {w : Nat} (hw : s.findWay n (homeSet (s.tally n t).line) (homeTag (s.tally n t).line) = some w) :
    (Hew.of s n h k t i).entry s =
      (s.ent n (homeSet (s.tally n t).line) w).setLine (homeIdx (s.tally n t).line) (s.tally n t).prior := by
  simp only [Hew.entry, Hew.of, hr, hw]

end

/-! ### SETST -/

theorem exec_hewSetst (hs : s.Steps n h k t 0x29 i { x := 7 }) :
    exec (.hewSetst n h k i .clean) s = .next (
      if (s.tally n t).kind = .recall then s.hewTrap n h k t Cause.ILLEGAL (s.thread n h k).pc.toNat (i.word 0x29)
      else if 4 ≤ i.x.toNat % 8 then s.hewTrap n h k t Cause.DIR (s.thread n h k).pc.toNat (i.word 0x29)
      else if s.speculates n t then (s.updTally n t (fun y => { y with prov := some (i.x.extractLsb' 0 3) })).stepOn n h k
      else (s.updTally n t (fun y => { y with setst := some (i.x.extractLsb' 0 3) })).stepOn n h k) := by
  have hvalue : (i.x.setWidth 3).toNat = i.x.toNat % 8 := BitVec.toNat_setWidth ..
  have hsame : i.x.setWidth 3 = i.x.extractLsb' 0 3 := (extractLsb'_zero_eq_setWidth ..).symm
  refine congrArg Host.Outcome.next ?_
  by_cases hkind : (s.tally n t).kind = .recall
  · rw [if_pos hkind]
    exact State.hewStep_trap hs (by simp only [hewSetst, Hew.recallRec_of_recall hkind, if_true])
  rw [if_neg hkind]
  by_cases hbig : 4 ≤ i.x.toNat % 8
  · rw [if_pos hbig]
    exact State.hewStep_trap hs (by
      simp only [hewSetst, Hew.recallRec_of_other hkind, Bool.false_eq_true, if_false]
      exact if_pos (hvalue ▸ hbig))
  rw [if_neg hbig]
  have hgo : hewSetst (Hew.of s n h k t i) s = .go (s.updTally n t (fun y =>
      if s.speculates n t then { y with prov := some (i.x.extractLsb' 0 3) } else { y with setst := some (i.x.extractLsb' 0 3) })) := by
    rw [← hsame]
    simp only [hewSetst, Hew.recallRec_of_other hkind, Bool.false_eq_true, if_false]
    exact if_neg (hvalue ▸ hbig)
  have hstep := State.hewStep_stepOn hs hgo (State.thread_updTally ..)
  cases hspec : s.speculates n t <;> simpa only [hspec, Bool.false_eq_true, if_false, if_true] using hstep

/-! ### EVICT -/

theorem exec_hewEvict (hs : s.Steps n h k t 0x2D i {}) :
    exec (.hewEvict n h k i .clean) s = .next (
      if (s.tally n t).kind = .recall then s.hewTrap n h k t Cause.ILLEGAL (s.thread n h k).pc.toNat (i.word 0x2D)
      else if s.speculates n t then s.hewTrap n h k t Cause.DAYLIGHT (s.thread n h k).pc.toNat (i.word 0x2D)
      else match s.findWay n (homeSet (s.tally n t).line) (homeTag (s.tally n t).line) with
        | none => s.stepOn n h k
        | some w =>
          if s.recallOf n (homeSet (s.tally n t).line) w = none then
            (s.recallNow n (homeSet (s.tally n t).line) w .evict (.evict (homeSet (s.tally n t).line) w)).stepOn n h k
          else s.stepOn n h k) := by
  refine congrArg Host.Outcome.next ?_
  by_cases hkind : (s.tally n t).kind = .recall
  · rw [if_pos hkind]
    exact State.hewStep_trap hs (by simp only [hewEvict, Hew.recallRec_of_recall hkind, if_true])
  rw [if_neg hkind]
  have hother := Hew.recallRec_of_other (h := h) (k := k) (i := i) hkind
  cases hspec : s.speculates n t with
  | true => exact State.hewStep_trap hs (by simp only [hewEvict, hother, Hew.pend_of, hspec, Bool.false_eq_true, if_false, if_true])
  | false =>
    rw [if_neg Bool.false_ne_true]
    have hfound : ∀ {o : Option Nat}, s.findWay n (homeSet (s.tally n t).line) (homeTag (s.tally n t).line) = o →
        s.findWay (Hew.of s n h k t i).n (homeSet (Hew.of s n h k t i).y.line) (homeTag (Hew.of s n h k t i).y.line) = o := id
    cases hway : s.findWay n (homeSet (s.tally n t).line) (homeTag (s.tally n t).line) with
    | none => exact State.hewStep_stepOn hs (by simp only [hewEvict, hother, Hew.pend_of, hspec, hfound hway, Bool.false_eq_true, if_false]) rfl
    | some w =>
      by_cases hopen : s.recallOf n (homeSet (s.tally n t).line) w = none
      · simp only [if_pos hopen]
        refine State.hewStep_stepOn hs ?_ (State.thread_recallNow ..)
        simp only [hewEvict, hother, Hew.pend_of, hspec, hfound hway, Bool.false_eq_true, if_false]
        exact if_pos hopen
      · simp only [if_neg hopen]
        refine State.hewStep_stepOn hs ?_ rfl
        simp only [hewEvict, hother, Hew.pend_of, hspec, hfound hway, Bool.false_eq_true, if_false]
        exact if_neg hopen

/-! ### ADDSH, REMSH and SETOWN -/

/-- The agent of an ADDSH, REMSH or SETOWN: the tally's own, or the one opA names (R204). -/
def State.sharerAgent (s : State) (n : Shaft) (h k t : Nat) (i : HewFields) : BitVec 10 :=
  if i.x.getLsbD 0 then (s.tally n t).agent else ((s.thread n h k).opA i).extractLsb' 0 10

theorem State.sharerAgent_eq : (if i.x.getLsbD 0 then (Hew.of s n h k t i).y.agent else (Hew.of s n h k t i).opA.setWidth 10) =
    s.sharerAgent n h k t i := by
  rw [State.sharerAgent, extractLsb'_zero_eq_setWidth]
  rfl

section
variable {d : BitVec 10 → Deferral} {g : State → BitVec 10 → State}

theorem Hew.sharer_of_recall (hk : (s.tally n t).kind = .recall) : (Hew.of s n h k t i).sharer s .good d g = .trap Cause.ILLEGAL := by
  simp only [Hew.sharer, Hew.recallRec_of_recall hk, if_true]

theorem Hew.sharer_of_absent (hk : (s.tally n t).kind ≠ .recall) (hx : i.x.getLsbD 0 = false) (ha : 1024 ≤ ((s.thread n h k).opA i).toNat) :
    (Hew.of s n h k t i).sharer s .good d g = .trap Cause.BOUNDS := by
  have hopA : 1024 ≤ (Hew.of s n h k t i).opA.toNat := ha
  have hx' : (Hew.of s n h k t i).i.x.getLsbD 0 = false := hx
  simp only [Hew.sharer, Hew.recallRec_of_other hk, hx', hopA, Bool.false_eq_true, if_false, Bool.not_false, decide_true, Bool.and_self, if_true]

section
variable (hk : (s.tally n t).kind ≠ .recall) (ha : i.x.getLsbD 0 = true ∨ ((s.thread n h k).opA i).toNat < 1024)
include hk ha

theorem Hew.sharer_of_agent : (Hew.of s n h k t i).sharer s .good d g =
    if s.speculates n t then (Hew.of s n h k t i).defer s (d (s.sharerAgent n h k t i)) else .go (g s (s.sharerAgent n h k t i)) := by
  have hexists : (!(Hew.of s n h k t i).i.x.getLsbD 0 && decide (1024 ≤ (Hew.of s n h k t i).opA.toNat)) = false := by
    change (!i.x.getLsbD 0 && decide (1024 ≤ ((s.thread n h k).opA i).toNat)) = false
    rcases ha with hx | hlt
    · rw [hx]; rfl
    · rw [decide_eq_false (by omega), Bool.and_false]
  rw [← State.sharerAgent_eq]
  simp only [Hew.sharer, Hew.recallRec_of_other hk, hexists, Bool.false_eq_true, if_false]
  rfl

end

/-! ### Deferral (R230) -/

theorem Hew.defer_of_full (hfull : 8 ≤ (s.tally n t).sp.deferCount) (e : Deferral) :
    (Hew.of s n h k t i).defer s e = .trap Cause.DAYLIGHT := by
  have hroom : (Hew.of s n h k t i).y.deferRoom = false := decide_eq_false (Nat.not_lt.mpr hfull)
  simp only [Hew.defer, hroom, Bool.not_false, if_true]

theorem State.takeDeferSlot_of_some {j : Nat} (hj : (s.tally n t).sp.deferSlot = some j) : s.takeDeferSlot n t = s := by
  simp only [State.takeDeferSlot, hj]

theorem State.takeDeferSlot_of_none {j : Nat} (hj : (s.tally n t).sp.deferSlot = none) (hfree : s.freeSlot n = some j) :
    s.takeDeferSlot n t = (s.takeSlot n j Tub.zero).updTally n t (fun y => { y with sp := { y.sp with deferSlot := some j } }) := by
  simp only [State.takeDeferSlot, hj, hfree]

theorem State.tally_setSlot (s : State) (n : Shaft) (j : Nat) (x : Tub) (t : Nat) : (s.setSlot n j x).tally n t = s.tally n t :=
  State.tally_of_sh (by rw [State.sh_setSlot]) t

theorem State.addDeferral_of_slot {j : Nat} (hj : ((s.takeDeferSlot n t).tally n t).sp.deferSlot = some j) (e : Deferral) :
    s.addDeferral n t e =
      ((s.takeDeferSlot n t).setSlot n j
        (((s.takeDeferSlot n t).slot n j).put (8 * ((s.takeDeferSlot n t).tally n t).sp.deferCount) 0 e.bits)).updTally n t
          (fun y => { y with sp := { y.sp with deferCount := ((s.takeDeferSlot n t).tally n t).sp.deferCount + 1 } }) := by
  simp only [State.addDeferral, hj]
  exact State.updTally_congr (by rw [State.tally_setSlot])

theorem State.addDeferral_of_deferred {e : Deferral} {a : State} (ha : s.Deferred n t e.bits a) : s.addDeferral n t e = a := by
  rcases ha with ⟨j, hj, rfl⟩ | ⟨hj, -, j, hfree, rfl⟩
  · have htake := State.takeDeferSlot_of_some hj
    rw [State.addDeferral_of_slot (j := j) (by rw [htake]; exact hj), htake]
  · have htake := State.takeDeferSlot_of_none hj hfree
    have hsp : ((s.takeDeferSlot n t).tally n t).sp = { (s.tally n t).sp with deferSlot := some j } := by
      rw [htake, State.tally_updTally_same, State.takeSlot, State.tally_updSh (by intro; rfl), State.tally_setSlot]
    have hslot : (s.takeDeferSlot n t).slot n j = Tub.zero := by
      rw [htake, State.slot, State.sh_updTally, State.takeSlot, State.sh_updSh_same, ← State.slot, State.slot_setSlot_same]
    rw [State.addDeferral_of_slot (j := j) (by rw [hsp]), hsp, hslot, htake]
    simp only [State.takeSlot, State.setSlot, State.updTally, State.updSh_updSh, Tbl.set_set, Tbl.upd_upd]

/-- R230: with room for one more entry and a tub slot for the list, the effect is recorded. -/
theorem Hew.defer_of_room {e : Deferral} {a : State} (hroom : (s.tally n t).sp.deferCount < 8) (ha : s.Deferred n t e.bits a) :
    (Hew.of s n h k t i).defer s e = .go a := by
  have hneeds : ¬ s.freeSlots n < (s.tally n t).deferNeeds false := by
    rcases ha with ⟨j, hj, -⟩ | ⟨hj, hfree, -⟩
    · simp [Tally.deferNeeds, hj]
    · simpa [Tally.deferNeeds, hj] using Nat.one_le_iff_ne_zero.mp hfree
  have hroom' : (s.tally n t).deferRoom = true := decide_eq_true hroom
  rw [← State.addDeferral_of_deferred ha]
  change (if !(s.tally n t).deferRoom then HewRes.trap Cause.DAYLIGHT
    else if s.freeSlots n < (s.tally n t).deferNeeds false then .stay s else .go (s.addDeferral n t e)) = _
  rw [hroom', if_neg (by decide), if_neg hneeds]

theorem State.thread_of_deferred {e : BitVec 64} {a : State} (ha : s.Deferred n t e a) (h k : Nat) : a.thread n h k = s.thread n h k := by
  refine State.thread_of_sh ?_ h k
  rcases ha with ⟨j, -, rfl⟩ | ⟨-, -, j, -, rfl⟩
  · rw [State.sh_updTally, State.sh_setSlot]
  · rw [State.sh_updTally, State.sh_updTally, State.sh_updSh_same, State.sh_setSlot]

end

theorem Deferral.bits_sharer (kind : BitVec 64) (a : BitVec 10) (hk : kind.toNat < 16) :
    kind ||| (a.setWidth 64 <<< 4) = BitVec.ofNat 64 (kind.toNat + 16 * a.toNat) := by
  have hdisjoint : kind.toNat ||| a.toNat <<< 4 = a.toNat <<< 4 + kind.toNat := by
    rw [Nat.or_comm]
    exact (Nat.shiftLeft_add_eq_or_of_lt hk a.toNat).symm
  refine BitVec.eq_of_toNat_eq ?_
  have ha := a.isLt
  have hw : (a.setWidth 64 <<< 4).toNat = a.toNat <<< 4 := by
    rw [BitVec.toNat_shiftLeft, BitVec.toNat_setWidth, Nat.mod_eq_of_lt (show a.toNat < 2 ^ 64 by omega),
      Nat.mod_eq_of_lt (by rw [Nat.shiftLeft_eq]; omega)]
  rw [BitVec.toNat_or, hw, hdisjoint, BitVec.toNat_ofNat, Nat.mod_eq_of_lt (by omega), Nat.shiftLeft_eq]
  omega

/-- What O4 says of ADDSH, REMSH and SETOWN: instruction `c` of opcode `op` changes the entry of the tally's sector by `f`, deferred as an entry of kind `kind`. -/
def SharerRow (c : Shaft → Nat → Nat → HewFields → StepCheck → DirCheck → Instr) (op : BitVec 8) (kind : Nat)
    (f : DirEnt → Nat → BitVec 10 → Nat → DirEnt) : Prop :=
  ∀ (s : State) (n : Shaft) (h k t : Nat) (i : HewFields),
    s.Steps n h k t op i { a := !i.x.getLsbD 0, x := 1 } →
    let y := s.tally n t
    let set := homeSet y.line
    let b := (s.thread n h k).opA i
    let a : BitVec 10 := if i.x.getLsbD 0 then y.agent else b.extractLsb' 0 10
    let trap (c : Nat) := s.hewTrap n h k t c (s.thread n h k).pc.toNat (i.word op)
    (y.kind = .recall → exec (c n h k i .clean .good) s = .next (trap Cause.ILLEGAL)) ∧
    (y.kind ≠ .recall → i.x.getLsbD 0 = false → 1024 ≤ b.toNat → exec (c n h k i .clean .good) s = .next (trap Cause.BOUNDS)) ∧
    (y.kind ≠ .recall → (i.x.getLsbD 0 = true ∨ b.toNat < 1024) → s.speculates n t = false →
      exec (c n h k i .clean .good) s = .next (match s.findWay n set (homeTag y.line) with
        | none => s.stepOn n h k
        | some w => (s.setEnt n set w (f (s.ent n set w) (homeIdx y.line) a (s.reg n .DIR_CFG_BCAST_GROUPS))).stepOn n h k)) ∧
    (y.kind ≠ .recall → (i.x.getLsbD 0 = true ∨ b.toNat < 1024) → s.speculates n t = true →
      (8 ≤ y.sp.deferCount → exec (c n h k i .clean .good) s = .next (trap Cause.DAYLIGHT)) ∧
      (y.sp.deferCount < 8 → ∀ t', s.Deferred n t (BitVec.ofNat 64 (kind + 16 * a.toNat)) t' →
        exec (c n h k i .clean .good) s = .next (t'.stepOn n h k)))

/-- The instruction is `Hew.sharer`, with the change `f` of the entry and the deferral `d`. -/
theorem sharerRow_of_sharer {c : Shaft → Nat → Nat → HewFields → StepCheck → DirCheck → Instr} {op : BitVec 8} {kind : Nat}
    {f : DirEnt → Nat → BitVec 10 → Nat → DirEnt} {d : BitVec 10 → Deferral}
    (hexec : ∀ s n h k i, exec (c n h k i .clean .good) s = .next (s.hewStep n h k op i .clean (fun _ => { a := !i.x.getLsbD 0, x := 1 })
      (fun c s => c.sharer s .good d (fun z a => z.editEntry c.n c.tp (fun e j => f e j a (z.bcast c.n))))))
    (hbits : ∀ a : BitVec 10, (d a).bits = BitVec.ofNat 64 (kind + 16 * a.toNat)) : SharerRow c op kind f := by
  intro s n h k t i hs
  dsimp only
  rw [hexec]
  refine ⟨fun hk => ?_, fun hk hx ha => ?_, fun hk ha hspec => ?_, fun hk ha hspec => ⟨fun hfull => ?_, fun hroom t' ht' => ?_⟩⟩
  · exact congrArg Host.Outcome.next (State.hewStep_trap hs (Hew.sharer_of_recall hk))
  · exact congrArg Host.Outcome.next (State.hewStep_trap hs (Hew.sharer_of_absent hk hx ha))
  · refine congrArg Host.Outcome.next ?_
    have hbody := Hew.sharer_of_agent (d := d) (g := fun z a => z.editEntry n t (fun e j => f e j a (z.bcast n))) hk ha
    rw [hspec, if_neg Bool.false_ne_true] at hbody
    cases hway : s.findWay n (homeSet (s.tally n t).line) (homeTag (s.tally n t).line) with
    | none => exact State.hewStep_stepOn hs (hbody.trans (by simp only [State.editEntry, hway])) rfl
    | some w =>
      exact State.hewStep_stepOn hs (hbody.trans (by simp only [State.editEntry, hway]; rfl)) (State.thread_updSh (by intro; rfl) h k)
  · have hbody := Hew.sharer_of_agent (d := d) (g := fun z a => z.editEntry n t (fun e j => f e j a (z.bcast n))) hk ha
    rw [hspec, if_pos rfl] at hbody
    exact congrArg Host.Outcome.next (State.hewStep_trap hs (hbody.trans (Hew.defer_of_full hfull _)))
  · have hbody := Hew.sharer_of_agent (d := d) (g := fun z a => z.editEntry n t (fun e j => f e j a (z.bcast n))) hk ha
    rw [hspec, if_pos rfl] at hbody
    have hdefer : s.Deferred n t (d (s.sharerAgent n h k t i)).bits t' := by rw [hbits]; exact ht'
    exact congrArg Host.Outcome.next
      (State.hewStep_stepOn hs (hbody.trans (Hew.defer_of_room hroom hdefer)) (State.thread_of_deferred hdefer h k))

theorem hewAddsh_row : SharerRow .hewAddsh 0x2A 1 (fun e _ a l => e.addSharer a l) :=
  sharerRow_of_sharer (d := .addsh) (fun _ _ _ _ _ => rfl) (fun a => Deferral.bits_sharer 1 a (by decide))

theorem hewRemsh_row : SharerRow .hewRemsh 0x2B 2 (fun e j a _ => e.removeSharer j a) :=
  sharerRow_of_sharer (d := .remsh) (fun _ _ _ _ _ => rfl) (fun a => Deferral.bits_sharer 2 a (by decide))

theorem hewSetown_row : SharerRow .hewSetown 0x2C 3 (fun e j a l => e.setOwner j a l) :=
  sharerRow_of_sharer (d := .setown) (fun _ _ _ _ _ => rfl) (fun a => Deferral.bits_sharer 3 a (by decide))

end Sys2Proof.Machine
end

section
/-! LOOKUP, SETST, EVICT, ADDSH, REMSH and SETOWN (R168, R169, R204, R209, R230, R231). -/

namespace Sys2Proof.Machine

/-- Settles O4: each instruction by the lemma of what it finds; the three changes of sharers are one row, `SharerRow`. -/
theorem hewerDirectory : Obligations.HewerDirectory := by
  unfold Obligations.HewerDirectory
  refine ⟨fun s n h k t i => ⟨fun hs => ⟨fun hrec => ?_, fun r hrec => ?_⟩, fun hs => exec_hewSetst hs, fun hs => exec_hewEvict hs⟩, ?_, ?_, ?_⟩
  · refine (exec_hewLookup hs).trans ?_
    cases hway : s.findWay n (homeSet (s.tally n t).line) (homeTag (s.tally n t).line) with
    | none => rw [Hew.entry_of_absent hrec hway, DirEnt.zero_bits]
    | some w => rw [Hew.entry_of_present hrec hway]
  · exact (exec_hewLookup hs).trans (by rw [Hew.entry_of_recall hrec])
  · exact hewAddsh_row
  · exact hewRemsh_row
  · exact hewSetown_row

end Sys2Proof.Machine
end

section
/-! SUPPORT. The bytes of a tub (R122, R124) after one of its fields is written, and after a fill of a template (R198). -/

namespace Sys2Proof.Machine

theorem putBits_getLsbD {n w : Nat} (x : BitVec n) (lsb : Nat) (v : BitVec w) (j : Nat) (hj : j < n) :
    (putBits x lsb v).getLsbD j = if lsb ≤ j ∧ j < lsb + w then v.getLsbD (j - lsb) else x.getLsbD j := by
  simp only [putBits, BitVec.getLsbD_or, BitVec.getLsbD_and, BitVec.getLsbD_not, BitVec.getLsbD_shiftLeft, BitVec.getLsbD_setWidth,
    BitVec.getLsbD_allOnes, hj, decide_true, Bool.true_and]
  by_cases hlo : lsb ≤ j
  · by_cases hhi : j < lsb + w
    · rw [if_pos ⟨hlo, hhi⟩]
      simp [show ¬ j < lsb by omega, show j - lsb < n by omega, show j - lsb < w by omega]
    · rw [if_neg (fun h => hhi h.2)]
      simp [show ¬ j - lsb < w by omega, v.getLsbD_of_ge (j - lsb) (by omega)]
  · rw [if_neg (fun h => hlo h.1)]
    simp [show j < lsb by omega]

namespace Tub

variable {w : Nat} (t : Tub) (byte lo : Nat) (v : BitVec w)

theorem field_put_same (h : 8 * byte + lo + w ≤ 512) : (t.put byte lo v).field byte lo w = v := by
  refine BitVec.eq_of_getLsbD_eq fun j hj => ?_
  simp only [field, put, BitVec.getLsbD_extractLsb', hj, decide_true, Bool.true_and]
  rw [putBits_getLsbD _ _ _ _ (by omega), if_pos (by omega), Nat.add_sub_cancel_left]

variable {byte lo} in
theorem field_put_apart {byte' lo' w' : Nat} (h : 8 * byte' + lo' + w' ≤ 8 * byte + lo ∨ 8 * byte + lo + w ≤ 8 * byte' + lo') :
    (t.put byte lo v).field byte' lo' w' = t.field byte' lo' w' := by
  refine BitVec.eq_of_getLsbD_eq fun j hj => ?_
  simp only [field, put, BitVec.getLsbD_extractLsb', hj, decide_true, Bool.true_and]
  by_cases hin : 8 * byte' + lo' + j < 512
  · rw [putBits_getLsbD _ _ _ _ hin, if_neg (by omega)]
  · rw [BitVec.getLsbD_of_ge _ _ (by omega), BitVec.getLsbD_of_ge _ _ (by omega)]

theorem fill_on : t.fill true byte v = t.put byte 0 v := rfl
theorem fill_off : t.fill false byte v = t := rfl

variable {byte} in
theorem field_fill_apart {byte' lo' w' : Nat} (h : 8 * byte' + lo' + w' ≤ 8 * byte ∨ 8 * byte + w ≤ 8 * byte' + lo') (on : Bool) :
    (t.fill on byte v).field byte' lo' w' = t.field byte' lo' w' := by
  cases on
  · rfl
  · exact field_put_apart t v (by simpa using h)

theorem fill_cls (on : Bool) : (t.fill on byte v).cls = t.cls := by cases on <;> rfl
theorem fill_line (on : Bool) : (t.fill on byte v).line = t.line := by cases on <;> rfl
theorem fill_poison (on : Bool) : (t.fill on byte v).poison = t.poison := by cases on <;> rfl

end Tub
end Sys2Proof.Machine
end

section
/-! SUPPORT. The tub a hewer builds (R198, R199), and its way into haulage (R205, R233). -/

namespace Sys2Proof.Machine

variable {s : State} {n : Shaft} {h k t : Nat} {i : HewFields} {accepts : List (BitVec 4)}

theorem badTemplate_of_controlOk {w : DWord} (e : ControlOk w accepts) : badTemplate w accepts = false := by
  obtain ⟨hclass, hdst, haddr, hzero, hhigh⟩ := e
  simp only [badTemplate, ctlClass, hzero, hhigh, bne_self_eq_false, Bool.or_false, Bool.or_eq_false_iff, Bool.not_eq_false',
    List.contains_iff_mem, hclass, true_and, Bool.and_eq_false_imp]
  exact ⟨fun h8 => by simpa [h8] using hdst, fun h10 => by simpa [h10] using haddr⟩

theorem Hew.field_sideband (c : Hew) (x : Tub) (byte lo w : Nat) : (c.sideband x).field byte lo w = x.field byte lo w := rfl

/-- R198, R199: each field of the tub is what its fill put there, or the template's; the two fills of the destination exclude each other. -/
theorem Hew.built_build (hdst : ¬((s.templateControl n t i).getLsbD 8 = true ∧ (s.templateControl n t i).getLsbD 9 = true)) :
    s.Built n h k t i ((Hew.of s n h k t i).build s) := by
  have hcontrol : (Hew.of s n h k t i).control s = s.templateControl n t i := rfl
  refine ⟨?_, rfl, rfl, rfl, rfl, ?_, ?_, rfl, rfl, rfl, ?_, fun h8 => ?_, fun h9 => ?_, fun h12 => ?_, fun h13 => ?_, fun h14 => ?_, fun h15 => ?_⟩
  · simp only [Hew.build, Hew.sideband, Tub.fill_cls]
    rfl
  · simp only [Hew.build, Hew.sideband, Tub.fill_line]
    rfl
  · simp only [Hew.build, Hew.sideband, Tub.fill_poison]
    rfl
  · simp (disch := decide) only [Tub.opcode, Hew.build, Hew.field_sideband, Tub.field_fill_apart]
    rfl
  · have h9 : (s.templateControl n t i).getLsbD 9 = false := by simpa [h8] using hdst
    simp (disch := decide) only [Tub.dstAgent, Hew.build, hcontrol, Hew.field_sideband, Tub.field_fill_apart, h8, h9, Tub.fill_off, Tub.fill_on,
      Tub.field_put_same]
    rfl
  · simp (disch := decide) only [Tub.dstAgent, Hew.build, hcontrol, Hew.field_sideband, Tub.field_fill_apart, h9, Tub.fill_on, Tub.field_put_same]
    exact (extractLsb'_zero_eq_setWidth ..).symm
  · simp (disch := decide) only [Tub.ftag, Hew.build, hcontrol, Hew.field_sideband, Tub.field_fill_apart, h12, Tub.fill_on, Tub.field_put_same]
    rfl
  · simp (disch := decide) only [Tub.portal, Hew.build, hcontrol, Hew.field_sideband, Tub.field_fill_apart, h13, Tub.fill_on, Tub.field_put_same]
    exact Fin.ext (Nat.mod_eq_of_lt (s.tally n t).portal.isLt)
  · simp (disch := decide) only [Tub.status, Hew.build, hcontrol, Hew.field_sideband, Tub.field_fill_apart, h14, Tub.fill_on, Tub.field_put_same]
    exact (extractLsb'_zero_eq_setWidth ..).symm
  · simp (disch := decide) only [Tub.lines, Hew.build, hcontrol, Hew.field_sideband, Tub.field_fill_apart, h15, Tub.fill_on, Tub.field_put_same]
    rfl

/-- ADDR is no part of what a template's tub is said to be. -/
theorem State.Built.put_addr {b : Tub} (hb : s.Built n h k t i b) (v : BitVec 64) : s.Built n h k t i (b.put 8 0 v) := by
  simp (disch := decide) only [State.Built, Tub.opcode, Tub.dstAgent, Tub.ftag, Tub.portal, Tub.status, Tub.lines, Tub.field_put_apart] at hb ⊢
  exact hb

/-! ### Haulage -/

theorem State.thread_toEgress (s : State) (n : Shaft) (g : Nat) (b : Tub) (p : Portal) (h k : Nat) :
    (s.toEgress n g b p).thread n h k = s.thread n h k := State.thread_updSh (by intro; rfl) h k

theorem State.inject_toEgress {b : Tub} (hc : Cls.reserved b.cls = false) (s : State) (n : Shaft) (h : Nat) (p : Portal) :
    s.inject n b (.router (hewerRouter h)) Layer.lode.dest (.egress p) = s.toEgress n h b p := by
  rw [State.inject, hc, if_neg Bool.false_ne_true]
  rfl

section
variable {c : Hew} {a : State} {b : Tub} {p : Portal} (hc : Cls.reserved b.cls = false) (hans : b.ans = false) (hline : c.lineAnswer b p = false)
include hc hans hline

theorem Hew.emit_of_sure (hspc : b.spc = false) : c.emit a b p = a.toEgress c.n c.h b p := by
  have hsame : ({ b with ans := false } : Tub) = b := by rw [← hans]
  simp only [Hew.emit, hline, hsame, Bool.false_eq_true, if_false]
  rw [if_neg (Bool.eq_false_iff.mp hspc)]
  exact State.inject_toEgress hc ..

/-- R233: a tub made while PENDING counts in TRANSIT. -/
theorem Hew.emit_of_spc (hspc : b.spc = true) (htransit : (a.tally c.n c.tp).sp.transit ≠ BitVec.allOnes 12) :
    c.emit a b p = (a.updTally c.n c.tp (fun y => { y with sp := { y.sp with transit := y.sp.transit + 1 } })).toEgress c.n c.h b p := by
  have hsame : ({ b with ans := false } : Tub) = b := by rw [← hans]
  simp only [Hew.emit, hline, hsame, Bool.false_eq_true, if_false]
  rw [if_pos hspc, State.raiseTransit, if_neg htransit]
  exact State.inject_toEgress hc ..

end

theorem Hew.lineAnswer_of_class {c : Hew} {b : Tub} (hc : b.cls ≠ Cls.DAT) (p : Portal) : c.lineAnswer b p = false := by
  simp [Hew.lineAnswer, hc]

theorem Hew.lineAnswer_of_kind {c : Hew} (hk : c.y.kind ≠ .haulLine) (b : Tub) (p : Portal) : c.lineAnswer b p = false := by
  simp [Hew.lineAnswer, hk]

theorem Hew.rise_eq_sentBy (s : State) (n : Shaft) (h k t : Nat) (i : HewFields) (e : Nat) :
    (Hew.of s n h k t i).rise s e = s.sentBy n t e false := State.updTally_congr rfl

end Sys2Proof.Machine
end

section
/-! SUPPORT. MRD, MRDS and MWR (R147, R205, R206, R229): the line they ask for, the checks they pass, and what they send. -/

namespace Sys2Proof.Machine

variable {s : State} {n : Shaft} {h k t : Nat} {i : HewFields}

/-- The backing address of line X[1:0] (R147, R205). -/
def State.backAddr (s : State) (n : Shaft) (t : Nat) (i : HewFields) : BitVec 64 :=
  BitVec.ofNat 64 (s.reg n .CLM_ENTRY1_BASE_GIB (s.tally n t).inClaim * 2 ^ 30 + ((s.tally n t).lineAddr.toNat + 64 * (i.x.toNat % 4)) % 2 ^ 30)

/-- The backing portal of the tally's claim (R147). -/
def State.backPort (s : State) (n : Shaft) (t : Nat) : Portal := Fin.ofNat 8 (s.reg n .CLM_ENTRY0_PORTAL (s.tally n t).inClaim)

theorem and_three_toNat (x : BitVec 10) : (x &&& 3).toNat = x.toNat % 4 := by
  rw [BitVec.toNat_and]
  exact Nat.and_two_pow_sub_one_eq_mod x.toNat 2

theorem Hew.backing_eq : (Hew.of s n h k t i).backing s = s.backAddr n t i := by
  have hline : (((s.tally n t).lineAddr + BitVec.ofNat 64 (64 * (i.x &&& 3).toNat)).extractLsb' 0 30).toNat =
      ((s.tally n t).lineAddr.toNat + 64 * (i.x.toNat % 4)) % 2 ^ 30 := by
    rw [and_three_toNat, BitVec.extractLsb'_toNat, Nat.shiftRight_zero, BitVec.toNat_add, BitVec.toNat_ofNat]
    omega
  exact congrArg (fun a => BitVec.ofNat 64 (s.reg n .CLM_ENTRY1_BASE_GIB (s.tally n t).inClaim * 2 ^ 30 + a)) hline

theorem Hew.memTub_eq : (Hew.of s n h k t i).memTub s = ((Hew.of s n h k t i).build s).put 8 0 (s.backAddr n t i) := by
  rw [Hew.memTub, Hew.backing_eq]

/-- The template of a memory instruction is fit for it (R198). -/
abbrev State.MemTemplate (s : State) (n : Shaft) (t : Nat) (i : HewFields) : Prop := ControlOk (s.templateControl n t i) [0x4]

theorem Hew.tooMany_of_le {c : Hew} {e : Nat} (hle : c.y.pending + e ≤ 8191) : c.tooMany e = false := decide_eq_false (by omega)

section
variable (hw : s.MemTemplate n t i)
include hw

theorem Hew.built_memTub : s.Built n h k t i ((Hew.of s n h k t i).memTub s) := by
  obtain ⟨-, hdst, -⟩ := hw
  rw [Hew.memTub_eq]
  exact (Hew.built_build hdst).put_addr _

omit hw in
theorem Hew.addr_memTub : ((Hew.of s n h k t i).memTub s).addr = s.backAddr n t i := by
  rw [Hew.memTub_eq]
  exact Tub.field_put_same _ 8 0 _ (by decide)

theorem Hew.cls_memTub : ((Hew.of s n h k t i).memTub s).cls = Cls.MEM := by
  have hclass := (Hew.built_memTub (h := h) (k := k) hw).1
  exact hclass.trans (List.mem_singleton.mp hw.1)

/-- R205: with a fit template and a line of its own the read or write goes on. -/
theorem Hew.memCheck_of_fit (hx : i.x.toNat % 4 = 0 ∨ (s.tally n t).kind = .recall) (hspec : s.speculates n t = false) :
    (Hew.of s n h k t i).memCheck s = none := by
  have hline : ¬(((Hew.of s n h k t i).i.x &&& 3) ≠ 0 ∧ (Hew.of s n h k t i).y.kind ≠ .recall) := by
    rintro ⟨hne, hkind⟩
    exact hne (BitVec.eq_of_toNat_eq ((and_three_toNat i.x).trans (hx.resolve_right hkind)))
  have htemplate : badTemplate ((Hew.of s n h k t i).control s) [Cls.MEM] = false := badTemplate_of_controlOk hw
  rw [Hew.memCheck, if_neg hline, Hew.pend_of, hspec, htemplate]
  rfl

end

/-- R205: the MEM tub leaves for the backing portal, PENDING rises by EXPECT. -/
theorem Hew.emit_memTub (hw : s.MemTemplate n t i) (hspec : s.speculates n t = false) :
    (Hew.of s n h k t i).emit ((Hew.of s n h k t i).rise s ((Hew.of s n h k t i).expect s)) ((Hew.of s n h k t i).memTub s)
      ((Hew.of s n h k t i).backPortal s) =
    (s.sentBy n t ((s.templateControl n t i).extractLsb' 4 2).toNat false).toEgress n h ((Hew.of s n h k t i).memTub s) (s.backPort n t) := by
  have hcls := Hew.cls_memTub (h := h) (k := k) hw
  rw [Hew.emit_of_sure (by rw [hcls]; rfl) rfl (Hew.lineAnswer_of_class (by rw [hcls]; decide) _) hspec, Hew.rise_eq_sentBy]
  rfl

section
variable (hw : s.MemTemplate n t i) (hle : (s.tally n t).pending + ((s.templateControl n t i).extractLsb' 4 2).toNat ≤ 8191)
  (hx : i.x.toNat % 4 = 0 ∨ (s.tally n t).kind = .recall) (hspec : s.speculates n t = false)
include hw hle hx hspec

theorem exec_hewMrd (hs : s.Steps n h k t 0x38 i { x := 3, imm := 0xFFFF }) :
    exec (.hewMrd n h k i .clean) s = .next (((s.sentBy n t ((s.templateControl n t i).extractLsb' 4 2).toNat false).toEgress n h
      ((Hew.of s n h k t i).memTub s) (s.backPort n t)).stepOn n h k) := by
  refine congrArg Host.Outcome.next (State.hewStep_stepOn hs ?_ ?_)
  · rw [hewMrd, Hew.memCheck_of_fit hw hx hspec, ← Hew.emit_memTub hw hspec]
    exact if_neg (Bool.eq_false_iff.mp (Hew.tooMany_of_le hle))
  · rw [State.thread_toEgress]
    exact State.thread_updTally ..

theorem exec_hewMwr (hs : s.Steps n h k t 0x3A i { x := 3, imm := 0xFFFF }) (hm : (s.thread n h k).m.cls = 0x3)
    (hkind : (s.tally n t).kind ≠ .haulLine) :
    exec (.hewMwr n h k i .clean) s = .next ((((s.sentBy n t ((s.templateControl n t i).extractLsb' 4 2).toNat false).toEgress n h
      ((Hew.of s n h k t i).memTub s) (s.backPort n t)).toEgress n h
        ((Hew.of s n h k t i).sideband (s.thread n h k).m) (s.backPort n t)).stepOn n h k) := by
  refine congrArg Host.Outcome.next (State.hewStep_stepOn hs ?_ ?_)
  · have hdat : ((Hew.of s n h k t i).sideband (s.thread n h k).m).cls = Cls.DAT := hm
    have hsecond := Hew.emit_of_sure (c := Hew.of s n h k t i) (a := (s.sentBy n t ((s.templateControl n t i).extractLsb' 4 2).toNat false).toEgress n h
      ((Hew.of s n h k t i).memTub s) (s.backPort n t)) (p := s.backPort n t) (by rw [hdat]; rfl) rfl (Hew.lineAnswer_of_kind hkind _ _) hspec
    have hisDat : ¬(Hew.of s n h k t i).x.m.cls ≠ Cls.DAT := not_not.mpr hm
    rw [hewMwr, if_neg hisDat, Hew.memCheck_of_fit hw hx hspec]
    refine (if_neg (Bool.eq_false_iff.mp (Hew.tooMany_of_le hle))).trans ?_
    rw [Hew.emit_memTub hw hspec]
    exact congrArg HewRes.go hsecond
  · rw [State.thread_toEgress, State.thread_toEgress]
    exact State.thread_updTally ..

end

/-! ### MRDS -/

/-- The tally after the first MRDS (R229): its speculation starts with one ticket, and its read counts in TRANSIT. -/
def Tally.started (y : Tally) (e : Nat) (seq : BitVec 8) : Tally :=
  { y with spec := .pending, pending := y.pending + e, sp := { y.sp with tickets := 1, ticketSeq := seq, transit := y.sp.transit + 1 } }

/-- The MEM tub of a read that speculates. -/
def Hew.ticketTub (c : Hew) (s : State) : Tub := { c.memTub s with spc := true }

/-- R229, R233: what the first MRDS does, one thing at a time, is the read sent by a tally that has started, beside the change of the thread. -/
theorem Hew.emit_started {c : Hew} {b : Tub} (s : State) (x : Thread) (e : Nat) (p : Portal) (hcls : b.cls = Cls.MEM) (hans : b.ans = false)
    (hspc : b.spc = true) (htransit : (s.tally c.n c.tp).sp.transit ≠ BitVec.allOnes 12) :
    (c.emit ((c.put (c.rise s e) x).updTally c.n c.tp
      (fun y => { y with spec := .pending, sp := { y.sp with tickets := 1, ticketSeq := c.seq } })) b p).addReg c.n .PTL_DL_STAT_STARTED =
    c.put (((s.updTally c.n c.tp (fun y => y.started e c.seq)).toEgress c.n c.h b p).addReg c.n .PTL_DL_STAT_STARTED) x := by
  have hcomm : ∀ (a : State) (f : Tally → Tally), (c.put a x).updTally c.n c.tp f = c.put (a.updTally c.n c.tp f) x := fun a f => by
    simp only [Hew.put, State.updThread, State.updTally, State.updSh_updSh]
  have hhaul : ∀ a : State, (c.put a x).toEgress c.n c.h b p = c.put (a.toEgress c.n c.h b p) x := fun a => by
    simp only [Hew.put, State.updThread, State.toEgress, State.updSh_updSh]
  rw [Hew.emit_of_spc (by rw [hcls]; rfl) hans (Hew.lineAnswer_of_class (by rw [hcls]; decide) p) hspc (by
    rw [State.tally_updTally_same, Hew.put, State.tally_updThread, Hew.rise, State.tally_updTally_same]
    exact htransit)]
  rw [hcomm, hcomm, hhaul, Hew.rise, State.updTally_updTally, State.updTally_updTally]
  rfl

section
variable (hs : s.Steps n h k t 0x39 i { x := 3, imm := 0xFFFF }) (hx : i.x.toNat % 4 = 0) (hkind : (s.tally n t).kind ≠ .recall)
include hs hx hkind

/-- R229: a claim without SPECULABLE declines. -/
theorem exec_hewMrds_declined (hclaim : s.reg n .CLM_ENTRY0_SPECULABLE (s.tally n t).inClaim = 0) :
    exec (.hewMrds n h k i .clean) s = .next (
      (s.addReg n .PTL_DL_STAT2_DECLINED).updThread n h k (fun x => { x with t := true }.stepped)) := by
  refine congrArg Host.Outcome.next (State.hewStep_change (F := fun x => { x with t := true }) hs ?_ (fun _ => rfl) rfl)
  have hx0 : ¬((Hew.of s n h k t i).i.x &&& 3) ≠ 0 := not_not.mpr (BitVec.eq_of_toNat_eq ((and_three_toNat i.x).trans hx))
  have hspeculable : s.regB (Hew.of s n h k t i).n .CLM_ENTRY0_SPECULABLE (Hew.of s n h k t i).claim = false := State.regB_eq_false.mpr hclaim
  rw [hewMrds, Hew.recallRec_of_other hkind, if_neg Bool.false_ne_true, if_neg hx0, hspeculable]
  rfl

/-- R229: from SPEC NONE the read of a speculable claim leaves with SPC 1 and starts the speculation. -/
theorem exec_hewMrds_started (hclaim : s.reg n .CLM_ENTRY0_SPECULABLE (s.tally n t).inClaim ≠ 0) (hw : s.MemTemplate n t i)
    (hle : (s.tally n t).pending + ((s.templateControl n t i).extractLsb' 4 2).toNat ≤ 8191) (hnone : (s.tally n t).spec = .none)
    (htransit : (s.tally n t).sp.transit ≠ BitVec.allOnes 12) :
    exec (.hewMrds n h k i .clean) s = .next (
      (((s.updTally n t (fun y => y.started ((s.templateControl n t i).extractLsb' 4 2).toNat (i.imm.extractLsb' 8 8))).toEgress n h
        ((Hew.of s n h k t i).ticketTub s) (s.backPort n t)).addReg n .PTL_DL_STAT_STARTED).updThread n h k
          (fun x => { x with t := false }.stepped)) := by
  refine congrArg Host.Outcome.next (State.hewStep_change (F := fun x => { x with t := false }) hs ?_ (fun _ => rfl) ?_)
  · have hx0 : ¬((Hew.of s n h k t i).i.x &&& 3) ≠ 0 := not_not.mpr (BitVec.eq_of_toNat_eq ((and_three_toNat i.x).trans hx))
    have hspeculable : s.regB (Hew.of s n h k t i).n .CLM_ENTRY0_SPECULABLE (Hew.of s n h k t i).claim = true := State.regB_eq_true.mpr hclaim
    have htemplate : badTemplate ((Hew.of s n h k t i).control s) [Cls.MEM] = false := badTemplate_of_controlOk hw
    have hspec : (Hew.of s n h k t i).y.spec = .none := hnone
    have hroom : (Hew.of s n h k t i).tooMany ((Hew.of s n h k t i).expect s) = false := Hew.tooMany_of_le hle
    have hcls : ((Hew.of s n h k t i).ticketTub s).cls = Cls.MEM := Hew.cls_memTub hw
    have hemit := Hew.emit_started (c := Hew.of s n h k t i) s { s.thread n h k with t := false } ((Hew.of s n h k t i).expect s) (s.backPort n t)
      hcls rfl rfl htransit
    simp only [hewMrds, Hew.recallRec_of_other hkind, Bool.false_eq_true, if_false, if_neg hx0, hspeculable, htemplate, hspec, Hew.ticket, hroom,
      Bool.not_true]
    exact congrArg HewRes.go hemit
  · exact (State.thread_toEgress ..).trans (State.thread_updTally ..)

end

end Sys2Proof.Machine
end

section
/-! MRD, MRDS and MWR (R147, R205, R229). -/

namespace Sys2Proof.Machine

/-- Settles O7: each instruction sends `Hew.memTub`, which the template builds and whose ADDR is the backing address. -/
theorem hewerMemory : Obligations.HewerMemory := by
  unfold Obligations.HewerMemory
  refine fun s n h k t i => ⟨fun hw hle hx hspec => ⟨fun hs => ?_, fun hs hm hkind => ?_⟩, fun hs hx hkind =>
    ⟨fun hclaim => ?_, fun hclaim hw hle hnone htransit => ?_⟩⟩
  · exact ⟨_, Hew.built_memTub hw, Hew.addr_memTub, exec_hewMrd hw hle hx hspec hs⟩
  · refine ⟨_, Hew.built_memTub hw, Hew.addr_memTub, (exec_hewMwr hw hle hx hspec hs hm hkind).trans ?_⟩
    rw [Hew.sideband, Hew.pend_of, hspec]
    rfl
  · exact exec_hewMrds_declined hs hx hkind hclaim
  · exact ⟨(Hew.of s n h k t i).ticketTub s, Hew.cls_memTub hw, Hew.addr_memTub, rfl, rfl, rfl, rfl,
      exec_hewMrds_started hs hx hkind hclaim hw hle hnone htransit⟩

end Sys2Proof.Machine
end

section
/-! SUPPORT. A word made for a register from the values of its fields: each field of it is the value given, cut to its width. -/

namespace Sys2Proof.Machine

/-- The value `l` gives field `f`. -/
def fieldValue (l : List (Fld × Nat)) (f : Fld) : Nat := ((l.find? (fun y => decide (y.1 = f))).map (fun y => y.2 % 2 ^ f.desc.width)).getD 0

theorem fieldValue_lt (l : List (Fld × Nat)) (f : Fld) : fieldValue l f < 2 ^ f.desc.width := by
  unfold fieldValue
  cases l.find? (fun y => decide (y.1 = f)) with
  | none => exact Nat.two_pow_pos _
  | some y => exact Nat.mod_lt _ (Nat.two_pow_pos _)

/-- A bit of the word is that of a field that reaches it. -/
theorem getLsbD_foldl_places (l : List (Fld × Nat)) (places : List (Fld × Place)) (v : Word) (j : Nat) (hj : j < 32) :
    (places.foldl (fun a x => a ||| (BitVec.ofNat 32 (fieldValue l x.1) <<< x.2.lsb)) v).getLsbD j =
      (v.getLsbD j || places.any (fun x => decide (x.2.lsb ≤ j) && (fieldValue l x.1).testBit (j - x.2.lsb))) := by
  induction places generalizing v with
  | nil => simp
  | cons x places ih =>
    have hx : (BitVec.ofNat 32 (fieldValue l x.1) <<< x.2.lsb).getLsbD j =
        (decide (x.2.lsb ≤ j) && (fieldValue l x.1).testBit (j - x.2.lsb)) := by
      have hlt : j - x.2.lsb < 32 := by omega
      rw [BitVec.getLsbD_shiftLeft, BitVec.getLsbD_ofNat]
      by_cases hle : x.2.lsb ≤ j <;> simp [hj, hlt, hle]
    rw [List.foldl_cons, ih, BitVec.getLsbD_or, hx, List.any_cons, Bool.or_assoc]

/-- A field that stands first of its name and apart from every other field of its register reads as it was given. -/
theorem Reg.part_make {r : Reg} {f : Fld} {p : Place} (l : List (Fld × Nat)) (hfirst : r.places.find? (fun x => decide (x.1 = f)) = some (f, p))
    (hfit : p.lsb + f.desc.width ≤ 32)
    (hapart : ∀ x ∈ r.places, x = (f, p) ∨ x.2.lsb + x.1.desc.width ≤ p.lsb ∨ p.lsb + f.desc.width ≤ x.2.lsb) :
    r.part (r.make l) f = fieldValue l f := by
  have hlt := fieldValue_lt l f
  have hbits : (r.make l).extractLsb' p.lsb f.desc.width = BitVec.ofNat _ (fieldValue l f) := by
    refine BitVec.eq_of_getLsbD_eq fun j hj => ?_
    have hmake := getLsbD_foldl_places l r.places 0 (p.lsb + j) (by omega)
    rw [BitVec.getLsbD_extractLsb', show (r.make l).getLsbD (p.lsb + j) = _ from hmake, BitVec.getLsbD_ofNat,
      show (0 : Word).getLsbD (p.lsb + j) = false from BitVec.getLsbD_zero, Bool.false_or]
    refine congrArg (decide (j < f.desc.width) && ·) (Bool.eq_iff_iff.mpr ?_)
    simp only [List.any_eq_true, Bool.and_eq_true, decide_eq_true_eq]
    constructor
    · rintro ⟨x, hx, hle, hbit⟩
      rcases hapart x hx with rfl | hbelow | habove
      · rwa [Nat.add_sub_cancel_left] at hbit
      · have hzero := Nat.testBit_lt_two_pow (Nat.lt_of_lt_of_le (fieldValue_lt l x.1)
          (Nat.pow_le_pow_right (by decide) (show x.1.desc.width ≤ p.lsb + j - x.2.lsb by omega)))
        exact absurd hbit (by rw [hzero]; decide)
      · omega
    · exact fun hbit => ⟨(f, p), List.mem_of_find?_eq_some hfirst, Nat.le_add_right .., by rwa [Nat.add_sub_cancel_left]⟩
  rw [Reg.part, hfirst]
  exact (congrArg BitVec.toNat hbits).trans (by rw [BitVec.toNat_ofNat, Nat.mod_eq_of_lt hlt])

end Sys2Proof.Machine
end

section
/-! SUPPORT. The commands of CLM.CMD (R154 to R156): a command that begins, and what each does at its end. -/

namespace Sys2Proof.Machine

variable {s : State} {n : Shaft}

/-- The word of a command of CLM.CMD (R154). -/
def clmWord (op : Nat) (c : BitVec 8) (g : BitVec 10) : Word :=
  Reg.make .CLM_CMD [(.CLM_CMD_OP, op), (.CLM_CMD_CLAIM, c.toNat), (.CLM_CMD_GRANULE, g.toNat), (.CLM_CMD_GO, 1)]

theorem part_clmWord {op : Nat} (hop : op < 8) (c : BitVec 8) (g : BitVec 10) :
    Reg.part .CLM_CMD (clmWord op c g) .CLM_CMD_OP = op ∧ Reg.part .CLM_CMD (clmWord op c g) .CLM_CMD_CLAIM = c.toNat ∧
    Reg.part .CLM_CMD (clmWord op c g) .CLM_CMD_GRANULE = g.toNat ∧ Reg.part .CLM_CMD (clmWord op c g) .CLM_CMD_GO = 1 := by
  refine ⟨?_, ?_, ?_, ?_⟩
  · exact (Reg.part_make (p := ⟨20, 1, 0⟩) _ (by decide) (by decide) (by decide)).trans (Nat.mod_eq_of_lt hop)
  · exact (Reg.part_make (p := ⟨0, 1, 0⟩) _ (by decide) (by decide) (by decide)).trans (Nat.mod_eq_of_lt c.isLt)
  · exact (Reg.part_make (p := ⟨8, 1, 0⟩) _ (by decide) (by decide) (by decide)).trans (Nat.mod_eq_of_lt g.isLt)
  · exact Reg.part_make (p := ⟨31, 1, 0⟩) _ (by decide) (by decide) (by decide)

/-- CLM.CMD keeps nothing: its fields act when they are written. -/
theorem State.storeReg_clmCmd (v : Word) : s.storeReg n.val .CLM_CMD 0 v = s := rfl

theorem State.cageWrite_clmCmd (v : Word) : s.cageWrite (.reg n.val .CLM_CMD 0) v = s.shaftEffect s n .CLM_CMD 0 v := by
  have hkey : keyWrong .CLM_CMD v = false := rfl
  change (if keyWrong .CLM_CMD v then s else if h : n.val < 8 then
    s.shaftEffect (s.storeReg n.val .CLM_CMD 0 v) ⟨n.val, h⟩ .CLM_CMD 0 v else _) = _
  rw [hkey, if_neg (by decide), dif_pos n.isLt, State.storeReg_clmCmd]

/-- An OP that is not reserved passes (R54). -/
theorem State.writeDenied_clmCmd (hdeep : s.deepOpen n.val = true) {v : Word} (hlo : 0 < Reg.part .CLM_CMD v .CLM_CMD_OP)
    (hhi : Reg.part .CLM_CMD v .CLM_CMD_OP < 4) : State.writeDenied s s (.reg n.val .CLM_CMD 0) v = false := by
  have hreserved : Reg.reservedIn .CLM_CMD v =
      (decide (Reg.part .CLM_CMD v .CLM_CMD_OP = 0) || decide (4 ≤ Reg.part .CLM_CMD v .CLM_CMD_OP) || false || false) := rfl
  have hbarred : s.regBarred n.val .CLM_CMD 0 v = Reg.reservedIn .CLM_CMD v := by
    have hro : Reg.readOnly .CLM_CMD 0 = false := rfl
    have hkey : keyWrong .CLM_CMD v = false := rfl
    have hwhen : s.whenBarred .CLM_CMD = false := rfl
    rw [State.regBarred, hro, hkey, hwhen, dif_pos n.isLt]
    simp
  rw [State.writeDenied, hbarred, hreserved, hdeep, decide_eq_false (by omega), decide_eq_false (by omega)]
  simp

/-- With the block open the word is written, and the command is taken up. -/
theorem State.clmGo_of_open (h : s.Open n.val .CLM) {op : Nat} (hlo : 0 < op) (hhi : op < 4) (c : BitVec 8) (g : BitVec 10) :
    s.clmGo n op c g = s.clmCmd n op c.toNat g.toNat := by
  obtain ⟨-, hgate, hbusy, hdeep⟩ := h
  obtain ⟨hop, hclaim, hgranule, hgo⟩ := part_clmWord (show op < 8 by omega) c g
  have hopen : s.shut (.reg n.val .CLM_CMD 0) = none := by
    simp [State.shut, WordAt.isGate, WordAt.sc, WordAt.blk, State.windowOut, Reg.blk, hgate, hbusy]
  rw [State.clmGo, State.go, show Reg.make .CLM_CMD _ = clmWord op c g from rfl, State.regWrite_of_open hopen,
    State.writeDenied_clmCmd hdeep (by omega) (by omega), if_neg (by decide), State.cageWrite_clmCmd]
  change (if decide (Reg.part .CLM_CMD (clmWord op c g) .CLM_CMD_GO ≠ 0) then _ else _) = _
  rw [hgo, if_pos (by decide)]
  simp only [hop, hclaim, hgranule]

/-- A command of CLM.CMD in a Cage that waits for nothing. -/
theorem State.clmTurn_of_open (h : s.Open n.val .CLM) {op : Nat} (hlo : 0 < op) (hhi : op < 4) (c : BitVec 8) (g : BitVec 10) :
    s.cageTurn (fun a => a.clmGo n op c g) = s.clmCmd n op c.toNat g.toNat :=
  (State.cageTurn_of_free h.1 _).trans (State.clmGo_of_open h hlo hhi c g)

/-- Command `x` of CLM.CMD runs. -/
def State.clmRun (s : State) (n : Shaft) (x : ClaimCmd) : State :=
  (s.setReg n .CLM_CMD_STAT_BUSY 1).updSh n (fun h => { h with claimCmd := some x })

/-- The command that ran has ended with RESULT `r`. -/
def State.clmEnded (s : State) (n : Shaft) (r : Nat) : State :=
  ((s.setReg n .CLM_CMD_STAT_RESULT r).setReg n .CLM_CMD_STAT_BUSY 0).updSh n (fun h => { h with claimCmd := none })

theorem State.clmCmd_busy (hb : s.reg n .CLM_CMD_STAT_BUSY ≠ 0) (op c g : Nat) : s.clmCmd n op c g = s.setReg n .CLM_CMD_STAT_LOST 1 :=
  if_pos (State.regB_eq_true.mpr hb)

theorem State.clmCmd_free (hb : s.reg n .CLM_CMD_STAT_BUSY = 0) {op : Nat} (hlo : 0 < op) (hhi : op < 4) (c g : Nat) :
    s.clmCmd n op c g = s.clmRun n ⟨op, c, g⟩ := by
  rw [State.clmCmd, State.regB_eq_false.mpr hb, if_neg (by decide), if_neg (by omega)]
  rfl

/-! ### What the state of a running command, and one that ended, holds -/

theorem State.reg_clmRun {f : Fld} (hf : f ≠ .CLM_CMD_STAT_BUSY) (x : ClaimCmd) (e : Nat) : (s.clmRun n x).reg n f e = s.reg n f e := by
  rw [State.clmRun, State.reg_updSh, State.reg_setReg_field hf]

theorem State.claimCmd_clmRun (x : ClaimCmd) : ((s.clmRun n x).sh n).claimCmd = some x := by
  rw [State.clmRun, State.sh_updSh_same]

theorem State.claimOpen_clmRun (x : ClaimCmd) (c : Nat) : (s.clmRun n x).claimOpen n c = s.claimOpen n c := by
  rw [State.claimOpen, State.clmRun, State.sh_updSh_same]
  rfl

theorem State.reg_clmEnded {f : Fld} (hr : f ≠ .CLM_CMD_STAT_RESULT) (hb : f ≠ .CLM_CMD_STAT_BUSY) (r e : Nat) :
    (s.clmEnded n r).reg n f e = s.reg n f e := by
  rw [State.clmEnded, State.reg_updSh, State.reg_setReg_field hb, State.reg_setReg_field hr]

theorem State.busy_clmEnded (r : Nat) : (s.clmEnded n r).reg n .CLM_CMD_STAT_BUSY = 0 := by
  rw [State.clmEnded, State.reg_updSh, State.reg_setReg_same, Nat.zero_mod]

theorem State.result_clmEnded {r : Nat} (hr : r < 8) : (s.clmEnded n r).reg n .CLM_CMD_STAT_RESULT = r := by
  rw [State.clmEnded, State.reg_updSh, State.reg_setReg_field (by decide), State.reg_setReg_same]
  exact Nat.mod_eq_of_lt hr

theorem State.claimCmd_clmEnded (r : Nat) : ((s.clmEnded n r).sh n).claimCmd = none := by
  rw [State.clmEnded, State.sh_updSh_same]

theorem State.log_clmRun (x : ClaimCmd) : (s.clmRun n x).log = s.log := rfl
theorem State.log_clmEnded (r : Nat) : (s.clmEnded n r).log = s.log := rfl

/-! ### The end of a command -/

theorem State.clmEnd_load {k g : Nat} (h : (s.sh n).claimCmd = some ⟨1, k, g⟩) :
    s.clmEnd n = (s.clmLoad n k).1.clmEnded n (s.clmLoad n k).2 := by
  rw [State.clmEnd, h]
  rfl

theorem State.clmEnd_map {k g : Nat} (h : (s.sh n).claimCmd = some ⟨2, k, g⟩) :
    s.clmEnd n = (s.clmMap n k g).1.clmEnded n (s.clmMap n k g).2 := by
  rw [State.clmEnd, h]
  rfl

theorem State.clmEnd_unmap {k g : Nat} (h : (s.sh n).claimCmd = some ⟨3, k, g⟩) :
    s.clmEnd n = (s.clmUnmap n g).1.clmEnded n (s.clmUnmap n g).2 := by
  rw [State.clmEnd, h]
  rfl

/-- Claim `k` is in use (R154): it has entries or open tallies. -/
abbrev State.InUse (s : State) (n : Shaft) (k : Nat) : Prop := 0 < s.reg n .CLM_ENTRY5_ENTRIES k ∨ 0 < s.claimOpen n k

theorem State.claimInUse_iff {k : Nat} : s.claimInUse n k = true ↔ s.InUse n k := by
  rw [State.claimInUse, Bool.or_eq_true, decide_eq_true_iff, decide_eq_true_iff]

theorem State.inUse_clmRun {x : ClaimCmd} {k : Nat} : (s.clmRun n x).InUse n k ↔ s.InUse n k := by
  rw [State.InUse, State.reg_clmRun (by decide), State.claimOpen_clmRun]

/-! ### LOAD -/

/-- A LOAD would move claim `k` (R154): another portal, another base, or no longer VALID. -/
abbrev State.Moves (s : State) (n : Shaft) (k : Nat) : Prop :=
  s.reg n .CLM_STAGE0_PORTAL ≠ s.reg n .CLM_ENTRY0_PORTAL k ∨ s.reg n .CLM_STAGE1_BASE_GIB ≠ s.reg n .CLM_ENTRY1_BASE_GIB k ∨
    (s.reg n .CLM_ENTRY0_VALID k ≠ 0 ∧ s.reg n .CLM_STAGE0_VALID = 0)

theorem State.moves_clmRun {x : ClaimCmd} {k : Nat} : (s.clmRun n x).Moves n k ↔ s.Moves n k := by
  simp only [State.Moves, State.reg_clmRun (show Fld.CLM_STAGE0_PORTAL ≠ _ by decide), State.reg_clmRun (show Fld.CLM_ENTRY0_PORTAL ≠ _ by decide),
    State.reg_clmRun (show Fld.CLM_STAGE1_BASE_GIB ≠ _ by decide), State.reg_clmRun (show Fld.CLM_ENTRY1_BASE_GIB ≠ _ by decide),
    State.reg_clmRun (show Fld.CLM_ENTRY0_VALID ≠ _ by decide), State.reg_clmRun (show Fld.CLM_STAGE0_VALID ≠ _ by decide)]

/-- The staged fields, each with the field of the claim that it is copied to. -/
def clmFields : List (Fld × Fld) :=
  [(.CLM_STAGE0_VALID, .CLM_ENTRY0_VALID), (.CLM_STAGE0_CACHEABLE, .CLM_ENTRY0_CACHEABLE),
    (.CLM_STAGE0_SPECULABLE, .CLM_ENTRY0_SPECULABLE), (.CLM_STAGE0_PORTAL, .CLM_ENTRY0_PORTAL),
    (.CLM_STAGE1_BASE_GIB, .CLM_ENTRY1_BASE_GIB), (.CLM_STAGE2_READ, .CLM_ENTRY2_READ), (.CLM_STAGE3_WRITE, .CLM_ENTRY3_WRITE),
    (.CLM_STAGE4_CACHE, .CLM_ENTRY4_CACHE)]

/-- Element `k` of the second field of each pair of `l` takes what `v` gives the first. -/
def State.copyFields (s : State) (n : Shaft) (v : Fld → Nat) (k : Nat) (l : List (Fld × Fld)) : State :=
  l.foldl (fun a x => a.setReg n x.2 (v x.1) k) s

theorem State.reg_setReg_elem {f : Fld} {v e e' : Nat} (h : e' ≠ e) : (s.setReg n f v e).reg n f e' = s.reg n f e' :=
  State.getF_setF_other s v (by omega) (by omega) (fun hk => h hk.2.2)

/-- What is copied to no field `f` leaves it as it was. -/
theorem State.reg_copyFields_field {l : List (Fld × Fld)} {f : Fld} (hf : ∀ x ∈ l, f ≠ x.2) (v : Fld → Nat) (k e : Nat) :
    (s.copyFields n v k l).reg n f e = s.reg n f e := by
  induction l generalizing s with
  | nil => rfl
  | cons x l ih =>
    obtain ⟨hx, hl⟩ := List.forall_mem_cons.mp hf
    exact (ih hl).trans (State.reg_setReg_field hx)

/-- The other elements stay. -/
theorem State.reg_copyFields_elem {k e : Nat} (he : e ≠ k) (f : Fld) (v : Fld → Nat) (l : List (Fld × Fld)) :
    (s.copyFields n v k l).reg n f e = s.reg n f e := by
  induction l generalizing s with
  | nil => rfl
  | cons x l ih =>
    refine ih.trans ?_
    by_cases hx : f = x.2
    · subst hx
      exact State.reg_setReg_elem he
    · exact State.reg_setReg_field hx

/-- A field that one pair names takes that pair's value. -/
theorem State.reg_copyFields_same {l : List (Fld × Fld)} (hl : l.Pairwise (fun x y => x.2 ≠ y.2)) {a f : Fld} (hmem : (a, f) ∈ l) (v : Fld → Nat)
    (k : Nat) : (s.copyFields n v k l).reg n f k = v a % 2 ^ f.desc.width := by
  induction l generalizing s with
  | nil => exact absurd hmem List.not_mem_nil
  | cons x l ih =>
    obtain ⟨hx, hrest⟩ := List.pairwise_cons.mp hl
    rcases List.mem_cons.mp hmem with rfl | hin
    · exact (State.reg_copyFields_field hx v k k).trans (State.reg_setReg_same ..)
    · exact ih hrest hin

theorem State.log_copyFields (v : Fld → Nat) (k : Nat) (l : List (Fld × Fld)) : (s.copyFields n v k l).log = s.log :=
  foldl_keeps (fun a : State => a.log = s.log) (fun a (x : Fld × Fld) => a.setReg n x.2 (v x.1) k) (fun _ _ h => h) l s rfl

theorem State.clmLoad_eq (s : State) (n : Shaft) (k : Nat) :
    s.clmLoad n k = if s.Moves n k ∧ s.InUse n k then (s, 2) else (s.copyFields n (fun a => s.reg n a) k clmFields, 1) := by
  have hguard : ((decide (s.reg n .CLM_STAGE0_PORTAL ≠ s.reg n .CLM_ENTRY0_PORTAL k)
      || decide (s.reg n .CLM_STAGE1_BASE_GIB ≠ s.reg n .CLM_ENTRY1_BASE_GIB k)
      || (s.regB n .CLM_ENTRY0_VALID k && !s.regB n .CLM_STAGE0_VALID)) && s.claimInUse n k) = true ↔ s.Moves n k ∧ s.InUse n k := by
    simp only [Bool.and_eq_true, Bool.or_eq_true, decide_eq_true_iff, State.regB_eq_true, Bool.not_eq_true', State.regB_eq_false,
      State.claimInUse_iff, State.Moves, or_assoc]
  exact ite_congr (propext hguard) (fun _ => rfl) (fun _ => rfl)

/-! ### MAP and UNMAP -/

theorem State.clmMap_mapped {k g : Nat} (h : s.reg n .CLM_ENTRY6_MAPPED k ≠ 0 ∨ s.reg n .CLM_MAP_VALID g ≠ 0) : s.clmMap n k g = (s, 3) :=
  if_pos (by rwa [Bool.or_eq_true, State.regB_eq_true, State.regB_eq_true])

theorem State.clmMap_free {k g : Nat} (hk : s.reg n .CLM_ENTRY6_MAPPED k = 0) (hg : s.reg n .CLM_MAP_VALID g = 0) :
    s.clmMap n k g = if s.reg n .CLM_ENTRY0_VALID k = 0 then (s, 4) else (s.joinGranule n k g, 1) := by
  rw [State.clmMap, State.regB_eq_false.mpr hk, State.regB_eq_false.mpr hg, if_neg (by decide)]
  exact ite_congr (propext (by rw [Bool.not_eq_true', State.regB_eq_false])) (fun _ => rfl) (fun _ => rfl)

/-- The joined granule holds its claim, and the claim its granule. -/
theorem State.joinGranule_joins {k g : Nat} (hk : k < 256) (hg : g < 1024) :
    (s.joinGranule n k g).reg n .CLM_MAP_CLAIM g = k ∧ (s.joinGranule n k g).reg n .CLM_MAP_VALID g = 1 ∧
    (s.joinGranule n k g).reg n .CLM_ENTRY6_GRANULE k = g ∧ (s.joinGranule n k g).reg n .CLM_ENTRY6_MAPPED k = 1 := by
  refine ⟨?_, ?_, ?_, State.reg_setReg_same ..⟩
  · rw [State.joinGranule, State.reg_setReg_field (by decide), State.reg_setReg_field (by decide), State.reg_setReg_field (by decide),
      State.reg_setReg_same]
    exact Nat.mod_eq_of_lt hk
  · rw [State.joinGranule, State.reg_setReg_field (by decide), State.reg_setReg_field (by decide), State.reg_setReg_same]
    rfl
  · rw [State.joinGranule, State.reg_setReg_field (by decide), State.reg_setReg_same]
    exact Nat.mod_eq_of_lt hg

theorem State.mapValid_joinGranule {k g j : Nat} (hj : j ≠ g) : (s.joinGranule n k g).reg n .CLM_MAP_VALID j = s.reg n .CLM_MAP_VALID j := by
  rw [State.joinGranule, State.reg_setReg_field (by decide), State.reg_setReg_field (by decide), State.reg_setReg_elem hj,
    State.reg_setReg_field (by decide)]

theorem State.clmUnmap_free {g : Nat} (h : s.reg n .CLM_MAP_VALID g = 0) : s.clmUnmap n g = (s, 5) :=
  if_pos (by rw [State.regB_eq_false.mpr h]; rfl)

theorem State.clmUnmap_mapped {g : Nat} (h : s.reg n .CLM_MAP_VALID g ≠ 0) :
    s.clmUnmap n g = if s.InUse n (s.reg n .CLM_MAP_CLAIM g) then (s, 2)
      else ((s.setReg n .CLM_MAP_VALID 0 g).setReg n .CLM_ENTRY6_MAPPED 0 (s.reg n .CLM_MAP_CLAIM g), 1) := by
  rw [State.clmUnmap, State.regB_eq_true.mpr h, if_neg (by decide)]
  exact ite_congr (propext State.claimInUse_iff) (fun _ => rfl) (fun _ => rfl)

/-! ### A command from its state of running to its end -/

theorem State.clmEnd_load_refused {k g : Nat} (hm : s.Moves n k) (hu : s.InUse n k) :
    (s.clmRun n ⟨1, k, g⟩).clmEnd n = (s.clmRun n ⟨1, k, g⟩).clmEnded n 2 := by
  rw [State.clmEnd_load (State.claimCmd_clmRun _), State.clmLoad_eq, if_pos ⟨State.moves_clmRun.mpr hm, State.inUse_clmRun.mpr hu⟩]

theorem State.clmEnd_load_done {k g : Nat} (h : ¬(s.Moves n k ∧ s.InUse n k)) : (s.clmRun n ⟨1, k, g⟩).clmEnd n =
    ((s.clmRun n ⟨1, k, g⟩).copyFields n (fun a => (s.clmRun n ⟨1, k, g⟩).reg n a) k clmFields).clmEnded n 1 := by
  rw [State.clmEnd_load (State.claimCmd_clmRun _), State.clmLoad_eq,
    if_neg fun hr => h ⟨State.moves_clmRun.mp hr.1, State.inUse_clmRun.mp hr.2⟩]

/-- R154: a LOAD that is not refused copies the staged fields to its claim, and to no other. -/
theorem State.reg_copyFields_ended {x : ClaimCmd} {k : Nat} {a f : Fld} (hmem : (a, f) ∈ clmFields) :
    (((s.clmRun n x).copyFields n (fun a => (s.clmRun n x).reg n a) k clmFields).clmEnded n 1).reg n f k = s.reg n a % 2 ^ f.desc.width ∧
    ∀ j, j ≠ k → (((s.clmRun n x).copyFields n (fun a => (s.clmRun n x).reg n a) k clmFields).clmEnded n 1).reg n f j = s.reg n f j := by
  have hstage : ∀ x ∈ clmFields, x.1 ≠ .CLM_CMD_STAT_BUSY := by decide
  have hentry : ∀ x ∈ clmFields, x.2 ≠ .CLM_CMD_STAT_BUSY ∧ x.2 ≠ .CLM_CMD_STAT_RESULT := by decide
  obtain ⟨hbusy, hresult⟩ := hentry _ hmem
  refine ⟨?_, fun j hj => ?_⟩
  · rw [State.reg_clmEnded hresult hbusy, State.reg_copyFields_same (by decide) hmem, State.reg_clmRun (hstage _ hmem)]
  · rw [State.reg_clmEnded hresult hbusy, State.reg_copyFields_elem hj, State.reg_clmRun hbusy]

theorem State.clmEnd_map_mapped {k g : Nat} (h : s.reg n .CLM_ENTRY6_MAPPED k ≠ 0 ∨ s.reg n .CLM_MAP_VALID g ≠ 0) :
    (s.clmRun n ⟨2, k, g⟩).clmEnd n = (s.clmRun n ⟨2, k, g⟩).clmEnded n 3 := by
  rw [State.clmEnd_map (State.claimCmd_clmRun _), State.clmMap_mapped (by rwa [State.reg_clmRun (by decide), State.reg_clmRun (by decide)])]

theorem State.clmEnd_map_invalid {k g : Nat} (hk : s.reg n .CLM_ENTRY6_MAPPED k = 0) (hg : s.reg n .CLM_MAP_VALID g = 0)
    (hv : s.reg n .CLM_ENTRY0_VALID k = 0) : (s.clmRun n ⟨2, k, g⟩).clmEnd n = (s.clmRun n ⟨2, k, g⟩).clmEnded n 4 := by
  rw [State.clmEnd_map (State.claimCmd_clmRun _), State.clmMap_free ((State.reg_clmRun (by decide) _ _).trans hk) ((State.reg_clmRun (by decide) _ _).trans hg),
    if_pos (by rwa [State.reg_clmRun (by decide)])]

theorem State.clmEnd_map_done {k g : Nat} (hk : s.reg n .CLM_ENTRY6_MAPPED k = 0) (hg : s.reg n .CLM_MAP_VALID g = 0)
    (hv : s.reg n .CLM_ENTRY0_VALID k ≠ 0) :
    (s.clmRun n ⟨2, k, g⟩).clmEnd n = ((s.clmRun n ⟨2, k, g⟩).joinGranule n k g).clmEnded n 1 := by
  rw [State.clmEnd_map (State.claimCmd_clmRun _), State.clmMap_free ((State.reg_clmRun (by decide) _ _).trans hk) ((State.reg_clmRun (by decide) _ _).trans hg),
    if_neg (by rwa [State.reg_clmRun (by decide)])]

theorem State.clmEnd_unmap_free {c g : Nat} (h : s.reg n .CLM_MAP_VALID g = 0) :
    (s.clmRun n ⟨3, c, g⟩).clmEnd n = (s.clmRun n ⟨3, c, g⟩).clmEnded n 5 := by
  rw [State.clmEnd_unmap (State.claimCmd_clmRun _), State.clmUnmap_free (by rwa [State.reg_clmRun (by decide)])]

theorem State.clmEnd_unmap_refused {c g : Nat} (h : s.reg n .CLM_MAP_VALID g ≠ 0) (hu : s.InUse n (s.reg n .CLM_MAP_CLAIM g)) :
    (s.clmRun n ⟨3, c, g⟩).clmEnd n = (s.clmRun n ⟨3, c, g⟩).clmEnded n 2 := by
  rw [State.clmEnd_unmap (State.claimCmd_clmRun _), State.clmUnmap_mapped (by rwa [State.reg_clmRun (by decide)]),
    if_pos (by rwa [State.reg_clmRun (by decide), State.inUse_clmRun])]

theorem State.clmEnd_unmap_done {c g : Nat} (h : s.reg n .CLM_MAP_VALID g ≠ 0) (hu : ¬s.InUse n (s.reg n .CLM_MAP_CLAIM g)) :
    (s.clmRun n ⟨3, c, g⟩).clmEnd n =
      (((s.clmRun n ⟨3, c, g⟩).setReg n .CLM_MAP_VALID 0 g).setReg n .CLM_ENTRY6_MAPPED 0 (s.reg n .CLM_MAP_CLAIM g)).clmEnded n 1 := by
  rw [State.clmEnd_unmap (State.claimCmd_clmRun _), State.clmUnmap_mapped (by rwa [State.reg_clmRun (by decide)]),
    if_neg (by rwa [State.reg_clmRun (by decide), State.inUse_clmRun]), State.reg_clmRun (by decide)]

end Sys2Proof.Machine
end

section
/-! O35: the commands of CLM.CMD. -/

namespace Sys2Proof
open Machine

variable {s : State} {n : Shaft} {c : BitVec 8} {g : BitVec 10}

theorem exec_clmLoad (h : s.Open n.val .CLM) : exec (.clmLoad n c) s = .next (s.clmCmd n 1 c.toNat 0) :=
  congrArg Host.Outcome.next (State.clmTurn_of_open h (by decide) (by decide) c 0)

theorem exec_clmMap (h : s.Open n.val .CLM) : exec (.clmMap n c g) s = .next (s.clmCmd n 2 c.toNat g.toNat) :=
  congrArg Host.Outcome.next (State.clmTurn_of_open h (by decide) (by decide) c g)

theorem exec_clmUnmap (h : s.Open n.val .CLM) : exec (.clmUnmap n g) s = .next (s.clmCmd n 3 0 g.toNat) :=
  congrArg Host.Outcome.next (State.clmTurn_of_open h (by decide) (by decide) 0 g)

/-- Settles O35: each command begins by the one write of CLM.CMD, and what it leaves at its end is a case of its operation's equation. -/
theorem claimCommands : Obligations.ClaimCommands := by
  unfold Obligations.ClaimCommands
  intro s n c g hopen k
  refine ⟨fun hb i hi => ?_, fun hb => ⟨?_, ?_, ?_, State.clmEnd_load_refused, fun hstays => ?_, State.clmEnd_map_mapped,
    fun hfree hgran => ⟨State.clmEnd_map_invalid hfree hgran, fun hvalid => ?_⟩, State.clmEnd_unmap_free, State.clmEnd_unmap_refused,
    State.clmEnd_unmap_done⟩⟩
  · simp only [List.mem_cons, List.not_mem_nil, or_false] at hi
    rcases hi with rfl | rfl | rfl
    · rw [exec_clmLoad hopen, State.clmCmd_busy hb]
    · rw [exec_clmMap hopen, State.clmCmd_busy hb]
    · rw [exec_clmUnmap hopen, State.clmCmd_busy hb]
  · rw [exec_clmLoad hopen, State.clmCmd_free hb (by decide) (by decide)]
    rfl
  · rw [exec_clmMap hopen, State.clmCmd_free hb (by decide) (by decide)]
    rfl
  · rw [exec_clmUnmap hopen, State.clmCmd_free hb (by decide) (by decide)]
    rfl
  · intro t
    have hend : t = _ := State.clmEnd_load_done hstays
    clear_value t
    subst hend
    exact ⟨State.result_clmEnded (by decide), State.busy_clmEnded 1, State.claimCmd_clmEnded 1, fun a f => State.reg_copyFields_ended,
      (State.log_clmEnded 1).trans ((State.log_copyFields ..).trans (State.log_clmRun _))⟩
  · intro t
    have hend : t = _ := State.clmEnd_map_done hfree hgran hvalid
    clear_value t
    subst hend
    obtain ⟨hclaim, hmapped, hgranule, hjoined⟩ := State.joinGranule_joins (s := s.clmRun n ⟨2, k, g.toNat⟩) (n := n) c.isLt g.isLt
    refine ⟨State.busy_clmEnded 1, State.claimCmd_clmEnded 1, State.result_clmEnded (by decide), ?_, ?_, ?_, ?_, fun j hj => ?_⟩
    · rw [State.reg_clmEnded (by decide) (by decide), hclaim]
    · rw [State.reg_clmEnded (by decide) (by decide), hmapped]
    · rw [State.reg_clmEnded (by decide) (by decide), hgranule]
    · rw [State.reg_clmEnded (by decide) (by decide), hjoined]
    · rw [State.reg_clmEnded (by decide) (by decide), State.mapValid_joinGranule hj, State.reg_clmRun (by decide)]

end Sys2Proof
end

section
/-! SUPPORT. A field of a word (R204): what is read of it, and the word with it replaced, as numbers. -/

namespace Sys2Proof.Machine

theorem getLsbD_fieldMask {w : Nat} (p : Nat) (hw : w ≤ 64) {j : Nat} (hj : j < 64) :
    (fieldMask p w).getLsbD j = decide (p ≤ j ∧ j < p + w) := by
  simp only [fieldMask, BitVec.getLsbD_shiftLeft, BitVec.getLsbD_ushiftRight, BitVec.getLsbD_allOnes, hj, decide_true, Bool.true_and]
  refine Bool.eq_iff_iff.mpr ?_
  simp only [Bool.and_eq_true, Bool.not_eq_true', decide_eq_false_iff_not, decide_eq_true_eq]
  omega

/-- Bit `j` of the number `old` with `w` bits from bit `p` replaced by those of `v`. -/
theorem testBit_splice (old v p w j : Nat) :
    (old % 2 ^ p + v % 2 ^ w * 2 ^ p + old / 2 ^ (p + w) * 2 ^ (p + w)).testBit j =
      if p ≤ j ∧ j < p + w then v.testBit (j - p) else old.testBit j := by
  have hform : old % 2 ^ p + v % 2 ^ w * 2 ^ p + old / 2 ^ (p + w) * 2 ^ (p + w) =
      2 ^ p * (2 ^ w * (old / 2 ^ (p + w)) + v % 2 ^ w) + old % 2 ^ p := by
    rw [Nat.pow_add]
    ring
  rw [hform, Nat.testBit_two_pow_mul_add _ (Nat.mod_lt _ (Nat.two_pow_pos p)), Nat.testBit_two_pow_mul_add _ (Nat.mod_lt _ (Nat.two_pow_pos w)),
    Nat.testBit_mod_two_pow, Nat.testBit_mod_two_pow, Nat.testBit_div_two_pow]
  by_cases hlow : j < p
  · rw [if_pos hlow, if_neg (by omega), decide_eq_true hlow, Bool.true_and]
  rw [if_neg hlow]
  by_cases hin : j - p < w
  · rw [if_pos hin, if_pos (by omega), decide_eq_true hin, Bool.true_and]
  · rw [if_neg hin, if_neg (by omega), show j - p - w + (p + w) = j by omega]

/-- R204: `w` bits of a word from bit `p` replaced by the low bits of another. -/
theorem fieldMask_merge (x v : DWord) {p w : Nat} (h : p + w ≤ 64) :
    (x &&& ~~~ fieldMask p w) ||| ((v <<< p) &&& fieldMask p w) =
      BitVec.ofNat 64 (x.toNat % 2 ^ p + v.toNat % 2 ^ w * 2 ^ p + x.toNat / 2 ^ (p + w) * 2 ^ (p + w)) := by
  refine BitVec.eq_of_getLsbD_eq fun j hj => ?_
  rw [getLsbD_merge, getLsbD_fieldMask p (by omega) hj, BitVec.getLsbD_ofNat, testBit_splice, BitVec.getLsbD_shiftLeft]
  by_cases hin : p ≤ j ∧ j < p + w
  · simp [hin, hj, BitVec.testBit_toNat, show ¬ j < p by omega]
  · simp [hin, hj, BitVec.testBit_toNat]

/-- R204: the low `w` bits of a word. -/
theorem and_fieldMask_zero (x : DWord) {w : Nat} (h : w ≤ 64) : x &&& fieldMask 0 w = BitVec.ofNat 64 (x.toNat % 2 ^ w) := by
  refine BitVec.eq_of_getLsbD_eq fun j hj => ?_
  rw [BitVec.getLsbD_and, getLsbD_fieldMask 0 h hj, BitVec.getLsbD_ofNat, Nat.testBit_mod_two_pow, BitVec.testBit_toNat]
  simp [hj, Bool.and_comm]

theorem HewFields.pos_eq (i : HewFields) : i.pos = i.imm.toNat % 64 := BitVec.extractLsb'_toNat ..

theorem HewFields.wid_eq (i : HewFields) : i.wid = i.imm.toNat / 256 % 128 := by
  rw [HewFields.wid, BitVec.extractLsb'_toNat, Nat.shiftRight_eq_div_pow]

end Sys2Proof.Machine
end

section
/-! SUPPORT. The flags of ADD and SUB (R202) as the carry, the borrow and the sign of the numbers. -/

namespace Sys2Proof.Machine

theorem addOver_eq (a b : DWord) : addOver a b = decide ((a + b).toInt ≠ a.toInt + b.toInt) := by
  have ha := a.le_toInt
  have ha' := BitVec.toInt_lt (x := a)
  have hb := b.le_toInt
  have hb' := BitVec.toInt_lt (x := b)
  refine Bool.eq_iff_iff.mpr ?_
  simp only [addOver, BitVec.msb_eq_toInt, BitVec.toInt_add, Bool.and_eq_true, beq_iff_eq, bne_iff_ne, ne_eq, decide_eq_true_eq,
    decide_eq_decide, Int.bmod_def]
  split <;> omega

theorem subOver_eq (a b : DWord) : subOver a b = decide ((a - b).toInt ≠ a.toInt - b.toInt) := by
  have ha := a.le_toInt
  have ha' := BitVec.toInt_lt (x := a)
  have hb := b.le_toInt
  have hb' := BitVec.toInt_lt (x := b)
  refine Bool.eq_iff_iff.mpr ?_
  simp only [subOver, BitVec.msb_eq_toInt, BitVec.toInt_sub, Bool.and_eq_true, bne_iff_ne, ne_eq, decide_eq_true_eq,
    decide_eq_decide, Int.bmod_def]
  split <;> omega

/-- Z and N, as the model sets them from a result, say that it is 0 and that it is negative. -/
theorem Thread.flags_eq (x : Thread) (r : DWord) (c v : Bool) :
    x.flags r c v = { x with z := decide (r = 0), n := decide (r.toInt < 0), c := c, v := v } := by
  rw [Thread.flags, BitVec.msb_eq_toInt]
  rfl

theorem Thread.addFlags_eq (x : Thread) (a b : DWord) :
    x.addFlags a b = { x with
      z := decide (a + b = 0), n := decide ((a + b).toInt < 0), c := decide (2 ^ 64 ≤ a.toNat + b.toNat)
      v := decide ((a + b).toInt ≠ a.toInt + b.toInt) } := by
  rw [Thread.addFlags, Thread.flags_eq, addOver_eq]
  rfl

theorem Thread.subFlags_eq (x : Thread) (a b : DWord) :
    x.subFlags a b = { x with
      z := decide (a = b), n := decide ((a - b).toInt < 0), c := decide (a.toNat < b.toNat)
      v := decide ((a - b).toInt ≠ a.toInt - b.toInt) } := by
  have hzero : decide (a - b = 0) = decide (a = b) := decide_eq_decide.mpr sub_eq_zero
  rw [Thread.subFlags, Thread.flags_eq, subOver_eq, hzero]
  rfl

theorem popCount_eq_countP {w : Nat} (x : BitVec w) : popCount x = (List.range w).countP (fun j => x.getLsbD j) := by
  have hfold : ∀ (l : List Nat) (a : Nat), l.foldl (fun a i => if x.getLsbD i then a + 1 else a) a = a + l.countP (fun j => x.getLsbD j) := by
    intro l
    induction l with
    | nil => intro a; rfl
    | cons j l ih =>
      intro a
      rw [List.foldl_cons, ih, List.countP_cons]
      cases x.getLsbD j <;> grind
  exact (hfold _ 0).trans (Nat.zero_add _)

end Sys2Proof.Machine
end

section
/-! SUPPORT. Instructions that change nothing but their thread (R202 to R204), said once for all of them. -/

namespace Sys2Proof.Machine

variable {c : Shaft → Nat → Nat → HewFields → StepCheck → Instr} {op : BitVec 8} {f : HewFields → Form}

/-- An instruction whose body leaves the thread as `r` of what it was. -/
theorem threadOnly_of_put {body : Hew → State → HewRes} {r : Thread → HewFields → Bool → Thread}
    (hexec : ∀ s n h k i, exec (c n h k i .clean) s = .next (s.hewStep n h k op i .clean (fun _ => f i) body))
    (hbody : ∀ (s : State) (n : Shaft) (h k t : Nat) (i : HewFields), (f i).legal i = true →
      body (Hew.of s n h k t i) s = .go ((Hew.of s n h k t i).put s (r (s.thread n h k) i (s.speculates n t))))
    (hpc : ∀ x i p, (r x i p).pc = x.pc) : ThreadOnly c op f r := fun s n h k t i hissues hlegal hlast =>
  (hexec s n h k i).trans (congrArg Host.Outcome.next
    (State.hewStep_change (F := fun x => r x i (s.speculates n t)) ⟨hissues, hlegal, hlast⟩ (hbody s n h k t i hlegal) (fun _ => hpc ..) rfl))

/-- Wd becomes `g` of the operands, with Z and N from it and C and V cleared (R202). -/
theorem threadOnly_of_logic {body : Hew → State → HewRes} {g : DWord → DWord → DWord}
    (hexec : ∀ s n h k i, exec (c n h k i .clean) s = .next (s.hewStep n h k op i .clean (fun _ => f i) body))
    (hbody : ∀ (h : Hew) (s : State), body h s = h.logic s (g h.opA h.opB)) :
    ThreadOnly c op f (fun x i p =>
      let v := g (x.opA i) (x.opB i)
      { x.setReg i.d v p with z := decide (v = 0), n := decide (v.toInt < 0), c := false, v := false }) :=
  threadOnly_of_put hexec (fun s n h k t i _ => by
    rw [hbody, Hew.logic, Thread.logicFlags, Thread.flags_eq]
    rfl) (fun _ _ _ => rfl)

/-- Wd becomes `g`, and no flag changes. -/
theorem threadOnly_of_write {body : Hew → State → HewRes} {g : Thread → HewFields → DWord}
    (hexec : ∀ s n h k i, exec (c n h k i .clean) s = .next (s.hewStep n h k op i .clean (fun _ => f i) body))
    (hbody : ∀ (s : State) (n : Shaft) (h k t : Nat) (i : HewFields), (f i).legal i = true →
      body (Hew.of s n h k t i) s = (Hew.of s n h k t i).write s (g (s.thread n h k) i)) :
    ThreadOnly c op f (fun x i p => x.setReg i.d (g x i) p) :=
  threadOnly_of_put hexec (fun s n h k t i hlegal => hbody s n h k t i hlegal) (fun _ _ _ => rfl)

/-- R201: what is legal holds no value that its form names as reserved. -/
theorem Form.ok_of_legal {f : Form} {i : HewFields} (h : f.legal i = true) : f.ok = true := by
  simp only [Form.legal, Bool.and_eq_true] at h
  exact h.1.1.1.1.1.1

end Sys2Proof.Machine
end

section
/-! Arithmetic, logic, moves, compares and bit fields (R202 to R204). -/

namespace Sys2Proof.Machine

/-- The high half of a doubleword replaced. -/
theorem putBits_high (x : DWord) (v : Word) : putBits x 32 v = (v ++ x.extractLsb' 0 32 : BitVec 64) := by
  refine BitVec.eq_of_getLsbD_eq fun j hj => ?_
  rw [putBits_getLsbD _ _ _ _ hj, BitVec.getLsbD_append, BitVec.getLsbD_extractLsb']
  by_cases hlow : j < 32
  · simp [hlow]
  · simp [hlow, show 32 ≤ j by omega, hj]

theorem hewMovh_only : ThreadOnly .hewMovh 0x0A (fun i => { d := true, bi := true, ok := i.bi }) (fun x i p =>
    x.setReg i.d ((i.imm ++ (x.reg i.d.toNat).extractLsb' 0 32 : BitVec 64)) p) := by
  refine threadOnly_of_write (fun _ _ _ _ _ => rfl) (fun s n h k t i _ => ?_)
  exact congrArg ((Hew.of s n h k t i).write s) (putBits_high _ _)

/-- R203: the condition of a CMP that is legal. -/
theorem cmpCond_of_le (a b : DWord) : ∀ {k : Nat}, k ≤ 9 → cmpCond k a b =
    match k with
    | 0 => decide (a = b)
    | 1 => decide (a ≠ b)
    | 2 => decide (a.toNat < b.toNat)
    | 3 => decide (b.toNat ≤ a.toNat)
    | 4 => decide (a.toInt < b.toInt)
    | 5 => decide (b.toInt ≤ a.toInt)
    | 6 => decide (a.toNat ≤ b.toNat)
    | 7 => decide (b.toNat < a.toNat)
    | 8 => decide (a.toInt ≤ b.toInt)
    | _ => decide (b.toInt < a.toInt) := by
  have hne : (a != b) = decide (a ≠ b) := by simp [bne, BEq.beq]
  intro k hk
  by_cases hk1 : k = 1
  · subst hk1
    exact hne
  · interval_cases k <;> trivial

/-- R202, R203: the thread after a CMP whose condition is `c`. -/
def Thread.compared (x : Thread) (i : HewFields) (c : Bool) : Thread :=
  { x with
    z := decide (x.opA i = x.opB i), n := decide ((x.opA i - x.opB i).toInt < 0), c := decide ((x.opA i).toNat < (x.opB i).toNat)
    v := decide ((x.opA i - x.opB i).toInt ≠ (x.opA i).toInt - (x.opB i).toInt), t := c }

theorem hewCmp_body {s : State} {n : Shaft} {h k t : Nat} {i : HewFields} : hewCmp (Hew.of s n h k t i) s = .go ((Hew.of s n h k t i).put s
    ((s.thread n h k).compared i (cmpCond (i.x &&& 0xF).toNat ((s.thread n h k).opA i) ((s.thread n h k).opB i)))) := by
  rw [hewCmp, Thread.subFlags_eq]
  rfl

theorem hewExt_only : ThreadOnly .hewExt 0x10 Form.field (fun x i p =>
    x.setReg i.d (BitVec.ofNat 64 ((x.opA i).toNat / 2 ^ (i.imm.toNat % 64) % 2 ^ (i.imm.toNat / 256 % 128))) p) := by
  refine threadOnly_of_write (fun _ _ _ _ _ => rfl) (fun s n h k t i hlegal => ?_)
  have hok := Form.ok_of_legal hlegal
  simp only [Form.field, Bool.and_eq_true, decide_eq_true_eq] at hok
  refine congrArg ((Hew.of s n h k t i).write s) ((and_fieldMask_zero _ (show i.wid ≤ 64 by omega)).trans ?_)
  rw [BitVec.toNat_ushiftRight, Nat.shiftRight_eq_div_pow, HewFields.pos_eq, HewFields.wid_eq]
  rfl

theorem hewIns_only : ThreadOnly .hewIns 0x11 Form.field (fun x i p =>
    let p₀ := i.imm.toNat % 64
    let w := i.imm.toNat / 256 % 128
    let old := (x.reg i.d.toNat).toNat
    x.setReg i.d (BitVec.ofNat 64
      (old % 2 ^ p₀ + (x.opA i).toNat % 2 ^ w * 2 ^ p₀ + old / 2 ^ (p₀ + w) * 2 ^ (p₀ + w))) p) := by
  refine threadOnly_of_write (fun _ _ _ _ _ => rfl) (fun s n h k t i hlegal => ?_)
  have hok := Form.ok_of_legal hlegal
  simp only [Form.field, Bool.and_eq_true, decide_eq_true_eq] at hok
  refine congrArg ((Hew.of s n h k t i).write s) ((fieldMask_merge _ _ (by exact hok.2)).trans ?_)
  rw [HewFields.pos_eq, HewFields.wid_eq]
  rfl

/-- Settles O1: each instruction leaves its thread as one of `threadOnly_of_put`, `threadOnly_of_logic` and `threadOnly_of_write`, with the flags and fields as
numbers. -/
theorem hewerArithmetic : Obligations.HewerArithmetic := by
  unfold Obligations.HewerArithmetic
  refine ⟨⟨?add, ?sub⟩, ⟨?and, ?or, ?xor, ?shl, ?shr, ?sar, ?mov, ?popc, ?ffs⟩, ⟨hewMovh_only, ?cmp, ?sel⟩, hewExt_only, hewIns_only⟩
  case add =>
    refine threadOnly_of_put (fun _ _ _ _ _ => rfl) (fun s n h k t i _ => ?_) (fun _ _ _ => rfl)
    rw [hewAdd, Thread.addFlags_eq]
    rfl
  case sub =>
    refine threadOnly_of_put (fun _ _ _ _ _ => rfl) (fun s n h k t i _ => ?_) (fun _ _ _ => rfl)
    rw [hewSub, Thread.subFlags_eq]
    rfl
  case and => exact threadOnly_of_logic (g := fun a b => a &&& b) (fun _ _ _ _ _ => rfl) (fun _ _ => rfl)
  case or => exact threadOnly_of_logic (g := fun a b => a ||| b) (fun _ _ _ _ _ => rfl) (fun _ _ => rfl)
  case xor => exact threadOnly_of_logic (g := fun a b => a ^^^ b) (fun _ _ _ _ _ => rfl) (fun _ _ => rfl)
  case shl => exact threadOnly_of_logic (g := fun a b => a <<< (b.toNat % 64)) (fun _ _ _ _ _ => rfl) (fun _ _ => rfl)
  case shr => exact threadOnly_of_logic (g := fun a b => a >>> (b.toNat % 64)) (fun _ _ _ _ _ => rfl) (fun _ _ => rfl)
  case sar => exact threadOnly_of_logic (g := fun a b => a.sshiftRight (b.toNat % 64)) (fun _ _ _ _ _ => rfl) (fun _ _ => rfl)
  case mov => exact threadOnly_of_logic (g := fun _ b => b) (fun _ _ _ _ _ => rfl) (fun _ _ => rfl)
  case popc =>
    refine threadOnly_of_logic (g := fun a _ => BitVec.ofNat 64 ((List.range 64).countP (fun j => a.getLsbD j))) (fun _ _ _ _ _ => rfl) (fun h s => ?_)
    rw [hewPopc, popCount_eq_countP]
  case ffs =>
    exact threadOnly_of_logic (g := fun a _ => BitVec.ofNat 64 (((List.range 64).find? (fun j => a.getLsbD j)).getD 64)) (fun _ _ _ _ _ => rfl)
      (fun _ _ => rfl)
  case cmp =>
    refine threadOnly_of_put (fun _ _ _ _ _ => rfl) (fun s n h k t i hlegal => ?_) (fun _ _ _ => rfl)
    exact hewCmp_body.trans (congrArg (fun c => HewRes.go ((Hew.of s n h k t i).put s ((s.thread n h k).compared i c)))
      (cmpCond_of_le _ _ (of_decide_eq_true (Form.ok_of_legal hlegal))))
  case sel => exact threadOnly_of_write (g := fun x i => if x.t then x.opA i else x.opB i) (fun _ _ _ _ _ => rfl) (fun _ _ _ _ _ _ _ => rfl)

end Sys2Proof.Machine
end

section
/-! SUPPORT. The branches of a hewer (R203, R204): a jump under a condition. -/

namespace Sys2Proof.Machine

variable {s : State} {n : Shaft} {h k t : Nat} {op : BitVec 8} {i : HewFields} {f : Form} {body : Hew → State → HewRes}

/-- An instruction that jumps. -/
theorem State.hewStep_jump {a : State} {pc : BitVec 14} (hissues : s.Issues n h k t op i) (hlegal : f.legal i = true)
    (hbody : body (Hew.of s n h k t i) s = .jump a pc) :
    s.hewStep n h k op i .clean (fun _ => f) body = a.updThread n h k (fun x => x.jumped pc) := by
  rw [State.hewStep_run hissues _ hlegal, hbody, Hew.finish_jump]
  rfl

/-- A branch goes to IMM[13:0] when its condition holds and steps on otherwise. -/
theorem State.hewStep_branch {cond : Bool} (hissues : s.Issues n h k t op i) (hlegal : f.legal i = true)
    (hpc : cond = true ∨ (s.thread n h k).pc ≠ 16383)
    (hbody : body (Hew.of s n h k t i) s = if cond then .jump s (Hew.of s n h k t i).target else .go s) :
    s.hewStep n h k op i .clean (fun _ => f) body =
      s.updThread n h k (fun x => if cond then x.jumped (i.imm.extractLsb' 0 14) else x.stepped) := by
  cases cond with
  | true =>
    rw [State.hewStep_jump hissues hlegal hbody, extractLsb'_zero_eq_setWidth]
    rfl
  | false => exact State.hewStep_stepOn ⟨hissues, hlegal, hpc.resolve_left Bool.false_ne_true⟩ hbody rfl

theorem Thread.brCond_of_le (x : Thread) : ∀ {k : Nat}, k ≤ 9 → x.brCond k =
    match k with
    | 0 => true
    | 1 => x.z
    | 2 => !x.z
    | 3 => x.n
    | 4 => !x.n
    | 5 => x.c
    | 6 => !x.c
    | 7 => x.t
    | 8 => !x.t
    | _ => x.v := by
  intro k hk
  interval_cases k <;> rfl

/-- R207: what BLS takes as the release state: the provisional one, else that of SETST, else PRIOR_STATE. -/
theorem Hew.release_eq (c : Hew) : c.release = c.y.prov.getD (c.y.setst.getD c.y.prior) := by
  rw [Hew.release]
  cases c.y.prov <;> cases c.y.setst <;> rfl

end Sys2Proof.Machine
end

section
/-! Branches and jumps (R203, R204, R208). -/

namespace Sys2Proof.Machine

/-- Settles O2: a branch is a jump under a condition, and JAL and JR are jumps. -/
theorem hewerControlFlow : Obligations.HewerControlFlow := by
  unfold Obligations.HewerControlFlow
  refine ⟨⟨?br, ?bls, ?bcnt⟩, fun s n h k t i => ⟨?jal, ?jr⟩⟩
  case br =>
    intro s n h k t i hissues hlegal hpc
    refine congrArg Host.Outcome.next (State.hewStep_branch hissues hlegal hpc ?_)
    exact congrArg (fun c : Bool => if c then HewRes.jump s (Hew.of s n h k t i).target else .go s)
      (Thread.brCond_of_le _ (of_decide_eq_true (Form.ok_of_legal hlegal)))
  case bls =>
    intro s n h k t i hissues hlegal hpc
    refine congrArg Host.Outcome.next (State.hewStep_branch hissues hlegal hpc ?_)
    simp only [hewBls, Hew.release_eq, Bool.and_eq_true, decide_eq_true_eq]
    rfl
  case bcnt =>
    intro s n h k t i hissues hlegal hpc
    refine congrArg Host.Outcome.next (State.hewStep_branch hissues hlegal hpc ?_)
    simp only [hewBcnt, decide_eq_true_eq]
    rfl
  case jal =>
    intro hissues hlegal
    refine congrArg Host.Outcome.next ((State.hewStep_jump hissues hlegal rfl).trans ?_)
    rw [extractLsb'_zero_eq_setWidth]
    exact (State.updThread_updThread ..).trans (State.updThread_congr rfl)
  case jr =>
    intro hissues hlegal
    refine congrArg Host.Outcome.next ?_
    by_cases hin : ((s.thread n h k).opA i).toNat ≤ 16383
    · rw [if_pos hin, BitVec.ofNat_toNat]
      exact State.hewStep_jump hissues hlegal (if_neg (Nat.not_lt.mpr hin))
    · have hbody : hewJr (Hew.of s n h k t i) s = .trap Cause.BOUNDS := if_pos (Nat.not_le.mp hin)
      rw [if_neg hin, State.hewStep_run hissues _ hlegal, hbody]
      rfl

end Sys2Proof.Machine
end

section
/-! SUPPORT. The step that every hewer instruction takes (R200 to R209), whichever it is. -/

namespace Sys2Proof.Machine

variable {s : State} {n : Shaft} {h k t : Nat} {op : BitVec 8} {i : HewFields}

theorem getLsbD_setWidth_shl {w : Nat} (x : BitVec w) (p : Nat) {j : Nat} (hj : j < 64) :
    (x.setWidth 64 <<< p).getLsbD j = (decide (p ≤ j) && x.getLsbD (j - p)) := by
  rw [BitVec.getLsbD_shiftLeft, BitVec.getLsbD_setWidth]
  by_cases hp : p ≤ j
  · simp [hp, hj, show j - p < 64 by omega, show ¬ j < p by omega]
  · simp [hp, show j < p by omega]

/-- R200: bit `j` of the word that the fields spell. -/
theorem HewFields.getLsbD_word (i : HewFields) (op : BitVec 8) {j : Nat} (hj : j < 64) : (i.word op).getLsbD j =
    (decide (56 ≤ j) && op.getLsbD (j - 56) || decide (52 ≤ j) && i.d.getLsbD (j - 52) || decide (48 ≤ j) && i.a.getLsbD (j - 48) ||
      decide (j = 47) && i.am || decide (j = 46) && i.bi || decide (42 ≤ j) && i.b.getLsbD (j - 42) ||
      decide (32 ≤ j) && i.x.getLsbD (j - 32) || i.imm.getLsbD j) := by
  have hbit : ∀ (v : Bool) (p : Nat), ((if v then (1 : DWord) else 0) <<< p).getLsbD j = (decide (j = p) && v) := fun v p => by
    rw [show (if v then (1 : DWord) else 0) = (BitVec.ofBool v).setWidth 64 by cases v <;> rfl, getLsbD_setWidth_shl _ _ hj,
      BitVec.getLsbD_ofBool]
    grind
  simp only [HewFields.word, BitVec.getLsbD_or, getLsbD_setWidth_shl _ _ hj, hbit, BitVec.getLsbD_setWidth, hj, decide_true, Bool.true_and]

/-- R200: the word that the fields spell has the opcode in its first byte. -/
theorem HewFields.opcode_word (i : HewFields) (op : BitVec 8) : (i.word op).extractLsb' 56 8 = op := by
  refine BitVec.eq_of_getLsbD_eq fun j hj => ?_
  rw [BitVec.getLsbD_extractLsb', HewFields.getLsbD_word _ _ (by omega)]
  simp (disch := omega) [BitVec.getLsbD_of_ge, decide_eq_true, decide_eq_false]

/-- A thread without a tally takes no step. -/
theorem State.hewStep_of_idle (hidle : (s.thread n h k).tally = none) (u : StepCheck) (f : Hew → Form) (body : Hew → State → HewRes) :
    s.hewStep n h k op i u f body = s := by
  simp only [State.hewStep, hidle]

/-- R209: a thread that has used up its steps traps STEP_LIMIT, whatever the instruction is and whether it is legal. -/
theorem State.hewStep_of_limit (hf : s.Fetches n h k t op i) (hl : s.reg n .HWR_CFG_STEP_LIMIT ≤ (s.thread n h k).steps)
    (f : Hew → Form) (body : Hew → State → HewRes) :
    s.hewStep n h k op i .clean f body = s.hewTrap n h k t Cause.STEP_LIMIT (s.thread n h k).pc.toNat (i.word op) := by
  obtain ⟨hready, htally, hword⟩ := hf
  simp [State.hewStep, Hew.run, Hew.trap, StepCheck.clean, State.storeCheck, htally, hready, hword, hl]

/-- R201: an instruction that its form does not allow traps ILLEGAL. -/
theorem State.hewStep_of_illegal {f : Form} {body : Hew → State → HewRes} (hi : s.Issues n h k t op i) (hf : f.legal i = false) :
    s.hewStep n h k op i .clean (fun _ => f) body = s.hewTrap n h k t Cause.ILLEGAL (s.thread n h k).pc.toNat (i.word op) := by
  obtain ⟨⟨hready, htally, hword⟩, hsteps⟩ := hi
  simp [State.hewStep, Hew.run, Hew.trap, StepCheck.clean, State.storeCheck, htally, hready, hword, Nat.not_le.mpr hsteps, hf]

/-- The opcode byte at PC of the tally that thread `k` of hewer `h` runs. -/
def State.fetchedOpcode (s : State) (n : Shaft) (h k : Nat) : BitVec 8 :=
  (s.codeWord n (match (s.thread n h k).tally with
    | some t => (s.tally n t).epoch
    | none => false) (s.thread n h k).pc.toNat).extractLsb' 56 8

theorem State.fetchedOpcode_of_fetches (hf : s.Fetches n h k t op i) : s.fetchedOpcode n h k = op := by
  obtain ⟨-, htally, hword⟩ := hf
  simp only [State.fetchedOpcode, htally, hword, HewFields.opcode_word]

/-- NOP, when it is fetched. -/
theorem exec_hewNop_of_opcode (hop : hewOpcodes.contains (s.fetchedOpcode n h k) = true) (u : StepCheck) :
    exec (.hewNop n h k i u) s = .next (s.hewStep n h k 0x5E i u (fun _ => {}) hewNop) := congrArg Host.Outcome.next (if_pos hop)

/-- A reserved opcode. -/
theorem exec_hewNop_of_reserved (hop : ¬ hewOpcodes.contains (s.fetchedOpcode n h k) = true) (u : StepCheck) :
    exec (.hewNop n h k i u) s = .next (s.hewStep n h k (s.fetchedOpcode n h k) i u (fun _ => { ok := false }) hewNop) :=
  congrArg Host.Outcome.next (if_neg hop)

/-- Every hewer instruction is a `hewStep` of its opcode; only NOP is that of a reserved opcode as well, when such a word is fetched. -/
theorem exec_hewCall {c : Instr} {x : HewCall} (hc : hewCall c = some x) : ∃ op f body,
    exec c s = .next (s.hewStep x.n x.h x.k op x.i x.u f body) ∧ ∀ t, s.Fetches x.n x.h x.k t x.op x.i → op = x.op := by
  unfold hewCall at hc
  split at hc <;> cases hc
  case h_48 n h k i u =>
    by_cases hop : hewOpcodes.contains (s.fetchedOpcode n h k) = true
    · exact ⟨_, _, _, exec_hewNop_of_opcode hop u, fun _ _ => rfl⟩
    · exact ⟨_, _, _, exec_hewNop_of_reserved hop u, fun t hf => State.fetchedOpcode_of_fetches hf⟩
  all_goals exact ⟨_, _, _, rfl, fun _ _ => rfl⟩

end Sys2Proof.Machine
end

section
/-! SUPPORT. A trap (R209 to R211): what it counts and logs, what becomes of its tally, and what its answer leaves. -/

namespace Sys2Proof.Machine

variable {s : State} {n : Shaft} {t : Nat}

/-- The trap log holds what R211 lists, or is held with what it had. -/
theorem State.sh_trapLog (s : State) (n : Shaft) (h k t cause pc key : Nat) (w : DWord) (m : Shaft) :
    (s.trapLog n h k t cause pc key w).sh m = s.sh m := by
  unfold State.trapLog
  split_ifs <;> rfl

/-- R211: while HELD is 1 the log stays as it is. -/
theorem State.trapLog_of_held (hheld : s.reg n .HWR_TRAP_LOG0_HELD ≠ 0) (h k t cause pc key : Nat) (w : DWord) :
    s.trapLog n h k t cause pc key w = s := if_pos (State.regB_eq_true.mpr hheld)

/-- R211: while HELD is 0 the trap is written to the log, and HELD becomes 1. -/
theorem State.trapLog_of_free (hheld : s.reg n .HWR_TRAP_LOG0_HELD = 0) (h k t cause pc key : Nat) (w : DWord) :
    let a := s.trapLog n h k t cause pc key w
    a.reg n .HWR_TRAP_LOG0_HELD = 1 % 2 ∧ a.reg n .HWR_TRAP_LOG0_CAUSE = cause % 2 ^ 4 ∧ a.reg n .HWR_TRAP_LOG0_HEWER = h % 2 ^ 6 ∧
      a.reg n .HWR_TRAP_LOG0_PC = pc % 2 ^ 14 ∧ a.reg n .HWR_TRAP_LOG1_TALLY = t % 2 ^ 15 := by
  have hfree : ¬ s.regB n .HWR_TRAP_LOG0_HELD = true := by rw [State.regB_eq_false.mpr hheld]; decide
  simp only [State.trapLog, if_neg hfree]
  refine ⟨?_, ?_, ?_, ?_, ?_⟩ <;> simp (disch := decide) only [State.reg_setReg_field, State.reg_setReg_same] <;> rfl

/-- The trap log is all that a trap's log entry writes. -/
theorem State.trapLog_frame {g : Fld} (hg : g ∉ [Fld.HWR_TRAP_LOG0_CAUSE, .HWR_TRAP_LOG0_HEWER, .HWR_TRAP_LOG0_THREAD, .HWR_TRAP_LOG0_EPOCH,
    .HWR_TRAP_LOG0_PC, .HWR_TRAP_LOG0_HELD, .HWR_TRAP_LOG1_TALLY, .HWR_TRAP_LOG1_KEY, .HWR_TRAP_LOG2_INSTR_LO, .HWR_TRAP_LOG3_INSTR_HI])
    {h k t cause pc key : Nat} {w : DWord} {e : Nat} : (s.trapLog n h k t cause pc key w).reg n g e = s.reg n g e := by
  simp only [List.mem_cons, List.not_mem_nil, or_false, not_or] at hg
  obtain ⟨hcause, hhewer, hthread, hepoch, hpc, hheld, htally, hkey, hlo, hhi⟩ := hg
  unfold State.trapLog
  split_ifs
  · rfl
  · rw [State.reg_setReg_field hhi, State.reg_setReg_field hlo, State.reg_setReg_field hkey, State.reg_setReg_field htally,
      State.reg_setReg_field hheld, State.reg_setReg_field hpc, State.reg_setReg_field hepoch, State.reg_setReg_field hthread,
      State.reg_setReg_field hhewer, State.reg_setReg_field hcause]

theorem State.trapCount_keeps {α : Type} (proj : ShaftSt → α) (hp : ∀ x l, proj { x with limits := l } = proj x) (s : State) (n : Shaft)
    (h k t cause pc key : Nat) (w : DWord) : proj ((s.trapCount n h k t cause pc key w).sh n) = proj (s.sh n) := by
  simp only [State.trapCount]
  rw [State.limEvent_keeps _ n proj hp]
  split_ifs <;> simp only [State.sh_addReg, State.sh_trapLog]

theorem State.reg_trapCount {cause : Nat} (hcause : cause ≠ Cause.NO_HANDLER) (s : State) (n : Shaft) (h k t pc key : Nat) (w : DWord) {g : Fld}
    (hg : g ≠ .EVL_STAT_DROPPED) (e : Nat) : (s.trapCount n h k t cause pc key w).reg n g e =
      (((s.addReg n .HWR_STAT_TRAPS).addReg n .HWR_UNIT_TRAPS h).trapLog n h k t cause pc key w).reg n g e := by
  simp only [State.trapCount, if_neg hcause]
  exact State.reg_limEvent _ _ _ _ _ _ _ _ _ hg

theorem State.tally_trapCount (s : State) (n : Shaft) (h k t cause pc key : Nat) (w : DWord) (j : Nat) :
    (s.trapCount n h k t cause pc key w).tally n j = s.tally n j :=
  State.tally_of_sh (State.trapCount_keeps ShaftSt.tallies (fun _ _ => rfl) ..) j

/-- An ERROR answer, sent or not, changes the tally's ANS and haulage alone (R210, R365). -/
theorem State.errorAnswer_eq (s : State) (n : Shaft) (t : Nat) : s.errorAnswer n t = s ∨ s.errorAnswer n t =
    (s.answerSent n t).updSh n (fun h => { h with flights := h.flights ++
      [⟨s.tallyAnswer n t Ans.ERROR false, .station .lode 0, .station .lode 0, 0x81, .egress (s.tally n t).portal, none, none⟩] }) := by
  simp only [State.errorAnswer]
  split_ifs
  · exact .inr (State.lodeSend_of_class rfl _ _ _)
  · exact .inl rfl

theorem State.errorAnswer_keeps {α : Type} (proj : ShaftSt → α) (hp : ∀ x ys l, proj { x with tallies := ys, flights := l } = proj x) (s : State)
    (n : Shaft) (t : Nat) : proj ((s.errorAnswer n t).sh n) = proj (s.sh n) := by
  rcases s.errorAnswer_eq n t with e | e <;> rw [e]
  simp only [State.answerSent, State.sh_updSh_same, State.sh_updTally]
  exact hp _ _ _

theorem State.regs_errorAnswer (s : State) (n : Shaft) (t : Nat) : (s.errorAnswer n t).regs = s.regs := by
  rcases s.errorAnswer_eq n t with e | e
  · rw [e]
  · rw [e]
    rfl

theorem State.tally_errorAnswer (s : State) (n : Shaft) (t : Nat) : ∃ a, (s.errorAnswer n t).tally n t = { s.tally n t with ans := a } := by
  rcases s.errorAnswer_eq n t with e | e <;> rw [e]
  · exact ⟨_, rfl⟩
  · exact ⟨.sent, (State.tally_of_sh (s := s.answerSent n t) (by rw [State.sh_updSh_same]) t).trans (State.tally_updTally_same ..)⟩

section
variable (hkind : (s.tally n t).kind = .line) (hspec : (s.tally n t).spec ≠ .pending)
include hkind hspec

/-- The trap of a LINE tally that does not speculate. -/
theorem State.hewTrap_of_line (h k cause pc : Nat) (w : DWord) : s.hewTrap n h k t cause pc w =
    (((((s.trapCount n h k t cause pc (s.dispatchKey n t) w).endThread n t).tallyDone n t).updTally n t
      (fun y => { y with trapped := true, setst := none, prov := none })).errorAnswer n t) := by
  simp only [State.hewTrap, hkind]
  rw [State.specAbort_of_not_pending (by rw [State.tally_trapCount]; exact hspec)]

theorem State.tally_hewTrap (h k cause pc : Nat) (w : DWord) : ∃ a, (s.hewTrap n h k t cause pc w).tally n t =
    { s.tally n t with
      run := none, st := .done, waitFor := .nothing, park := { (s.tally n t).park with valid := false }, trapped := true, setst := none, prov := none
      ans := a } := by
  rw [State.hewTrap_of_line hkind hspec]
  obtain ⟨a, ha⟩ := State.tally_errorAnswer (((((s.trapCount n h k t cause pc (s.dispatchKey n t) w).endThread n t).tallyDone n t).updTally n t
      (fun y => { y with trapped := true, setst := none, prov := none }))) n t
  refine ⟨a, ha.trans ?_⟩
  rw [State.tally_updTally_same, State.tally_tallyDone_same, State.tally_endThread_same, State.tally_trapCount]

theorem State.thread_hewTrap {h k : Nat} (hrun : (s.tally n t).run = some (h, k)) (cause pc : Nat) (w : DWord) :
    (s.hewTrap n h k t cause pc w).thread n h k = Thread.idle := by
  have hthreads : ((s.hewTrap n h k t cause pc w).sh n).threads =
      (((s.trapCount n h k t cause pc (s.dispatchKey n t) w).endThread n t).sh n).threads := by
    rw [State.hewTrap_of_line hkind hspec, State.errorAnswer_keeps ShaftSt.threads (fun _ _ _ => rfl), State.sh_updTally]
    exact State.tallyDone_keeps _ n t ShaftSt.threads (fun _ _ _ => rfl)
  rw [State.thread_of_sh hthreads, State.thread_endThread _ n t (by rw [State.tally_trapCount]; exact hrun)]

theorem State.reg_hewTrap {cause : Nat} (hcause : cause ≠ Cause.NO_HANDLER) (h k pc : Nat) (w : DWord) {g : Fld} (hg : g ≠ .EVL_STAT_DROPPED)
    (e : Nat) : (s.hewTrap n h k t cause pc w).reg n g e =
      (((s.addReg n .HWR_STAT_TRAPS).addReg n .HWR_UNIT_TRAPS h).trapLog n h k t cause pc (s.dispatchKey n t) w).reg n g e := by
  rw [State.hewTrap_of_line hkind hspec, ← State.reg_trapCount hcause _ _ _ _ _ _ _ _ hg]
  refine State.reg_of_regs n ((State.regs_errorAnswer ..).trans ?_) g e
  exact State.endThread_regs _ n t

end

end Sys2Proof.Machine
end

section
/-! Traps (R201, R204, R209 to R211). -/

namespace Sys2Proof.Machine

variable {s : State} {n : Shaft} {h k t : Nat} {i : HewFields}

/-- R201: what ADD to SAR and SEL may have in their fields. -/
theorem Form.legal_dab_iff (i : HewFields) : Form.dab.legal i = true ↔
    i.x = 0 ∧ (i.bi = true → i.b = 0) ∧ (i.bi = false → i.imm = 0) ∧ (i.am = true → i.a.toNat < 8) := by
  have hx : i.x &&& ~~~0 = i.x := BitVec.and_allOnes
  have himm : i.imm &&& ~~~0 = i.imm := BitVec.and_allOnes
  simp only [Form.legal, Form.dab, hx, himm]
  cases i.bi <;> cases i.am <;> simp [and_comm, and_left_comm, and_assoc]

/-- The instructions of form D, A, and B or IMM write their thread, and not its PC. -/
theorem hewDab_body {c : Shaft → Nat → Nat → HewFields → StepCheck → Instr} {op : BitVec 8}
    (hmem : (c, op) ∈ [(Instr.hewAdd, 0x01), (.hewSub, 0x02), (.hewAnd, 0x03), (.hewOr, 0x04), (.hewXor, 0x05), (.hewShl, 0x06), (.hewShr, 0x07),
      (.hewSar, 0x08), (.hewSel, 0x0C)]) :
    ∃ body, (∀ s n h k i u, exec (c n h k i u) s = .next (s.hewStep n h k op i u (fun _ => Form.dab) body)) ∧
      ∀ (a : Hew) (s : State), ∃ x, body a s = .go (a.put s x) ∧ x.pc = a.x.pc := by
  simp only [List.mem_cons, List.not_mem_nil, or_false, Prod.mk.injEq] at hmem
  rcases hmem with ⟨rfl, rfl⟩ | ⟨rfl, rfl⟩ | ⟨rfl, rfl⟩ | ⟨rfl, rfl⟩ | ⟨rfl, rfl⟩ | ⟨rfl, rfl⟩ | ⟨rfl, rfl⟩ | ⟨rfl, rfl⟩ | ⟨rfl, rfl⟩ <;>
    exact ⟨_, fun _ _ _ _ _ _ => rfl, fun _ _ => ⟨_, rfl, rfl⟩⟩

/-- Settles O11: the step limit by `exec_hewCall`, the illegal fields by `Form.legal_dab_iff`, and the trap of a LINE tally from what it leaves of the
tally, of the thread and of the registers. -/
theorem hewerTraps : Obligations.HewerTraps := by
  unfold Obligations.HewerTraps
  refine ⟨fun c x s hc hclean => ⟨?limit, ?idle⟩, fun s n h k t i c op hmem hissues => ⟨?illegal, ?legal⟩, ?trap⟩
  case limit =>
    intro t hf hl
    obtain ⟨op, f, body, hstep, hop⟩ := exec_hewCall (s := s) hc
    rw [hstep, hop t hf, hclean, State.hewStep_of_limit hf hl]
  case idle =>
    intro hidle
    obtain ⟨op, f, body, hstep, -⟩ := exec_hewCall (s := s) hc
    rw [hstep, State.hewStep_of_idle hidle]
  case illegal =>
    intro hbad
    obtain ⟨body, hstep, -⟩ := hewDab_body hmem
    have hf : Form.dab.legal i = false := by
      rw [← Bool.not_eq_true, Form.legal_dab_iff]
      rintro ⟨hx, hb, himm, ha⟩
      rcases hbad with hne | ⟨hbi, hne⟩ | ⟨hbi, hne⟩ | ⟨ham, hle⟩
      · exact hne hx
      · exact hne (hb hbi)
      · exact hne (himm hbi)
      · exact absurd (ha ham) (Nat.not_lt.mpr hle)
    rw [hstep, State.hewStep_of_illegal hissues hf]
  case legal =>
    intro hx hb himm ha hlast
    obtain ⟨body, hstep, hbody⟩ := hewDab_body hmem
    obtain ⟨x, hput, hpc⟩ := hbody (Hew.of s n h k t i) s
    have hlegal := (Form.legal_dab_iff i).mpr ⟨hx, hb, himm, ha⟩
    refine ⟨_, (hstep ..).trans (congrArg Host.Outcome.next (State.hewStep_put ⟨hissues, hlegal, hlast⟩ hput hpc)), ?_⟩
    rw [State.thread_updThread_same, Thread.stepped, hpc]
    rfl
  case trap =>
    intro s n h k t cause pc w y hkind hspec hrun hh hc ht hpc hcause t'
    have hreg : ∀ {g : Fld}, g ≠ .EVL_STAT_DROPPED → ∀ e, t'.reg n g e =
        (((s.addReg n .HWR_STAT_TRAPS).addReg n .HWR_UNIT_TRAPS h).trapLog n h k t cause pc (s.dispatchKey n t) w).reg n g e :=
      fun hg e => State.reg_hewTrap hkind hspec hcause h k pc w hg e
    obtain ⟨a, htally⟩ := State.tally_hewTrap hkind hspec h k cause pc w
    have htally' : t'.tally n t = _ := htally
    have hheld : ((s.addReg n .HWR_STAT_TRAPS).addReg n .HWR_UNIT_TRAPS h).reg n .HWR_TRAP_LOG0_HELD = s.reg n .HWR_TRAP_LOG0_HELD := by
      rw [State.reg_addReg_field _ _ _ _ (by decide), State.reg_addReg_field _ _ _ _ (by decide)]
    refine ⟨by rw [htally'], by rw [htally'], by rw [htally'], State.thread_hewTrap hkind hspec hrun cause pc w, ?_, fun h0 => ?_, fun h1 => ?_⟩
    · rw [hreg (by decide), State.trapLog_frame (by decide), State.reg_addReg_field _ _ _ _ (by decide), State.reg_addReg_same]
      rfl
    · obtain ⟨hheld1, hcause1, hhewer1, hpc1, htally1⟩ := State.trapLog_of_free (hheld.trans h0) h k t cause pc (s.dispatchKey n t) w
      rw [hreg (by decide), hreg (by decide), hreg (by decide), hreg (by decide), hreg (by decide), hheld1, hcause1, hhewer1, hpc1, htally1]
      exact ⟨rfl, Nat.mod_eq_of_lt (by omega), Nat.mod_eq_of_lt (by omega), Nat.mod_eq_of_lt (by omega), Nat.mod_eq_of_lt (by omega)⟩
    · rw [hreg (by decide), State.trapLog_of_held (by rw [hheld]; exact h1), State.reg_addReg_field _ _ _ _ (by decide),
        State.reg_addReg_field _ _ _ _ (by decide)]

end Sys2Proof.Machine
end

section
/-! What O6 says of FWDD to a queue fails where a table is not in its canonical form, a tally's record standing twice: FWDD raises PENDING by 0, which
writes the record anew, and the statement, which bounds no table, pushes onto the state as it was. -/

namespace Sys2Proof.Machine

/-- FWDD to the queue whose number W0 holds. -/
def forwardToQueue : HewFields := ⟨0, 0, false, false, 0, 2, 0⟩

/-- Reset, but thread 0 of hewer 0 of shaft 0 runs tally 0, whose record stands twice, and its next instruction is that FWDD; queue 0 does not exist. -/
def State.recordTwice : State :=
  let y : Tally := { Tally.zero with st := .opn, run := some (0, 0) }
  State.reset.updSh 0 (fun h =>
    { h with
      threads := [(0, { Thread.idle with tally := some 0 })], tallies := [(0, y), (0, y)]
      bank0 := { h.bank0 with code := [(0, forwardToQueue.word 0x32)] } })

/-- The records that the shaft holds after a step. -/
def recordsAfter (c : Instr) (s : State) (n : Shaft) : Option Nat :=
  match exec c s with
  | .next t => some (t.sh n).tallies.length
  | _ => none

theorem State.recordTwice_steps : State.recordTwice.Steps 0 0 0 0 0x32 forwardToQueue (Form.send forwardToQueue false 0xFF00) := by
  decide

theorem State.recordTwice_after : recordsAfter (.hewFwdd 0 0 0 forwardToQueue .clean) State.recordTwice 0 = some 1 := by
  decide

/-- Refutes O6: after the FWDD the record stands once, where the statement has it stand twice still. -/
theorem not_hewerSends : ¬ Obligations.HewerSends := by
  unfold Obligations.HewerSends
  rintro ⟨hsends, -⟩
  obtain ⟨-, hqueue⟩ := hsends State.recordTwice 0 0 0 0 forwardToQueue
  obtain ⟨-, hforward⟩ := hqueue (by decide) (by decide) (by decide)
  have hexec := hforward State.recordTwice_steps (by decide) (by decide) _ rfl (by decide)
  have hafter := State.recordTwice_after
  rw [recordsAfter, hexec] at hafter
  exact absurd hafter (by decide)

end Sys2Proof.Machine
end

section
/-! What O9 says of a QPUSH onto a queue that exists fails where a LOAD makes the queue not exist in an earlier slot that the push waits for: T then says
INVALID, as on any queue that does not exist, and the statement has it say only whether the tub was dropped. -/

namespace Sys2Proof.Machine

/-- QPUSH of M onto the queue whose number W0 holds. -/
def pushOfM : HewFields := ⟨0, 0, false, false, 0, 0, 0⟩

/-- Reset, but thread 0 of hewer 0 of shaft 0 runs tally 0 and its next instruction is the QPUSH of M onto queue 5, which waits when it is full. For that
queue a push of a stope waits, behind a producer that found it full, and a LOAD of a staged queue that does not exist. -/
def State.loadedAway : State :=
  (((((State.reset.updSh 0 (fun h =>
    { h with
      threads := [(0, { Thread.idle with tally := some 0, w := [(0, 5)] })]
      tallies := [(0, { Tally.zero with st := .opn, run := some (0, 0) })]
      bank0 := { h.bank0 with code := [(0, pushOfM.word 0x50)] }
      qops := [⟨5, .push Tub.zero, .stope 0 0⟩], pushWaits := [⟨5, Tub.zero, .gone, false⟩], queueCmd := some (1, 5) })).setQueue 0 5
        { QDesc.zero with valid := true, wait := true, size := 4, hwm := 4 }).setReg 0 .QMG_STAGE0_SIZE 1).setReg 0 .QMG_STAGE1_HWM 1).setReg 0
        .QMG_CFG_RING_SLOTS 1)

/-- T of a thread after a step. -/
def flagAfter (c : Instr) (s : State) (n : Shaft) (h k : Nat) : Option Bool :=
  match exec c s with
  | .next t => some (t.thread n h k).t
  | _ => none

theorem State.loadedAway_steps : State.loadedAway.Steps 0 0 0 0 0x50 pushOfM { a := true } := by
  decide

set_option maxRecDepth 4000 in
/-- The push finds no queue. -/
theorem State.loadedAway_push :
    let x := State.loadedAway.thread 0 0 0
    ∃ a, State.loadedAway.pushNow 0 (x.opA pushOfM).toNat { x.m with wdog := false, ans := false } true = (a, .invalid) :=
  ⟨_, Prod.ext rfl (by decide)⟩

set_option maxRecDepth 4000 in
theorem State.loadedAway_after : flagAfter (.hewQpush 0 0 0 pushOfM .clean) State.loadedAway 0 0 0 = some true := by
  decide

/-- Refutes O9: the QPUSH sets T, where the statement has it 0 because nothing was dropped. -/
theorem not_hewerQueues : ¬ Obligations.HewerQueues := by
  unfold Obligations.HewerQueues
  intro h
  obtain ⟨-, -, hvalid⟩ := h State.loadedAway 0 0 0 0 pushOfM
  obtain ⟨hpush, -⟩ := hvalid (by decide) (by decide) (by decide) (by decide) (by decide)
  obtain ⟨a, hinvalid⟩ := State.loadedAway_push
  have hexec := hpush State.loadedAway_steps (a, .invalid) hinvalid nofun
  have hafter := State.loadedAway_after
  rw [flagAfter, hexec] at hafter
  simp [Thread.stepped] at hafter

end Sys2Proof.Machine
end

section
/-! SUPPORT. The tally record as TLD, TST and RECV read and write it (R137, R204). -/

namespace Sys2Proof.Machine

variable {s : State} {n : Shaft} {h k t : Nat} {i : HewFields}

theorem Hew.size_of : (Hew.of s n h k t i).size = 2 ^ (i.x.toNat % 4) := congrArg (2 ^ ·) (and_three_toNat i.x)

/-- R204: the low `8 * size` bits of a record from bit `p`, in a doubleword. -/
theorem recordField_eq {w : Nat} (r : BitVec w) (p : Nat) {size : Nat} (hsize : size ≤ 8) :
    ((r >>> p).setWidth 64) &&& fieldMask 0 (8 * size) = BitVec.ofNat 64 (r.toNat / 2 ^ p % 2 ^ (8 * size)) := by
  rw [and_fieldMask_zero _ (by omega), BitVec.toNat_setWidth, BitVec.toNat_ushiftRight, Nat.shiftRight_eq_div_pow,
    Nat.mod_mod_of_dvd _ (Nat.pow_dvd_pow 2 (by omega))]

/-- R204: a write of SCRATCH replaces `size` bytes from byte `off` of it. -/
theorem scratchPut_eq (x v : DWord) {off size : Nat} (hfit : off + size ≤ 8) : scratchPut x off size v =
    BitVec.ofNat 64 (x.toNat % 2 ^ (8 * off) + v.toNat % 2 ^ (8 * size) * 2 ^ (8 * off) +
      x.toNat / 2 ^ (8 * off + 8 * size) * 2 ^ (8 * off + 8 * size)) := fieldMask_merge _ _ (by omega)

theorem two_pow_mod_four_le (j : Nat) : 2 ^ (j % 4) ≤ 8 := by
  have hj : j % 4 < 4 := Nat.mod_lt _ (by decide)
  interval_cases j % 4 <;> decide

/-- A field of SCRATCH, aligned to its size, ends within it. -/
theorem scratch_fit {off j : Nat} (hlo : 112 ≤ off) (hhi : off < 120) (halign : off % 2 ^ (j % 4) = 0) : off - 112 + 2 ^ (j % 4) ≤ 8 := by
  have hj : j % 4 < 4 := Nat.mod_lt _ (by decide)
  interval_cases j % 4 <;> simp only [Nat.reducePow] at halign ⊢ <;> omega

/-- R137: DEADLINE takes a value that is earlier on the clock's circle. -/
theorem State.advance_eq (s : State) (n : Shaft) (t : Nat) (v : BitVec 32) : s.advance n t v =
    s.updTally n t (fun y => if 2 ^ 31 ≤ (v - y.deadline).toNat then { y with deadline := v } else y) := by
  simp only [State.advance, BitVec.msb_eq_decide, decide_eq_true_eq]

/-- R137: the deadline of a tally, or of several, leaves the threads alone. -/
theorem State.thread_advances (l : List Nat) (v : BitVec 32) (s : State) : (l.foldl (fun a j => a.advance n j v) s).thread n h k = s.thread n h k :=
  foldl_keeps (fun a : State => a.thread n h k = s.thread n h k) _ (fun _ _ ha => (State.thread_updTally ..).trans ha) l s rfl

/-- R204: what RECV asks for. -/
theorem recvWants_eq (i : HewFields) (b : Tub) :
    (!i.x.getLsbD 4 || decide (b.cls = i.x.setWidth 4)) = (!i.x.getLsbD 4 || decide (b.cls.toNat = i.x.toNat % 16)) := by
  rw [show decide (b.cls = i.x.setWidth 4) = decide (b.cls.toNat = i.x.toNat % 16) from
    decide_eq_decide.mpr (BitVec.toNat_inj.symm.trans (by rw [BitVec.toNat_setWidth]))]

theorem takeFirst_eq_none {α : Type} {p : α → Bool} : ∀ {l : List α}, (∀ a ∈ l, p a = false) → takeFirst p l = none
  | [], _ => rfl
  | a :: l, hl => by
    simp [takeFirst, hl a List.mem_cons_self, takeFirst_eq_none fun b hb => hl b (List.mem_cons_of_mem _ hb)]

/-- Does RECV ask for the tub in slot `j`? -/
abbrev State.recvAsks (s : State) (n : Shaft) (i : HewFields) (j : Nat) : Bool :=
  !i.x.getLsbD 4 || decide ((s.slot n j).cls.toNat = i.x.toNat % 16)

theorem recvWants_eq_asks (s : State) (n : Shaft) (i : HewFields) :
    (fun j => !i.x.getLsbD 4 || decide ((s.slot n j).cls = i.x.setWidth 4)) = s.recvAsks n i := funext fun _ => recvWants_eq i _

theorem hewRecv_of_none (hnone : ∀ a ∈ (s.tally n t).rcvd, s.recvAsks n i a = false) : hewRecv (Hew.of s n h k t i) s =
    .go ((Hew.of s n h k t i).put s { s.thread n h k with z := true, t := false }) := by
  have htake : takeFirst (s.recvAsks n i) (s.tally n t).rcvd = none := takeFirst_eq_none hnone
  rw [← recvWants_eq_asks] at htake
  simp only [hewRecv]
  split
  · rfl
  · next e => exact nomatch htake.symm.trans e

theorem hewRecv_of_asked {before after : List Nat} {j : Nat} (hrcvd : (s.tally n t).rcvd = before ++ j :: after) (hj : s.recvAsks n i j = true)
    (hbefore : ∀ a ∈ before, s.recvAsks n i a = false) : hewRecv (Hew.of s n h k t i) s =
    .go ((Hew.of s n h k t i).put ((s.updTally n t (fun y => { y with rcvd := before ++ after })).giveSlots n [j])
      { (s.thread n h k).setReg i.d (s.slot n j).sideband (s.speculates n t) with
        m := s.slot n j, mt := s.speculates n t, z := false, t := (s.slot n j).poison }) := by
  have htake : takeFirst (s.recvAsks n i) (s.tally n t).rcvd = some (j, before ++ after) := by
    rw [hrcvd]
    exact takeFirst_append before after hbefore hj
  rw [← recvWants_eq_asks] at htake
  simp only [hewRecv]
  split
  · next e => exact nomatch htake.symm.trans e
  · next e =>
      obtain ⟨rfl, rfl⟩ := Prod.mk.inj (Option.some.inj (htake.symm.trans e))
      rfl

end Sys2Proof.Machine
end

section
/-! The tally record, M and the matched tubs (R137, R204, R228). -/

namespace Sys2Proof.Machine

theorem exec_hewTld {s : State} {n : Shaft} {h k t : Nat} {i : HewFields} (hs : s.Steps n h k t 0x20 i { d := true, x := 3, imm := 0x7F })
    (hfield : i.imm.toNat % 128 % 2 ^ (i.x.toNat % 4) = 0 ∨ (2 ^ (i.x.toNat % 4) = 4 ∧ i.imm.toNat % 128 = 42)) :
    exec (.hewTld n h k i .clean) s = .next (s.updThread n h k (fun x =>
      (x.setReg i.d (BitVec.ofNat 64 ((s.record n t).toNat / 2 ^ (8 * (i.imm.toNat % 128)) % 2 ^ (8 * 2 ^ (i.x.toNat % 4)))) (s.speculates n t)).stepped)) := by
  refine congrArg Host.Outcome.next (State.hewStep_write hs ?_)
  have hoff : (Hew.of s n h k t i).off = i.imm.toNat % 128 := rfl
  simp only [hewTld, Hew.size_of, hoff, if_pos hfield, recordField_eq _ _ (two_pow_mod_four_le _)]
  rfl

section
variable {s : State} {n : Shaft} {h k t : Nat} {i : HewFields}

/-- R204, R228: TST of a field of SCRATCH. -/
theorem exec_hewTst_scratch (hs : s.Steps n h k t 0x21 i { a := true, x := 3, imm := 0x7F }) (hlo : 112 ≤ i.imm.toNat % 128) (hhi : i.imm.toNat % 128 < 120)
    (halign : i.imm.toNat % 128 % 2 ^ (i.x.toNat % 4) = 0) : exec (.hewTst n h k i .clean) s = .next ((s.updTally n t (fun y =>
      { y with
        scratch := scratchPut y.scratch (i.imm.toNat % 128 - 112) (2 ^ (i.x.toNat % 4)) ((s.thread n h k).opA i)
        park := { y.park with taintS := y.park.taintS || s.speculates n t } })).stepOn n h k) := by
  refine congrArg Host.Outcome.next (State.hewStep_stepOn hs (Eq.trans (if_pos ?_) ?_) (State.thread_updTally ..))
  · rw [Hew.size_of]
    exact ⟨halign, hlo, hhi⟩
  · rw [Hew.size_of]
    rfl

/-- What is not a field of SCRATCH: TIMER, DEADLINE, or nothing that may be written. -/
theorem hewTst_of_not_scratch (hscratch : ¬(112 ≤ i.imm.toNat % 128 ∧ i.imm.toNat % 128 < 120 ∧ i.imm.toNat % 128 % 2 ^ (i.x.toNat % 4) = 0)) :
    hewTst (Hew.of s n h k t i) s =
      if 2 ^ (i.x.toNat % 4) = 4 ∧ i.imm.toNat % 128 = 42 then
        if s.speculates n t then .trap Cause.DAYLIGHT
        else .go (s.updTally n t (fun y => { y with timer := ((s.thread n h k).opA i).setWidth 32 }))
      else if 2 ^ (i.x.toNat % 4) = 4 ∧ i.imm.toNat % 128 = 16 then
        if s.speculates n t then .trap Cause.DAYLIGHT
        else .go ((t :: if (s.tally n t).kind = .haulParent then s.children n t else []).foldl
          (fun a j => a.advance n j (((s.thread n h k).opA i).setWidth 32)) s)
      else .trap Cause.BOUNDS := by
  have hfield : ¬((Hew.of s n h k t i).off % (Hew.of s n h k t i).size = 0 ∧ 112 ≤ (Hew.of s n h k t i).off ∧ (Hew.of s n h k t i).off < 120) := by
    rw [Hew.size_of]
    exact fun hin => hscratch ⟨hin.2.1, hin.2.2, hin.1⟩
  simp only [hewTst, if_neg hfield]
  rw [Hew.size_of]
  rfl

/-- R228: what a tally that speculates may not write. -/
theorem State.hewStep_daylight {op : BitVec 8} {f : Form} {body : Hew → State → HewRes} {a : State} (hs : s.Steps n h k t op i f)
    (hbody : body (Hew.of s n h k t i) s = if s.speculates n t then .trap Cause.DAYLIGHT else .go a) (ha : a.thread n h k = s.thread n h k) :
    s.hewStep n h k op i .clean (fun _ => f) body =
      if s.speculates n t then s.hewTrap n h k t Cause.DAYLIGHT (s.thread n h k).pc.toNat (i.word op) else a.stepOn n h k := by
  split_ifs with hspec
  · exact State.hewStep_trap hs (hbody.trans (if_pos hspec))
  · exact State.hewStep_stepOn hs (hbody.trans (if_neg hspec)) ha

end

/-- Settles O3: TLD, MPUT and RECV by what their bodies leave of the thread, TST by what it names. -/
theorem hewerRecordAndStore : Obligations.HewerRecordAndStore := by
  unfold Obligations.HewerRecordAndStore
  refine ⟨⟨?tld, ?mput, ?recv⟩, ?tst⟩
  case tld =>
    intro s n h k t i hs size off hfield
    exact exec_hewTld hs hfield
  case mput =>
    intro s n h k t i hs
    exact congrArg Host.Outcome.next (State.hewStep_change (F := fun x =>
      { x with m := x.m.put (8 * (i.imm.toNat % 8)) 0 (x.opA i), mt := s.speculates n t || x.mt }) hs rfl (fun _ => rfl) rfl)
  case recv =>
    intro s n h k t i hs asked
    refine ⟨fun before after j hrcvd hj hbefore => ?_, fun hnone => ?_⟩
    · refine congrArg Host.Outcome.next (State.hewStep_change (F := fun x =>
        { x.setReg i.d (s.slot n j).sideband (s.speculates n t) with
          m := s.slot n j, mt := s.speculates n t, z := false, t := (s.slot n j).poison }) hs (hewRecv_of_asked hrcvd hj hbefore) (fun _ => rfl) ?_)
      exact (State.thread_of_sh (State.giveSlots_keeps _ n ShaftSt.threads (fun _ _ _ => rfl) _) h k).trans (State.thread_updTally ..)
    · exact congrArg Host.Outcome.next
        (State.hewStep_change (F := fun x => { x with z := true, t := false }) hs (hewRecv_of_none hnone) (fun _ => rfl) rfl)
  case tst =>
    intro s n h k t i hs size off v p trap
    by_cases hscratch : 112 ≤ off ∧ off < 120 ∧ off % size = 0
    · obtain ⟨hlo, hhi, halign⟩ := hscratch
      rw [if_pos ⟨hlo, hhi, halign⟩, exec_hewTst_scratch hs hlo hhi halign]
      refine congrArg (fun a : State => Host.Outcome.next (a.stepOn n h k)) (State.updTally_congr ?_)
      rw [scratchPut_eq _ _ (scratch_fit hlo hhi halign)]
    rw [if_neg hscratch]
    have hbody := hewTst_of_not_scratch (s := s) (n := n) (h := h) (k := k) (t := t) hscratch
    refine congrArg Host.Outcome.next ?_
    by_cases htimer : size = 4 ∧ off = 42
    · rw [if_pos htimer, extractLsb'_zero_eq_setWidth]
      exact State.hewStep_daylight hs (hbody.trans (if_pos htimer)) (State.thread_updTally ..)
    replace hbody := hbody.trans (if_neg htimer)
    rw [if_neg htimer]
    by_cases hdeadline : size = 4 ∧ off = 16
    · rw [if_pos hdeadline, extractLsb'_zero_eq_setWidth]
      simp only [← State.advance_eq]
      exact State.hewStep_daylight hs (hbody.trans (if_pos hdeadline)) (State.thread_advances ..)
    · rw [if_neg hdeadline]
      exact State.hewStep_trap hs (hbody.trans (if_neg hdeadline))

end Sys2Proof.Machine
end

section
/-! CNT, NOP and END (R204, R207, R230). -/

namespace Sys2Proof.Machine

variable {s : State} {n : Shaft} {h k t : Nat} {i : HewFields}

/-- R230: the 64 bits of a deferred CNT. -/
theorem Deferral.bits_cnt (x : BitVec 10) (j : Nat) :
    (Deferral.cnt x (BitVec.ofNat 6 (j % 64))).bits = BitVec.ofNat 64 (4 + 16 * x.toNat + 2 ^ 14 * (j % 64)) := by
  have hx := x.isLt
  have hlow : (4 ||| (x.setWidth 64 <<< 4) : BitVec 64) = BitVec.ofNat 64 (4 + 16 * x.toNat) := Deferral.bits_sharer 4 x (by decide)
  have hcounter : ((BitVec.ofNat 6 (j % 64)).setWidth 64 <<< 14 : BitVec 64) = BitVec.ofNat 64 ((j % 64) <<< 14) := by
    refine BitVec.eq_of_toNat_eq ?_
    rw [BitVec.toNat_shiftLeft, BitVec.toNat_setWidth, BitVec.toNat_ofNat, BitVec.toNat_ofNat, Nat.mod_eq_of_lt (show j % 64 < 2 ^ 6 by omega),
      Nat.mod_eq_of_lt (show j % 64 < 2 ^ 64 by omega)]
  have hdisjoint : (4 + 16 * x.toNat) ||| (j % 64) <<< 14 = (j % 64) <<< 14 + (4 + 16 * x.toNat) := by
    rw [Nat.or_comm]
    exact (Nat.shiftLeft_add_eq_or_of_lt (by omega) _).symm
  rw [Deferral.bits, hlow, hcounter, ← BitVec.ofNat_or, hdisjoint, Nat.shiftLeft_eq]
  congr 1
  omega

/-- R204: a plane address of F_ADDR_B within the plane. -/
theorem Hew.badAddress_of_lt {c : Hew} {w : DWord} (haddr : w.getLsbD 11 = true → c.opB.toNat < 2 ^ 40) : c.badAddress w = false := by
  cases h11 : w.getLsbD 11 with
  | false =>
    rw [Hew.badAddress, h11]
    rfl
  | true => rw [Hew.badAddress, decide_eq_false (Nat.not_le.mpr (haddr h11)), Bool.and_false]

/-- R238: with TRANSIT 0, or no abort, nothing waits. -/
theorem Hew.transitWait_of_clear {c : Hew} (hclear : ¬(c.y.spec = .aborted ∧ 0 < c.y.sp.transit)) : c.transitWait = false := by
  rw [Hew.transitWait, Bool.and_eq_false_iff, decide_eq_false_iff_not, decide_eq_false_iff_not, not_not]
  refine or_iff_not_imp_left.mpr fun haborted => BitVec.eq_of_toNat_eq ?_
  have hzero : ¬ 0 < c.y.sp.transit := fun hpos => hclear ⟨not_not.mp haborted, hpos⟩
  exact Nat.eq_zero_of_not_pos fun hpos => hzero (BitVec.lt_def.mpr hpos)

/-- R204: NOP. -/
theorem exec_hewNop (hs : s.Steps n h k t 0x5E i {}) : exec (.hewNop n h k i .clean) s = .next (s.stepOn n h k) := by
  have hfetches := hs.1.1
  rw [exec_hewNop_of_opcode (by rw [State.fetchedOpcode_of_fetches hfetches]; decide), State.hewStep_stepOn hs rfl rfl]

section
variable (hkind : (s.tally n t).kind = .line) (hs : s.Steps n h k t 0x5F i { imm := 0xFFFF })
include hkind hs

/-- The END of a LINE tally, by what its body does. -/
theorem exec_hewEnd_of_line {r : HewRes} (hbody : hewEnd (Hew.of s n h k t i) s = r) :
    exec (.hewEnd n h k i .clean) s = .next ((Hew.of s n h k t i).finish s (i.word 0x5F) r) := by
  obtain ⟨hissues, hlegal, -⟩ := hs
  have hform : (Hew.of s n h k t i).endForm = { imm := 0xFFFF } := by
    simp only [Hew.endForm, Hew.of, hkind]
  rw [← hbody]
  exact congrArg Host.Outcome.next (State.hewStep_run hissues Hew.endForm (by rw [hform]; exact hlegal) hewEnd)

/-- R230: END while SPEC is PENDING. -/
theorem exec_hewEnd_of_pending (hspec : s.speculates n t = true) :
    exec (.hewEnd n h k i .clean) s = .next (s.hewTrap n h k t Cause.SPEC (s.thread n h k).pc.toNat (i.word 0x5F)) :=
  exec_hewEnd_of_line hkind hs (r := .trap Cause.SPEC) (if_pos hspec)

variable (hspec : s.speculates n t = false) (hcontrol : ControlOk (s.templateControl n t i) [0x2])
  (haddr : (s.templateControl n t i).getLsbD 11 = true → ((s.thread n h k).opB i).toNat < 2 ^ 40)
  (htransit : ¬((s.tally n t).spec = .aborted ∧ 0 < (s.tally n t).sp.transit))
  (hpending : (s.tally n t).pending + ((s.templateControl n t i).extractLsb' 4 2).toNat ≤ 8191)

/-- The state that the END of a LINE tally leaves: PENDING raised by EXPECT, the thread idled, the tally DONE, its answer in haulage. -/
def State.endedLine (s : State) (n : Shaft) (h t e : Nat) (b : Tub) : State :=
  (((((s.sentBy n t e false).endThread n t).tallyDone n t).answerSent n t).toEgress n h { b with ans := true } (s.tally n t).portal)

include hspec hcontrol haddr htransit hpending

/-- R207: END of a LINE tally. -/
theorem exec_hewEnd_of_sure : exec (.hewEnd n h k i .clean) s = .next
    (s.endedLine n h t ((s.templateControl n t i).extractLsb' 4 2).toNat ((Hew.of s n h k t i).build s)) := by
  have hpc : (Hew.of s n h k t i).x.pc ≠ 16383 := hs.2.2
  have hline : (Hew.of s n h k t i).y.kind = .line := hkind
  have hbody : hewEnd (Hew.of s n h k t i) s = (Hew.of s n h k t i).endLine s := by
    rw [hewEnd, Hew.pend_of, hspec, if_neg Bool.false_ne_true, if_neg hpc]
    simp only [hline]
  have hclass : Cls.reserved { (Hew.of s n h k t i).build s with ans := true }.cls = false := by
    have hcls : ((Hew.of s n h k t i).build s).cls = 0x2 :=
      (Hew.built_build (h := h) (k := k) hcontrol.2.1).1.trans (List.mem_singleton.mp hcontrol.1)
    exact (congrArg Cls.reserved hcls).trans (by decide)
  have hrise : (Hew.of s n h k t i).endRise s ((s.templateControl n t i).extractLsb' 4 2).toNat =
      s.sentBy n t ((s.templateControl n t i).extractLsb' 4 2).toNat false := by
    rw [Hew.endRise, Hew.tooMany_of_le hpending, if_neg Bool.false_ne_true, Hew.rise_eq_sentBy]
  have hend : (Hew.of s n h k t i).endLine s = .released
      (s.endedLine n h t ((s.templateControl n t i).extractLsb' 4 2).toNat ((Hew.of s n h k t i).build s)) := by
    have htemplate : badTemplate ((Hew.of s n h k t i).control s) [Cls.RSP] = false := badTemplate_of_controlOk hcontrol
    have hbad : (Hew.of s n h k t i).badAddress ((Hew.of s n h k t i).control s) = false := Hew.badAddress_of_lt haddr
    have hwait : (Hew.of s n h k t i).transitWait = false := Hew.transitWait_of_clear htransit
    rw [Hew.endLine, htemplate, hbad, hwait, if_neg Bool.false_ne_true, if_neg Bool.false_ne_true, if_neg Bool.false_ne_true]
    refine congrArg HewRes.released ((State.inject_toEgress hclass ..).trans ?_)
    exact congrArg (fun a : State => (((a.endThread n t).tallyDone n t).answerSent n t).toEgress n h
      { (Hew.of s n h k t i).build s with ans := true } (s.tally n t).portal) hrise
  exact (exec_hewEnd_of_line hkind hs hbody).trans (by rw [hend]; rfl)

end

section
variable {e : Nat} {b : Tub}

theorem State.thread_endedLine (hrun : (s.tally n t).run = some (h, k)) : (s.endedLine n h t e b).thread n h k = Thread.idle := by
  have hrun' : ((s.sentBy n t e false).tally n t).run = some (h, k) := by
    rw [State.sentBy, State.tally_updTally_same]
    exact hrun
  rw [State.endedLine, State.thread_toEgress, State.answerSent, State.thread_updTally,
    State.thread_of_sh (State.tallyDone_keeps _ n t ShaftSt.threads (fun _ _ _ => rfl)), State.thread_endThread _ n t hrun']

theorem State.tally_endedLine (s : State) (n : Shaft) (h t e : Nat) (b : Tub) : (s.endedLine n h t e b).tally n t =
    { s.tally n t with
      pending := (s.tally n t).pending + e, run := none, st := .done, waitFor := .nothing
      park := { (s.tally n t).park with valid := false }, ans := .sent } := by
  rw [State.endedLine, State.toEgress, State.tally_updSh (by intro; rfl), State.answerSent, State.tally_updTally_same, State.tally_tallyDone_same,
    State.tally_endThread_same, State.sentBy, State.tally_updTally_same]
  rfl

theorem State.flights_endedLine (s : State) (n : Shaft) (h t e : Nat) (b : Tub) : ((s.endedLine n h t e b).sh n).flights = (s.sh n).flights ++
    [⟨{ b with ans := true }, .router (hewerRouter h), .router (hewerRouter h), 0x81, .egress (s.tally n t).portal, none, none⟩] := by
  have hkept : (((((s.sentBy n t e false).endThread n t).tallyDone n t).answerSent n t).sh n).flights = (s.sh n).flights := by
    rw [State.answerSent, State.sh_updTally, State.tallyDone_keeps _ n t (fun x => x.flights) (fun _ _ _ => rfl),
      State.endThread_keeps _ n t (fun x => x.flights) (fun _ _ _ _ _ => rfl), State.sentBy, State.sh_updTally]
  rw [State.endedLine, State.toEgress, State.sh_updSh_same, ← hkept]

end

/-- Settles O10: NOP and CNT by what their bodies do, deferred or at once, and the END of a LINE tally by the state it leaves. -/
theorem hewerCountNopEnd : Obligations.HewerCountNopEnd := by
  unfold Obligations.HewerCountNopEnd
  intro s n h k t i y
  refine ⟨exec_hewNop, fun hs => ⟨fun hspec => ?_, fun hspec hroom t' hdeferred => ?_⟩, fun hs hkind => ⟨exec_hewEnd_of_pending hkind hs, ?_⟩⟩
  · refine congrArg Host.Outcome.next (State.hewStep_stepOn hs (Eq.trans (if_neg ?_) rfl) rfl)
    rw [Hew.pend_of, hspec]
    exact Bool.false_ne_true
  · refine congrArg Host.Outcome.next (State.hewStep_stepOn hs (Eq.trans (if_pos hspec) ?_) (State.thread_of_deferred hdeferred h k))
    exact Hew.defer_of_room hroom (by rw [Deferral.bits_cnt]; exact hdeferred)
  · intro w e hspec hcontrol haddr htransit hpending hrun
    have htally := State.tally_endedLine s n h t e ((Hew.of s n h k t i).build s)
    exact ⟨_, _, exec_hewEnd_of_sure hkind hs hspec hcontrol haddr htransit hpending, Hew.built_build hcontrol.2.1, State.thread_endedLine hrun,
      by rw [htally], by rw [htally], by rw [htally], State.flights_endedLine ..⟩

end Sys2Proof.Machine
end

section
/-! SUPPORT. What the confirmation and the abort of a speculation (R239, R240) leave of the tally, of its thread and of the registers: their steps at stopes
and gates touch none of the three, but for the answer of a tally that is DONE. -/

namespace Sys2Proof.Machine

/-- Tally `t` but for its answer, thread `k` of hewer `h`, and register field `g`. -/
def State.shows (s : State) (n : Shaft) (h k t : Nat) (g : Fld) : Tally × Thread × Nat :=
  ({ s.tally n t with ans := .unsent }, s.thread n h k, s.reg n g)

variable {s a : State} {n : Shaft} {h k t : Nat} {g : Fld}

theorem State.shows_of_sh (htallies : (a.sh n).tallies = (s.sh n).tallies) (hthreads : (a.sh n).threads = (s.sh n).threads)
    (hreg : a.reg n g = s.reg n g) : a.shows n h k t g = s.shows n h k t g := by
  rw [State.shows, State.tally_of_sh htallies, State.thread_of_sh hthreads, hreg, ← State.shows]

theorem State.shows_updSh {F : ShaftSt → ShaftSt} (htallies : ∀ x, (F x).tallies = x.tallies) (hthreads : ∀ x, (F x).threads = x.threads) :
    (s.updSh n F).shows n h k t g = s.shows n h k t g :=
  State.shows_of_sh (by rw [State.sh_updSh_same, htallies]) (by rw [State.sh_updSh_same, hthreads]) rfl

theorem State.shows_updStope (j : Nat) (f : Stope → Stope) : (s.updStope n j f).shows n h k t g = s.shows n h k t g :=
  State.shows_updSh (fun _ => rfl) (fun _ => rfl)

theorem State.shows_updPtl (p : Portal) (f : PortalSt → PortalSt) : (s.updPtl n p f).shows n h k t g = s.shows n h k t g :=
  State.shows_updSh (fun _ => rfl) (fun _ => rfl)

theorem State.shows_giveSlots (l : List Nat) : (s.giveSlots n l).shows n h k t g = s.shows n h k t g :=
  State.shows_of_sh (State.giveSlots_keeps s n ShaftSt.tallies (fun _ _ _ => rfl) l) (State.giveSlots_keeps s n ShaftSt.threads (fun _ _ _ => rfl) l)
    (State.reg_of_regs n (s.giveSlots_regs n l) g 0)

theorem State.shows_addReg {f : Fld} (hg : g ≠ f) (e j : Nat) : (s.addReg n f e j).shows n h k t g = s.shows n h k t g :=
  State.shows_of_sh rfl rfl (State.reg_addReg_field _ _ _ _ hg)

/-- R239 step 5. -/
theorem State.shows_releaseHeld (u : Nat) (p : Portal) : (s.releaseHeld n u p).shows n h k t g = s.shows n h k t g :=
  (State.shows_giveSlots _).trans (State.shows_updPtl ..)

/-- R242. -/
theorem State.shows_stain (hstained : g ≠ .STP_SPEC_STAINED) (hdropped : g ≠ .EVL_STAT_DROPPED) (j u : Nat) :
    (s.stain n j u).shows n h k t g = s.shows n h k t g := by
  refine Eq.trans (State.shows_of_sh ?_ ?_ ?_) (State.shows_updStope j (fun x => x.leave u))
  · rw [State.stain, State.sh_shEvent]
    rfl
  · rw [State.stain, State.sh_shEvent]
    rfl
  · rw [State.stain, State.reg_shEvent _ _ _ _ _ _ _ hdropped, State.reg_setReg_field hstained]

/-- The answer of a tally that is not DONE frees nothing. -/
theorem State.shows_answerGone (hst : (s.tally n t).st ≠ .done) : (s.answerGone n t).shows n h k t g = s.shows n h k t g := by
  have htally : ((s.updTally n t (fun y => { y with ans := .gone })).tally n t) = { s.tally n t with ans := .gone } := State.tally_updTally_same ..
  have hfree : (s.updTally n t (fun y => { y with ans := .gone })).mayFree n t = false := by
    simp only [State.mayFree, htally, decide_eq_false hst, Bool.false_and]
  rw [State.answerGone, State.tryFree, hfree, if_neg Bool.false_ne_true, State.shows, htally, State.thread_updTally]
  rfl

/-- R240 step 5. -/
theorem State.shows_dropHeld (hst : (s.tally n t).st ≠ .done) (hdiscarded : g ≠ .PTL_DL_GATE2_DISCARDED) (p : Portal) :
    (s.dropHeld n t p).shows n h k t g = s.shows n h k t g := by
  have hdropped : ∀ (f : PortalSt → PortalSt) (l : List Nat), ((s.updPtl n p f).giveSlots n l).shows n h k t g = s.shows n h k t g :=
    fun f l => (State.shows_giveSlots l).trans (State.shows_updPtl p f)
  refine (State.shows_addReg hdiscarded _ _).trans ?_
  split_ifs
  · refine (State.shows_answerGone ?_).trans (hdropped _ _)
    exact fun hdone => hst ((congrArg (fun v : Tally × Thread × Nat => v.1.st) (hdropped _ _)).symm.trans hdone)
  · exact hdropped _ _

/-- A tally that is confirmed (R239). -/
def Tally.confirmed (y : Tally) : Tally :=
  { y with
    spec := .confirmed
    setst := match y.prov with
      | some v => some v
      | none => y.setst
    prov := none
    park := { y.park with taintW := 0, taintS := false }
    sp := { y.sp with tickets := 0, ticketSeq := 0, popq := [], deferCount := 0, deferSlot := none } }

/-- A tally that is aborted (R240), its thread having taken `m` steps if one runs it. -/
def Tally.aborted (y : Tally) (m : Option Nat) : Tally :=
  { y with
    spec := .aborted, prov := none, setst := none, abortAt := m, scratch := if y.park.taintS then 0 else y.scratch, park := y.park.abort
    sp := { y.sp with tickets := 0, deferSlot := none, deferCount := 0, popq := [] } }

variable {s : State} {n : Shaft} {h k t : Nat}

theorem State.updRunner_of_run (hrun : (s.tally n t).run = some (h, k)) (f : Thread → Thread) : s.updRunner n t f = s.updThread n h k f := by
  simp only [State.updRunner, hrun]

/-- A change of a tally and of the thread that runs it. -/
theorem State.shows_change {g : Fld} (hrun : (s.tally n t).run = some (h, k)) {f : Tally → Tally} (hf : ∀ y, (f y).run = y.run) (F : Thread → Thread) :
    ((s.updTally n t f).updRunner n t F).shows n h k t g = ({ f (s.tally n t) with ans := .unsent }, F (s.thread n h k), s.reg n g) := by
  rw [State.updRunner_of_run (h := h) (k := k) (by rw [State.tally_updTally_same, hf, hrun]), State.shows, State.thread_updThread_same,
    State.thread_updTally, State.updThread, State.tally_updSh (by intro; rfl), State.tally_updTally_same]
  rfl

/-- R239, of a tally that defers nothing and popped no queue. -/
theorem State.shows_specConfirm (hrun : (s.tally n t).run = some (h, k)) (hslot : (s.tally n t).sp.deferSlot = none)
    (hpopq : (s.tally n t).sp.popq = []) : (s.specConfirm n t).shows n h k t .PTL_DL_STAT_CONFIRMED =
      ({ (s.tally n t).confirmed with ans := .unsent }, (s.thread n h k).confirm, min (s.reg n .PTL_DL_STAT_CONFIRMED + 1) 65535) := by
  simp only [State.specConfirm, State.deferrals, hslot, hpopq, Option.toList_none, List.foldl_nil, State.giveSlots]
  refine State.eachPortal_keeps (fun a => a.shows n h k t _ = _) _ (fun p a ha => (State.shows_releaseHeld t p).trans ha) _ ?_
  refine foldl_keeps (fun a : State => a.shows n h k t _ = _) _ (fun a j ha => (State.shows_updStope j _).trans ha) _ _ ?_
  refine (State.shows_change (s := s.addReg n .PTL_DL_STAT_CONFIRMED) (f := Tally.confirmed) hrun (fun _ => rfl) Thread.confirm).trans ?_
  rw [State.reg_addReg_same]
  rfl

/-- R240, of a tally that popped no queue. -/
theorem State.shows_specAbort (hspec : (s.tally n t).spec = .pending) (hrun : (s.tally n t).run = some (h, k)) (hst : (s.tally n t).st ≠ .done)
    (hpopq : (s.tally n t).sp.popq = []) : (s.specAbort n t).shows n h k t .PTL_DL_STAT2_ABORTED =
      ({ (s.tally n t).aborted (some (s.thread n h k).steps) with ans := .unsent }, (s.thread n h k).abort (s.tally n t).view,
        min (s.reg n .PTL_DL_STAT2_ABORTED + 1) 65535) := by
  have hreg : ((s.addReg n .PTL_DL_STAT2_ABORTED).giveSlots n (s.deferTaken n (s.tally n t))).reg n .PTL_DL_STAT2_ABORTED =
      min (s.reg n .PTL_DL_STAT2_ABORTED + 1) 65535 := by
    rw [State.reg_of_regs n (State.giveSlots_regs ..), State.reg_addReg_same]
    rfl
  have hsh : ((((s.addReg n .PTL_DL_STAT2_ABORTED).giveSlots n (s.deferTaken n (s.tally n t))).tally n t) = s.tally n t) ∧
      ((s.addReg n .PTL_DL_STAT2_ABORTED).giveSlots n (s.deferTaken n (s.tally n t))).thread n h k = s.thread n h k :=
    ⟨State.tally_of_sh (State.giveSlots_keeps _ n ShaftSt.tallies (fun _ _ _ => rfl) _) t,
      State.thread_of_sh (State.giveSlots_keeps _ n ShaftSt.threads (fun _ _ _ => rfl) _) h k⟩
  obtain ⟨htally, hthread⟩ := hsh
  generalize hbase : (s.addReg n .PTL_DL_STAT2_ABORTED).giveSlots n (s.deferTaken n (s.tally n t)) = b at hreg htally hthread
  simp only [State.specAbort, hbase, hspec, ne_eq, not_true_eq_false, if_false, hpopq, List.foldl_nil]
  refine State.eachPortal_keeps (fun a => a.shows n h k t .PTL_DL_STAT2_ABORTED = _) _ (fun p a ha => ?_) _ ?_
  · refine (State.shows_dropHeld (fun hdone => hst ?_) (by decide) p).trans ha
    exact (congrArg (fun v : Tally × Thread × Nat => v.1.st) ha).symm.trans hdone
  refine (State.shows_updSh (by intro; rfl) (by intro; rfl)).trans ?_
  refine foldl_keeps (fun a : State => a.shows n h k t .PTL_DL_STAT2_ABORTED = _) _
    (fun a j ha => (State.shows_stain (by decide) (by decide) j t).trans ha) _ _ ?_
  have hmarked := State.shows_change (s := b) (h := h) (k := k) (t := t) (g := .PTL_DL_STAT2_ABORTED)
    (f := fun y => y.aborted (y.run.map (fun r => (s.thread n r.1 r.2).steps))) (by rw [htally, hrun]) (fun _ => rfl) (fun x => x.abort (s.tally n t).view)
  rw [htally, hthread, hreg, hrun] at hmarked
  simp only [Tally.aborted] at hmarked ⊢
  exact hmarked

end Sys2Proof.Machine
end

section
/-! Waits and the sub-state of speculation (R130, R191, R204, R209, R225, R241). -/

namespace Sys2Proof.Machine

variable {s : State} {n : Shaft} {h k t : Nat} {i : HewFields}

/-- R191: the park record of a wait. -/
theorem Hew.parkRecord_eq (s : State) (n : Shaft) (h k t : Nat) (i : HewFields) : (Hew.of s n h k t i).parkRecord =
    let x := s.thread n h k
    { resume := i.imm.extractLsb' 0 14, valid := true
      flags := BitVec.ofNat 5 (bit x.z + 2 * bit x.n + 4 * bit x.c + 8 * bit x.v + 16 * bit x.t)
      taintW := x.wt.extractLsb' 0 4, taintS := (s.tally n t).park.taintS, w0 := x.reg 0, w1 := x.reg 1, w2 := x.reg 2, w3 := x.reg 3 } := by
  simp only [extractLsb'_zero_eq_setWidth]
  rfl

/-- R191: a wait that is not met parks the tally and releases its thread; one that is met jumps. -/
theorem State.hewStep_wait {op : BitVec 8} {f : Form} {body : Hew → State → HewRes} {a : State} {w : WaitFor} {met : Prop} [Decidable met]
    (hissues : s.Issues n h k t op i) (hlegal : f.legal i = true)
    (hbody : body (Hew.of s n h k t i) s =
      if met then .jump a (Hew.of s n h k t i).target else (Hew.of s n h k t i).parkOn a w) :
    s.hewStep n h k op i .clean (fun _ => f) body =
      if met then a.updThread n h k (fun x => x.jumped (i.imm.extractLsb' 0 14))
      else (a.endThread n t).updTally n t (fun y => { y with st := .wait, waitFor := w, park := (Hew.of s n h k t i).parkRecord }) := by
  split_ifs at hbody ⊢
  · rw [State.hewStep_jump hissues hlegal hbody, extractLsb'_zero_eq_setWidth]
    rfl
  · rw [State.hewStep_run hissues _ hlegal, hbody]
    rfl

/-- R195: an abort makes a tainted work register 0. -/
theorem Thread.reg_abort (x : Thread) (m : Tub) (j : Nat) : (x.abort m).reg j = if x.wt.getLsbD j then 0 else x.reg j := by
  have hfilter : ∀ w : Tbl DWord, Tbl.get 0 (w.filter (fun e => !x.wt.getLsbD e.1)) j = if x.wt.getLsbD j then 0 else Tbl.get 0 w j := by
    intro w
    induction w with
    | nil => simp [Tbl.get]
    | cons e w ih =>
      by_cases he : j = e.1
      · subst he
        cases hx : x.wt.getLsbD e.1 <;> simp_all [Tbl.get]
      · cases hx : x.wt.getLsbD e.1 <;> simp_all [Tbl.get]
  exact hfilter x.w

/-- The steps of an instruction that changes SPEC: what `shows` says of the state it leaves, it says of the state after the thread's own step. -/
theorem State.shows_step {a : State} {y : Tally} {x : Thread} {v : Nat} {g : Fld} (ha : a.shows n h k t g = (y, x, v)) (f : Thread → Thread) :
    ({ (a.updThread n h k f).tally n t with ans := .unsent } = y) ∧ (a.updThread n h k f).thread n h k = f x ∧ (a.updThread n h k f).reg n g = v := by
  obtain ⟨hy, hx, hv⟩ : ({ a.tally n t with ans := .unsent } = y) ∧ a.thread n h k = x ∧ a.reg n g = v := by
    simpa only [State.shows, Prod.mk.injEq] using ha
  refine ⟨?_, ?_, hv⟩
  · rw [State.updThread, State.tally_updSh (by intro; rfl), hy]
  · rw [State.thread_updThread_same, hx]

theorem State.speculates_eq_true (hspec : (s.tally n t).spec = .pending) : s.speculates n t = true := decide_eq_true hspec
theorem State.speculates_eq_false (hspec : (s.tally n t).spec ≠ .pending) : s.speculates n t = false := decide_eq_false hspec

/-- R130, R204: SPST. -/
theorem exec_hewSpst (hs : s.Steps n h k t 0x48 i {}) : exec (.hewSpst n h k i .clean) s = .next (
    if (s.tally n t).kind = .recall then s.hewTrap n h k t Cause.ILLEGAL (s.thread n h k).pc.toNat (i.word 0x48)
    else if (s.tally n t).spec = .none then
      ((s.updTally n t (fun y => { y with spec := .pending })).addReg n .PTL_DL_STAT_STARTED).stepOn n h k
    else s.hewTrap n h k t Cause.SPEC (s.thread n h k).pc.toNat (i.word 0x48)) := by
  refine congrArg Host.Outcome.next ?_
  split_ifs with hkind hspec
  · exact State.hewStep_trap hs (if_pos (Hew.recallRec_of_recall hkind))
  all_goals have hother : ¬(Hew.of s n h k t i).recallRec = true := by rw [Hew.recallRec_of_other hkind]; decide
  · exact State.hewStep_stepOn hs ((if_neg hother).trans (if_pos hspec)) (State.thread_updTally ..)
  · exact State.hewStep_trap hs ((if_neg hother).trans (if_neg hspec))

section
variable (hs : s.Steps n h k t 0x49 i {})
include hs

theorem exec_hewSpcf_of_trap (hspec : (s.tally n t).spec ≠ .pending)
    (hmet : ¬((s.tally n t).spec = .aborted ∧ (s.tally n t).abortAt = some (s.thread n h k).steps)) :
    exec (.hewSpcf n h k i .clean) s = .next (s.hewTrap n h k t Cause.SPEC (s.thread n h k).pc.toNat (i.word 0x49)) := by
  have hpend : ¬(Hew.of s n h k t i).pend = true := by rw [Hew.pend_of, State.speculates_eq_false hspec]; decide
  exact congrArg Host.Outcome.next (State.hewStep_trap hs ((if_neg hpend).trans (if_neg hmet)))

/-- R241: an SPCF that may have met the abort has no effect or traps. -/
theorem exec_hewSpcf_of_met (haborted : (s.tally n t).spec = .aborted) (hat : (s.tally n t).abortAt = some (s.thread n h k).steps) :
    exec (.hewSpcf n h k i .clean) s = .next (s.free.2.stepOn n h k) ∨
      exec (.hewSpcf n h k i .clean) s = .next (s.free.2.hewTrap n h k t Cause.SPEC (s.thread n h k).pc.toNat (i.word 0x49)) := by
  have hpend : ¬(Hew.of s n h k t i).pend = true := by
    rw [Hew.pend_of, State.speculates_eq_false (by rw [haborted]; decide)]
    decide
  have hbody : hewSpcf (Hew.of s n h k t i) s = if Config.freeValue s.free.1 % 2 = 0 then .go s.free.2
      else .released ((Hew.of s n h k t i).trap s.free.2 Cause.SPEC (i.word 0x49)) := (if_neg hpend).trans (if_pos ⟨haborted, hat⟩)
  by_cases hmet : Config.freeValue s.free.1 % 2 = 0
  · exact .inl (congrArg Host.Outcome.next (State.hewStep_stepOn hs (hbody.trans (if_pos hmet)) rfl))
  · refine .inr (congrArg Host.Outcome.next ?_)
    rw [State.hewStep_run hs.1 _ hs.2.1, hbody, if_neg hmet]
    rfl

/-- R239: SPCF of a tally that speculates. -/
theorem exec_hewSpcf_of_pending (hspec : (s.tally n t).spec = .pending) : exec (.hewSpcf n h k i .clean) s =
    .next ((s.specConfirm n t).updThread n h k (fun x => { x with pc := (s.thread n h k).pc + 1, steps := x.steps + 1 })) := by
  have hbody : hewSpcf (Hew.of s n h k t i) s = .go (s.specConfirm n t) := if_pos (State.speculates_eq_true hspec)
  refine congrArg Host.Outcome.next ?_
  rw [State.hewStep_run hs.1 _ hs.2.1, hbody, Hew.finish_go _ _ _ _ hs.2.2]
  rfl

end

section
variable (hs : s.Steps n h k t 0x4A i {})
include hs

theorem exec_hewSpab_of_trap (hspec : (s.tally n t).spec ≠ .pending) :
    exec (.hewSpab n h k i .clean) s = .next (s.hewTrap n h k t Cause.SPEC (s.thread n h k).pc.toNat (i.word 0x4A)) := by
  have hpend : ¬(Hew.of s n h k t i).pend = true := by rw [Hew.pend_of, State.speculates_eq_false hspec]; decide
  exact congrArg Host.Outcome.next (State.hewStep_trap hs (if_neg hpend))

/-- R240: SPAB of a tally that speculates. -/
theorem exec_hewSpab_of_pending (hspec : (s.tally n t).spec = .pending) : exec (.hewSpab n h k i .clean) s =
    .next ((s.specAbort n t).updThread n h k (fun x => { x with pc := (s.thread n h k).pc + 1, steps := x.steps + 1 })) := by
  have hbody : hewSpab (Hew.of s n h k t i) s = .go (s.specAbort n t) := if_pos (State.speculates_eq_true hspec)
  refine congrArg Host.Outcome.next ?_
  rw [State.hewStep_run hs.1 _ hs.2.1, hbody, Hew.finish_go _ _ _ _ hs.2.2]
  rfl

end

/-- Settles O8: the waits by `State.hewStep_wait`; the changes of SPEC by what a confirmation and an abort leave (`shows_specConfirm`, `shows_specAbort`). -/
theorem hewerWaitsAndSpeculation : Obligations.HewerWaitsAndSpeculation := by
  unfold Obligations.HewerWaitsAndSpeculation
  refine ⟨?waits, ?spec⟩
  case waits =>
    intro s n h k t i x y park timer
    have hpark : (Hew.of s n h k t i).parkRecord = park := Hew.parkRecord_eq s n h k t i
    refine ⟨fun hissues hlegal => ?_, fun hissues hlegal => ?_⟩
    · rw [← hpark]
      exact congrArg Host.Outcome.next (State.hewStep_wait hissues hlegal rfl)
    · have htimer : timer = (s.sh n).clock + (x.opB i).setWidth 32 := by rw [← extractLsb'_zero_eq_setWidth]
      rw [← hpark, htimer]
      exact congrArg Host.Outcome.next (State.hewStep_wait hissues hlegal rfl)
  case spec =>
    intro s n h k t i y trap
    refine ⟨exec_hewSpst, exec_hewSpcf_of_trap, exec_hewSpcf_of_met, exec_hewSpab_of_trap,
      fun hspec hrun hst hslot hpopq => ⟨fun hs => ?_, fun hs => ?_⟩⟩
    · obtain ⟨htally, hthread, hcount⟩ := State.shows_step (State.shows_specConfirm hrun hslot hpopq)
        (fun x => { x with pc := (s.thread n h k).pc + 1, steps := x.steps + 1 })
      refine ⟨_, exec_hewSpcf_of_pending hs hspec, congrArg Tally.spec htally, congrArg Tally.prov htally, congrArg Tally.setst htally, ?_⟩
      rw [hthread, hcount]
      exact ⟨rfl, rfl, rfl, fun _ => rfl, rfl⟩
    · obtain ⟨htally, hthread, hcount⟩ := State.shows_step (State.shows_specAbort hspec hrun (by rw [hst]; decide) hpopq)
        (fun x => { x with pc := (s.thread n h k).pc + 1, steps := x.steps + 1 })
      refine ⟨_, exec_hewSpab_of_pending hs hspec, congrArg Tally.spec htally, congrArg Tally.prov htally, congrArg Tally.setst htally,
        congrArg Tally.scratch htally, ?_⟩
      rw [hthread, hcount]
      exact ⟨rfl, rfl, rfl, fun j => Thread.reg_abort (s.thread n h k) y.view j, rfl, rfl⟩

end Sys2Proof.Machine
end

section
/-! Dispatch, resume, and what waits for TRANSIT (R187 to R193, R238, R365). -/

namespace Sys2Proof.Machine

variable {s : State} {n : Shaft} {h k t : Nat} {i : HewFields} {op : BitVec 8}

/-- R200: the fields are read back from the word that spells them. -/
theorem HewFields.ofWord_word (i : HewFields) (op : BitVec 8) : HewFields.ofWord (i.word op) = i := by
  have hbit : ∀ {w : Nat} (p : Nat) (x : BitVec w), p + w ≤ 64 → (∀ j < w, (i.word op).getLsbD (p + j) = x.getLsbD j) →
      (i.word op).extractLsb' p w = x := fun p x _ hx => BitVec.eq_of_getLsbD_eq fun j hj => by
    rw [BitVec.getLsbD_extractLsb', hx j hj, decide_eq_true hj, Bool.true_and]
  rw [HewFields.ofWord, HewFields.mk.injEq]
  refine ⟨hbit 52 i.d (by decide) ?_, hbit 48 i.a (by decide) ?_, ?bitM, ?bitI, hbit 42 i.b (by decide) ?_, hbit 32 i.x (by decide) ?_,
    hbit 0 i.imm (by decide) ?_⟩
  case bitM =>
    rw [HewFields.getLsbD_word _ _ (by decide)]
    simp (disch := omega) [BitVec.getLsbD_of_ge]
  case bitI =>
    rw [HewFields.getLsbD_word _ _ (by decide)]
    simp (disch := omega) [BitVec.getLsbD_of_ge]
  all_goals
    intro j hj
    rw [HewFields.getLsbD_word _ _ (by omega)]
    simp (disch := omega) [BitVec.getLsbD_of_ge, decide_eq_true, decide_eq_false]

/-! ### The head of the dispatch queue -/

section
variable {w : Work} {rest : List Work} (hqueue : (s.sh n).dispatchQ = w :: rest) (hplace : s.place n = some (h, k)) (hseams : s.seamsOut n = false)
  (hgate : s.shGated n .HWR = false)
include hqueue

theorem State.takeWork_of_head : s.takeWork n h = s.updSh n (fun x => { x with dispatchQ := rest, turn := (h / 13 + 1) % 4 }) :=
  State.updSh_congr (by rw [hqueue]; rfl)

include hplace hseams hgate

/-- R189: a dispatch at the head of the queue reaches the thread that is picked. -/
theorem exec_dispatch_of_head (hw : w.resume = false) (u : StoreCheck) :
    exec (.dispatch n u) s = .next ((s.takeWork n h).dispatchOn n h k w.tally u) := by
  have hhead : (s.sh n).dispatchQ.head? = some w := by rw [hqueue]; rfl
  change Host.Outcome.next (s.dispatch n u) = _
  simp only [State.dispatch, hhead, hplace, hw, hseams, hgate, Bool.or_self, Bool.false_eq_true, if_false]

/-- R192: a resume. -/
theorem exec_resume_of_head (hw : w.resume = true) : exec (.resume n) s = .next
    (((s.takeWork n h).startThread n h k w.tally ((s.tally n w.tally).resumed w.tally)).updTally n w.tally
      (fun y => { y with park := { y.park with valid := false } })) := by
  have hhead : (s.sh n).dispatchQ.head? = some w := by rw [hqueue]; rfl
  change Host.Outcome.next (s.resume n) = _
  simp only [State.resume, hhead, hplace, hw, hseams, hgate, Bool.not_true, Bool.or_self, Bool.false_eq_true, if_false]

end

/-- R188: the dispatch entry of a tally. -/
def State.dispatchEntry (s : State) (n : Shaft) (t : Nat) : Word :=
  Tbl.get 0 ((s.sh n).bank (s.tally n t).epoch).dispatch (s.dispatchKey n t)

theorem State.dispatchOn_of_valid (he : (s.dispatchEntry n t).getLsbD 16 = true) : s.dispatchOn n h k t .good =
    s.startThread n h k t { Thread.idle with tally := some t, pc := (s.dispatchEntry n t).setWidth 14, m := (s.tally n t).view } := by
  simp only [State.dispatchOn, State.storeCheck, reduceCtorEq, if_false]
  exact if_pos he

theorem State.dispatchOn_of_invalid (he : (s.dispatchEntry n t).getLsbD 16 = false) : s.dispatchOn n h k t .good =
    s.hewTrap n h k t Cause.NO_HANDLER ((s.dispatchEntry n t).setWidth 14 : BitVec 14).toNat 0 := by
  simp only [State.dispatchOn, State.storeCheck, reduceCtorEq, if_false]
  exact if_neg (by rw [← State.dispatchEntry, he]; decide)

/-- What leaves the tallies and the banks alone leaves the dispatch entries. -/
theorem State.dispatchEntry_updSh {F : ShaftSt → ShaftSt} (htallies : ∀ x, (F x).tallies = x.tallies) (hbank : ∀ x b, (F x).bank b = x.bank b) :
    (s.updSh n F).dispatchEntry n t = s.dispatchEntry n t := by
  have hkey : (s.updSh n F).dispatchKey n t = s.dispatchKey n t := by
    rw [State.dispatchKey, State.tally_updSh htallies]
    rfl
  rw [State.dispatchEntry, hkey, State.tally_updSh htallies, State.sh_updSh_same, hbank, ← State.dispatchEntry]

/-- R187: the dispatch key. -/
theorem State.dispatchKey_eq (s : State) (n : Shaft) (t : Nat) : s.dispatchKey n t =
    if (s.tally n t).kind = .recall then 2048 + 8 * s.reg n .DIR_CFG_RECALL_OP + (s.tally n t).prior.toNat
    else 8 * ((s.tally n t).request.extractLsb' 0 8).toNat + (s.tally n t).prior.toNat := by
  simp only [State.dispatchKey, Nat.mul_comm 8]

/-! ### TRANSIT 0 -/

/-- The thread waits for nothing any more. -/
abbrev State.wakeThread (s : State) (n : Shaft) (h k : Nat) : State := s.updThread n h k (fun x => { x with stall := .none })

section
variable (htally : (s.thread n h k).tally = some t) (hstall : (s.thread n h k).stall = .transit)
include htally

theorem State.drained_of_transit (htransit : 0 < (s.tally n t).sp.transit) : s.drained n h k = s := by
  have hne : (s.tally n t).sp.transit ≠ 0 := fun hzero => absurd htransit (by rw [hzero]; decide)
  simp only [State.drained, htally, hne, and_false, if_false]

include hstall

/-- R238: with TRANSIT 0 the instruction that waited is carried out as in a step of its thread. -/
theorem State.drained_of_clear (htransit : (s.tally n t).sp.transit = 0) (hissues : (s.wakeThread n h k).Issues n h k t op i)
    {body : Hew → State → HewRes} (hbody : ∀ c a, (if op = 0x30 then hewSend c a else if op = 0x32 then hewFwdd c a else hewEnd c a) = body c a)
    (f : Hew → Form) (hf : (f (Hew.of (s.wakeThread n h k) n h k t i)).legal i = true) :
    s.drained n h k = (s.wakeThread n h k).hewStep n h k op i .clean f body := by
  rw [State.hewStep_run hissues f hf]
  obtain ⟨⟨hready, -, hword⟩, -⟩ := hissues
  have hthread : (s.wakeThread n h k).thread n h k = { s.thread n h k with stall := .none } := State.thread_updThread_same ..
  have hsame : (s.wakeThread n h k).tally n t = s.tally n t := State.tally_updSh (by intro; rfl) t
  have hcode : s.codeWord n (s.tally n t).epoch (s.thread n h k).pc.toNat = i.word op := by
    rw [← hword, hthread, hsame, State.codeWord, State.codeWord, State.wakeThread, State.updThread, State.sh_updSh_same]
    rfl
  simp only [State.drained, htally, hstall, htransit, and_self, if_true, hcode, hready, HewFields.opcode_word, HewFields.ofWord_word, hbody]
  simp only [Hew.of, hthread, hsame, htally]

end

/-- Settles O30: DISPATCH and RESUME by the head of the queue, the instruction that waited for TRANSIT by `State.drained_of_clear`. -/
theorem dispatchAndResume : Obligations.DispatchAndResume := by
  unfold Obligations.DispatchAndResume
  intro s n t h k rest resume y moved
  refine ⟨fun hqueue hplace hseams hgate => ⟨fun hresume => ?dispatch, fun hresume => ?resume⟩,
    fun htally hstall => ⟨fun htransit => congrArg Host.Outcome.next (State.drained_of_transit htally htransit), fun htransit i => ?drained⟩, ?answer⟩
  case dispatch =>
    intro key e
    have hexec := exec_dispatch_of_head hqueue hplace hseams hgate hresume .good
    rw [State.takeWork_of_head hqueue] at hexec
    have hentry : moved.dispatchEntry n t = e := by
      refine (State.dispatchEntry_updSh (by intro; rfl) (by intros; rfl)).trans ?_
      rw [State.dispatchEntry, State.dispatchKey_eq]
    have hsame : moved.tally n t = y := State.tally_updSh (by intro; rfl) t
    refine ⟨fun he => hexec.trans (congrArg Host.Outcome.next ?_), fun he => hexec.trans (congrArg Host.Outcome.next ?_)⟩
    · refine (State.dispatchOn_of_valid (s := moved) (by rw [hentry]; exact he)).trans ?_
      rw [hentry, hsame, ← extractLsb'_zero_eq_setWidth]
      rfl
    · refine (State.dispatchOn_of_invalid (s := moved) (by rw [hentry]; exact he)).trans ?_
      rw [hentry, ← extractLsb'_zero_eq_setWidth]
      rfl
  case resume =>
    have hexec := exec_resume_of_head hqueue hplace hseams hgate hresume
    rw [State.takeWork_of_head hqueue] at hexec
    exact hexec.trans (congrArg Host.Outcome.next (State.updTally_updTally ..))
  case drained =>
    intro woken
    refine ⟨fun hissues hlegal => ?_, fun hissues hlegal => ?_, fun hissues hkind hlegal => ?_⟩
    · exact ⟨_, congrArg Host.Outcome.next
        (State.drained_of_clear htally hstall htransit hissues (fun _ _ => rfl) (fun _ => Form.send i true 0xFFFF) hlegal), rfl⟩
    · exact ⟨_, congrArg Host.Outcome.next
        (State.drained_of_clear htally hstall htransit hissues (fun _ _ => rfl) (fun _ => Form.send i false 0xFF00) hlegal), rfl⟩
    · have hform : (Hew.of woken n h k t i).endForm = { imm := 0xFFFF } := by
        have hline : (Hew.of woken n h k t i).y.kind = .line := (congrArg Tally.kind (State.tally_updSh (by intro; rfl) t)).trans hkind
        simp only [Hew.endForm, hline]
      exact ⟨_, congrArg Host.Outcome.next
        (State.drained_of_clear htally hstall htransit hissues (fun _ _ => rfl) Hew.endForm (by rw [hform]; exact hlegal)), rfl⟩
  case answer =>
    intro hst htrapped hkind hans htransit
    have hwaits : ((s.tally n t).errorWaits && decide ((s.tally n t).sp.transit = 0)) = true := by
      rw [Tally.errorWaits, decide_eq_true hst, htrapped, decide_eq_true hkind, decide_eq_true hans, decide_eq_true htransit]
      rfl
    have hsent : s.errorAnswer n t = (s.answerSent n t).lodeSend n y.portal (s.tallyAnswer n t Ans.ERROR false) := if_pos hwaits
    refine ⟨_, congrArg Host.Outcome.next hsent, ?_, rfl, ?_⟩
    · rw [State.tally_lodeSend_of_class rfl, State.answerSent, State.tally_updTally_same]
    · rw [State.sh_lodeSend_of_class rfl, State.answerSent, State.sh_updTally]

end Sys2Proof.Machine
end

section
/-! SUPPORT. The command registers of the hewers (R213, R214, R218) and the words of a bank, written by a frame of their own. -/

namespace Sys2Proof.Machine

variable {s : State} {n : Shaft}

/-- The registers that take a command of the hewers keep nothing and act when they are written. -/
theorem Reg.hewerCommand_facts {r : Reg} (hr : r ∈ [Reg.HWR_FLIP, .HWR_BANK_CTL, .HWR_RETIRE]) (v : Word) (n : Shaft) :
    (WordAt.reg n.val r 0).blk = .HWR ∧ (WordAt.reg n.val r 0).isGate = false ∧ r.readOnly 0 = false ∧ keyWrong r v = false ∧ r ≠ .PTL_CROUTE ∧
      (∀ s : State, s.whenBarred r = false) ∧ ∀ s : State, s.cageWrite (.reg n.val r 0) v = s.shaftEffect s n r 0 v := by
  have hwrite : ∀ s : State, keyWrong r v = false → s.storeReg n.val r 0 v = s →
      (if keyWrong r v then s else if h : n.val < 8 then s.shaftEffect (s.storeReg n.val r 0 v) ⟨n.val, h⟩ r 0 v
        else (s.storeReg n.val r 0 v).devEffect r 0 v) = s.shaftEffect s n r 0 v := by
    intro s hkey hstore
    rw [hkey, if_neg Bool.false_ne_true, dif_pos n.isLt, hstore]
  simp only [List.mem_cons, List.not_mem_nil, or_false] at hr
  rcases hr with rfl | rfl | rfl
  · exact ⟨rfl, rfl, rfl, rfl, by decide, fun _ => rfl, fun s => hwrite s rfl rfl⟩
  · exact ⟨rfl, rfl, rfl, rfl, by decide, fun _ => rfl, fun s => hwrite s rfl rfl⟩
  · exact ⟨rfl, rfl, rfl, rfl, by decide, fun _ => rfl, fun s => hwrite s rfl rfl⟩

/-- With the block open a command of the hewers is taken up. -/
theorem State.hewerCommand_of_open {r : Reg} (hr : r ∈ [Reg.HWR_FLIP, .HWR_BANK_CTL, .HWR_RETIRE]) (h : s.Open n.val .HWR) {l : List (Fld × Nat)}
    (hreserved : r.reservedIn (r.make l) = false) : s.cageTurn (fun a => a.go n r l) = s.shaftEffect s n r 0 (r.make l) := by
  obtain ⟨hfree, hgate, hbusy, hdeep⟩ := h
  obtain ⟨hown, hplace, hro, hkey, hroute, hwhen, hwrite⟩ := Reg.hewerCommand_facts hr (r.make l) n
  have hopen : s.shut (.reg n.val r 0) = none := by
    rw [State.shut, hplace, hown, if_neg Bool.false_ne_true]
    simp [State.windowOut, WordAt.sc, hgate, hbusy]
  have hdenied : State.writeDenied s s (.reg n.val r 0) (r.make l) = false := by
    simp [State.writeDenied, State.regBarred, hro, hreserved, hkey, hroute, hwhen, hdeep]
  rw [State.cageTurn_of_free hfree, State.go, State.regWrite_of_open hopen, hdenied, if_neg Bool.false_ne_true, hwrite]

/-- R213: a word of a bank that is IDLE, with no flip armed, is written. -/
theorem exec_bankWrite_of_open (h : s.Open n.val .HWR) {b : Bool} {p : BankPart} {i : Nat} (hopen : s.bankOpen n b = true) (hi : i < p.words)
    (half : Bool) (v : Word) : exec (.bankWrite n b p i half v) s = .next (s.bankPut n b p i half v) := by
  obtain ⟨hfree, hgate, hbusy, hdeep⟩ := h
  have hshut : s.shut (.bank n b p i half) = none := by
    simp [State.shut, WordAt.isGate, WordAt.sc, WordAt.blk, State.windowOut, hgate, hbusy]
  have hdenied : State.writeDenied s s (.bank n b p i half) v = false := by
    simp [State.writeDenied, State.storeBarred, hopen, WordAt.sc, hdeep]
  refine congrArg Host.Outcome.next ((State.cageTurn_of_free hfree _).trans ((if_pos hi).trans ?_))
  simp only [State.writeAlone, hshut, hdenied, Bool.false_eq_true, if_false]
  rfl

theorem State.bankOpen_of_idle {b : Bool} (hepoch : s.epoch n = !b) (hcount : s.epochCount n b = 0) (harmed : s.reg n .HWR_EPOCH_ARMED = 0) :
    s.bankOpen n b = true := by
  rw [State.bankOpen, State.bankIdle, State.regB_eq_false.mpr harmed, hepoch, decide_eq_true hcount]
  cases b <;> rfl

theorem State.bankIdle_iff {b : Bool} : s.bankIdle n b = true ↔ s.epoch n = !b ∧ s.epochCount n b = 0 := by
  rw [State.bankIdle, Bool.and_eq_true, decide_eq_true_eq, bne_iff_ne]
  cases s.epoch n <;> cases b <;> simp

/-! ### What each command does -/

theorem exec_flip_of_open (h : s.Open n.val .HWR) : exec (.flip n) s = .next (s.flipCmd n) := by
  refine congrArg Host.Outcome.next ((State.hewerCommand_of_open (r := .HWR_FLIP) (by decide) h rfl).trans ?_)
  have hgo : Reg.part .HWR_FLIP (Reg.make .HWR_FLIP [(.HWR_FLIP_GO, 1)]) .HWR_FLIP_GO = 1 := by decide
  simp only [State.shaftEffect, hgo]
  rfl

theorem exec_seal_of_open (h : s.Open n.val .HWR) (b : Bool) : exec (.seal n b) s = .next (s.sealCmd n b) := by
  refine congrArg Host.Outcome.next ((State.hewerCommand_of_open (r := .HWR_BANK_CTL) (by decide) h rfl).trans ?_)
  have hseal : Reg.part .HWR_BANK_CTL (Reg.make .HWR_BANK_CTL [(.HWR_BANK_CTL_BANK, bit b), (.HWR_BANK_CTL_SEAL, 1)]) .HWR_BANK_CTL_SEAL = 1 := by
    revert b
    decide
  have hbank : Reg.part .HWR_BANK_CTL (Reg.make .HWR_BANK_CTL [(.HWR_BANK_CTL_BANK, bit b), (.HWR_BANK_CTL_SEAL, 1)]) .HWR_BANK_CTL_BANK = bit b := by
    revert b
    decide
  simp only [State.shaftEffect, hseal, hbank]
  cases b <;> rfl

/-- The word of a RETIRE (R218). -/
def retireWord (g : BitVec 6) (force : Bool) : Word :=
  Reg.make .HWR_RETIRE [(.HWR_RETIRE_HEWER, g.toNat), (.HWR_RETIRE_FORCE, bit force), (.HWR_RETIRE_GO, 1)]

theorem part_retireWord (g : BitVec 6) (force : Bool) : Reg.part .HWR_RETIRE (retireWord g force) .HWR_RETIRE_HEWER = g.toNat ∧
    Reg.part .HWR_RETIRE (retireWord g force) .HWR_RETIRE_FORCE = bit force ∧ Reg.part .HWR_RETIRE (retireWord g force) .HWR_RETIRE_GO = 1 := by
  refine ⟨?_, ?_, ?_⟩
  · exact (Reg.part_make (p := ⟨0, 1, 0⟩) _ (by decide) (by decide) (by decide)).trans (Nat.mod_eq_of_lt g.isLt)
  · exact (Reg.part_make (p := ⟨30, 1, 0⟩) _ (by decide) (by decide) (by decide)).trans (bit_mod_two force)
  · exact Reg.part_make (p := ⟨31, 1, 0⟩) _ (by decide) (by decide) (by decide)

theorem exec_retire_of_open (h : s.Open n.val .HWR) {g : BitVec 6} (hg : g.toNat < 52) (force : Bool) :
    exec (.retire n g force) s = .next (s.retireCmd n g.toNat force) := by
  obtain ⟨hhewer, hforce, hgo⟩ := part_retireWord g force
  have hreserved : Reg.reservedIn .HWR_RETIRE (retireWord g force) = false := by
    have hwhich : Reg.reservedIn .HWR_RETIRE (retireWord g force) =
        (decide (52 ≤ Reg.part .HWR_RETIRE (retireWord g force) .HWR_RETIRE_HEWER) || false || false) := rfl
    rw [hwhich, hhewer, decide_eq_false (Nat.not_le.mpr hg)]
    rfl
  refine congrArg Host.Outcome.next ((State.hewerCommand_of_open (r := .HWR_RETIRE) (by decide) h hreserved).trans ?_)
  change s.shaftEffect s n .HWR_RETIRE 0 (retireWord g force) = _
  simp only [State.shaftEffect, hgo, hhewer, hforce]
  cases force <;> rfl

end Sys2Proof.Machine
end

section
/-! The microcode banks and the retirement of a hewer (R213, R214, R218, R219, R222). -/

namespace Sys2Proof.Machine

variable {s : State} {n : Shaft}

/-! ### Banks -/

/-- R213: half of a microcode word replaced. -/
theorem putHalf_eq (x : DWord) (hi : Bool) (v : Word) :
    putHalf x hi v = if hi then (v ++ x.extractLsb' 0 32 : BitVec 64) else (x.extractLsb' 32 32 ++ v : BitVec 64) := by
  cases hi with
  | true => exact putBits_high x v
  | false =>
    refine BitVec.eq_of_getLsbD_eq fun j hj => ?_
    rw [putHalf, putBits_getLsbD _ _ _ _ hj, if_neg Bool.false_ne_true, if_neg Bool.false_ne_true, BitVec.getLsbD_append, BitVec.getLsbD_extractLsb']
    by_cases hlow : j < 32
    · simp [hlow]
    · simp [hlow, show 32 + (j - 32) = j by omega, show j - 32 < 32 by omega]

theorem State.setLoaded_eq (s : State) (n : Shaft) (b v : Bool) :
    s.setLoaded n b v = s.setReg n (if b then .HWR_EPOCH_LOADED1 else .HWR_EPOCH_LOADED0) (bit v) := rfl

/-- R213: the end of a seal. -/
theorem State.sealDone_of_sealing {b : Bool} (hseal : (s.sh n).sealing = some b) : s.sealDone n =
    if (crc32 ((s.sh n).bank b).bytes).toNat = s.reg n .HWR_BANK_CRC_CRC then
      (((s.setReg n .HWR_BANK_STAT_BUSY 0).updSh n (fun h => { h with sealing := none })).setReg n .HWR_BANK_STAT_RESULT 1).setLoaded n b true
    else ((s.setReg n .HWR_BANK_STAT_BUSY 0).updSh n (fun h => { h with sealing := none })).setReg n .HWR_BANK_STAT_RESULT 2 := by
  simp only [State.sealDone, hseal]

theorem State.sealDone_of {b : Bool} (hseal : (s.sh n).sealing = some b) :
    let loaded : Fld := if b then .HWR_EPOCH_LOADED1 else .HWR_EPOCH_LOADED0
    (s.sealDone n).reg n .HWR_BANK_STAT_BUSY = 0 ∧ ((s.sealDone n).sh n).sealing = none ∧
      (let same := (crc32 ((s.sh n).bank b).bytes).toNat = s.reg n .HWR_BANK_CRC_CRC
      (same → (s.sealDone n).reg n .HWR_BANK_STAT_RESULT = 1 ∧ (s.sealDone n).reg n loaded = 1) ∧
      (¬same → (s.sealDone n).reg n .HWR_BANK_STAT_RESULT = 2 ∧ (s.sealDone n).reg n loaded = s.reg n loaded)) := by
  intro loaded
  have hbusy : loaded ≠ .HWR_BANK_STAT_BUSY := by cases b <;> decide
  have hresult : loaded ≠ .HWR_BANK_STAT_RESULT := by cases b <;> decide
  have hwidth : loaded.desc.width = 1 := by cases b <;> rfl
  have hidle : ((s.setReg n .HWR_BANK_STAT_BUSY 0).updSh n (fun h => { h with sealing := none })).reg n .HWR_BANK_STAT_BUSY = 0 :=
    (State.reg_of_regs (s := s.setReg n .HWR_BANK_STAT_BUSY 0) n rfl _ _).trans (State.reg_setReg_same ..)
  rw [State.sealDone_of_sealing hseal]
  by_cases hsame : (crc32 ((s.sh n).bank b).bytes).toNat = s.reg n .HWR_BANK_CRC_CRC
  · rw [if_pos hsame, State.setLoaded_eq]
    refine ⟨?_, ?_, fun _ => ⟨?_, ?_⟩, fun hnot => absurd hsame hnot⟩
    · rw [State.reg_setReg_field hbusy.symm, State.reg_setReg_field (by decide), hidle]
    · exact congrArg ShaftSt.sealing (State.sh_updSh_same ..)
    · rw [State.reg_setReg_field hresult.symm, State.reg_setReg_same]
      rfl
    · rw [State.reg_setReg_same, hwidth]
      rfl
  · rw [if_neg hsame]
    refine ⟨?_, ?_, fun h => absurd h hsame, fun _ => ⟨?_, ?_⟩⟩
    · rw [State.reg_setReg_field (by decide), hidle]
    · exact congrArg ShaftSt.sealing (State.sh_updSh_same ..)
    · rw [State.reg_setReg_same]
      rfl
    · rw [State.reg_setReg_field hresult]
      exact (State.reg_of_regs (s := s.setReg n .HWR_BANK_STAT_BUSY 0) n rfl _ _).trans (State.reg_setReg_field hbusy)

/-- The number in the three words of a DETAIL. -/
theorem detail_eq (a v : Nat) (ha : a < 2 ^ 32) : detail a v (v / 2 ^ 32) = BitVec.ofNat 96 (a + 2 ^ 32 * (v % 2 ^ 64)) := by
  have hmid : (BitVec.ofNat 96 (v % 2 ^ 32) <<< 32) = BitVec.ofNat 96 ((v % 2 ^ 32) <<< 32) := BitVec.eq_of_toNat_eq (by
    rw [BitVec.toNat_shiftLeft, BitVec.toNat_ofNat, BitVec.toNat_ofNat, Nat.mod_eq_of_lt (show v % 2 ^ 32 < 2 ^ 96 by omega)])
  have hhigh : (BitVec.ofNat 96 (v / 2 ^ 32 % 2 ^ 32) <<< 64) = BitVec.ofNat 96 ((v / 2 ^ 32 % 2 ^ 32) <<< 64) := BitVec.eq_of_toNat_eq (by
    rw [BitVec.toNat_shiftLeft, BitVec.toNat_ofNat, BitVec.toNat_ofNat, Nat.mod_eq_of_lt (show v / 2 ^ 32 % 2 ^ 32 < 2 ^ 96 by omega)])
  have hlow : a ||| (v % 2 ^ 32) <<< 32 = (v % 2 ^ 32) <<< 32 + a := by
    rw [Nat.or_comm]
    exact (Nat.shiftLeft_add_eq_or_of_lt ha _).symm
  have hall : ((v % 2 ^ 32) <<< 32 + a) ||| (v / 2 ^ 32 % 2 ^ 32) <<< 64 = (v / 2 ^ 32 % 2 ^ 32) <<< 64 + ((v % 2 ^ 32) <<< 32 + a) := by
    rw [Nat.or_comm]
    exact (Nat.shiftLeft_add_eq_or_of_lt (by rw [Nat.shiftLeft_eq]; omega) _).symm
  rw [detail, Nat.mod_eq_of_lt ha, hmid, hhigh, ← BitVec.ofNat_or, ← BitVec.ofNat_or, hlow, hall, Nat.shiftLeft_eq, Nat.shiftLeft_eq]
  congr 1
  omega

section
variable {b : Bool} (hepoch : s.epoch n = !b)
include hepoch

theorem State.epochFree_of_busy {a : Nat} (hflip : (s.sh n).flipAt = some a) (hbusy : 0 < s.epochCount n b) : s.epochFree n = s := by
  simp only [State.epochFree, hflip, hepoch, Bool.not_not, if_pos hbusy]

/-- R214: the end of the handover of a flip. -/
theorem State.epochFree_of_idle {a : Nat} (hflip : (s.sh n).flipAt = some a) (hidle : s.epochCount n b = 0) : s.epochFree n =
    (s.updSh n (fun h => { h with flipAt := none })).shEvent n 0x0404 Sev.info 0xFFFF
      (BitVec.ofNat 96 (bit b + 2 ^ 32 * (1000 * (s.up - a) % 2 ^ 64))) := by
  simp only [State.epochFree, hflip, hepoch, Bool.not_not, hidle, Nat.lt_irrefl, if_false]
  rw [detail_eq _ _ (by cases b <;> decide)]

/-- R214, R216: a flip with none armed. -/
theorem State.flipCmd_of_unarmed (harmed : s.reg n .HWR_EPOCH_ARMED = 0) : s.flipCmd n =
    if 0 < s.epochCount n b then s.setReg n .HWR_FLIP_STAT_RESULT 2
    else if !s.bankLoaded n b then s.setReg n .HWR_FLIP_STAT_RESULT 3
    else s.flipNow n := by
  simp only [State.flipCmd, State.regB_eq_false.mpr harmed, hepoch, Bool.not_not, Bool.false_eq_true, if_false]

theorem State.flipNow_of : (s.flipNow n).epoch n = b ∧ (s.flipNow n).reg n .HWR_FLIP_STAT_RESULT = 1 ∧ ((s.flipNow n).sh n).flipAt = some s.up ∧
    ((s.flipNow n).sh n).tallies = (s.sh n).tallies := by
  have hreg : ∀ g : Fld, g ≠ .EVL_STAT_DROPPED → (s.flipNow n).reg n g =
      ((s.setReg n .HWR_EPOCH_CURRENT (bit b)).setReg n .HWR_FLIP_STAT_RESULT 1).reg n g := by
    intro g hg
    rw [State.flipNow, State.reg_shEvent _ _ _ _ _ _ _ hg, hepoch, Bool.not_not]
    rfl
  refine ⟨?_, ?_, ?_, ?_⟩
  · have hcurrent : (s.flipNow n).reg n .HWR_EPOCH_CURRENT = bit b := by
      rw [hreg _ (by decide), State.reg_setReg_field (by decide), State.reg_setReg_same]
      exact bit_mod_two b
    rw [State.epoch, Bool.eq_iff_iff, State.regB_eq_true, hcurrent]
    cases b <;> decide
  · rw [hreg _ (by decide), State.reg_setReg_same]
    rfl
  · rw [State.flipNow, State.sh_shEvent, State.sh_updSh_same]
  · rw [State.flipNow, State.sh_shEvent, State.sh_updSh_same]
    rfl

end

/-- R222: the patrol's reading of a word. -/
theorem exec_storePatrol_of_running {c i : Nat} {b : Bool} {p : BankPart} (hseams : s.seamsOut n = false) (hgate : s.shGated n .HWR = false) (hc : c < 4)
    (hi : i < p.words) (u : StoreCheck) : exec (.storePatrol n c b p i u) s = .next (s.storeCheck n c b p i u) := by
  change Host.Outcome.next (s.storePatrol n c b p i u) = _
  rw [State.storePatrol, hseams, hgate, decide_eq_false (Nat.not_le.mpr hc), decide_eq_false (Nat.not_le.mpr hi)]
  rfl

/-! ### Retirement -/

/-- R219: the cluster has no spare. -/
theorem State.clusterSpare_of_none {h : Nat} (hnone : ∀ g, g / 13 = h / 13 → s.hewRole n g ≠ 1) : s.clusterSpare n h = none := by
  rw [State.clusterSpare, List.find?_eq_none]
  intro g hg
  obtain ⟨j, hj, rfl⟩ := List.mem_map.mp hg
  have hj' := List.mem_range.mp hj
  simpa using hnone (13 * (h / 13) + j) (by omega)

/-- R219: the spare of the cluster. -/
theorem State.clusterSpare_of_first {h g : Nat} (hg : g / 13 = h / 13) (hrole : s.hewRole n g = 1)
    (hfirst : ∀ j, j < g → j / 13 = g / 13 → s.hewRole n j ≠ 1) : s.clusterSpare n h = some g := by
  have hwhere : (List.range 13).find? (fun i => decide (s.hewRole n (13 * (h / 13) + i) = 1)) = some (g % 13) := by
    rw [List.find?_range_eq_some]
    refine ⟨?_, List.mem_range.mpr (Nat.mod_lt _ (by decide)), fun j hj => ?_⟩
    · rw [show 13 * (h / 13) + g % 13 = g by omega]
      exact decide_eq_true hrole
    · simpa using hfirst (13 * (h / 13) + j) (by omega) (by omega)
  rw [State.clusterSpare, List.find?_map]
  exact (congrArg (Option.map _) hwhere).trans (congrArg some (show 13 * (h / 13) + g % 13 = g by omega))

section
variable {h : Nat} {force : Bool}

theorem State.retireCmd_of_busy (hbusy : (s.sh n).retiring ≠ []) : s.retireCmd n h force = s.setReg n .HWR_RETIRE_STAT_RESULT 4 := if_neg hbusy

variable (hnone : (s.sh n).retiring = [])
include hnone

theorem State.retireCmd_of_inactive (hrole : s.hewRole n h ≠ 0) : s.retireCmd n h force = s.setReg n .HWR_RETIRE_STAT_RESULT 2 :=
  (if_pos hnone).trans (if_pos hrole)

theorem State.retireCmd_of_uncovered (hrole : s.hewRole n h = 0) (hspare : s.clusterSpare n h = none) (hforce : force = false) :
    s.retireCmd n h force = s.setReg n .HWR_RETIRE_STAT_RESULT 3 :=
  (if_pos hnone).trans ((if_neg (not_not.mpr hrole)).trans (if_pos ⟨hspare, by rw [hforce]; rfl⟩))

/-- R219: without a spare, by FORCE, the hewer drains. -/
theorem State.retireCmd_of_forced (hrole : s.hewRole n h = 0) (hspare : s.clusterSpare n h = none) (hforce : force = true) : s.retireCmd n h force =
    ((s.setReg n .HWR_UNIT_ROLE 2 h).setReg n .HWR_RETIRE_STAT_BUSY 1).updSh n (fun x => { x with retiring := [⟨h, 1, none⟩] }) := by
  simp only [State.retireCmd, hnone, if_true, State.retireHewer, hrole, hspare, hforce, ne_eq, not_true_eq_false, if_false, Bool.not_true,
    Bool.false_eq_true, and_false]
  exact State.updSh_congr (congrArg (fun l => { s.sh n with retiring := l ++ [(⟨h, 1, none⟩ : Retirement)] }) hnone)

/-- R218: the spare becomes ACTIVE and the hewer drains. -/
theorem State.retireCmd_of_spare {g : Nat} (hrole : s.hewRole n h = 0) (hspare : s.clusterSpare n h = some g) : s.retireCmd n h force =
    (((s.setReg n .HWR_UNIT_ROLE 0 g).setReg n .HWR_UNIT_ROLE 2 h).setReg n .HWR_RETIRE_STAT_BUSY 1).updSh n
      (fun x => { x with retiring := [⟨h, 1, some g⟩] }) := by
  simp only [State.retireCmd, hnone, if_true, State.retireHewer, hrole, hspare, ne_eq, not_true_eq_false, if_false, reduceCtorEq, false_and]
  exact State.updSh_congr (congrArg (fun l => { s.sh n with retiring := l ++ [(⟨h, 1, some g⟩ : Retirement)] }) hnone)

end

/-- R218: the only draining hewer has no thread left. -/
theorem State.hwrRetired_of_drained {r : Retirement} (hone : (s.sh n).retiring = [r]) (hidle : s.busyThreads n r.hewer = 0) : s.hwrRetired n =
    ((((s.updSh n (fun h => { h with retiring := [] })).setReg n .HWR_UNIT_ROLE 3 r.hewer).setReg n .HWR_RETIRE_STAT_BUSY 0).retireResult n 1).shEvent n
      0x0402 Sev.warning r.hewer (detail (r.reason + 256 * r.cover.getD 0xFF)) := by
  have htake : takeFirst (fun r : Retirement => decide (s.busyThreads n r.hewer = 0)) (s.sh n).retiring = some (r, []) := by
    rw [hone, takeFirst, if_pos (decide_eq_true hidle)]
  simp only [State.hwrRetired, htake]
  rfl

theorem State.hwrRetired_of {r : Retirement} (hone : (s.sh n).retiring = [r]) (hidle : s.busyThreads n r.hewer = 0) :
    let t := s.hwrRetired n
    t.hewRole n r.hewer = 3 ∧ t.reg n .HWR_RETIRE_STAT_RESULT = 1 ∧ t.reg n .HWR_RETIRE_STAT_BUSY = 0 ∧ (t.sh n).retiring = [] ∧
      (∀ g, g ≠ r.hewer → t.hewRole n g = s.hewRole n g) ∧
      (s.log.length < 4096 → ∃ e : LogEntry, t.log = s.log ++ [e] ∧ e.code = 0x0402 ∧ e.source.toNat = n.val ∧ e.unit = BitVec.ofNat 16 r.hewer) := by
  intro t
  have ht : t = _ := State.hwrRetired_of_drained hone hidle
  have hreg : ∀ (g : Fld) (e : Nat), g ≠ .EVL_STAT_DROPPED → t.reg n g e =
      (((s.setReg n .HWR_UNIT_ROLE 3 r.hewer).setReg n .HWR_RETIRE_STAT_BUSY 0).setReg n .HWR_RETIRE_STAT_RESULT 1).reg n g e := by
    intro g e hg
    rw [ht, State.reg_shEvent _ _ _ _ _ _ _ hg]
    rfl
  refine ⟨?_, ?_, ?_, ?_, fun g hg => ?_, fun hroom => ?_⟩
  · rw [State.hewRole, hreg _ _ (by decide), State.reg_setReg_field (by decide), State.reg_setReg_field (by decide), State.reg_setReg_same]
    rfl
  · rw [hreg _ _ (by decide), State.reg_setReg_same]
    rfl
  · rw [hreg _ _ (by decide), State.reg_setReg_field (by decide), State.reg_setReg_same]
    rfl
  · rw [ht, State.sh_shEvent]
    exact congrArg ShaftSt.retiring (State.sh_updSh_same ..)
  · rw [State.hewRole, hreg _ _ (by decide), State.reg_setReg_field (by decide), State.reg_setReg_field (by decide), State.reg_setReg_elem hg,
      ← State.hewRole]
  · have hlog := ht.trans (State.event_room _ _ _ _ _ _ hroom)
    refine ⟨_, congrArg State.log hlog, rfl, ?_, rfl⟩
    have hn := n.isLt
    exact Nat.mod_eq_of_lt (show n.val < 2 ^ 8 by omega)

/-- Settles O31: the writes of the banks and the commands by what the open block carries out, their ends by what each leaves. -/
theorem microcodeAndRetirement : Obligations.MicrocodeAndRetirement := by
  unfold Obligations.MicrocodeAndRetirement
  refine ⟨?banks, ?retirement⟩
  case banks =>
    intro s n b idle loaded
    refine ⟨fun hopen => ⟨?write, ?code, ?seals, ?refused, ?flip⟩, ?sealed, ?free, ?patrol⟩
    case write =>
      intro p i hi v hidle harmed hwords
      obtain ⟨hepoch, hcount⟩ := hidle
      exact exec_bankWrite_of_open hopen (State.bankOpen_of_idle hepoch hcount harmed) hwords hi v
    case code =>
      intro i hi v hidle harmed hwords
      obtain ⟨hepoch, hcount⟩ := hidle
      refine (exec_bankWrite_of_open hopen (State.bankOpen_of_idle hepoch hcount harmed) hwords hi v).trans (congrArg Host.Outcome.next ?_)
      simp only [← putHalf_eq]
      cases b <;> rfl
    case seals =>
      intro hbusy hidle
      rw [exec_seal_of_open hopen, State.sealCmd, State.regB_eq_false.mpr hbusy, State.bankIdle_iff.mpr hidle]
      rfl
    case refused =>
      intro hbusy hidle
      have hnot : s.bankIdle n b = false := Bool.eq_false_iff.mpr fun h => hidle (State.bankIdle_iff.mp h)
      rw [exec_seal_of_open hopen, State.sealCmd, State.regB_eq_false.mpr hbusy, hnot]
      rfl
    case flip =>
      intro hepoch harmed
      have hflip := (exec_flip_of_open hopen).trans (congrArg Host.Outcome.next (State.flipCmd_of_unarmed hepoch harmed))
      refine ⟨fun hserves => ?_, fun hcount hunloaded => ?_, fun hcount hloaded => ?_⟩
      · rw [hflip, if_pos hserves]
      · have hbank : s.bankLoaded n b = false := State.regB_eq_false.mpr hunloaded
        rw [hflip, hcount, if_neg (Nat.lt_irrefl 0), hbank]
        rfl
      · have hbank : s.bankLoaded n b = true := State.regB_eq_true.mpr hloaded
        rw [hcount, if_neg (Nat.lt_irrefl 0), hbank] at hflip
        exact ⟨_, hflip, State.flipNow_of hepoch⟩
    case sealed =>
      intro hseal
      exact ⟨_, rfl, State.sealDone_of hseal⟩
    case free =>
      intro a hflip hepoch
      refine ⟨fun hbusy => congrArg Host.Outcome.next (State.epochFree_of_busy hepoch hflip hbusy), fun hcount hroom => ?_⟩
      exact congrArg Host.Outcome.next ((State.epochFree_of_idle hepoch hflip hcount).trans (State.event_room _ _ _ _ _ _ hroom))
    case patrol =>
      intro c i hseams hgate hc hi
      exact ⟨fun p hp => exec_storePatrol_of_running hseams hgate hc hp _, exec_storePatrol_of_running hseams hgate hc hi _,
        exec_storePatrol_of_running hseams hgate hc hi _⟩
  case retirement =>
    intro s n h force hh
    refine ⟨fun hopen => ?command, ?done⟩
    case command =>
      have hexec := exec_retire_of_open hopen hh force
      refine ⟨fun hbusy => ?_, fun hnone => ⟨fun hrole => ?_, fun hrole hspare hforce => ?_, fun hrole hspare hforce => ?_,
        fun g hrole hg hspare hfirst => ?_⟩⟩
      · rw [hexec, State.retireCmd_of_busy hbusy]
      · rw [hexec, State.retireCmd_of_inactive hnone hrole]
      · rw [hexec, State.retireCmd_of_uncovered hnone hrole (State.clusterSpare_of_none hspare) hforce]
      · rw [hexec, State.retireCmd_of_forced hnone hrole (State.clusterSpare_of_none hspare) hforce]
      · rw [hexec, State.retireCmd_of_spare hnone hrole (State.clusterSpare_of_first hg hspare hfirst)]
    case done =>
      intro r hone hidle
      exact ⟨_, rfl, State.hwrRetired_of hone hidle⟩

end Sys2Proof.Machine
end

section
/-! SUPPORT. The Daylight gate (R235, R236) at a tub of the egress queue: the row that applies to it, the state it is judged in, and what the portal shows
once it has passed the guard, is held or is discarded. -/

namespace Sys2Proof.Machine

section
variable {s a : State} {n : Shaft} {p : Portal} {t : Tub} {rest : List Tub}

/-! ### The row that applies -/

/-- No row of R235 before the fifth decides the tub. -/
def State.Live (s : State) (n : Shaft) (t : Tub) : Prop :=
  let y := s.tally n t.tally.toNat
  t.tv = true ∧ y.st ≠ .free ∧ y.gen = t.gen ∧ y.expired = false ∧ t.wdog = false

/-- R235, row 1. -/
theorem State.verdict_of_no_tally (htv : t.tv = false) : s.verdict n t = .pass := by simp [State.verdict, htv]

/-- R235, rows 2 and 3. -/
theorem State.verdict_of_stale (htv : t.tv = true) (h : (s.tally n t.tally.toNat).st = .free ∨ (s.tally n t.tally.toNat).gen ≠ t.gen ∨
    ((s.tally n t.tally.toNat).expired = true ∧ t.wdog = false)) : s.verdict n t = .stale := by
  simp only [State.verdict, htv]
  rcases h with hfree | hgen | ⟨hexpired, hwdog⟩
  · simp [hfree]
  · simp [hgen]
  · simp [hexpired, hwdog]

/-- R235, row 4. -/
theorem State.verdict_of_wdog (hst : (s.tally n t.tally.toNat).st ≠ .free) (hgen : (s.tally n t.tally.toNat).gen = t.gen) (hwdog : t.wdog = true) :
    s.verdict n t = .pass := by
  simp [State.verdict, hst, hgen, hwdog]

/-- R235, rows 5 to 8. -/
theorem State.verdict_of_live (h : s.Live n t) : s.verdict n t =
    let y := s.tally n t.tally.toNat
    if y.spec = .pending ∧ t.spc then if t.cls = Cls.MEM ∧ t.seq = y.sp.ticketSeq ∧ 0 < y.sp.tickets then .ticket else .hold
    else if y.spec = .aborted ∧ t.spc then .discard
    else .pass := by
  obtain ⟨htv, hst, hgen, hexpired, hwdog⟩ := h
  simp [State.verdict, htv, hst, hgen, hexpired, hwdog]

/-- R235, row 8. -/
theorem State.verdict_of_settled (h : s.Live n t)
    (hspec : t.spc = false ∨ (s.tally n t.tally.toNat).spec = .none ∨ (s.tally n t.tally.toNat).spec = .confirmed) : s.verdict n t = .pass := by
  rw [State.verdict_of_live h]
  rcases hspec with hspc | hnone | hconfirmed
  · simp [hspc]
  · simp [hnone]
  · simp [hconfirmed]

/-! ### The state the gate judges in -/

theorem State.tally_updPtl (s : State) (n : Shaft) (p : Portal) (f : PortalSt → PortalSt) (k : Nat) : (s.updPtl n p f).tally n k = s.tally n k :=
  State.tally_of_sh (by rw [State.sh_updPtl]) k

theorem State.guardFill_keeps {α : Type} (s : State) (n : Shaft) (p : Portal) (proj : PortalSt → α)
    (h : ∀ x b m u, proj { x with buckets := b, mgt := m, tokensAt := u } = proj x) : proj ((s.guardFill n p).ptl n p) = proj (s.ptl n p) := by
  rw [State.guardFill, State.ptl_updPtl_same]
  exact h _ _ _ _

/-- A tub that leaves TRANSIT touches its tally and nothing else of the shaft. -/
theorem State.leaveTransit_keeps {α : Type} (s : State) (n : Shaft) (t : Tub) (proj : ShaftSt → α) (h : ∀ x ys, proj { x with tallies := ys } = proj x) :
    proj ((s.leaveTransit n t).sh n) = proj (s.sh n) := by
  simp only [State.leaveTransit]
  split_ifs
  · rw [State.sh_updTally]
    exact h _ _
  · rfl

theorem State.regs_leaveTransit (s : State) (n : Shaft) (t : Tub) : (s.leaveTransit n t).regs = s.regs := by
  simp only [State.leaveTransit]
  split_ifs <;> rfl

/-- R235: of its tally, a tub that leaves TRANSIT changes that count alone. -/
theorem State.tally_leaveTransit (s : State) (n : Shaft) (t : Tub) : ∃ r : BitVec 12, (s.leaveTransit n t).tally n t.tally.toNat =
    { s.tally n t.tally.toNat with sp := { (s.tally n t.tally.toNat).sp with transit := r } } := by
  simp only [State.leaveTransit]
  split_ifs
  · exact ⟨_, State.tally_updTally_same ..⟩
  · exact ⟨_, rfl⟩

/-- The state in which the gate judges tub `t`: the guard's buckets have refilled, and the tub has left the egress queue and TRANSIT. -/
def State.atGate (s : State) (n : Shaft) (p : Portal) (t : Tub) (rest : List Tub) : State :=
  (((s.guardFill n p).updPtl n p (fun y => { y with eqGot := rest })).leaveTransit n t).updPtl n p (fun x => { x with tagWait := false })

theorem State.regs_atGate : (s.atGate n p t rest).regs = s.regs := State.regs_leaveTransit ..

theorem State.ptl_atGate : (s.atGate n p t rest).ptl n p = { (s.guardFill n p).ptl n p with eqGot := rest, tagWait := false } := by
  rw [State.atGate, State.ptl_updPtl_same, State.ptl_of_sh (State.leaveTransit_keeps _ n t ShaftSt.portals fun _ _ => rfl), State.ptl_updPtl_same]

theorem State.atGate_keeps {α : Type} (proj : PortalSt → α)
    (h : ∀ x b m u l w, proj { x with buckets := b, mgt := m, tokensAt := u, eqGot := l, tagWait := w } = proj x) :
    proj ((s.atGate n p t rest).ptl n p) = proj (s.ptl n p) := by
  rw [State.ptl_atGate, State.guardFill, State.ptl_updPtl_same]
  exact h (s.ptl n p) _ _ _ _ _

theorem State.pool_atGate : ((s.atGate n p t rest).sh n).pool = (s.sh n).pool := by
  rw [State.atGate, State.sh_updPtl, State.guardFill]
  refine (State.leaveTransit_keeps _ n t ShaftSt.pool fun _ _ => rfl).trans ?_
  rw [State.sh_updPtl, State.sh_updPtl]

theorem State.freeSlot_atGate : (s.atGate n p t rest).freeSlot n = s.freeSlot n := State.freeSlot_congr State.pool_atGate State.regs_atGate

theorem State.tally_atGate : ∃ r : BitVec 12, (s.atGate n p t rest).tally n t.tally.toNat =
    { s.tally n t.tally.toNat with sp := { (s.tally n t.tally.toNat).sp with transit := r } } := by
  obtain ⟨r, hr⟩ := ((s.guardFill n p).updPtl n p (fun y => { y with eqGot := rest })).tally_leaveTransit n t
  refine ⟨r, ?_⟩
  have hsame : ((s.guardFill n p).updPtl n p (fun y => { y with eqGot := rest })).tally n t.tally.toNat = s.tally n t.tally.toNat :=
    (State.tally_updPtl ..).trans (State.tally_updPtl ..)
  rw [State.atGate, State.tally_updPtl, hr, hsame]

/-- TRANSIT is not among what the gate reads. -/
theorem State.verdict_atGate : (s.atGate n p t rest).verdict n t = s.verdict n t := by
  obtain ⟨r, hr⟩ := State.tally_atGate (s := s) (n := n) (p := p) (t := t) (rest := rest)
  simp only [State.verdict, hr]

theorem State.guardCause_congr (hregs : a.regs = s.regs) (hbuckets : (a.ptl n p).buckets = (s.ptl n p).buckets) (hmgt : (a.ptl n p).mgt = (s.ptl n p).mgt)
    (hcfg : (a.ptl n p).cfg = (s.ptl n p).cfg) : a.guardCause n p t = s.guardCause n p t := by
  have hdev (f : Fld) (e : Nat) : a.dev f e = s.dev f e := by rw [State.dev, State.getF, hregs]; rfl
  have hrole : a.role n p = s.role n p := by rw [State.role, hcfg]; rfl
  have hwindow (e k : Nat) : a.inWindow e k = s.inWindow e k := by simp only [State.inWindow, hdev]
  simp only [State.guardCause, hdev, hrole, hwindow, hbuckets, hmgt]

theorem State.guardCause_atGate : (s.atGate n p t rest).guardCause n p t = (s.guardFill n p).guardCause n p t :=
  State.guardCause_congr (s := s.guardFill n p) State.regs_atGate (by rw [State.ptl_atGate]) (by rw [State.ptl_atGate]) (by rw [State.ptl_atGate])

/-- A tub of the egress queue with nothing ahead of it is the next. -/
theorem State.gateNext_of_queued (hlane : (s.ptl n p).lane = []) (hreleased : (s.ptl n p).released = []) (hgot : (s.ptl n p).eqGot = t :: rest) :
    s.gateNext n p = some (t, (s.updPtl n p (fun y => { y with eqGot := rest })).leaveTransit n t) := by
  simp only [State.gateNext, hlane, hreleased, hgot, takeFirst]

/-- A tub for a Drift portal waits for no tag (R358). -/
theorem State.waitsForTag_of_drift (hdrift : (s.ptl n p).cfg.drift = true) : s.waitsForTag n p t = false := by
  simp [State.waitsForTag, hdrift]

theorem State.linkUp_of_regs (h : a.regs = s.regs) : a.linkUp n p = s.linkUp n p := by
  rw [State.linkUp, State.pst, State.reg_of_regs n h]
  rfl

/-- R235: GATE_DECISION at a link-up Drift portal whose next tub is one of the egress queue. -/
theorem exec_gateDecision_of_queued (hroom : (s.ptl n p).txq.length < 64) (hlane : (s.ptl n p).lane = []) (hreleased : (s.ptl n p).released = [])
    (hgot : (s.ptl n p).eqGot = t :: rest) (hup : s.linkUp n p = true) (hdrift : (s.ptl n p).cfg.drift = true) :
    exec (.gateDecision n p) s = .next ((s.atGate n p t rest).gateTub n p t) := by
  have hfetch : s.fetchEgress n p = s := if_pos (Or.inl (by rw [hgot]; exact List.cons_ne_nil _ _))
  have hnext := State.gateNext_of_queued (s := s.guardFill n p) ((s.guardFill_keeps n p (·.lane) fun _ _ _ _ => rfl).trans hlane)
    ((s.guardFill_keeps n p (·.released) fun _ _ _ _ => rfl).trans hreleased) ((s.guardFill_keeps n p (·.eqGot) fun _ _ _ _ => rfl).trans hgot)
  have htag : (s.guardFill n p).waitsForTag n p t = false :=
    State.waitsForTag_of_drift ((s.guardFill_keeps n p (·.cfg.drift) fun _ _ _ _ => rfl).trans hdrift)
  have hlink : (s.atGate n p t rest).linkUp n p = true := (State.linkUp_of_regs State.regs_atGate).trans hup
  have hdecide : (s.guardFill n p).decideNext n p = (s.atGate n p t rest).gateTub n p t := by
    rw [State.atGate] at hlink ⊢
    simp only [State.decideNext, hnext, hlink, Bool.not_true, Bool.false_eq_true, if_false]
  refine congrArg Host.Outcome.next ?_
  simp only [State.gateDecision, State.txRoom, hroom, hfetch, hnext, htag, hdecide, decide_true, Bool.not_true, Bool.false_eq_true, if_false]

/-! ### A tub that passes -/

theorem State.answerPassed_of_not_ans (hans : t.ans = false) : s.answerPassed n t = s := by simp [State.answerPassed, hans]

/-- R342, R359: an item of the flit mover carries the tub's class, and the tub as it stands unless it is a SNP. -/
theorem State.driftItem_tub (s : State) (n : Shaft) (p : Portal) (t : Tub) :
    ∃ (b : Tub) (f : Bool) (ft : BitVec 15) (fg : BitVec 4), s.driftItem n p t = .tub b f ft fg ∧ b.cls = t.cls ∧ (t.cls ≠ Cls.SNP → b = t) := by
  have hasis (f : Bool) (ft : BitVec 15) (fg : BitVec 4) : ∃ (b : Tub) (f' : Bool) (ft' : BitVec 15) (fg' : BitVec 4),
      TxItem.tub t f ft fg = .tub b f' ft' fg' ∧ b.cls = t.cls ∧ (t.cls ≠ Cls.SNP → b = t) := ⟨t, f, ft, fg, rfl, rfl, fun _ => rfl⟩
  unfold State.driftItem
  split_ifs with hdat hfar hrsp htv hsnp
  · exact hasis _ _ _
  · exact hasis _ _ _
  · exact hasis _ _ _
  · exact hasis _ _ _
  · exact ⟨_, _, _, _, rfl, rfl, fun hne => absurd hsnp.1 hne⟩
  · exact hasis _ _ _

theorem State.guardSpend_keeps {α : Type} (s : State) (n : Shaft) (p : Portal) (t : Tub) (proj : PortalSt → α)
    (h : ∀ x b m, proj { x with buckets := b, mgt := m } = proj x) : proj ((s.guardSpend n p t).ptl n p) = proj (s.ptl n p) := by
  by_cases hw : t.wdog = true
  · rw [State.guardSpend, if_pos hw]
  · rw [State.guardSpend, if_neg hw, State.ptl_updPtl_same]
    exact h _ _ _

theorem State.tally_guardSpend (k : Nat) : (s.guardSpend n p t).tally n k = s.tally n k := by
  by_cases hw : t.wdog = true
  · rw [State.guardSpend, if_pos hw]
  · rw [State.guardSpend, if_neg hw, State.tally_updPtl]

/-- What a tub that passes the guard of a Drift portal leaves in state `e`: an item of the flit mover, its last. -/
structure State.Passed (s : State) (n : Shaft) (p : Portal) (t : Tub) (e : State) : Prop where
  sent : ∃ (b : Tub) (f : Bool) (ft : BitVec 15) (fg : BitVec 4),
    (e.ptl n p).txq = (s.ptl n p).txq ++ [.tub b f ft fg] ∧ b.cls = t.cls ∧ (t.cls ≠ Cls.SNP → b = t)
  eqGot : (e.ptl n p).eqGot = (s.ptl n p).eqGot
  hold : (e.ptl n p).hold = (s.ptl n p).hold
  tally : ∀ k, e.tally n k = s.tally n k

/-- R440: a tub that breaks no limit of the guard goes to the flit mover. -/
theorem State.egressTub_passed (hmem : t.cls = Cls.MEM → s.role n p = Role.MEM) (hcause : s.guardCause n p t = 0)
    (hdrift : (s.ptl n p).cfg.drift = true) (hans : t.ans = false) : s.Passed n p t (s.egressTub n p t) := by
  have hsent : s.egressTub n p t = (s.guardSpend n p t).toTx n p ((s.guardSpend n p t).driftItem n p t) := by
    have hreach : ¬(t.cls = Cls.MEM ∧ s.role n p ≠ Role.MEM) := fun h => h.2 (hmem h.1)
    rw [State.egressTub, if_neg hreach]
    simp only [hcause, hdrift, ne_eq, not_true_eq_false, if_false, if_true, State.answerPassed_of_not_ans hans]
  rw [hsent, State.toTx]
  obtain ⟨b, f, ft, fg, hitem, hb⟩ := (s.guardSpend n p t).driftItem_tub n p t
  refine ⟨⟨b, f, ft, fg, ?_, hb⟩, ?_, ?_, fun k => ?_⟩
  · rw [State.ptl_updPtl_same, hitem]
    exact congrArg (· ++ _) (s.guardSpend_keeps n p t (·.txq) fun _ _ _ => rfl)
  · rw [State.ptl_updPtl_same]
    exact s.guardSpend_keeps n p t (·.eqGot) fun _ _ _ => rfl
  · rw [State.ptl_updPtl_same]
    exact s.guardSpend_keeps n p t (·.hold) fun _ _ _ => rfl
  · rw [State.tally_updPtl, State.tally_guardSpend]

theorem State.ptl_useTicket : (s.useTicket n t).ptl n p = s.ptl n p := State.ptl_of_sh (by rw [State.useTicket, State.sh_updTally]) p

theorem State.guardCause_useTicket : (s.useTicket n t).guardCause n p t = s.guardCause n p t :=
  State.guardCause_congr rfl (congrArg PortalSt.buckets State.ptl_useTicket) (congrArg PortalSt.mgt State.ptl_useTicket)
    (congrArg PortalSt.cfg State.ptl_useTicket)

/-! ### A tub that is held or discarded -/

theorem State.sh_takeSlot (i : Nat) (t : Tub) : (s.takeSlot n i t).sh n =
    { s.sh n with slots := Tbl.set Tub.zero (s.sh n).slots i t, pool := (s.sh n).pool ++ [i] } := by
  rw [State.takeSlot, State.sh_updSh_same, State.sh_setSlot]

/-- The tub stands in the lowest free tub slot (R248), if there is one; a tub is held without one as well. -/
def State.intoFreeSlot (s : State) (n : Shaft) (t : Tub) : State := (s.freeSlot n).elim s (fun i => s.takeSlot n i t)

/-- R236: a hold store with room takes the tub. -/
theorem State.holdTub_of_room (hroom : (s.ptl n p).hold.length < 512) : s.holdTub n p t =
    ((s.intoFreeSlot n t).updPtl n p (fun x => { x with hold := x.hold ++ [⟨t, s.freeSlot n⟩] })).addReg n .PTL_DL_GATE2_HELD p.val := by
  rw [State.holdTub, if_neg (Nat.not_le.mpr hroom), State.intoFreeSlot]
  cases s.freeSlot n <;> rfl

theorem State.ptl_intoFreeSlot : (s.intoFreeSlot n t).ptl n p = s.ptl n p := by
  rw [State.intoFreeSlot]
  cases s.freeSlot n with
  | none => rfl
  | some i => exact State.ptl_of_sh (by rw [Option.elim_some, State.sh_takeSlot]) p

theorem State.regs_intoFreeSlot : (s.intoFreeSlot n t).regs = s.regs := by
  rw [State.intoFreeSlot]
  cases s.freeSlot n <;> rfl

/-- R236: what a held tub leaves of its portal, its tub slot and the count. -/
theorem State.holdTub_held (hroom : (s.ptl n p).hold.length < 512) :
    (s.holdTub n p t).ptl n p = { s.ptl n p with hold := (s.ptl n p).hold ++ [⟨t, s.freeSlot n⟩] } ∧
    (∀ i, s.freeSlot n = some i → i ∈ ((s.holdTub n p t).sh n).pool ∧ (s.holdTub n p t).slot n i = t) ∧
    (s.holdTub n p t).reg n .PTL_DL_GATE2_HELD p.val = min (s.reg n .PTL_DL_GATE2_HELD p.val + 1) 65535 := by
  rw [State.holdTub_of_room hroom]
  refine ⟨?_, fun i hi => ?_, ?_⟩
  · rw [State.ptl_addReg, State.ptl_updPtl_same, State.ptl_intoFreeSlot]
  · rw [State.slot, State.sh_addReg, State.sh_updPtl, State.intoFreeSlot, hi, Option.elim_some, State.sh_takeSlot]
    exact ⟨List.mem_append_right _ List.mem_cons_self, Tbl.get_set_same ..⟩
  · rw [State.reg_addReg_same, State.reg_updPtl, State.reg_of_regs n State.regs_intoFreeSlot]
    rfl

theorem State.dropHead_of_none (hhead : (s.ptl n p).eqHead = []) : s.dropHead n p t = s := by
  simp only [State.dropHead, hhead, takeFirst]

/-! ### The gate by its verdict -/

theorem State.gateTub_of_pass (h : s.verdict n t = .pass) : s.gateTub n p t = s.egressTub n p t := by rw [State.gateTub, h]

theorem State.gateTub_of_ticket (h : s.verdict n t = .ticket) : s.gateTub n p t = (s.useTicket n t).egressTub n p t := by rw [State.gateTub, h]

theorem State.gateTub_of_hold (h : s.verdict n t = .hold) : s.gateTub n p t = s.holdTub n p t := by rw [State.gateTub, h]

theorem State.gateTub_of_stale (h : s.verdict n t = .stale) (hhead : (s.ptl n p).eqHead = []) : s.gateTub n p t = s.addReg n .TLY_STAT2_STALE := by
  simp only [State.gateTub, h]
  exact State.dropHead_of_none hhead

theorem State.gateTub_of_discard (h : s.verdict n t = .discard) (hhead : (s.ptl n p).eqHead = []) (hans : t.ans = false) :
    s.gateTub n p t = s.addReg n .PTL_DL_GATE2_DISCARDED p.val := by
  simp only [State.gateTub, h]
  exact (State.answerPassed_of_not_ans hans).trans (State.dropHead_of_none hhead)

end
end Sys2Proof.Machine
end

section
/-! The Daylight gate (R235, R236). -/

namespace Sys2Proof.Machine

/-- Settles O32: the row of R235 that applies, and what that row leaves of the state the gate judges the tub in. -/
theorem daylightGate : Obligations.DaylightGate := by
  unfold Obligations.DaylightGate
  intro s n p t rest x y hroom hlane hreleased hgot hhead hup hdrift hmem hans live pending ticket passes decides unsent
  let g := s.atGate n p t rest
  have hexec : exec (.gateDecision n p) s = .next (g.gateTub n p t) := exec_gateDecision_of_queued hroom hlane hreleased hgot hup hdrift
  have hgot' : (g.ptl n p).eqGot = rest := congrArg PortalSt.eqGot State.ptl_atGate
  have htxq : (g.ptl n p).txq = x.txq := State.atGate_keeps (·.txq) fun _ _ _ _ _ _ => rfl
  have hhold : (g.ptl n p).hold = x.hold := State.atGate_keeps (·.hold) fun _ _ _ _ _ _ => rfl
  have hcfg : (g.ptl n p).cfg = x.cfg := State.atGate_keeps (·.cfg) fun _ _ _ _ _ _ => rfl
  have hhead' : (g.ptl n p).eqHead = [] := (State.atGate_keeps (·.eqHead) fun _ _ _ _ _ _ => rfl).trans hhead
  have hdrift' : (g.ptl n p).cfg.drift = true := hcfg ▸ hdrift
  have hmem' : t.cls = Cls.MEM → g.role n p = Role.MEM := fun h => (congrArg PortalCfg.role hcfg).trans (hmem h)
  have hverdict {v : Verdict} (h : s.verdict n t = v) : g.verdict n t = v := State.verdict_atGate.trans h
  have hreg (f : Fld) (e : Nat) : g.reg n f e = s.reg n f e := State.reg_of_regs n State.regs_atGate f e
  refine ⟨?passes, ?ticket, ?held, ?stale, ?discarded⟩
  case passes =>
    intro hpasses hcause
    have hpass : s.verdict n t = .pass := by
      rcases hpasses with htv | ⟨hst, hgen, hwdog⟩ | ⟨hlive, hspc⟩ | ⟨hlive, hnone⟩ | ⟨hlive, hconfirmed⟩
      · exact State.verdict_of_no_tally htv
      · exact State.verdict_of_wdog hst hgen hwdog
      · exact State.verdict_of_settled hlive (.inl hspc)
      · exact State.verdict_of_settled hlive (.inr (.inl hnone))
      · exact State.verdict_of_settled hlive (.inr (.inr hconfirmed))
    rw [State.gateTub_of_pass (hverdict hpass)] at hexec
    have e := State.egressTub_passed hmem' (State.guardCause_atGate.trans hcause) hdrift' hans
    exact ⟨_, hexec, e.eqGot.trans hgot', e.hold.trans hhold, htxq ▸ e.sent⟩
  case ticket =>
    intro hpending hticket hcause
    obtain ⟨hlive, hspec, hspc⟩ := hpending
    have hrow : s.verdict n t = .ticket := by
      rw [State.verdict_of_live hlive]
      exact (if_pos ⟨hspec, hspc⟩).trans (if_pos hticket)
    rw [State.gateTub_of_ticket (hverdict hrow)] at hexec
    have hptl : (g.useTicket n t).ptl n p = g.ptl n p := State.ptl_useTicket
    have e := State.egressTub_passed (s := g.useTicket n t) (fun h => (congrArg (·.cfg.role) hptl).trans (hmem' h))
      (State.guardCause_useTicket.trans (State.guardCause_atGate.trans hcause)) (hptl ▸ hdrift') hans
    refine ⟨_, hexec, ?_, ?_, ?_, ?_⟩
    · rw [e.eqGot, hptl, hgot']
    · obtain ⟨b, f, ft, fg, hsent, -⟩ := e.sent
      rw [hsent, hptl, htxq, List.length_append, List.length_singleton]
    · rw [e.hold, hptl, hhold]
    · obtain ⟨r, hr⟩ := State.tally_atGate (s := s) (n := n) (p := p) (t := t) (rest := rest)
      rw [e.tally, State.useTicket, State.tally_updTally_same, hr]
  case held =>
    intro hpending hticket hfits
    obtain ⟨hlive, hspec, hspc⟩ := hpending
    have hrow : s.verdict n t = .hold := by
      rw [State.verdict_of_live hlive]
      exact (if_pos ⟨hspec, hspc⟩).trans (if_neg hticket)
    rw [State.gateTub_of_hold (hverdict hrow)] at hexec
    obtain ⟨hptl, hslot, hcount⟩ := State.holdTub_held (s := g) (n := n) (p := p) (t := t) (hhold ▸ hfits)
    rw [State.freeSlot_atGate, hhold] at hptl
    rw [State.freeSlot_atGate] at hslot
    rw [hreg] at hcount
    exact ⟨_, hexec, (congrArg PortalSt.eqGot hptl).trans hgot', (congrArg PortalSt.txq hptl).trans htxq, congrArg PortalSt.hold hptl, hslot, hcount⟩
  case stale =>
    intro htv hstale
    rw [State.gateTub_of_stale (hverdict (State.verdict_of_stale htv hstale)) hhead'] at hexec
    refine ⟨_, hexec, hgot', ⟨htxq, hhold⟩, ?_⟩
    rw [State.reg_addReg_same, hreg]
    rfl
  case discarded =>
    intro hlive haborted hspc
    have hrow : s.verdict n t = .discard := by
      rw [State.verdict_of_live hlive]
      refine (if_neg ?_).trans (if_pos ⟨haborted, hspc⟩)
      rintro ⟨hspec, -⟩
      exact absurd (haborted.symm.trans hspec) (by decide)
    rw [State.gateTub_of_discard (hverdict hrow) hhead' hans] at hexec
    refine ⟨_, hexec, hgot', ⟨htxq, hhold⟩, ?_⟩
    rw [State.reg_addReg_same, hreg]
    rfl

end Sys2Proof.Machine
end

section
/-! What O37 says of a pop from a ring in claim memory (R249) fails where the ring is the egress queue of its own backing portal: the MEM tub that is to read
the slot is pushed onto that very ring, in the slot of the pop itself, and to write it there takes a second access. -/

namespace Sys2Proof.Machine

/-- Reset, but the Cage is ready, Deep registers of shaft 0 may be written, and queue 0, which is the egress queue of portal 0, is a ring of four slots in
claim 0, which portal 0 backs, and holds one entry. -/
def State.ringOnOwnEgress : State :=
  ({ State.reset with cage := { State.reset.cage with ready := true } }.setReg 0 .SHF_CTL_DEEP_OPEN 1).setQueue 0 0
    { QDesc.zero with valid := true, place := true, size := 2, hwm := 3, wr := 1 }

/-- The accesses to claim-memory rings that are with the backing portal after a step. -/
def ringOpsAfter (c : Instr) (s : State) (n : Shaft) : Option Nat :=
  match exec c s with
  | .next t => some (t.sh n).ringOps.length
  | _ => none

/-- The pop of the host that waits in that state. -/
def State.ownEgressPop : State :=
  (State.ringOnOwnEgress.setReg 0 .QMG_HOST_STAT_BUSY 1).updSh 0 (fun h => { h with qops := h.qops ++ [⟨0, .pop, .host⟩] })

theorem State.ringOnOwnEgress_open : State.ringOnOwnEgress.Open (0 : Shaft).val .QMG := ⟨⟨rfl, rfl⟩, by decide, by decide, by decide⟩

theorem State.ringOnOwnEgress_idle : (State.ringOnOwnEgress.sh 0).qops = [] ∧ (State.ringOnOwnEgress.sh 0).queueCmd = none ∧
    (State.ringOnOwnEgress.sh 0).ringOps = [] := ⟨rfl, rfl, rfl⟩

set_option maxRecDepth 4000 in
/-- The read of the slot, and the write of the tub that asks for it. -/
theorem State.ownEgressPop_after : ringOpsAfter (.queueSlot 0 0) State.ownEgressPop 0 = some 2 := by
  decide

/-- Refutes O37: the pop leaves two accesses, where the statement has it leave one. -/
theorem not_queueCommands : ¬ Obligations.QueueCommands := by
  unfold Obligations.QueueCommands
  rintro ⟨-, hhost⟩
  obtain ⟨hqops, hcmd, hringOps⟩ := State.ringOnOwnEgress_idle
  obtain ⟨-, -, -, hquiet⟩ := hhost State.ringOnOwnEgress 0 0 0 State.ringOnOwnEgress_open
  obtain ⟨-, hdeep, -⟩ := hquiet ⟨by decide, by simp [hqops], by simp [hcmd]⟩
  obtain ⟨t, hexec, -, hops⟩ := hdeep (by decide) (by decide) (by decide) (by decide) (by simp [hringOps])
  have hexec : exec (.queueSlot 0 0) State.ownEgressPop = .next t := hexec
  have hafter := State.ownEgressPop_after
  rw [ringOpsAfter, hexec] at hafter
  simp [hops, hringOps] at hafter

end Sys2Proof.Machine
end

section
/-! SUPPORT. A descriptor with room for a push (R253), one whose push waits (R257), and one that has nothing to settle (R256). -/

namespace Sys2Proof.Machine

namespace QDesc

variable {d : QDesc}

/-- Row 1 of R253 accepts the next push, onto a ring in tub slots (R248) whose tail is no gap marker and whose mark is not yielding. -/
structure Room (d : QDesc) : Prop where
  valid : d.valid = true
  place : d.place = false
  pend : d.pend = false
  tailMrk : d.tailMrk = false
  mode : d.mode = false
  fits : d.fill + 2 ≤ d.n

/-- The descriptor once the entry at WR has been written. -/
def pushed (d : QDesc) : QDesc := { d with wr := d.wr + 1, tailMrk := false }

theorem push_of_room (h : d.Room) (k : Nat) (t : Tub) (canWait : Bool) (now : BitVec 64) :
    d.push k t canWait now = ⟨⟨d.pushed, [(d.slot d.wr, t)], false⟩, .accepted, false⟩ := by
  simp [push, append, pushed, slot, n, h.valid, h.pend, h.mode, show d.fill + 2 ≤ 2 ^ d.size.toNat from h.fits]

/-- R253 row 3: neither row 1 nor row 2 takes the push, and the producer can wait. -/
theorem push_of_full (hvalid : d.valid = true) (hwait : d.wait = true) (hpend : d.pend = false) (htail : d.tailMrk = false)
    (hfull : d.n ≤ d.fill + 1) (k : Nat) (t : Tub) (now : BitVec 64) : (d.push k t true now).out = .waits := by
  have hrow1 : ¬ d.fill + 2 ≤ d.n := by omega
  simp [push, hvalid, hwait, hpend, htail, hrow1]

theorem finish_of_settled (hpend : d.pend = false) (k : Nat) (now : BitVec 64) : d.finish k now = ⟨d.watermark, [], false⟩ := by
  simp [finish, settle, hpend]

end QDesc
end Sys2Proof.Machine
end

section
/-! SUPPORT. The queue manager on a ring in tub slots that has room (R251, R253, R256): the push within a slot, what its producer is told, and the slot's end. -/

namespace Sys2Proof.Machine

variable {s : State} {n : Shaft} {q : Nat} {x : Tub}

theorem State.sh_setQueue (s : State) (n : Shaft) (q : Nat) (d : QDesc) :
    (s.setQueue n q d).sh n = { s.sh n with queues := Tbl.set QDesc.zero (s.sh n).queues q d } := s.sh_updSh_same n _

theorem State.queue_of_sh {a : State} (e : (a.sh n).queues = (s.sh n).queues) (j : Nat) : a.queue n j = s.queue n j := by
  rw [State.queue, e, ← State.queue]

/-! ### The push -/

/-- Tub `x` in the slot at WR of queue `q`, and WR advanced. -/
def State.withEntry (s : State) (n : Shaft) (q : Nat) (x : Tub) : State :=
  (s.setQueue n q (s.queue n q).pushed).setSlot n ((s.queue n q).base.toNat + (s.queue n q).slot (s.queue n q).wr) x

theorem State.sh_withEntry : (s.withEntry n q x).sh n =
    { s.sh n with
      queues := Tbl.set QDesc.zero (s.sh n).queues q (s.queue n q).pushed
      slots := Tbl.set Tub.zero (s.sh n).slots ((s.queue n q).base.toNat + (s.queue n q).slot (s.queue n q).wr) x } := by
  rw [State.withEntry, State.sh_setSlot, State.sh_setQueue]

/-- R253, R251: a push onto a queue with room is accepted, unless it may wait and another waits already. -/
theorem State.applyPush_of_room (hroom : (s.queue n q).Room) {canWait : Bool}
    (hfirst : canWait = true → ∀ w ∈ (s.sh n).pushWaits, w.queue ≠ q) : s.applyPush n q x canWait = (s.withEntry n q x, .accepted) := by
  have hnone : (canWait && (s.sh n).pushWaits.any (fun w => decide (w.queue = q))) = false := by
    cases canWait
    · rfl
    · simpa using hfirst rfl
  simp [State.applyPush, QDesc.push_of_room hroom, Bool.and_assoc, hnone, State.putQueue, State.ringWrite, State.withEntry,
    QDesc.pushed, hroom.place]

/-- What a producer is told of a push that was accepted changes its thread or sends a result, and nothing else of the shaft. -/
theorem State.deliverPush_accepted_keeps {α : Type} (proj : ShaftSt → α)
    (h : ∀ y th fl, proj { y with threads := th, flights := fl } = proj y) (by_ : Producer) (sets : Bool) :
    proj ((s.deliverPush n q x by_ .accepted sets).sh n) = proj (s.sh n) := by
  cases by_ with
  | hewer hw k => exact (congrArg proj (s.sh_updThread n hw k _)).trans (h _ _ (s.sh n).flights)
  | stope k i => exact (congrArg proj (s.sh_updSh_same n _)).trans (h _ (s.sh n).threads _)
  | portal | host | egress | intake | gone => rfl

theorem State.thread_deliverPush_accepted (hw k : Nat) (sets : Bool) : (s.deliverPush n q x (.hewer hw k) .accepted sets).thread n hw k =
    { s.thread n hw k with t := if sets then false else (s.thread n hw k).t, stall := .none } :=
  s.thread_updThread_same n hw k _

/-! ### The end of the slot -/

theorem State.finishQueue_of_settled (hvalid : (s.queue n q).valid = true) (hpend : (s.queue n q).pend = false) :
    s.finishQueue n q = (s.setQueue n q (s.queue n q).watermark).fcPins n := by
  rw [State.finishQueue, if_pos hvalid, QDesc.finish_of_settled hpend]
  rfl

theorem State.sh_finishQueue_of_settled (hvalid : (s.queue n q).valid = true) (hpend : (s.queue n q).pend = false) :
    (s.finishQueue n q).sh n = { s.sh n with queues := Tbl.set QDesc.zero (s.sh n).queues q (s.queue n q).watermark } := by
  rw [State.finishQueue_of_settled hvalid hpend, State.fcPins, State.sh_setReg, State.sh_setQueue]

/-- R250: the slot's command, when none waits for the queue. -/
theorem State.slotCommand_of_none (hcmd : ∀ op, (s.sh n).queueCmd ≠ some (op, q)) : s.slotCommand n q = s := by
  unfold State.slotCommand
  split
  · rfl
  · next op k h => exact if_neg fun hk => hcmd op (h.trans (by rw [hk]))

/-- Queue `q` of `t` is that of `s` with `x` pushed, after the watermark step (R256), and the other queues are those of `s`. -/
structure State.TakesPush (s t : State) (n : Shaft) (q : Nat) (x : Tub) : Prop where
  queue : t.queue n q = (s.queue n q).pushed.watermark
  slot : t.slot n ((s.queue n q).base.toNat + (s.queue n q).slot (s.queue n q).wr) = x
  others : ∀ j, j ≠ q → t.queue n j = s.queue n j

/-- A slot that ends with the push applied, `b`: the descriptor of `q` is all that its end changes in the shaft. -/
theorem State.takesPush_finishQueue {b : State} (hroom : (s.queue n q).Room)
    (hqueues : (b.sh n).queues = ((s.withEntry n q x).sh n).queues) (hslots : (b.sh n).slots = ((s.withEntry n q x).sh n).slots) :
    s.TakesPush (b.finishQueue n q) n q x ∧ ∃ qs, (b.finishQueue n q).sh n = { b.sh n with queues := qs } := by
  rw [State.sh_withEntry] at hqueues hslots
  have hq : b.queue n q = (s.queue n q).pushed := by rw [State.queue, hqueues, Tbl.get_set_same]
  have hsh := State.sh_finishQueue_of_settled (s := b) (n := n) (q := q) (by rw [hq]; exact hroom.valid) (by rw [hq]; exact hroom.pend)
  refine ⟨⟨?queue, ?slot, fun j hj => ?others⟩, _, hsh⟩
  case queue => rw [State.queue, hsh, Tbl.get_set_same, hq]
  case slot => rw [State.slot, hsh, hslots, Tbl.get_set_same]
  case others => rw [State.queue, hsh, Tbl.get_set_other _ _ _ hj, hqueues, Tbl.get_set_other _ _ _ hj, ← State.queue]

/-! ### QUEUE_SLOT and PUSH_WAIT_END -/

/-- The operations that wait at the queue manager are those of `l`. -/
def State.withOps (s : State) (n : Shaft) (l : List QOp) : State := s.updSh n (fun h => { h with qops := l })

/-- The producers that wait for room are those of `l`. -/
def State.withWaits (s : State) (n : Shaft) (l : List PushWait) : State := s.updSh n (fun h => { h with pushWaits := l })

theorem State.sh_withOps (l : List QOp) : (s.withOps n l).sh n = { s.sh n with qops := l } := s.sh_updSh_same n _
theorem State.sh_withWaits (l : List PushWait) : (s.withWaits n l).sh n = { s.sh n with pushWaits := l } := s.sh_updSh_same n _

theorem State.queue_withOps (l : List QOp) : (s.withOps n l).queue n q = s.queue n q := State.queue_of_sh (by rw [State.sh_withOps]) q
theorem State.queue_withWaits (l : List PushWait) : (s.withWaits n l).queue n q = s.queue n q := State.queue_of_sh (by rw [State.sh_withWaits]) q

theorem State.takeOp_of_none {p : StopeQop → Bool} (h : ∀ o ∈ (s.sh n).qops, p o.op = false) : s.takeOp n q p = none := by
  rw [State.takeOp, takeFirst_eq_none fun o ho => by rw [h o ho, Bool.and_false]]

theorem StopeQop.isPush_iff {o : StopeQop} : o.isPush = true ↔ ∃ t, o = .push t := by
  cases o <;> simp [StopeQop.isPush]

/-- R251: a slot in which nothing but pushes waits. -/
theorem State.oneSlot_of_pushes (h : ∀ o ∈ (s.sh n).qops, o.op.isPush = true) : s.oneSlot n q = (s.slotPush n q).slotEnd n q := by
  have hnone (p : StopeQop → Bool) (hp : ∀ t, p (.push t) = false) : s.takeOp n q p = none :=
    State.takeOp_of_none fun o ho => by
      obtain ⟨t, ht⟩ := StopeQop.isPush_iff.mp (h o ho)
      rw [ht, hp]
  have hrewind : s.slotRewind n q = s := by rw [State.slotRewind, hnone _ fun _ => rfl]
  have hmark : s.slotMark n q = s := by rw [State.slotMark, hnone _ fun _ => rfl]
  have hpop : s.slotPop n q = s := by rw [State.slotPop, hnone _ fun _ => rfl]
  rw [State.oneSlot, hrewind, hmark, hpop]

/-- The slot's push, when one waits on a queue with room and nobody waits for its outcome. -/
theorem State.slotPush_of_room (hops : (s.sh n).qops = [⟨q, .push x, .gone⟩]) (hroom : (s.queue n q).Room)
    (hfirst : ∀ w ∈ (s.sh n).pushWaits, w.queue ≠ q) : s.slotPush n q = (s.withOps n []).withEntry n q x := by
  have htake : s.takeOp n q StopeQop.isPush = some (⟨q, .push x, .gone⟩, s.withOps n []) := by
    simp [State.takeOp, State.withOps, hops, takeFirst, StopeQop.isPush]
  have happly := State.applyPush_of_room (s := s.withOps n []) (x := x) (canWait := true) (State.queue_withOps (s := s) [] ▸ hroom)
    (fun _ => by rw [State.sh_withOps]; exact hfirst)
  simp [State.slotPush, htake, State.hostFull, happly, State.deliverPush]

/-- R251: the slot in which that push is all that waits. -/
theorem State.queueSlot_of_room (hworks : s.works n .QMG = true) (hops : (s.sh n).qops = [⟨q, .push x, .gone⟩]) (hroom : (s.queue n q).Room)
    (hfirst : ∀ w ∈ (s.sh n).pushWaits, w.queue ≠ q) (hcmd : ∀ op, (s.sh n).queueCmd ≠ some (op, q)) :
    let t := ((s.withOps n []).withEntry n q x).finishQueue n q
    s.queueSlot n q = t ∧ s.TakesPush t n q x ∧ (t.sh n).qops = [] := by
  have hsh : ((s.withOps n []).withEntry n q x).sh n = { (s.withEntry n q x).sh n with qops := [] } := by
    simp only [State.sh_withEntry, State.queue_withOps, State.sh_withOps]
  obtain ⟨ht, qs, hend⟩ := State.takesPush_finishQueue (s := s) (x := x) (b := (s.withOps n []).withEntry n q x) hroom (by rw [hsh]) (by rw [hsh])
  refine ⟨?slot, ht, ?left⟩
  case slot =>
    have hpushes : ∀ o ∈ (s.sh n).qops, o.op.isPush = true := by simp [hops, StopeQop.isPush]
    rw [State.queueSlot, if_pos hworks, State.oneSlot_of_pushes hpushes, State.slotPush_of_room hops hroom hfirst, State.slotEnd,
      State.slotCommand_of_none (by rw [hsh, State.sh_withEntry]; exact hcmd)]
  case left => rw [hend, hsh]

/-- PUSH_WAIT_END takes the first producer that waits on the queue, when its push is accepted. -/
theorem State.pushWaitEnd_of_room {by_ : Producer} {sets : Bool} {before after : List PushWait} (hworks : s.works n .QMG = true)
    (hwaits : (s.sh n).pushWaits = before ++ ⟨q, x, by_, sets⟩ :: after) (hfirst : ∀ w ∈ before, w.queue ≠ q) (hroom : (s.queue n q).Room) :
    s.pushWaitEnd n q = (((s.withWaits n (before ++ after)).withEntry n q x).deliverPush n q x by_ .accepted sets).finishQueue n q := by
  have htake : takeFirst (fun w : PushWait => decide (w.queue = q)) (s.sh n).pushWaits = some (⟨q, x, by_, sets⟩, before ++ after) := by
    rw [hwaits, takeFirst_append before after (fun w hw => decide_eq_false (hfirst w hw)) (decide_eq_true rfl)]
  have happly := State.applyPush_of_room (s := s.withWaits n (before ++ after)) (x := x) (canWait := false)
    (State.queue_withWaits (s := s) _ ▸ hroom) nofun
  rw [State.withWaits] at happly ⊢
  simp [State.pushWaitEnd, htake, QDesc.push_of_room hroom, hworks, happly]

/-- R257: what that leaves, with `l` the producers that still wait. -/
theorem State.pushEnds_of_room (l : List PushWait) (by_ : Producer) (sets : Bool) (hroom : (s.queue n q).Room) :
    let t := (((s.withWaits n l).withEntry n q x).deliverPush n q x by_ .accepted sets).finishQueue n q
    s.TakesPush t n q x ∧ (t.sh n).pushWaits = l ∧
      ∀ hw k, by_ = .hewer hw k → t.thread n hw k = { s.thread n hw k with t := if sets then false else (s.thread n hw k).t, stall := .none } := by
  let a := (s.withWaits n l).withEntry n q x
  have hsh : a.sh n = { (s.withEntry n q x).sh n with pushWaits := l } := by
    simp only [a, State.sh_withEntry, State.queue_withWaits, State.sh_withWaits]
  have hkeeps {α : Type} (proj : ShaftSt → α) (h : ∀ y th fl, proj { y with threads := th, flights := fl } = proj y) :
      proj ((a.deliverPush n q x by_ .accepted sets).sh n) = proj (a.sh n) := State.deliverPush_accepted_keeps proj h by_ sets
  obtain ⟨ht, qs, hend⟩ := State.takesPush_finishQueue (s := s) (x := x) (b := a.deliverPush n q x by_ .accepted sets) hroom
    ((hkeeps ShaftSt.queues fun _ _ _ => rfl).trans (by rw [hsh])) ((hkeeps ShaftSt.slots fun _ _ _ => rfl).trans (by rw [hsh]))
  refine ⟨ht, ?left, ?thread⟩
  case left =>
    rw [hend]
    exact (hkeeps ShaftSt.pushWaits fun _ _ _ => rfl).trans (by rw [hsh])
  case thread =>
    rintro hw k rfl
    rw [State.thread_of_sh (s := a.deliverPush n q x (.hewer hw k) .accepted sets) (by rw [hend]), State.thread_deliverPush_accepted,
      State.thread_of_sh (s := s) (a := a) (by rw [hsh, State.sh_withEntry])]

/-- R257: it leaves that producer waiting while the push would still wait. -/
theorem State.pushWaitEnd_of_waits {w : PushWait} {before after : List PushWait} (hwaits : (s.sh n).pushWaits = before ++ w :: after)
    (hq : w.queue = q) (hfirst : ∀ w ∈ before, w.queue ≠ q) (hpush : ((s.queue n q).push q w.tub true s.fab).out = .waits) :
    s.pushWaitEnd n q = s := by
  have htake : takeFirst (fun w : PushWait => decide (w.queue = q)) (s.sh n).pushWaits = some (w, before ++ after) := by
    rw [hwaits, takeFirst_append before after (fun w hw => decide_eq_false (hfirst w hw)) (decide_eq_true hq)]
  simp [State.pushWaitEnd, htake, hpush]

end Sys2Proof.Machine
end

section
/-! SUPPORT. What the host sees of an entry it popped (R264), and a read of a ring in claim memory that returns (R249). -/

namespace Sys2Proof.Machine

variable {s : State} {n : Shaft}

/-! ### HOST_TUB and HOST_STAT -/

theorem State.log_setReg (s : State) (n : Shaft) (f : Fld) (v e : Nat) : (s.setReg n f v e).log = s.log := rfl

/-- The first `k` elements of a register array after each has been written. -/
theorem State.reg_foldl_setReg_elem {f : Fld} {v : Nat → Nat} {j : Nat} : ∀ {k : Nat}, j < k →
    ((List.range k).foldl (fun a i => a.setReg n f (v i) i) s).reg n f j = v j % 2 ^ f.desc.width
  | k + 1, hj => by
    rw [List.range_succ, List.foldl_append, List.foldl_cons, List.foldl_nil]
    by_cases hk : j = k
    · rw [hk, State.reg_setReg_same]
    · rw [State.reg_setReg_elem hk, State.reg_foldl_setReg_elem (by omega)]

/-- The body of a tub in HOST_TUB. -/
def State.showHostTub (s : State) (n : Shaft) (x : Tub) : State :=
  (List.range 16).foldl (fun a i => a.setReg n .QMG_HOST_TUB_DATA (x.field (4 * i) 0 32).toNat i) s

theorem State.data_showHostTub {j : Nat} (hj : j < 16) (x : Tub) :
    (s.showHostTub n x).reg n .QMG_HOST_TUB_DATA j = (x.body.extractLsb' (32 * j) 32).toNat := by
  refine (State.reg_foldl_setReg_elem hj).trans ((Nat.mod_eq_of_lt (BitVec.isLt _)).trans ?_)
  rw [Tub.field, show 8 * (4 * j) + 0 = 32 * j by omega]

/-- HOST_TUB is all that it writes. -/
theorem State.showHostTub_keeps {α : Type} (proj : State → α) (h : ∀ (a : State) (v e : Nat), proj (a.setReg n .QMG_HOST_TUB_DATA v e) = proj a)
    (x : Tub) : proj (s.showHostTub n x) = proj s :=
  foldl_keeps (fun a => proj a = proj s) _ (fun a _ ha => (h a _ _).trans ha) _ s rfl

theorem State.deliverPop_host (x : Tub) (underrun : Bool) : s.deliverPop n .host x underrun false =
    ((s.showHostTub n x).setReg n .QMG_HOST_STAT_CLASS x.cls.toNat).hostEnds n (if underrun then 3 else 1) := rfl

/-- What HOST_STAT and HOST_TUB show of a pop of entry `x` that ended, and what it leaves. -/
structure State.HostPopped (s t : State) (n : Shaft) (x : Tub) (underrun : Bool) : Prop where
  busy : t.reg n .QMG_HOST_STAT_BUSY = 0
  result : t.reg n .QMG_HOST_STAT_RESULT = if underrun then 3 else 1
  cls : t.reg n .QMG_HOST_STAT_CLASS = x.cls.toNat
  data : ∀ j, j < 16 → t.reg n .QMG_HOST_TUB_DATA j = (x.body.extractLsb' (32 * j) 32).toNat
  sh : t.sh n = s.sh n
  log : t.log = s.log
  reg : ∀ f ∉ [Fld.QMG_HOST_STAT_BUSY, .QMG_HOST_STAT_RESULT, .QMG_HOST_STAT_CLASS, .QMG_HOST_TUB_DATA], ∀ e, t.reg n f e = s.reg n f e

theorem State.hostPopped_deliverPop (x : Tub) (underrun : Bool) : s.HostPopped (s.deliverPop n .host x underrun false) n x underrun := by
  rw [State.deliverPop_host, State.hostEnds]
  refine ⟨?busy, ?result, ?cls, fun j hj => ?data, ?sh, ?log, fun f hf e => ?reg⟩
  case busy => exact State.reg_setReg_same ..
  case result =>
    rw [State.reg_setReg_field (by decide), State.reg_setReg_same]
    cases underrun <;> rfl
  case cls =>
    rw [State.reg_setReg_field (by decide), State.reg_setReg_field (by decide), State.reg_setReg_same]
    exact Nat.mod_eq_of_lt x.cls.isLt
  case data =>
    rw [State.reg_setReg_field (by decide), State.reg_setReg_field (by decide), State.reg_setReg_field (by decide), State.data_showHostTub hj]
  case sh =>
    rw [State.sh_setReg, State.sh_setReg, State.sh_setReg]
    exact State.showHostTub_keeps (·.sh n) (fun a v e => a.sh_setReg n n _ v e) x
  case log =>
    rw [State.log_setReg, State.log_setReg, State.log_setReg]
    exact State.showHostTub_keeps (·.log) (fun a v e => a.log_setReg n _ v e) x
  case reg =>
    simp only [List.mem_cons, List.not_mem_nil, or_false, not_or] at hf
    obtain ⟨hbusy, hresult, hcls, hdata⟩ := hf
    rw [State.reg_setReg_field hbusy, State.reg_setReg_field hresult, State.reg_setReg_field hcls]
    exact State.showHostTub_keeps (·.reg n f e) (fun a v i => State.reg_setReg_field hdata) x

/-! ### DEEP_RING_REPLY -/

theorem Tub.cls_marker (kind : BitVec 8) (pend : Bool) (q : Nat) (first last : BitVec 64) (count : BitVec 32) :
    (Tub.marker kind pend q first last count).cls = Cls.MRK := rfl

/-- Access `i` to a ring in claim memory is no longer with the backing portal. -/
def State.ringOpTaken (s : State) (n : Shaft) (i : Nat) : State := s.updSh n (fun h => { h with ringOps := dropNth (s.sh n).ringOps i })

/-- That access, which returned with an error, counted and logged (R249). -/
def State.deepErr (s : State) (n : Shaft) (q slot : Nat) : State :=
  (s.addReg n .QMG_STAT4_DEEP_ERR).shEvent n 0x0602 Sev.warning 0xFFFF (detail q slot 1)

theorem State.reg_deepErr (q slot : Nat) : (s.deepErr n q slot).reg n .QMG_STAT4_DEEP_ERR = min (s.reg n .QMG_STAT4_DEEP_ERR + 1) 65535 :=
  (State.reg_shEvent _ _ _ _ _ _ _ (by decide)).trans (State.reg_addReg_same ..)

theorem State.log_deepErr (q slot : Nat) (hlog : s.log.length < 4096) :
    ∃ e : LogEntry, (s.deepErr n q slot).log = s.log ++ [e] ∧ e.code = 0x0602 := by
  rw [State.deepErr, State.shEvent, State.event_room (s.addReg n .QMG_STAT4_DEEP_ERR) _ _ _ _ _ hlog]
  exact ⟨_, rfl, rfl⟩

variable {q slot i : Nat} {by_ : Producer} {u : Bool} (hop : (s.sh n).ringOps[i]? = some ⟨q, slot, false, by_, u, true⟩)
include hop

/-- R249: the entry read goes to whoever popped it. -/
theorem State.ringReply_of_read (x : Tub) : s.ringReply n i x false =
    (s.ringOpTaken n i).deliverPop n by_ x u false := by
  simp [State.ringReply, State.ringOpTaken, hop]

/-- R249: a read that returns an error counts and is logged, and gives a MEMERR marker. -/
theorem State.ringReply_of_error (x : Tub) : s.ringReply n i x true =
    ((s.ringOpTaken n i).deepErr n q slot).deliverPop n by_ (Tub.marker 0x02 false q s.fab s.fab 1) u false := by
  simp [State.ringReply, State.ringOpTaken, State.deepErr, hop]

end Sys2Proof.Machine
end

section
/-! QUEUE_SLOT, PUSH_WAIT_END and DEEP_RING_REPLY (R249, R251, R257). -/

namespace Sys2Proof.Machine

/-- Settles O38: each command to the state it leaves, and what `State.TakesPush` and `State.HostPopped` say of that state. -/
theorem queueSteps : Obligations.QueueSteps := by
  unfold Obligations.QueueSteps
  intro s n q x d h room pushed
  have hroomOf : room → d.Room := fun ⟨hvalid, hplace, hpend, htail, hmode, hfits⟩ => ⟨hvalid, hplace, hpend, htail, hmode, hfits⟩
  refine ⟨fun hworks => ⟨?slot, fun by_ sets before after hwaits hfirst => ⟨?ends, ?waits⟩⟩, fun i slot u hop _ => ⟨?read, ?error⟩⟩
  case slot =>
    intro hops hfirst hcmd hroom
    obtain ⟨hexec, ht, hleft⟩ := State.queueSlot_of_room hworks hops (hroomOf hroom) hfirst hcmd
    exact ⟨_, congrArg Host.Outcome.next hexec, ⟨ht.queue, ht.slot, ht.others⟩, hleft⟩
  case ends =>
    intro hroom
    obtain ⟨ht, hleft, hthread⟩ := State.pushEnds_of_room (before ++ after) by_ sets (hroomOf hroom)
    exact ⟨_, congrArg Host.Outcome.next (State.pushWaitEnd_of_room hworks hwaits hfirst (hroomOf hroom)), ⟨ht.queue, ht.slot, ht.others⟩,
      hleft, hthread⟩
  case waits =>
    intro hvalid hwait hpend htail hfull
    exact congrArg Host.Outcome.next (State.pushWaitEnd_of_waits hwaits rfl hfirst (QDesc.push_of_full hvalid hwait hpend htail hfull ..))
  case read =>
    have hp := (s.ringOpTaken n i).hostPopped_deliverPop (n := n) x u
    refine ⟨_, congrArg Host.Outcome.next (State.ringReply_of_read hop x), ?_, hp.busy, hp.result, hp.cls, hp.data, hp.log⟩
    rw [hp.sh, State.ringOpTaken, State.sh_updSh_same, dropNth]
  case error =>
    have hp := ((s.ringOpTaken n i).deepErr n q slot).hostPopped_deliverPop (n := n) (Tub.marker 0x02 false q s.fab s.fab 1) u
    refine ⟨_, congrArg Host.Outcome.next (State.ringReply_of_error hop x), hp.cls.trans (by rw [Tub.cls_marker]; rfl),
      (hp.reg _ (by decide) 0).trans (State.reg_deepErr q slot), fun hlog => ?_⟩
    rw [hp.log]
    exact State.log_deepErr q slot hlog

end Sys2Proof.Machine
end

section
/-! SUPPORT. Views of the device: what shows none of the registers that an operation writes, and nothing of a shaft, is the same after it. -/

namespace Sys2Proof.Machine

/-- A view of the device that shows of its registers only the fields `seen`, of shaft `n` only the retired Lode blocks, and neither the log nor the
free values. -/
structure Blind {α : Type} (view : State → α) (n : Shaft) (seen : List Fld) : Prop where
  setF : ∀ (a : State) {f : Fld} (sc e v : Nat), f ∉ seen → view (a.setF f sc e v) = view a
  updSh : ∀ (a : State) {F : ShaftSt → ShaftSt} (_ : ∀ h, (F h).retiredBlocks = h.retiredBlocks := by intro; rfl), view (a.updSh n F) = view a
  event : ∀ (a : State) (c : BitVec 16) (v : BitVec 8) (src unit : Nat) (d : BitVec 96), view (a.event c v src unit d) = view a
  free : ∀ a : State, view a.free.2 = view a

namespace Blind

variable {n m : Shaft}

theorem resetsDue : Blind State.resetsDue n [] where
  setF _ _ _ _ _ _ := rfl
  updSh _ _ _ := rfl
  event a := a.event_resetsDue
  free _ := rfl

theorem up : Blind State.up n [] where
  setF _ _ _ _ _ _ := rfl
  updSh _ _ _ := rfl
  event a := a.event_up
  free _ := rfl

theorem act : Blind State.act n [] where
  setF _ _ _ _ _ _ := rfl
  updSh _ _ _ := rfl
  event a := a.event_act
  free _ := rfl

theorem flash : Blind State.flash n [] where
  setF _ _ _ _ _ _ := rfl
  updSh _ _ _ := rfl
  event a := a.event_flash
  free _ := rfl

/-- A register field, but the count of events dropped. -/
theorem getF {f : Fld} (hf : f ≠ .EVL_STAT_DROPPED) (sc e : Nat) : Blind (fun a => a.getF f sc e) n [f] where
  setF a _ _ _ v hg := a.getF_setF_field v (fun he => hg (List.mem_singleton.mpr he.symm))
  updSh _ _ _ := rfl
  event a c v src unit d := a.event_getF c v src unit d hf sc e
  free _ := rfl

theorem retiredBlocks : Blind (fun a => (a.sh m).retiredBlocks) n [] where
  setF _ _ _ _ _ _ := rfl
  updSh a F hF := by
    by_cases hm : m = n
    · subst hm
      simpa using hF _
    · exact congrArg ShaftSt.retiredBlocks (a.sh_updSh_other F hm)
  event a c v src unit d := congrArg ShaftSt.retiredBlocks (a.sh_event c v src unit d m)
  free _ := rfl

/-- Another shaft. -/
theorem otherShaft (hm : m ≠ n) : Blind (fun a => a.sh m) n [] where
  setF _ _ _ _ _ _ := rfl
  updSh a F _ := a.sh_updSh_other F hm
  event a c v src unit d := a.sh_event c v src unit d m
  free _ := rfl

end Blind

/-- What each step of a fold leaves of a view, the fold leaves of it. -/
theorem foldl_view {α β : Type} {view : State → α} (f : State → β → State) (hf : ∀ a x, view (f a x) = view a) (l : List β) (s : State) :
    view (l.foldl f s) = view s := foldl_keeps (fun a => view a = view s) f (fun a x ha => (hf a x).trans ha) l s rfl

end Sys2Proof.Machine
end

section
/-! SUPPORT. The revert of an activation (R395) and a restart of the Foreman (R437): what each shows, and what neither touches. -/

namespace Sys2Proof.Machine

/-- The fields that the undoing of an activation writes. -/
def undoFields : List Fld := [.CTX_STOPE_SH_STATE, .CTX_SLOT_STATE, .HWR_EPOCH_LOADED0, .HWR_EPOCH_LOADED1, .HWR_EPOCH_ARMED]

/-- What is undone of an activation shows in its fields and in the shafts alone. -/
theorem Blind.undo {α : Type} {view : State → α} {seen : List Fld} (hview : ∀ n, Blind view n seen) (hseen : ∀ f ∈ undoFields, f ∉ seen) (s : State)
    (a : Activation) : view (s.undo a) = view s := by
  have hreg : ∀ (x : State) (n : Shaft) (f : Fld) (v e : Nat), f ∈ undoFields → view (x.setReg n f v e) = view x :=
    fun x n f v e hf => (hview n).setF x n.val e v (hseen f hf)
  have hslot : ∀ (x : State) (n : Shaft) (k c : Nat), view (x.emptySlot n k c) = view x := fun x n k c =>
    ((hview n).updSh _).trans (hreg x n .CTX_SLOT_STATE _ _ (by decide))
  have hshadow : ∀ (x : State) (n : Shaft) (k : Nat), view (x.emptyShadow n k) = view x := fun x n k => hreg x n _ _ _ (by decide)
  have hloaded : ∀ (x : State) (n : Shaft) (b : Bool), view (x.setLoaded n b false) = view x := fun x n b => by
    cases b <;> exact hreg x n _ _ _ (by decide)
  simp only [State.undo, State.eachShaft]
  rw [foldl_view (view := view) _ (fun x n => ?armed), foldl_view (view := view) _ (fun x e => hloaded x _ _), foldl_view (view := view) _ (fun x e => hslot x _ _ _),
    foldl_view (view := view) _ (fun x e => hshadow x _ _), foldl_view (view := view) _ (fun x n => (hview n).updSh x)]
  case armed =>
    split
    · exact hreg x n _ _ _ (by decide)
    · rfl

/-- A view of the device that shows nothing of the Foreman and nothing of the activation on its way. -/
def OffForeman {α : Type} (view : State → α) : Prop :=
  ∀ (a : State) (u : Bool) (c t k : Nat) (l : List Tub) (x : Option Activation),
    view { a with foreUp := u, foreCause := c, foreAt := t, foreDropped := k, foreIn := l, act := x } = view a

section
variable {α : Type} {view : State → α} {seen : List Fld}

theorem Blind.foreRestart {n : Shaft} (hview : Blind view n seen) (hoff : OffForeman view) (hseen : .DEV_ATTN_FORE_UNPLANNED ∉ seen) (s : State)
    (cause : Nat) : view (s.foreRestart cause) = view s := by
  have hevent : view s.foreEvent = view s := by
    rw [State.foreEvent]
    split
    · rfl
    · exact (hoff _ _ 0 _ _ _ _).trans (hview.event s ..)
  simp only [State.foreRestart]
  refine (hoff _ _ _ _ _ _ _).trans ?_
  have hbefore : view (if s.foreUp then s else s.foreEvent) = view s := by
    split
    · rfl
    · exact hevent
  split
  · exact (hview.setF _ 8 0 1 hseen).trans hbefore
  · exact hbefore

/-- What a revert leaves of a view: it writes the fields of what it undoes, STATE, FAIL and FORE_UNPLANNED. -/
theorem Blind.revert (hview : ∀ n, Blind view n seen) (hoff : OffForeman view)
    (hseen : ∀ f ∈ [.DEV_ATTN_FORE_UNPLANNED, .IMG_STATE_STATE, .IMG_FAIL_CAUSE, .IMG_FAIL_DETAIL, .IMG_FAIL_PART_PART] ++ undoFields, f ∉ seen) (s : State)
    (cause det part : Nat) : view (s.revert cause det part) = view s := by
  have hdev : ∀ (x : State) (f : Fld) (v : Nat), f ∈ [.IMG_STATE_STATE, .IMG_FAIL_CAUSE, .IMG_FAIL_DETAIL, .IMG_FAIL_PART_PART] →
      view (x.setDev f v) = view x := fun x f v hf =>
    (hview 0).setF x 8 0 v (hseen f (List.mem_append_left _ (List.mem_cons_of_mem _ hf)))
  have hback : ∀ a, view (((s.undo a).imgFail cause det part).setImg Img.REVERTING) = view s := fun a => by
    rw [State.setImg, State.imgFail, hdev _ _ _ (by decide), hdev _ _ _ (by decide), hdev _ _ _ (by decide), hdev _ _ _ (by decide),
      Blind.undo hview (fun f hf => hseen f (List.mem_append_right _ hf))]
  rw [State.revert]
  split
  · rfl
  · refine (hoff _ _ _ _ _ _ _).trans ?_
    split
    · exact ((hview 0).foreRestart hoff (hseen _ (by decide)) _ _).trans (hback _)
    · exact hback _

theorem Blind.revertIf (hview : ∀ n, Blind view n seen) (hoff : OffForeman view)
    (hseen : ∀ f ∈ [.DEV_ATTN_FORE_UNPLANNED, .IMG_STATE_STATE, .IMG_FAIL_CAUSE, .IMG_FAIL_DETAIL, .IMG_FAIL_PART_PART] ++ undoFields, f ∉ seen) (s : State)
    (c : Bool) (cause : Nat) : view (s.revertIf c cause) = view s := by
  rw [State.revertIf]
  split
  · exact Blind.revert hview hoff hseen s ..
  · rfl

end

/-- Nothing reverts while nothing stages. -/
theorem State.revertIf_of_not_staging {s : State} (h : s.staging = false) (c : Bool) (cause : Nat) : s.revertIf c cause = s := by
  rw [State.revertIf, h, Bool.false_and, if_neg (by decide)]

/-- A restart of the Foreman takes it out of service now, with nothing waiting for it. -/
theorem State.foreRestart_down (s : State) (cause : Nat) :
    (s.foreRestart cause).foreUp = false ∧ (s.foreRestart cause).foreAt = s.up ∧ (s.foreRestart cause).foreIn = [] := ⟨rfl, rfl, rfl⟩

/-- It writes no field of the device-common window but the count of events dropped and FORE_UNPLANNED. -/
theorem State.dev_foreRestart (s : State) (cause : Nat) {f : Fld} (hf : f ≠ .EVL_STAT_DROPPED) (hu : f ≠ .DEV_ATTN_FORE_UNPLANNED) (e : Nat) :
    (s.foreRestart cause).dev f e = s.dev f e :=
  (Blind.getF (n := 0) hf 8 e).foreRestart (fun _ _ _ _ _ _ _ => rfl) (fun h => hu (List.mem_singleton.mp h).symm) s cause

/-- R437: one that nothing planned sets FORE_UNPLANNED. -/
theorem State.foreRestart_unplanned (s : State) {cause : Nat} (h : cause = Fcause.LOCKSTEP ∨ cause = Fcause.HEARTBEAT) :
    (s.foreRestart cause).dev .DEV_ATTN_FORE_UNPLANNED = 1 := by
  simp only [State.foreRestart, if_pos h]
  exact State.dev_setDev_same _ .DEV_ATTN_FORE_UNPLANNED 1 0

/-- R395: an activation that reverts shows REVERTING and the cause. -/
theorem State.revert_shows {s : State} {a : Activation} (h : s.act = some a) (cause det part : Nat) :
    (s.revert cause det part).img = Img.REVERTING ∧ (s.revert cause det part).dev .IMG_FAIL_CAUSE = cause % 2 ^ 5 := by
  have hdev : ∀ f, f ≠ .EVL_STAT_DROPPED → f ≠ .DEV_ATTN_FORE_UNPLANNED →
      (s.revert cause det part).dev f = (((s.undo a).imgFail cause det part).setImg Img.REVERTING).dev f := fun f hf hu => by
    simp only [State.revert, h]
    split
    · exact State.dev_foreRestart _ _ hf hu 0
    · rfl
  refine ⟨(hdev _ (by decide) (by decide)).trans (State.dev_setDev_same ..), (hdev _ (by decide) (by decide)).trans ?_⟩
  rw [State.setImg, State.imgFail, State.dev_setDev_field (by decide), State.dev_setDev_field (by decide), State.dev_setDev_field (by decide)]
  exact State.dev_setDev_same ..

/-- R396: so does one that stages or is staged when it is met. -/
theorem State.revertIf_shows {s : State} {a : Activation} (hst : s.staging = true) (h : s.act = some a) (cause : Nat) :
    (s.revertIf true cause).img = Img.REVERTING ∧ (s.revertIf true cause).dev .IMG_FAIL_CAUSE = cause % 2 ^ 5 := by
  rw [State.revertIf, hst, if_pos (by decide)]
  exact State.revert_shows h cause 0 noPart

end Sys2Proof.Machine
end

section
/-! SUPPORT. The recovery of a golden frame (R323) to its outcome. -/

namespace Sys2Proof.Machine

variable {s : State} {n : Shaft} {a : Nat} {r : Recovery} {rest : List Recovery}

theorem takeFirst_accepts {α : Type} {p : α → Bool} {l rest : List α} {x : α} (h : takeFirst p l = some (x, rest)) : p x = true := by
  induction l generalizing rest with
  | nil => exact absurd h (by simp [takeFirst])
  | cons y l ih =>
    rw [takeFirst] at h
    split at h
    · next hy =>
      obtain ⟨rfl, -⟩ := Prod.mk.inj (Option.some.inj h)
      exact hy
    · split at h
      · exact absurd h (by simp)
      · next b t ht =>
        obtain ⟨rfl, -⟩ := Prod.mk.inj (Option.some.inj h)
        exact ih ht

section
variable (hfirst : takeFirst (fun r : Recovery => decide (r.frame = a)) (s.sh n).recoveries = some (r, rest))
include hfirst

/-- The recovery waits while the Foreman restarts, and while IMG or SCB is gated (R438, R400, R326). -/
theorem State.goldenDone_waits (h : s.foreUp = false ∨ s.devGated .IMG = true ∨ s.shGated n .SCB = true) : s.goldenDone n a = s := by
  have hwaits : (!s.foreUp || s.devGated .IMG || s.shGated n .SCB) = true := by
    rcases h with h | h | h <;> simp [h]
  simp only [State.goldenDone, hfirst, hwaits, if_true]

variable (hup : s.foreUp = true) (himg : s.devGated .IMG = false) (hscb : s.shGated n .SCB = false)
include hup himg hscb

/-- It takes the frame from flash, else from the active plane. -/
theorem State.goldenDone_back {x : BitVec 1024} (h : s.frameFromFlash n a = some x ∨ (s.frameFromFlash n a = none ∧ s.frameFromPlane n a = some x)) :
    ∃ how, s.goldenDone n a = (s.updSh n (fun h => { h with recoveries := rest })).frameBack n r x how := by
  rcases h with hf | ⟨hf, hp⟩
  · exact ⟨1, by simp [State.goldenDone, hfirst, hup, himg, hscb, hf]⟩
  · exact ⟨2, by simp [State.goldenDone, hfirst, hup, himg, hscb, hf, hp]⟩

theorem State.goldenDone_lost (hf : s.frameFromFlash n a = none) (hp : s.frameFromPlane n a = none) :
    s.goldenDone n a = (s.updSh n (fun h => { h with recoveries := rest })).frameLost n r := by
  simp [State.goldenDone, hfirst, hup, himg, hscb, hf, hp]

end

/-- The shaft with a frame back. -/
theorem State.sh_frameBack (x : BitVec 1024) (how : Nat) : (s.frameBack n r x how).sh n =
    { s.sh n with plan := Tbl.set 0 (s.sh n).plan r.frame x, suspect := (s.sh n).suspect.filter (fun y => y != r.frame) } := by
  rw [State.frameBack, State.sh_shEvent, State.sh_addReg, State.sh_updSh_same]

theorem State.recovered_frameBack (x : BitVec 1024) (how : Nat) : (s.frameBack n r x how).reg n .SCB_CNT3_RECOVERED =
    min (s.reg n .SCB_CNT3_RECOVERED + 1) (2 ^ Fld.SCB_CNT3_RECOVERED.desc.width - 1) := by
  rw [State.frameBack, State.reg_shEvent _ _ _ _ _ _ _ (by decide), State.reg_addReg_same, State.reg_updSh]

/-- The shaft that has lost a frame keeps everything: the loss shows in registers. -/
theorem State.sh_frameLost : (s.frameLost n r).sh n = s.sh n := by
  rw [State.frameLost, State.sh_shEvent]
  rfl

theorem State.frameLost_shows : (s.frameLost n r).reg n .CTX_SLOT_STATE (r.frame / 1024) = Slt.BAD ∧ (s.frameLost n r).reg n .SHF_ATTN_SCB_FRAME_LOST = 1 ∧
    (s.frameLost n r).reg n .SCB_CNT3_LOST = min (s.reg n .SCB_CNT3_LOST + 1) (2 ^ Fld.SCB_CNT3_LOST.desc.width - 1) := by
  have hevent : ∀ g e, g ≠ .EVL_STAT_DROPPED → (s.frameLost n r).reg n g e = _ := fun g e hg => State.reg_shEvent _ n n _ _ _ _ hg
  refine ⟨(hevent _ _ (by decide)).trans ?_, (hevent _ _ (by decide)).trans (State.reg_setReg_same ..), (hevent _ _ (by decide)).trans ?_⟩
  · rw [State.reg_setReg_field (by decide), State.reg_setReg_field (by decide), State.reg_setReg_field (by decide), State.reg_addReg_field _ _ _ _ (by decide)]
    exact State.reg_setReg_same ..
  · rw [State.reg_setReg_field (by decide), State.reg_setReg_field (by decide), State.reg_setReg_field (by decide), State.reg_addReg_same,
      State.reg_setReg_field (by decide)]

end Sys2Proof.Machine
end

section
/-! Golden recovery (R323), and the restart and the return of the Foreman (R437, R438). -/

namespace Sys2Proof.Machine

/-- R437: what a restart of the Foreman that is due leaves of the device. -/
theorem State.foreReset_leaves {s : State} {c : ForeCause} (hdue : (c = .asked ∧ .fore ∈ s.resetsDue ∧ s.boot = .done) ∨ (c ≠ .asked ∧ s.foreUp = true)) :
    ∃ cause, s.foreReset c = ((if c = .asked then s.takeAsk .fore else s).revertIf true Icf.RESET).foreRestart cause ∧
      (c ≠ .asked → cause = Fcause.LOCKSTEP ∨ cause = Fcause.HEARTBEAT) := by
  cases c with
  | asked =>
    obtain ⟨-, hmem, hboot⟩ | ⟨hne, -⟩ := hdue
    · refine ⟨Fcause.CAGE, ?_, fun h => absurd rfl h⟩
      simp [State.foreReset, hmem, State.takeAsk, hboot]
    · exact absurd rfl hne
  | lockstep =>
    obtain ⟨heq, -⟩ | ⟨-, hup⟩ := hdue
    · exact absurd heq (by decide)
    · exact ⟨Fcause.LOCKSTEP, by simp [State.foreReset, hup], fun _ => .inl rfl⟩
  | heartbeat =>
    obtain ⟨heq, -⟩ | ⟨-, hup⟩ := hdue
    · exact absurd heq (by decide)
    · exact ⟨Fcause.HEARTBEAT, by simp [State.foreReset, hup], fun _ => .inr rfl⟩

/-- Settles O50: the recovery to its three outcomes; a restart as the revert of what stages, then the Foreman down; the return with its event. -/
theorem foremanAndRecovery : Obligations.ForemanAndRecovery := by
  unfold Obligations.ForemanAndRecovery
  intro s
  refine ⟨fun n a r rest hfirst => ⟨fun h => congrArg Host.Outcome.next (State.goldenDone_waits hfirst h), fun hup himg hscb =>
    ⟨fun x hx => ?back, fun hf hp => ?lost⟩⟩, fun c hdue => ?restart, fun hdown hboot hpor hlog => ?ready, fun hup => ?stays⟩
  case back =>
    obtain rfl : r.frame = a := of_decide_eq_true (takeFirst_accepts (p := fun r : Recovery => decide (r.frame = a)) hfirst)
    obtain ⟨how, hdone⟩ := State.goldenDone_back hfirst hup himg hscb hx
    refine ⟨_, congrArg Host.Outcome.next hdone, ?_⟩
    rw [State.sh_frameBack, State.sh_updSh_same, State.recovered_frameBack, State.reg_updSh]
    exact ⟨Tbl.get_set_same .., by simp, rfl, fun b hb => Tbl.get_set_other _ _ _ hb, rfl⟩
  case lost =>
    obtain rfl : r.frame = a := of_decide_eq_true (takeFirst_accepts (p := fun r : Recovery => decide (r.frame = a)) hfirst)
    refine ⟨_, congrArg Host.Outcome.next (State.goldenDone_lost hfirst hup himg hscb hf hp), ?_⟩
    obtain ⟨hslot, hattn, hcount⟩ := State.frameLost_shows (s := s.updSh n (fun h => { h with recoveries := rest })) (n := n) (r := r)
    rw [State.sh_frameLost, State.sh_updSh_same]
    exact ⟨hslot, hattn, rfl, rfl, hcount⟩
  case restart =>
    obtain ⟨cause, hreset, hcause⟩ := State.foreReset_leaves hdue
    refine ⟨_, congrArg Host.Outcome.next hreset, rfl, ?up, rfl, fun hc => ?taken, fun hc => State.foreRestart_unplanned _ (hcause hc), fun hst hact => ?reverts⟩
    case up =>
      rw [(State.foreRestart_down _ _).2.1, Blind.revertIf (fun _ => Blind.up) (fun _ _ _ _ _ _ _ => rfl) (by decide)]
      split <;> rfl
    case taken =>
      rw [Blind.foreRestart (n := 0) Blind.resetsDue (fun _ _ _ _ _ _ _ => rfl) (by decide),
        Blind.revertIf (fun _ => Blind.resetsDue) (fun _ _ _ _ _ _ _ => rfl) (by decide), if_pos hc]
      simp [State.takeAsk]
    case reverts =>
      obtain ⟨a, ha⟩ := Option.ne_none_iff_exists'.mp hact
      obtain ⟨himg, hfail⟩ := State.revertIf_shows (s := if c = .asked then s.takeAsk .fore else s) (a := a) (by split <;> exact hst)
        (by split <;> exact ha) Icf.RESET
      exact ⟨(State.dev_foreRestart _ _ (by decide) (by decide) 0).trans himg, (State.dev_foreRestart _ _ (by decide) (by decide) 0).trans hfail⟩
  case ready =>
    have hexec : s.foremanReady = { s.foreEvent with foreUp := true, foreDropped := 0 } := by
      rw [State.foremanReady, if_neg (by simp [hdown, hboot, hpor])]
    refine ⟨_, congrArg Host.Outcome.next hexec, rfl, rfl, ?_, ?_⟩
    · simp only [State.foreEvent]
      split
      · rfl
      · exact State.event_shafts ..
    · simp only [State.foreEvent]
      split
      · rfl
      · rw [State.devEvent, State.event_room _ _ _ _ _ _ hlog]
        rfl
  case stays => exact congrArg Host.Outcome.next (if_pos (.inl hup))

end Sys2Proof.Machine
end

section
/-! SUPPORT. Fields that a reset takes back to their reset values (R15, R429). -/

namespace Sys2Proof.Machine

theorem Fld.ctorIdx_lt_count (f : Fld) : f.ctorIdx < 425 := by
  cases f <;> decide

/-- Each list of fields holds the next forty, and the last the rest. -/
theorem Fld.map_ctorIdx_parts : Fld.part0.map Fld.ctorIdx = List.range' 0 40 ∧ Fld.part1.map Fld.ctorIdx = List.range' 40 40 ∧
    Fld.part2.map Fld.ctorIdx = List.range' 80 40 ∧ Fld.part3.map Fld.ctorIdx = List.range' 120 40 ∧ Fld.part4.map Fld.ctorIdx = List.range' 160 40 ∧
    Fld.part5.map Fld.ctorIdx = List.range' 200 40 ∧ Fld.part6.map Fld.ctorIdx = List.range' 240 40 ∧ Fld.part7.map Fld.ctorIdx = List.range' 280 40 ∧
    Fld.part8.map Fld.ctorIdx = List.range' 320 40 ∧ Fld.part9.map Fld.ctorIdx = List.range' 360 40 ∧ Fld.part10.map Fld.ctorIdx = List.range' 400 25 :=
  ⟨rfl, rfl, rfl, rfl, rfl, rfl, rfl, rfl, rfl, rfl, rfl⟩

theorem Fld.map_ctorIdx_all : Fld.all.map Fld.ctorIdx = List.range 425 := by
  obtain ⟨h0, h1, h2, h3, h4, h5, h6, h7, h8, h9, h10⟩ := Fld.map_ctorIdx_parts
  simp only [Fld.all, List.map_append, h0, h1, h2, h3, h4, h5, h6, h7, h8, h9, h10, List.range_eq_range']
  iterate 10 rw [List.range'_append_1]

theorem Fld.all_getElem?_ctorIdx (f : Fld) : Fld.all[f.ctorIdx]? = some f := by
  have hmap : (Fld.all.map Fld.ctorIdx)[f.ctorIdx]? = some f.ctorIdx := by
    rw [Fld.map_ctorIdx_all, List.getElem?_range f.ctorIdx_lt_count]
  rw [List.getElem?_map] at hmap
  obtain ⟨g, hg, hidx⟩ := Option.map_eq_some_iff.mp hmap
  rw [hg, Fld.eq_of_ctorIdx hidx]
/-- The number of a field's entry tells the field, its window and its element. -/
theorem regEntry_key (f : Fld) {sc : Nat} (hsc : sc < 16) (e : Nat) : regEntry (f.key sc e) = some (f, sc, e) := by
  have hlt := f.ctorIdx_lt
  have hnum : f.key sc e % 512 = f.ctorIdx := by rw [Fld.key]; omega
  have hscope : f.key sc e / 512 % 16 = sc := by rw [Fld.key]; omega
  have helem : f.key sc e / 8192 = e := by rw [Fld.key]; omega
  rw [regEntry, hnum, hscope, helem, Fld.all_getElem?_ctorIdx, Option.map_some]

/-- What is read of a table of which the entries of some numbers have been taken out. -/
theorem Tbl.get_filter {V : Type} (d : V) (t : Tbl V) (p : Nat → Bool) (k : Nat) :
    Tbl.get d (t.filter (fun x => p x.1)) k = if p k then Tbl.get d t k else d := by
  induction t with
  | nil => simp [Tbl.get]
  | cons x t ih =>
    obtain ⟨j, v⟩ := x
    by_cases hj : k = j
    · subst hj
      cases hp : p k <;> simp [List.filter, Tbl.get, hp, ih]
    · cases hp : p j <;> simp [List.filter, Tbl.get, hp, hj, ih]

/-- A field dropped reads as at reset, any other as before. -/
theorem State.getF_dropFields (s : State) (drop : Fld → Nat → Nat → Bool) (f : Fld) {sc : Nat} (hsc : sc < 16) (e : Nat) :
    (s.dropFields drop).getF f sc e = if drop f sc e then f.reset sc e else s.getF f sc e := by
  have hget := Tbl.get_filter (f.reset sc e) s.regs (fun k => match regEntry k with
    | some (f, sc, e) => !drop f sc e
    | none => true) (f.key sc e)
  rw [regEntry_key f hsc] at hget
  refine hget.trans ?_
  change (if (!drop f sc e) = true then _ else _) = _
  cases drop f sc e <;> rfl

end Sys2Proof.Machine
end

section
/-! SUPPORT. Links that go down with their shaft, a self-test cut short, and hewers that drained (R430, R448, R221): what a view keeps. -/

namespace Sys2Proof.Machine

section
variable {α : Type} {view : State → α} {n : Shaft} {seen : List Fld} (hview : Blind view n seen)
include hview

/-- The fields that a link which goes down writes. -/
def linkFields : List Fld := [.LNE_STAT_RATE, .LNE_STAT_CDR_LOCK, .LNE_STAT_TX_SLEEP, .LNE_STAT_RX_SLEEP, .CLK_QUAL_QUAL, .CLK_STATE_SHAFT,
  .CLK_QUAL_LOOP_LANE, .PTL_STATE_TRAINED, .PTL_STATE_PRESENT, .PTL_STATE_RATE, .TLY_QUOTA_QUOTA, .PTL_STATE_STATE]

section
variable (hseen : ∀ f ∈ linkFields, f ∉ seen) (s : State)
include hseen

theorem Blind.setTiming (new : Nat) (lane : Option Nat) : view (s.setTiming n new lane) = view s := by
  simp only [State.setTiming]
  exact (hview.event ..).trans ((hview.setF _ 8 n.val _ (hseen _ (by decide))).trans (hview.setF s 8 n.val new (hseen _ (by decide))))

theorem Blind.tryLoop : view (s.tryLoop n) = view s := by
  rw [State.tryLoop]
  split
  · split
    · exact hview.setTiming hseen s ..
    · rfl
  · rfl

theorem Blind.enterHoldover : view (s.enterHoldover n) = view s :=
  (hview.tryLoop hseen _).trans ((hview.updSh _).trans (hview.setTiming hseen s ..))

theorem Blind.unqualify (l : Nat) : view (s.unqualify n l) = view s := by
  have hqual : ∀ v, view (s.setDev .CLK_QUAL_QUAL v n.val) = view s := fun v => hview.setF s 8 n.val v (hseen _ (by decide))
  simp only [State.unqualify]
  split
  · split
    · exact (hview.enterHoldover hseen _).trans (hqual _)
    · exact hqual _
  · rfl

theorem Blind.laneIdle (l : Nat) : view (s.laneIdle n l) = view s := by
  have hreg : ∀ (a : State) (f : Fld) (v e : Nat), f ∈ linkFields → view (a.setReg n f v e) = view a :=
    fun a f v e hf => hview.setF a n.val e v (hseen f hf)
  refine (hview.unqualify hseen _ l).trans ((hview.updSh _).trans ?_)
  rw [hreg _ _ _ _ (by decide), hreg _ _ _ _ (by decide), hreg _ _ _ _ (by decide), hreg _ _ _ _ (by decide)]

theorem Blind.takeDown (p : Portal) (st cause : Nat) : view (s.takeDown n p st cause) = view s := by
  have hreg : ∀ (a : State) (f : Fld) (v e : Nat), f ∈ linkFields → view (a.setReg n f v e) = view a :=
    fun a f v e hf => hview.setF a n.val e v (hseen f hf)
  have hdown : ∀ a : State, view (((((((a.setReg n .PTL_STATE_TRAINED 0 p.val).setReg n .PTL_STATE_PRESENT 0 p.val).setReg n .PTL_STATE_RATE 0
      p.val).setReg n .TLY_QUOTA_QUOTA 0 p.val).setPst n p st).updPtl n p PortalSt.down)) = view a := fun a => by
    refine (hview.updSh _).trans ?_
    rw [State.setPst, hreg _ _ _ _ (by decide), hreg _ _ _ _ (by decide), hreg _ _ _ _ (by decide), hreg _ _ _ _ (by decide), hreg _ _ _ _ (by decide)]
  have hlanes : view ((s.portalLanes n p).foldl (fun a l => a.laneIdle n l) s) = view s :=
    foldl_view _ (fun a l => hview.laneIdle hseen a l) _ s
  simp only [State.takeDown]
  split
  · exact (hview.event ..).trans ((hdown _).trans hlanes)
  · exact (hdown _).trans hlanes

theorem Blind.portalsDown : view (s.portalsDown n) = view s := by
  refine foldl_view _ (fun a p => ?_) _ s
  dsimp only
  split
  · rfl
  · exact (hview.takeDown hseen _ p _ _).trans (hview.free a)

end

theorem Blind.testCutShort (hrole : .HWR_UNIT_ROLE ∉ seen) (hspares : .BST_CNT2_SPARES ∉ seen) (s : State) : view (s.testCutShort n) = view s := by
  have haborted : ∀ r, view (s.testAborted n r) = view s := fun r =>
    (hview.event ..).trans ((hview.setF _ 8 0 _ hspares).trans (hview.updSh s))
  rw [State.testCutShort]
  split
  · rfl
  · dsimp only
    split
    · exact (hview.setF _ n.val _ 1 hrole).trans (haborted _)
    · exact haborted _

theorem Blind.retireDraining (hrole : .HWR_UNIT_ROLE ∉ seen) (s : State) : view (s.retireDraining n) = view s :=
  foldl_view _ (fun a _ => hview.setF a n.val _ 3 hrole) _ s

end
end Sys2Proof.Machine
end

section
/-! SUPPORT. A SHAFT reset (R430) in its steps. -/

namespace Sys2Proof.Machine

variable {s : State} {n : Shaft}

/-- Steps 1 to 3 of R430: the self-test cut short, an activation reverted, the links down, hewers that drain retired. -/
def State.shaftQuiet (s : State) (n : Shaft) : State :=
  ((((s.takeAsk (.shaft n.val)).testCutShort n).revertIf true Icf.RESET).portalsDown n).retireDraining n

/-- Step 4: its registers and its storage at reset. -/
def State.shaftDropped (s : State) (n : Shaft) (lost now : Nat) : State :=
  (s.dropFields (fun f sc _ => decide (sc = n.val) && f.shaftDropped)).updSh n (fun h => h.afterReset lost now)

/-- What follows: blocks that return from a gate are due no longer, and the counts and pins show the shaft. -/
def State.shaftShown (s : State) (n : Shaft) : State :=
  ({ s.setDev .PWR_SHAFT_DOZE 0 n.val with returning := s.returning.filter (fun x => decide (x.1 ≠ n.val)) }.countSpares).fcPins n

/-- DOZE ends before that. -/
def State.shaftSettled (s : State) (n : Shaft) (inDoze : Bool) : State := (if inDoze then s.setDoze n 0 else s).shaftShown n

theorem State.shaftReset_of_due (hpor : s.por = false) (hdue : .shaft n.val ∈ s.resetsDue) :
    s.shaftReset n = ((s.shaftQuiet n).shaftDropped n ((s.sh n).tallies.filter (fun e => e.2.isOpen)).length s.up).shaftSettled n
      (decide (s.doze n ≠ 0)) := by
  have hgo : ¬((!s.resetsDue.contains (.shaft n.val)) = true ∨ s.por = true) := by simp [hpor, hdue]
  rw [State.shaftReset, if_neg hgo]
  by_cases hd : s.doze n = 0
  · simp only [State.shaftSettled, State.shaftShown, State.shaftDropped, State.shaftQuiet, hd, if_true, ne_eq, not_true, decide_false, Bool.false_eq_true, if_false]
  · simp only [State.shaftSettled, State.shaftShown, State.shaftDropped, State.shaftQuiet, hd, if_false, ne_eq, not_false_iff, decide_true, if_true]

/-! ### What is left of the rest -/

/-- The fields that steps 1 to 3 write. -/
def quietFields : List Fld := [.HWR_UNIT_ROLE, .BST_CNT2_SPARES, .DEV_ATTN_FORE_UNPLANNED, .IMG_STATE_STATE, .IMG_FAIL_CAUSE, .IMG_FAIL_DETAIL,
  .IMG_FAIL_PART_PART] ++ undoFields ++ linkFields

/-- A view that shows no shaft but for retired Lode blocks, and no activation, stays through steps 1 to 3 but for the reset asked for. -/
theorem Blind.shaftQuiet {α : Type} {view : State → α} {seen : List Fld} (hview : ∀ m, Blind view m seen) (hoff : OffForeman view)
    (hseen : ∀ f ∈ quietFields, f ∉ seen) : view (s.shaftQuiet n) = view (s.takeAsk (.shaft n.val)) := by
  have hsub : ∀ l ⊆ quietFields, ∀ f ∈ l, f ∉ seen := fun l hl f hf => hseen f (hl hf)
  rw [State.shaftQuiet, (hview n).retireDraining (hseen _ (by decide)), (hview n).portalsDown (hsub _ (by decide)),
    Blind.revertIf hview hoff (hsub _ (by decide)), (hview n).testCutShort (hseen _ (by decide)) (hseen _ (by decide))]

/-- So does a view of another shaft, while nothing stages. -/
theorem State.shaftQuiet_other (hst : s.staging = false) {m : Shaft} (hm : m ≠ n) : (s.shaftQuiet n).sh m = s.sh m := by
  have hother := Blind.otherShaft hm
  have himg : ((s.takeAsk (.shaft n.val)).testCutShort n).img = s.img :=
    (Blind.getF (f := .IMG_STATE_STATE) (by decide) 8 0).testCutShort (by decide) (by decide) _
  have hstays : ((s.takeAsk (.shaft n.val)).testCutShort n).staging = false := by
    rw [State.staging, himg]
    exact hst
  rw [State.shaftQuiet, hother.retireDraining (by decide), hother.portalsDown (by decide), State.revertIf_of_not_staging hstays,
    hother.testCutShort (by decide) (by decide)]
  rfl

/-! ### What follows step 4 -/

theorem State.sh_shaftSettled (b : Bool) (m : Shaft) : (s.shaftSettled n b).sh m = s.sh m := by
  cases b
  · rfl
  · exact State.sh_event ..

theorem State.resetsDue_shaftSettled (b : Bool) : (s.shaftSettled n b).resetsDue = s.resetsDue := by
  cases b
  · rfl
  · exact State.event_resetsDue ..

theorem State.regs_shaftShown (a : State) : ∃ v w, (a.shaftShown n).regs =
    (((a.setDev .PWR_SHAFT_DOZE 0 n.val).setDev .BST_CNT2_SPARES v).setReg n .QMG_FC_PINS w).regs := ⟨_, _, rfl⟩

/-- What is shown of the shaft at its end is written to three fields. -/
theorem State.getF_shaftShown (a : State) {g : Fld} (hg : g ∉ [.PWR_SHAFT_DOZE, .BST_CNT2_SPARES, .QMG_FC_PINS]) (sc e : Nat) :
    (a.shaftShown n).getF g sc e = a.getF g sc e := by
  obtain ⟨v, w, hregs⟩ := State.regs_shaftShown (n := n) a
  simp only [List.mem_cons, List.not_mem_nil, or_false, not_or] at hg
  obtain ⟨hdoze, hspares, hpins⟩ := hg
  rw [State.getF, hregs]
  exact (State.getF_setF_field _ _ hpins).trans ((State.getF_setF_field _ _ hspares).trans (State.getF_setF_field _ _ hdoze))

theorem State.reg_shaftSettled (b : Bool) {g : Fld} (hg : g ∉ [.PWR_SHAFT_DOZE, .BST_CNT2_SPARES, .QMG_FC_PINS, .EVL_STAT_DROPPED]) (e : Nat) :
    (s.shaftSettled n b).reg n g e = s.reg n g e := by
  have hshown := State.getF_shaftShown (n := n) (if b then s.setDoze n 0 else s) (fun h => hg (List.mem_append_left [.EVL_STAT_DROPPED] h)) n.val e
  refine hshown.trans ?_
  cases b
  · rfl
  · exact (State.reg_shEvent _ n n _ _ _ _ (fun h => hg (by simp [h]))).trans (State.reg_setF_dev s n n.val e 0)

theorem State.doze_shaftSettled : (s.shaftSettled n true).doze n = 0 ∧ (s.shaftSettled n false).doze n = s.doze n := by
  refine ⟨(State.getF_shaftShown (s.setDoze n 0) (by decide) 8 n.val).trans ?_, State.getF_shaftShown s (by decide) 8 n.val⟩
  exact (State.dev_event _ _ _ _ _ (by decide)).trans (State.dev_setDev_same s .PWR_SHAFT_STATE 0 n.val)

/-- A field of the shaft that the reset takes back. -/
theorem State.reg_shaftDropped {f : Fld} (hf : f.shaftDropped = true) (lost now e : Nat) :
    (s.shaftDropped n lost now).reg n f e = f.reset n.val e := by
  refine (State.getF_dropFields s _ f (by omega) e).trans ?_
  rw [hf, decide_eq_true rfl]
  exact if_pos rfl

theorem State.doze_shaftDropped (lost now : Nat) : (s.shaftDropped n lost now).doze n = s.doze n := by
  refine (State.getF_dropFields s _ _ (by decide) n.val).trans ?_
  rw [decide_eq_false (show ¬ 8 = n.val by omega)]
  exact if_neg Bool.false_ne_true

theorem State.sh_shaftDropped_same (lost now : Nat) : (s.shaftDropped n lost now).sh n = (s.sh n).afterReset lost now := State.sh_updSh_same ..

theorem State.sh_shaftDropped_other (lost now : Nat) {m : Shaft} (hm : m ≠ n) : (s.shaftDropped n lost now).sh m = s.sh m :=
  State.sh_updSh_other _ _ hm

end Sys2Proof.Machine
end

section
/-! SUPPORT. The end of a swap (R310, R311): what a view keeps when members hold no more. -/

namespace Sys2Proof.Machine

/-- A stope without what it issued to its memories and without the hold of a swap. -/
def Stope.settled (x : Stope) : Stope := { x with acc := [], rd := [], kept := [], coll := [], swapHold := false }

/-- A view of the device that shows of its registers only the fields `seen`, of stope `k` of shaft `n` only what is settled, and neither the cells of
the shaft's memories nor its swaps, the log or the free values. -/
structure PastSwap {α : Type} (view : State → α) (n : Shaft) (k : Nat) (seen : List Fld) : Prop where
  setF : ∀ (a : State) {f : Fld} (sc e v : Nat), f ∉ seen → view (a.setF f sc e v) = view a
  event : ∀ (a : State) (c : BitVec 16) (v : BitVec 8) (src unit : Nat) (d : BitVec 96), view (a.event c v src unit d) = view a
  free : ∀ (a : State) (c : Nat), view { a with freeCtr := c } = view a
  updSh : ∀ (a : State) {F : ShaftSt → ShaftSt} (_ : ∀ h, (F h).stopes = h.stopes := by intro; rfl)
    (_ : ∀ h, (F h).preloads = h.preloads := by intro; rfl), view (a.updSh n F) = view a
  updStope : ∀ (a : State) {F : Stope → Stope} (_ : ∀ x, (F x).settled = x.settled := by intro; rfl), view (a.updStope n k F) = view a

namespace PastSwap

variable {n : Shaft} {k : Nat}

theorem resetsDue : PastSwap State.resetsDue n k [] where
  setF _ _ _ _ _ _ := rfl
  event a := a.event_resetsDue
  free _ _ := rfl
  updSh _ _ _ _ := rfl
  updStope _ _ _ := rfl

theorem getF {f : Fld} (hf : f ≠ .EVL_STAT_DROPPED) (sc e : Nat) : PastSwap (fun a => a.getF f sc e) n k [f] where
  setF a _ _ _ v hg := a.getF_setF_field v (fun he => hg (List.mem_singleton.mpr he.symm))
  event a c v src unit d := a.event_getF c v src unit d hf sc e
  free _ _ := rfl
  updSh _ _ _ _ := rfl
  updStope _ _ _ := rfl

theorem preloads : PastSwap (fun a => (a.sh n).preloads) n k [] where
  setF _ _ _ _ _ _ := rfl
  event a c v src unit d := congrArg ShaftSt.preloads (a.sh_event c v src unit d n)
  free _ _ := rfl
  updSh a F _ hF := by simpa using hF (a.sh n)
  updStope a F _ := (congrArg ShaftSt.preloads (a.sh_updStope_same n k F)).trans rfl

theorem settled (j : Nat) : PastSwap (fun a => (a.stope n j).settled) n k [] where
  setF _ _ _ _ _ _ := rfl
  event _ c v src unit d := congrArg Stope.settled (State.stope_event c v src unit d)
  free _ _ := rfl
  updSh _ _ hF _ := congrArg Stope.settled (State.stope_updSh hF j)
  updStope a _ hF := a.stope_updStope_keeps Stope.settled n k j hF

theorem otherStope {j : Nat} (hj : j ≠ k) : PastSwap (fun a => a.stope n j) n k [] where
  setF _ _ _ _ _ _ := rfl
  event _ c v src unit d := State.stope_event c v src unit d
  free _ _ := rfl
  updSh _ _ hF _ := State.stope_updSh hF j
  updStope a F _ := a.stope_updStope_other n F hj

end PastSwap

section
variable {α : Type} {view : State → α} {n : Shaft} {k : Nat} {seen : List Fld} (hview : PastSwap view n k seen) (hcoll : .BLK_STAT_COLL ∉ seen)
include hview hcoll

theorem PastSwap.memoryCycle (s : State) (base j : Nat) : view (s.memoryCycle n k base j) = view s := by
  simp only [State.memoryCycle]
  split
  · exact (hview.setF _ n.val k _ hcoll).trans ((hview.updStope _).trans (hview.updSh s))
  · exact (hview.updStope _).trans (hview.updSh s)

theorem PastSwap.finishAccesses (s : State) : view (s.finishAccesses n k) = view s := by
  have hcycles : view (s.memoryCycles n k) = view s :=
    (foldl_view _ (fun a j => hview.memoryCycle hcoll a _ j) _ _).trans (hview.free s _)
  rw [State.finishAccesses]
  split
  · rfl
  · exact (hview.updStope _).trans hcycles

theorem PastSwap.unhold (s : State) : view (s.unhold n k) = view s := by
  rw [State.unhold]
  split
  · exact (hview.updStope _).trans (hview.finishAccesses hcoll s)
  · rfl

end

section
variable {α : Type} {view : State → α} {n : Shaft} {seen : List Fld} (hview : ∀ k, PastSwap view n k seen) (s : State) (w : Swap)
include hview

theorem PastSwap.swapEnd (hcoll : .BLK_STAT_COLL ∉ seen) : view (s.swapEnd n w) = view s :=
  ((hview 0).updSh _).trans (foldl_view _ (fun a k => (hview k).unhold hcoll a) _ s)

theorem PastSwap.ctxResult (hseen : ∀ f ∈ [.CTX_CMD_STAT_RESULT, .CTX_CMD_STAT_BUSY], f ∉ seen) (r : Nat) : view (s.ctxResult n r) = view s :=
  ((hview 0).setF _ n.val 0 0 (hseen _ (by decide))).trans ((hview 0).setF s n.val 0 r (hseen _ (by decide)))

/-- The fields that the end of a refused swap writes. -/
def swapFields : List Fld := [.BLK_STAT_COLL, .CTX_STOPE_SH_STATE, .CTX_STAT_REFUSED, .CTX_CMD_STAT_RESULT, .CTX_CMD_STAT_BUSY]

theorem PastSwap.swapAbort (hseen : ∀ f ∈ swapFields, f ∉ seen) (r k : Nat) : view (s.swapAbort n w r k) = view s := by
  have hrefused : view (((s.swapEnd n w).emptyShadow n k).swapRefused n r k w.gang) = view s := by
    refine ((hview 0).event ..).trans (((hview 0).setF _ n.val 0 _ (hseen _ (by decide))).trans ?_)
    exact ((hview 0).setF _ n.val k _ (hseen _ (by decide))).trans (PastSwap.swapEnd hview s w (hseen _ (by decide)))
  rw [State.swapAbort]
  split
  · exact hrefused
  · exact (PastSwap.ctxResult hview _ (fun f hf => hseen f (by revert f; decide)) r).trans hrefused

end
end Sys2Proof.Machine
end

section
/-! SUPPORT. A STOPE reset (R316) in its steps. -/

namespace Sys2Proof.Machine

variable {s : State} {n : Shaft} {k : Nat}

/-- The reset's first steps: what it was asked for by, and the swaps and the preload of its stope, which end with RESET. -/
def State.stopeQuiet (s : State) (n : Shaft) (k : Nat) : State := ((s.takeAsk (.stope n.val k)).resetSwaps n k).resetPreload n k

theorem PastSwap.resetSwaps {α : Type} {view : State → α} {seen : List Fld} (hview : ∀ k, PastSwap view n k seen) (hseen : ∀ f ∈ swapFields, f ∉ seen) :
    view (s.resetSwaps n k) = view s :=
  foldl_view _ (fun a w => PastSwap.swapAbort hview a w hseen _ k) _ s

/-- The preload ends. -/
theorem State.resetPreload_preloading : (s.resetPreload n k).preloading n k = false := by
  rw [State.resetPreload]
  split
  next => simp [State.preloading, State.ctxResult, State.sh_setReg]
  next h => simpa using h

/-- A preload that ends leaves a view as it is that shows no preloads. -/
theorem State.resetPreload_view {α : Type} {view : State → α} {seen : List Fld} (hview : ∀ k, PastSwap view n k seen)
    (hseen : ∀ f ∈ swapFields, f ∉ seen) (hpre : view (s.updSh n (fun h => { h with preloads := Tbl.set none h.preloads k none })) = view s) :
    view (s.resetPreload n k) = view s := by
  rw [State.resetPreload]
  split
  · exact (PastSwap.ctxResult hview _ (fun f hf => hseen f (by revert f; decide)) _).trans hpre
  · rfl

/-- With no activation and no test on its way, a STOPE reset is these steps, the stope's registers at reset, and its design started anew. -/
theorem State.stopeReset_of_due (hpor : s.por = false) (hk : k < 128) (hdue : .stope n.val k ∈ s.resetsDue) (hst : s.staging = false)
    (htest : s.testRun n = none) : s.stopeReset n k =
      ((s.stopeQuiet n k).dropFields (fun f sc e => decide (sc = n.val) && decide (e = k) && f.stopeDropped)).initStope n k := by
  have hgo : ¬((!s.resetsDue.contains (.stope n.val k)) = true ∨ 128 ≤ k ∨ s.por = true) := by simp [hpor, hdue]; omega
  have habort : (s.takeAsk (.stope n.val k)).testAbortStope n k = s.takeAsk (.stope n.val k) := by
    have hnone : (s.takeAsk (.stope n.val k)).testRun n = none := htest
    rw [State.testAbortStope, hnone]
  have himg : (s.stopeQuiet n k).img = s.img := by
    have hview : ∀ j, PastSwap State.img n j [.IMG_STATE_STATE] := fun j => PastSwap.getF (by decide) 8 0
    rw [State.stopeQuiet, State.resetPreload_view hview (by decide) rfl, PastSwap.resetSwaps hview (by decide)]
    rfl
  have hstays : (s.stopeQuiet n k).staging = false := by
    rw [State.staging, himg]
    exact hst
  rw [State.stopeReset, if_neg hgo, habort]
  exact congrArg (fun a : State => (a.dropFields _).initStope n k) (State.revertIf_of_not_staging hstays _ _)

theorem State.resetsDue_stopeQuiet : (s.stopeQuiet n k).resetsDue = s.resetsDue.filter (fun x => x != .stope n.val k) := by
  have hview : ∀ j, PastSwap State.resetsDue n j [] := fun j => PastSwap.resetsDue
  rw [State.stopeQuiet, State.resetPreload_view hview (by decide) rfl, PastSwap.resetSwaps hview (by decide)]
  rfl

/-- The active plane stays. -/
theorem State.active_stopeQuiet : ((s.stopeQuiet n k).stope n k).active = (s.stope n k).active := by
  have hview : ∀ j, PastSwap (fun a => (a.stope n k).settled) n j [] := fun j => PastSwap.settled k
  have hsettled : ((s.stopeQuiet n k).stope n k).settled = (s.stope n k).settled := by
    have hpre := State.resetPreload_view (view := fun a => (a.stope n k).settled) (s := (s.takeAsk (.stope n.val k)).resetSwaps n k) (k := k) hview
      (by decide) (by rw [State.stope_updSh]; exact fun _ => rfl)
    exact hpre.trans (PastSwap.resetSwaps (view := fun a => (a.stope n k).settled) hview (by decide))
  simpa only [Stope.settled] using congrArg Stope.active hsettled

/-- What the design of a stope is after a start anew. -/
theorem State.stope_initStope (a : State) : ((a.initStope n k).stope n k) =
    { a.stope n k with ff := Config.ffInit (a.stope n k).active, last := none, ramp := none } := by
  rw [State.initStope, State.pacerSettle, State.stope_updStope_same]
  change ({ (a.updStope n k _).stope n k with ramp := none } : Stope) = _
  rw [State.stope_updStope_same]

theorem State.reg_initStope (a : State) : (a.initStope n k).reg n .CTX_STOPE_SH_STATE k = 0 ∧ (a.initStope n k).reg n .STP_SPEC_STAINED k = 0 := by
  simp (disch := decide) only [State.initStope, State.pacerSettle, State.reg_updStope, State.reg_setReg_field, State.reg_setReg_same,
    State.emptyShadow, Shd.EMPTY]
  exact ⟨Nat.zero_mod _, Nat.zero_mod _⟩

theorem State.preloading_initStope (a : State) : (a.initStope n k).preloading n k = a.preloading n k := by
  simp [State.preloading, State.initStope, State.pacerSettle, State.emptyShadow, State.sh_setReg, State.sh_updStope_same]

end Sys2Proof.Machine
end

section
/-! PROOF. O52: SHAFT and STOPE resets. -/

namespace Sys2Proof.Machine

/-- A SHAFT reset that is due. -/
theorem State.shaftReset_leaves {s : State} {n : Shaft} (hpor : s.por = false) (hdue : .shaft n.val ∈ s.resetsDue) :
    ∃ t : State, s.shaftReset n = t ∧ .shaft n.val ∉ t.resetsDue ∧ (∃ (a : ShaftSt) (lost now : Nat), a.retiredBlocks = (s.sh n).retiredBlocks ∧
        t.sh n = a.afterReset lost now) ∧
      (∀ f e, f.shaftDropped = true → f ∉ [.PWR_SHAFT_DOZE, .BST_CNT2_SPARES, .QMG_FC_PINS, .EVL_STAT_DROPPED] → t.reg n f e = f.reset n.val e) ∧
      t.doze n = 0 ∧ (s.staging = false → ∀ m, m ≠ n → t.sh m = s.sh m) := by
  have hquiet := fun {α} {view : State → α} {seen} => Blind.shaftQuiet (s := s) (n := n) (view := view) (seen := seen)
  refine ⟨_, State.shaftReset_of_due hpor hdue, ?_, ⟨(s.shaftQuiet n).sh n, ((s.sh n).tallies.filter (fun e => e.2.isOpen)).length, s.up, ?_, ?_⟩, fun f e hf hg => ?_, ?_, fun hst m hm => ?_⟩
  · rw [State.resetsDue_shaftSettled]
    have hasks : (s.shaftQuiet n).resetsDue = (s.takeAsk (.shaft n.val)).resetsDue :=
      hquiet (fun _ => Blind.resetsDue) (fun _ _ _ _ _ _ _ => rfl) (by decide)
    intro hmem
    have hmem' : .shaft n.val ∈ (s.takeAsk (.shaft n.val)).resetsDue := hasks ▸ hmem
    simp [State.takeAsk] at hmem'
  · exact hquiet (fun _ => Blind.retiredBlocks) (fun _ _ _ _ _ _ _ => rfl) (by decide)
  · rw [State.sh_shaftSettled, State.sh_shaftDropped_same]
  · rw [State.reg_shaftSettled _ hg, State.reg_shaftDropped hf]
  · by_cases hd : s.doze n = 0
    · have hquietDoze : (s.shaftQuiet n).doze n = s.doze n :=
        hquiet (fun _ => Blind.getF (f := .PWR_SHAFT_STATE) (by decide) 8 n.val) (fun _ _ _ _ _ _ _ => rfl) (by decide)
      rw [decide_eq_false (not_not.mpr hd), State.doze_shaftSettled.2, State.doze_shaftDropped, hquietDoze, hd]
    · rw [decide_eq_true hd, State.doze_shaftSettled.1]
  · rw [State.sh_shaftSettled, State.sh_shaftDropped_other _ _ hm, State.shaftQuiet_other hst hm]

/-- Settles O52: a SHAFT reset through its steps by the views that each leaves, a STOPE reset by what its swaps and its preload leave of its stope. -/
theorem shaftAndStopeResets : Obligations.ShaftAndStopeResets := by
  unfold Obligations.ShaftAndStopeResets
  intro s n hpor
  refine ⟨fun hdue => ?_, fun hnot => ?_, fun k hk => ⟨fun hdue hst htest => ?_, fun hnot => ?_⟩⟩
  · obtain ⟨t, ht, hasks, ⟨a, lost, now, hblocks, hsh⟩, hreg, hdoze, hothers⟩ := State.shaftReset_leaves hpor hdue
    refine ⟨t, congrArg Host.Outcome.next ht, hasks, congrArg ShaftSt.inReset hsh, congrArg ShaftSt.boot hsh, congrArg ShaftSt.tallies hsh,
      congrArg ShaftSt.dir hsh, congrArg ShaftSt.locks hsh, congrArg ShaftSt.queues hsh, congrArg ShaftSt.threads hsh, congrArg ShaftSt.plan hsh,
      (congrArg ShaftSt.retiredBlocks hsh).trans hblocks, hreg .SHF_CTL_DEEP_OPEN 0 rfl (by decide), hdoze,
      fun p => ⟨hreg .PTL_STATE_STATE p.val rfl (by decide), ?_⟩, fun j => hreg .CTX_SLOT_STATE j rfl (by decide), hothers⟩
    simp [State.ptl, hsh, ShaftSt.afterReset, ShaftSt.scrubFrom, ShaftSt.reset, Oct.get_all, PortalSt.zero]
  · exact congrArg Host.Outcome.next (if_pos (.inl (by simpa using hnot)))
  · have hreset := State.stopeReset_of_due hpor hk hdue hst htest
    have hactive := State.active_stopeQuiet (s := s) (n := n) (k := k)
    refine ⟨_, congrArg Host.Outcome.next hreset, ?_, ?_, ?_, (State.reg_initStope _).1, (State.reg_initStope _).2, ?_, ?_⟩
    · intro hmem
      have hmem' : .stope n.val k ∈ (s.stopeQuiet n k).resetsDue := hmem
      rw [State.resetsDue_stopeQuiet] at hmem'
      simp at hmem'
    · exact (congrArg Stope.active (State.stope_initStope _)).trans hactive
    · exact (congrArg Stope.ff (State.stope_initStope _)).trans (congrArg Config.ffInit hactive)
    · exact congrArg Stope.last (State.stope_initStope _)
    · exact (State.preloading_initStope _).trans State.resetPreload_preloading
  · exact congrArg Host.Outcome.next (if_pos (.inl (by simpa using hnot)))

end Sys2Proof.Machine
end

section
/-! SUPPORT. The command registers of CTX and SCB (R325, R327, R329), written by a frame of their own. -/

namespace Sys2Proof.Machine

variable {s : State} {n : Shaft}

/-- The registers that take a command of the contexts and of the scrubbers keep nothing and act when they are written. -/
theorem Reg.contextCommand_facts {r : Reg} (hr : r ∈ [Reg.CTX_CMD, .CTX_RB_CTL, .SCB_CTL]) (v : Word) (n : Shaft) :
    (WordAt.reg n.val r 0).isGate = false ∧ r.readOnly 0 = false ∧ keyWrong r v = false ∧ r ≠ .PTL_CROUTE ∧ (∀ s : State, s.whenBarred r = false) ∧
      (∀ s : State, s.storeReg n.val r 0 v = s) ∧ ∀ s : State, s.cageWrite (.reg n.val r 0) v = s.shaftEffect s n r 0 v := by
  have hwrite : ∀ s : State, keyWrong r v = false → s.storeReg n.val r 0 v = s →
      (if keyWrong r v then s else if h : n.val < 8 then s.shaftEffect (s.storeReg n.val r 0 v) ⟨n.val, h⟩ r 0 v
        else (s.storeReg n.val r 0 v).devEffect r 0 v) = s.shaftEffect s n r 0 v := by
    intro s hkey hstore
    rw [hkey, if_neg Bool.false_ne_true, dif_pos n.isLt, hstore]
  simp only [List.mem_cons, List.not_mem_nil, or_false] at hr
  rcases hr with rfl | rfl | rfl
  · exact ⟨rfl, rfl, rfl, by decide, fun _ => rfl, fun _ => rfl, fun s => hwrite s rfl rfl⟩
  · exact ⟨rfl, rfl, rfl, by decide, fun _ => rfl, fun _ => rfl, fun s => hwrite s rfl rfl⟩
  · exact ⟨rfl, rfl, rfl, by decide, fun _ => rfl, fun _ => rfl, fun s => hwrite s rfl rfl⟩

/-- With its block open such a command is taken up. -/
theorem State.contextCommand_alone {r : Reg} (hr : r ∈ [Reg.CTX_CMD, .CTX_RB_CTL, .SCB_CTL]) {b : Block} (h : s.Open n.val b)
    (hblk : (WordAt.reg n.val r 0).blk = b) {v : Word} (hreserved : r.reservedIn v = false) (f : State → State) :
    s.cageTurn (fun a => a.writeAlone (.reg n.val r 0) v f) = f s := by
  obtain ⟨hfree, hgate, hbusy, hdeep⟩ := h
  obtain ⟨hplace, hro, hkey, hroute, hwhen, _, _⟩ := Reg.contextCommand_facts hr v n
  have hopen : s.shut (.reg n.val r 0) = none := by
    rw [State.shut, hplace, hblk, if_neg Bool.false_ne_true]
    simp [State.windowOut, WordAt.sc, hgate, hbusy]
  have hdenied : State.writeDenied s s (.reg n.val r 0) v = false := by
    simp [State.writeDenied, State.regBarred, hro, hreserved, hkey, hroute, hwhen, hdeep]
  rw [State.cageTurn_of_free hfree, State.writeAlone, hopen, hdenied]
  rfl

/-! ### CTX.CMD -/

/-- The word of a command of CTX.CMD (R328). -/
def ctxWord (op k c g : Nat) : Word :=
  Reg.make .CTX_CMD [(.CTX_CMD_OP, op), (.CTX_CMD_STOPE, k), (.CTX_CMD_CONTEXT, c), (.CTX_CMD_GANG, g), (.CTX_CMD_GO, 1)]

theorem part_ctxWord {op k c g : Nat} (hop : op < 8) (hk : k < 128) (hc : c < 8) (hg : g < 16) :
    Reg.part .CTX_CMD (ctxWord op k c g) .CTX_CMD_OP = op ∧ Reg.part .CTX_CMD (ctxWord op k c g) .CTX_CMD_STOPE = k ∧
    Reg.part .CTX_CMD (ctxWord op k c g) .CTX_CMD_CONTEXT = c ∧ Reg.part .CTX_CMD (ctxWord op k c g) .CTX_CMD_GANG = g ∧
    Reg.part .CTX_CMD (ctxWord op k c g) .CTX_CMD_GO = 1 := by
  refine ⟨?_, ?_, ?_, ?_, ?_⟩
  · exact (Reg.part_make (p := ⟨20, 1, 0⟩) _ (by decide) (by decide) (by decide)).trans (Nat.mod_eq_of_lt hop)
  · exact (Reg.part_make (p := ⟨0, 1, 0⟩) _ (by decide) (by decide) (by decide)).trans (Nat.mod_eq_of_lt hk)
  · exact (Reg.part_make (p := ⟨7, 1, 0⟩) _ (by decide) (by decide) (by decide)).trans (Nat.mod_eq_of_lt hc)
  · exact (Reg.part_make (p := ⟨10, 1, 0⟩) _ (by decide) (by decide) (by decide)).trans (Nat.mod_eq_of_lt hg)
  · exact Reg.part_make (p := ⟨31, 1, 0⟩) _ (by decide) (by decide) (by decide)

/-- R328: with the block open a command of CTX.CMD is taken up. -/
theorem State.ctxGo_of_open (h : s.Open n.val .CTX) {op k c g : Nat} (hop : op ∈ [1, 2, 3, 4]) (hk : k < 128) (hc : c < 8) (hg : g < 16) :
    s.cageTurn (fun a => a.ctxGo n op k c g) = s.ctxCmd n op k c g := by
  have hrange : 0 < op ∧ op < 5 := by revert op; decide
  obtain ⟨hpop, hpk, hpc, hpg, hpgo⟩ := part_ctxWord (show op < 8 by omega) hk hc hg
  have hreserved : Reg.reservedIn .CTX_CMD (ctxWord op k c g) = false := by
    have hparts : Reg.reservedIn .CTX_CMD (ctxWord op k c g) = (decide (Reg.part .CTX_CMD (ctxWord op k c g) .CTX_CMD_OP = 0) ||
      decide (5 ≤ Reg.part .CTX_CMD (ctxWord op k c g) .CTX_CMD_OP) || false || false) := rfl
    rw [hparts, hpop, decide_eq_false (by omega), decide_eq_false (by omega)]
    rfl
  obtain ⟨_, _, _, _, _, _, hwrite⟩ := Reg.contextCommand_facts (r := .CTX_CMD) (by decide) (ctxWord op k c g) n
  refine (State.contextCommand_alone (by decide) h rfl hreserved _).trans ((hwrite s).trans ?_)
  change (if decide (Reg.part .CTX_CMD (ctxWord op k c g) .CTX_CMD_GO ≠ 0) = true then s.ctxCmd n (Reg.part .CTX_CMD (ctxWord op k c g) .CTX_CMD_OP)
    (Reg.part .CTX_CMD (ctxWord op k c g) .CTX_CMD_STOPE) (Reg.part .CTX_CMD (ctxWord op k c g) .CTX_CMD_CONTEXT)
    (Reg.part .CTX_CMD (ctxWord op k c g) .CTX_CMD_GANG) else s) = _
  rw [hpgo, hpop, hpk, hpc, hpg]
  rfl

/-! ### CTX.RB_CTL and SCB.CTL -/

/-- R327: with the block open a readback is taken up. -/
theorem exec_readback_of_open (h : s.Open n.val .CTX) (a : BitVec 20) {plane : BitVec 2} (hplane : plane ≠ 3) (bad : Bool) :
    exec (.readback n a plane bad) s = .next (s.readback n a.toNat plane.toNat bad) := by
  have hpasses : ∀ l, fieldValue l .CTX_RB_CTL_PLANE = plane.toNat → Reg.reservedIn .CTX_RB_CTL (Reg.make .CTX_RB_CTL l) = false := by
    intro l hl
    have hparts : Reg.reservedIn .CTX_RB_CTL (Reg.make .CTX_RB_CTL l) =
      (decide (Reg.part .CTX_RB_CTL (Reg.make .CTX_RB_CTL l) .CTX_RB_CTL_PLANE = 3) || false || false) := rfl
    rw [hparts, Reg.part_make (p := ⟨20, 1, 0⟩) l (by decide) (by decide) (by decide), hl,
      decide_eq_false (show ¬plane.toNat = 3 from fun h3 => hplane (BitVec.eq_of_toNat_eq h3))]
    rfl
  have hreserved := hpasses [(.CTX_RB_CTL_FRAME_ADDR, a.toNat), (.CTX_RB_CTL_PLANE, plane.toNat), (.CTX_RB_CTL_GO, 1)] (Nat.mod_eq_of_lt plane.isLt)
  refine congrArg Host.Outcome.next ((State.contextCommand_alone (by decide) h rfl hreserved _).trans ?_)
  obtain ⟨_, _, _, _, _, hstore, _⟩ := Reg.contextCommand_facts (r := .CTX_RB_CTL) (by decide)
    (Reg.make .CTX_RB_CTL [(.CTX_RB_CTL_FRAME_ADDR, a.toNat), (.CTX_RB_CTL_PLANE, plane.toNat), (.CTX_RB_CTL_GO, 1)]) n
  rw [hstore]

/-- R325: with the block open RESTART is taken up. -/
theorem exec_scrubberRestart_of_open (h : s.Open n.val .SCB) (r0 r1 : Bool) : exec (.scrubberRestart n r0 r1) s = .next (s.scbCtl n r0 r1) := by
  have hpart0 : ∀ l, Reg.part .SCB_CTL (Reg.make .SCB_CTL l) .SCB_CTL_RESTART0 = fieldValue l .SCB_CTL_RESTART0 := fun l =>
    Reg.part_make (p := ⟨0, 1, 0⟩) l (by decide) (by decide) (by decide)
  have hpart1 : ∀ l, Reg.part .SCB_CTL (Reg.make .SCB_CTL l) .SCB_CTL_RESTART1 = fieldValue l .SCB_CTL_RESTART1 := fun l =>
    Reg.part_make (p := ⟨1, 1, 0⟩) l (by decide) (by decide) (by decide)
  obtain ⟨_, _, _, _, _, _, hwrite⟩ :=
    Reg.contextCommand_facts (r := .SCB_CTL) (by decide) (Reg.make .SCB_CTL [(.SCB_CTL_RESTART0, bit r0), (.SCB_CTL_RESTART1, bit r1)]) n
  refine congrArg Host.Outcome.next ((State.contextCommand_alone (by decide) h rfl rfl _).trans ((hwrite s).trans ?_))
  change s.scbCtl n (decide (Reg.part .SCB_CTL _ .SCB_CTL_RESTART0 ≠ 0)) (decide (Reg.part .SCB_CTL _ .SCB_CTL_RESTART1 ≠ 0)) = _
  rw [hpart0, hpart1]
  cases r0 <;> cases r1 <;> rfl

end Sys2Proof.Machine
end

section
/-! SUPPORT. Readback (R327): what the readback registers show of a frame. -/

namespace Sys2Proof.Machine

/-- The readback registers show frame `x` with its check. -/
def State.Shows (t : State) (n : Shaft) (x : BitVec 1024) (check : BitVec 32) (uncorr : Bool) : Prop :=
  t.reg n .CTX_RB_STAT_VALID = 1 ∧ t.reg n .CTX_RB_STAT_UNCORR = bit uncorr ∧ t.reg n .CTX_RB_CHECK_CHECK = check.toNat ∧
    t.reg n .CTX_RB_STAT_CHECK_OK = bit (decide (frameCheck x = check)) ∧
    ∀ j, j < 32 → t.reg n .CTX_RB_DATA_DATA j = (x.extractLsb' (32 * j) 32).toNat

/-- The fields of the readback registers. -/
def rbFields : List Fld := [.CTX_RB_DATA_DATA, .CTX_RB_CHECK_CHECK, .CTX_RB_STAT_VALID, .CTX_RB_STAT_UNCORR, .CTX_RB_STAT_CHECK_OK]

variable {s : State} {n : Shaft}

theorem State.rbShow_shows (x : BitVec 1024) (check : BitVec 32) (uncorr : Bool) : (s.rbShow n x check uncorr).Shows n x check uncorr := by
  refine ⟨?_, ?_, ?_, ?_, fun j hj => ?_⟩
  · simp (disch := decide) only [State.rbShow, State.reg_setReg_field, State.reg_setReg_same]
    rfl
  · simp (disch := decide) only [State.rbShow, State.reg_setReg_field, State.reg_setReg_same]
    exact bit_mod_two uncorr
  · simp (disch := decide) only [State.rbShow, State.reg_setReg_field, State.reg_setReg_same]
    exact Nat.mod_eq_of_lt check.isLt
  · simp only [State.rbShow, State.reg_setReg_same]
    exact bit_mod_two _
  · simp (disch := decide) only [State.rbShow, State.reg_setReg_field]
    rw [State.reg_foldl_setReg_elem hj]
    exact Nat.mod_eq_of_lt (BitVec.isLt _)

/-- What a readback shows is written to the readback registers alone. -/
theorem State.reg_rbShow (x : BitVec 1024) (check : BitVec 32) (uncorr : Bool) {g : Fld} (hg : g ∉ rbFields) (e : Nat) :
    (s.rbShow n x check uncorr).reg n g e = s.reg n g e := by
  simp only [rbFields, List.mem_cons, List.not_mem_nil, or_false, not_or] at hg
  obtain ⟨hdata, hcheck, hvalid, huncorr, hok⟩ := hg
  simp only [State.rbShow, State.reg_setReg_field hok, State.reg_setReg_field huncorr, State.reg_setReg_field hvalid, State.reg_setReg_field hcheck]
  exact foldl_view (view := fun a => a.reg n g e) _ (fun a i => State.reg_setReg_field hdata) _ s

theorem State.sh_rbShow (x : BitVec 1024) (check : BitVec 32) (uncorr : Bool) (m : Shaft) : (s.rbShow n x check uncorr).sh m = s.sh m := by
  have hdata := foldl_view (view := fun a => a.sh m)
    (fun (a : State) i => a.setReg n .CTX_RB_DATA_DATA (x.extractLsb' (32 * i) 32).toNat i) (fun _ _ => State.sh_setReg ..) (List.range 32) s
  rw [State.rbShow, State.sh_setReg, State.sh_setReg, State.sh_setReg, State.sh_setReg]
  exact hdata

/-- A readback that ends leaves what it shows. -/
theorem State.Shows.setBusy {x : BitVec 1024} {check : BitVec 32} {uncorr : Bool} (h : s.Shows n x check uncorr) (v : Nat) :
    (s.setReg n .CTX_RB_STAT_BUSY v).Shows n x check uncorr := by
  simpa (disch := decide) only [State.Shows, State.reg_setReg_field] using h

/-- A readback begins and is BUSY until the µs ends. -/
theorem State.readback_of_idle (hbusy : s.reg n .CTX_RB_STAT_BUSY = 0) {plane : Nat} (hplane : plane ≤ 2) (a : Nat) (bad : Bool) :
    s.readback n a plane bad = (s.readFrame n a plane bad).setReg n .CTX_RB_STAT_BUSY 1 ∧ (s.readback n a plane bad).reg n .CTX_RB_STAT_BUSY = 1 ∧
      ((s.readback n a plane bad).readbackUs n).reg n .CTX_RB_STAT_BUSY = 0 := by
  have hgo : ¬(s.regB n .CTX_RB_STAT_BUSY = true ∨ 2 < plane) := by
    rw [State.regB_eq_false.mpr hbusy]
    simp only [Bool.false_eq_true, false_or]
    omega
  have heq : s.readback n a plane bad = (s.readFrame n a plane bad).setReg n .CTX_RB_STAT_BUSY 1 := if_neg hgo
  have hone : (s.readback n a plane bad).reg n .CTX_RB_STAT_BUSY = 1 := by
    rw [heq, State.reg_setReg_same]
    rfl
  refine ⟨heq, hone, ?_⟩
  rw [State.readbackUs, if_pos (State.regB_eq_true.mpr (by omega)), State.reg_setReg_same]
  rfl

/-! ### Frames met uncorrectable (R322) -/

theorem State.sh_planUncorr (a w : Nat) : (s.planUncorr n a w).sh n = { s.sh n with
    suspect := if (s.sh n).suspect.contains a then (s.sh n).suspect else (s.sh n).suspect ++ [a]
    recoveries := if (s.sh n).recoveries.any (fun r => decide (r.frame = a)) then (s.sh n).recoveries
      else (s.sh n).recoveries ++ [⟨a, s.scrubberFor n (a / 8192)⟩] } := by
  simp only [State.planUncorr, State.sh_updSh_same, State.sh_shEvent, State.sh_addReg]

/-- The frame is suspect from then on. -/
theorem State.mem_suspect_planUncorr (a w : Nat) : a ∈ ((s.planUncorr n a w).sh n).suspect := by
  rw [State.sh_planUncorr]
  dsimp only
  split
  next h => simpa using h
  next => simp

theorem State.reg_planUncorr (a w : Nat) : (s.planUncorr n a w).reg n .SCB_CNT2_PLAN_UNCORR = min (s.reg n .SCB_CNT2_PLAN_UNCORR + 1) 65535 := by
  simp (disch := decide) only [State.planUncorr, State.reg_updSh, State.reg_shEvent, State.reg_addReg_same]
  rfl

/-- An uncorrectable Plan frame: what is shown of it is free. -/
theorem State.readFrame_uncorrectable (a : Nat) : ∃ x check, s.readFrame n a 0 true =
    ((s.free.2.planUncorr n a (Config.freeValue s.freeCtr % 16)).free.2).rbShow n x check true := by
  simp only [State.readFrame, true_or, if_true]
  exact ⟨_, _, rfl⟩

end Sys2Proof.Machine
end

section
/-! SUPPORT. Scrubbers (R318 to R325): their states and places, and what the compare of a frame leaves. -/

namespace Sys2Proof.Machine

variable {s : State} {n : Shaft}

theorem scbFld_ne (i : Bool) : scbFld i ≠ scbFld (!i) := by cases i <;> decide

theorem State.scrubber_updScrub_same (i : Bool) (f : Scrubber → Scrubber) : (s.updScrub n i f).scrubber n i = f (s.scrubber n i) := by
  cases i <;> simp [State.scrubber, State.updScrub]

theorem State.scrubber_updScrub_not (i : Bool) (f : Scrubber → Scrubber) : (s.updScrub n (!i) f).scrubber n i = s.scrubber n i := by
  cases i <;> simp [State.scrubber, State.updScrub]

/-- What is blind to the scrubbers of a shaft stays. -/
theorem State.updScrub_keeps {α : Type} (proj : ShaftSt → α) (h0 : ∀ x y, proj { x with scrub0 := y } = proj x)
    (h1 : ∀ x y, proj { x with scrub1 := y } = proj x) (i : Bool) (f : Scrubber → Scrubber) : proj ((s.updScrub n i f).sh n) = proj (s.sh n) := by
  rw [State.updScrub, State.sh_updSh_same]
  cases i
  · exact h0 _ _
  · exact h1 _ _

theorem State.scb_setScb_same (i : Bool) (v : Nat) (hv : v < 4) : (s.setScb n i v).scb n i = v := by
  refine (State.reg_setReg_same ..).trans (Nat.mod_eq_of_lt ?_)
  cases i <;> exact hv

theorem State.scb_setScb_not (i : Bool) (v : Nat) : (s.setScb n (!i) v).scb n i = s.scb n i := State.reg_setReg_field (scbFld_ne i)

/-- Scrubber `i` stops and its partner, which runs, covers its range from the start (R324). -/
theorem State.scbStop_of_running (i : Bool) (hpartner : s.scb n (!i) = Scb.RUN) : (s.scbStop n i).scb n i = Scb.STOPPED ∧
    (s.scbStop n i).scb n (!i) = Scb.COVERING ∧ ((s.scbStop n i).scrubber n (!i)).stope = scbFirst i ∧ ((s.scbStop n i).scrubber n (!i)).frame = 0 ∧
    ((s.scbStop n i).sh n).stopes = (s.sh n).stopes := by
  have hruns : ¬s.scb n (!i) = Scb.STOPPED := by rw [hpartner]; decide
  have hscb : ∀ (a : State) (j : Bool) (c : BitVec 16) (v : BitVec 8) (unit : Nat) (d : BitVec 96), (a.shEvent n c v unit d).scb n j = a.scb n j :=
    fun a j c v unit d => State.reg_shEvent _ n n c v unit d (by cases j <;> decide)
  have hscrubber : ∀ (a : State) (j : Bool) (c : BitVec 16) (v : BitVec 8) (unit : Nat) (d : BitVec 96),
      (a.shEvent n c v unit d).scrubber n j = a.scrubber n j := fun a j c v unit d => by
    rw [State.scrubber, State.sh_shEvent, State.scrubber]
  simp only [State.scbStop, if_neg hruns, hscb, hscrubber, State.scrubber_updScrub_same, true_and, State.sh_shEvent]
  refine ⟨(State.scb_setScb_not i _).trans (State.scb_setScb_same i _ (by decide)), State.scb_setScb_same (!i) _ (by decide), ?_⟩
  exact State.updScrub_keeps ShaftSt.stopes (fun _ _ => rfl) (fun _ _ => rfl) _ _

/-- A stopped scrubber is rebuilt, and its partner returns to its own range (R325). -/
theorem State.scbRestart_of_stopped (i : Bool) (hstopped : s.scb n i = Scb.STOPPED) (hpartner : s.scb n (!i) ≠ Scb.STOPPED) :
    (s.scbRestart n i).scb n i = Scb.RUN ∧ (s.scbRestart n i).scb n (!i) = Scb.RUN ∧ ((s.scbRestart n i).scrubber n i).stope = scbFirst i ∧
      ((s.scbRestart n i).scrubber n i).frame = 0 := by
  have hrestart : s.scbRestart n i = ((((s.updScrub n i (fun _ => ⟨scbFirst i, 0, s.up, [], [], false⟩)).setScb n i Scb.RUN).setScb n (!i) Scb.RUN).updScrub
      n (!i) (fun x => if scrubberOf x.stope = bit (!i) then x
        else { x with stope := scbFirst (!i), frame := 0, began := s.up, skipped := [], returned := false })) := by
    rw [State.scbRestart, if_neg (not_not.mpr hstopped), if_neg hpartner]
  have hscrubber : ∀ (a : State) (j j' : Bool) (v : Nat), (a.setScb n j v).scrubber n j' = a.scrubber n j' := fun _ _ _ _ => rfl
  rw [hrestart, State.scrubber_updScrub_not, hscrubber, hscrubber, State.scrubber_updScrub_same]
  exact ⟨(State.scb_setScb_not i _).trans (State.scb_setScb_same i _ (by decide)), State.scb_setScb_same (!i) _ (by decide), rfl, rfl⟩

/-- The write of RESTART for one scrubber alone. -/
theorem State.scbCtl_one (i : Bool) : s.scbCtl n (!i) i = s.scbRestart n i := by cases i <;> rfl

/-! ### The patrol -/

theorem State.patrols_of_runs {i : Bool} {f : Nat} (hrun : s.scb n i = Scb.RUN) (hf : f < 2 ^ 20) (hrange : f / 8192 / 64 = bit i) :
    s.patrols n i (f / 8192) = true := by
  have hown : scrubberOf (f / 8192) = bit i := by
    rw [scrubberOf]
    split <;> omega
  rw [State.patrols, hrun, hown]
  simp

/-- What a patrol's read does, where the scrubber patrols. -/
theorem State.scrubPatrol_of_runs {i : Bool} {f w : Nat} (hscrubs : s.scrubs n = true) (hrun : s.scb n i = Scb.RUN) (hf : f < 2 ^ 20)
    (hrange : f / 8192 / 64 = bit i) (hw : w < 16) : s.scrubPatrol n i f w .good = s ∧
    s.scrubPatrol n i f w .corrected = s.addReg n .SCB_CNT2_PLAN_CORR ∧ s.scrubPatrol n i f w .lost = s.planUncorr n f w := by
  have hgo : ¬(!s.scrubs n || decide (2 ^ 20 ≤ f) || decide (16 ≤ w) || !s.patrols n i (f / 8192)) = true := by
    rw [State.patrols_of_runs hrun hf hrange, hscrubs, decide_eq_false (Nat.not_le.mpr hf), decide_eq_false (Nat.not_le.mpr hw)]
    decide
  exact ⟨if_neg hgo, if_neg hgo, if_neg hgo⟩

/-! ### The compare of a frame -/

/-- R319: an upset that goes for good is put right, its bits are counted, and none of the frame's bits is left wrong. -/
theorem State.compareFrame_of_upset {i : Bool} {k f a : Nat} {upset : BitVec 1024}
    (hgolden : Tbl.get 0 (s.stope n k).active f = Tbl.get 0 (s.sh n).plan a) (hupset : upset ≠ 0) : s.compareFrame n i k f a upset 0 =
      ((((((s.keepSegments n k).updStope n k (fun x => { x with active := Tbl.set 0 x.active f (Tbl.get 0 (s.sh n).plan a) })).addReg n .SCB_CNT_CORR 0
        (popCount upset)).limEvent n 0x0804 Sev.info (bit i) (fun x => detail x) 0x0804 (popCount upset)).verify n i a []).releaseSegments n k) := by
  have hdiff : Tbl.get 0 (s.stope n k).active f ^^^ upset ^^^ Tbl.get 0 (s.sh n).plan a = upset := by
    rw [hgolden, BitVec.xor_comm _ upset, BitVec.xor_assoc, BitVec.xor_self, BitVec.xor_zero]
  have hleft : (0 : BitVec 1024) &&& upset = 0 := BitVec.zero_and
  have hput : Tbl.get 0 (s.sh n).plan a ^^^ (0 : BitVec 1024) = Tbl.get 0 (s.sh n).plan a := BitVec.xor_zero
  have hbits : bitsOf 0 = [] := by simp [bitsOf]
  simp only [State.compareFrame, hdiff, hleft, hput, hbits, if_neg hupset, if_neg (Ne.symm hupset)]

/-- With no bit wrong the verify changes only what is recorded of the frame. -/
theorem State.verify_nil (i : Bool) (a : Nat) : s.verify n i a [] = (s.updScrub n i (fun x =>
    { x with wrong := x.wrong.filter (fun e => decide (e.1 / 1024 ≠ a) || [].contains (e.1 % 1024)) })).updScrub n i id := rfl

theorem State.scrubber_verify_nil (i : Bool) (a : Nat) : ((s.verify n i a []).scrubber n i).stope = (s.scrubber n i).stope ∧
    ((s.verify n i a []).scrubber n i).frame = (s.scrubber n i).frame := by
  rw [State.verify_nil, State.scrubber_updScrub_same, State.scrubber_updScrub_same]
  exact ⟨rfl, rfl⟩

theorem State.verify_nil_keeps {α : Type} (proj : ShaftSt → α) (h0 : ∀ x y, proj { x with scrub0 := y } = proj x)
    (h1 : ∀ x y, proj { x with scrub1 := y } = proj x) (i : Bool) (a : Nat) : proj ((s.verify n i a []).sh n) = proj (s.sh n) := by
  rw [State.verify_nil]
  exact (State.updScrub_keeps proj h0 h1 _ _).trans (State.updScrub_keeps proj h0 h1 _ _)

theorem State.stope_verify_nil (i : Bool) (a j : Nat) : (s.verify n i a []).stope n j = s.stope n j :=
  State.verify_nil_keeps (fun h => Tbl.get Stope.zero h.stopes j) (fun _ _ => rfl) (fun _ _ => rfl) i a

/-- What the keepers of a stope take is the stope's alone. -/
theorem State.keepSegments_keeps {α : Type} {view : State → α} {k : Nat}
    (hview : ∀ v, view (s.updStope n k (fun x => { x with keepers := v })) = view s) : view (s.keepSegments n k) = view s := by
  simp only [State.keepSegments]
  split
  · exact hview _
  · rfl

/-- What the compare of a frame with a passing upset leaves. -/
theorem State.compareFrame_leaves {i : Bool} {k f a : Nat} {upset : BitVec 1024}
    (hgolden : Tbl.get 0 (s.stope n k).active f = Tbl.get 0 (s.sh n).plan a) (hupset : upset ≠ 0) : ∃ t, s.compareFrame n i k f a upset 0 = t ∧
      Tbl.get 0 (t.stope n k).active f = Tbl.get 0 (s.sh n).plan a ∧ (t.scrubber n i).stope = (s.scrubber n i).stope ∧
      (t.scrubber n i).frame = (s.scrubber n i).frame ∧
      t.reg n .SCB_CNT_CORR = min (s.reg n .SCB_CNT_CORR + (List.range 1024).countP (fun j => upset.getLsbD j)) 65535 ∧
      (∀ j, j ≠ k → t.stope n j = s.stope n j) ∧ (t.sh n).plan = (s.sh n).plan := by
  have hstope : ∀ (a : State) (c j : Nat), (a.limEvent n 0x0804 Sev.info (bit i) (fun x => detail x) 0x0804 c).stope n j = a.stope n j :=
    fun a c j => State.limEvent_keeps a n (fun h => Tbl.get Stope.zero h.stopes j) (fun _ _ => rfl) ..
  have hscrubber : ∀ (a : State) (c : Nat), (a.limEvent n 0x0804 Sev.info (bit i) (fun x => detail x) 0x0804 c).scrubber n i = a.scrubber n i :=
    fun a c => State.limEvent_keeps a n (fun h => if i then h.scrub1 else h.scrub0) (fun _ _ => rfl) ..
  have hstopes : ∀ (a : State) (F : Stope → Stope), (a.updStope n k F).scrubber n i = a.scrubber n i := fun a F => by
    rw [State.scrubber, State.sh_updStope_same, State.scrubber]
  have hadd : ∀ (a : State) (c : Nat), (a.addReg n .SCB_CNT_CORR 0 c).sh n = a.sh n := fun a c => a.sh_addReg ..
  have haddStope : ∀ (a : State) (c j : Nat), (a.addReg n .SCB_CNT_CORR 0 c).stope n j = a.stope n j := fun _ _ _ => rfl
  have haddScrubber : ∀ (a : State) (c : Nat), (a.addReg n .SCB_CNT_CORR 0 c).scrubber n i = a.scrubber n i := fun _ _ => rfl
  have hkept : (s.keepSegments n k).scrubber n i = s.scrubber n i :=
    State.keepSegments_keeps (view := fun a => a.scrubber n i) (fun v => hstopes s _)
  refine ⟨_, State.compareFrame_of_upset hgolden hupset, ?_, ?_, ?_, ?_, fun j hj => ?_, ?_⟩
  · rw [State.releaseSegments, State.stope_updStope_same, State.stope_verify_nil, hstope, haddStope, State.stope_updStope_same]
    exact Tbl.get_set_same ..
  · rw [State.releaseSegments, hstopes, (State.scrubber_verify_nil i a).1, hscrubber, haddScrubber, hstopes, hkept]
  · rw [State.releaseSegments, hstopes, (State.scrubber_verify_nil i a).2, hscrubber, haddScrubber, hstopes, hkept]
  · have hcount : ∀ a' : State, ((a'.verify n i a []).releaseSegments n k).reg n .SCB_CNT_CORR = a'.reg n .SCB_CNT_CORR := fun _ => rfl
    have hreg : ((s.keepSegments n k).updStope n k (fun x => { x with active := Tbl.set 0 x.active f (Tbl.get 0 (s.sh n).plan a) })).reg n
        .SCB_CNT_CORR = s.reg n .SCB_CNT_CORR :=
      State.keepSegments_keeps (view := fun a => a.reg n .SCB_CNT_CORR) (fun _ => rfl)
    rw [hcount, State.reg_limEvent _ n n _ _ _ _ _ _ (by decide), State.reg_addReg_same, hreg, popCount_eq_countP]
    rfl
  · have hkeepers : (s.keepSegments n k).stope n j = s.stope n j :=
      State.keepSegments_keeps (view := fun a => a.stope n j) (fun v => s.stope_updStope_other n _ hj)
    rw [State.releaseSegments, State.stope_updStope_other _ _ _ hj, State.stope_verify_nil, hstope, haddStope,
      State.stope_updStope_other _ _ _ hj, hkeepers]
  · have hplan : ∀ (a : State) (F : Stope → Stope), ((a.updStope n k F).sh n).plan = (a.sh n).plan := fun a F => by rw [State.sh_updStope_same]
    rw [State.releaseSegments, hplan, State.verify_nil_keeps ShaftSt.plan (fun _ _ => rfl) (fun _ _ => rfl),
      State.limEvent_keeps _ n ShaftSt.plan (fun _ _ => rfl), hadd, hplan]
    exact State.keepSegments_keeps (view := fun a => (a.sh n).plan) (fun v => hplan s _)

end Sys2Proof.Machine
end

section
/-! PROOF. O40: scrubbers, the Plan patrol and readback. -/

namespace Sys2Proof.Machine

variable {s : State} {n : Shaft}

/-- The visit of a frame that its scrubber may compare. -/
theorem State.scrubFrame_of_good {i : Bool} {u : ScrubCheck} (hscrubs : s.scrubs n = true) (hseams : s.seamsOut n = false)
    (hrun : s.scb n i = Scb.RUN) (hvote : u.vote = .agree) (hgood : u.golden = .good) (hskips : s.scbSkips n (s.scrubber n i).stope = false)
    (hsuspect : frameAddr (s.scrubber n i).stope (s.reg n .CTX_STOPE_ACTIVE (s.scrubber n i).stope) (s.scrubber n i).frame ∉ (s.sh n).suspect) :
    s.scrubFrame n i u = (s.compareFrame n i (s.scrubber n i).stope (s.scrubber n i).frame
      (frameAddr (s.scrubber n i).stope (s.reg n .CTX_STOPE_ACTIVE (s.scrubber n i).stope) (s.scrubber n i).frame) u.upset u.stays).scbNextFrame n i := by
  have hgo : ¬(!s.scrubs n || s.seamsOut n || decide (s.scb n i = Scb.STOPPED)) = true := by
    rw [hscrubs, hseams, hrun]
    decide
  have hread : ∀ a, a ∉ (s.sh n).suspect → s.readGolden n a u = (s, true) := fun a ha => by
    rw [State.readGolden, if_neg (by simpa using ha), hgood]
  rw [State.scrubFrame, if_neg hgo, hvote]
  simp only [State.scbVote, Bool.not_true, Bool.false_eq_true, if_false, hskips, hread _ hsuspect, if_true]

/-- The visit of a scrubber of which no two copies agree. -/
theorem State.scrubFrame_of_noneAgree {i : Bool} {u : ScrubCheck} (hscrubs : s.scrubs n = true) (hseams : s.seamsOut n = false)
    (hrun : s.scb n i = Scb.RUN) (hvote : u.vote = .noneAgree) : s.scrubFrame n i u = s.scbStop n i := by
  have hgo : ¬(!s.scrubs n || s.seamsOut n || decide (s.scb n i = Scb.STOPPED)) = true := by
    rw [hscrubs, hseams, hrun]
    decide
  rw [State.scrubFrame, if_neg hgo, hvote]
  rfl

/-- The next frame of the same stope. -/
theorem State.scbNextFrame_of_lt {i : Bool} (h : (s.scrubber n i).frame < 1023) :
    s.scbNextFrame n i = s.updScrub n i (fun x => { x with frame := x.frame + 1 }) := if_neg (Nat.ne_of_lt h)

theorem State.readFrame_good {a plane : Nat} {x : BitVec 1024} {check : BitVec 32} (hbusy : s.reg n .CTX_RB_STAT_BUSY = 0) (hplane : plane ≤ 2)
    (hframe : s.readFrame n a plane false = s.rbShow n x check false) : (s.readback n a plane false).reg n .CTX_RB_STAT_BUSY = 1 ∧
      ((s.readback n a plane false).readbackUs n).reg n .CTX_RB_STAT_BUSY = 0 ∧ (s.readback n a plane false).Shows n x check false := by
  obtain ⟨heq, hone, hus⟩ := State.readback_of_idle hbusy hplane a false
  refine ⟨hone, hus, ?_⟩
  rw [heq, hframe]
  exact (State.rbShow_shows x check false).setBusy 1

/-- Settles O40: a scrubber's visit through the compare of its frame, the patrol through what it makes of a frame met uncorrectable, and a readback
through what its registers show. -/
theorem scrubbing : Obligations.Scrubbing := by
  unfold Obligations.Scrubbing
  intro s n i
  refine ⟨fun hscrubs hseams hrun => ⟨fun u hvote hgood hstays hskips hsuspect hframe _ hgolden hupset => ?_, fun u hvote hpartner => ?_⟩,
    fun hopen hstopped hcovers => ?_, fun f w hscrubs hrun hf hrange hw => ?_, fun f hopen hbusy => ?_⟩
  · obtain ⟨t, ht, hactive, hstope, hnext, hcount, hothers, hplan⟩ := State.compareFrame_leaves (i := i) hgolden hupset
    have hscrubbed := State.scrubFrame_of_good hscrubs hseams hrun hvote hgood hskips hsuspect
    rw [hstays, ht, State.scbNextFrame_of_lt (by omega)] at hscrubbed
    have hstopes : ∀ (F : Scrubber → Scrubber) (j : Nat), (t.updScrub n i F).stope n j = t.stope n j := fun F j =>
      State.updScrub_keeps (fun h => Tbl.get Stope.zero h.stopes j) (fun _ _ => rfl) (fun _ _ => rfl) i F
    refine ⟨_, congrArg Host.Outcome.next hscrubbed, ?_, ?_, ?_, hcount, fun j hj => (hstopes _ j).trans (hothers j hj), ?_⟩
    · rw [hstopes]
      exact hactive
    · rw [State.scrubber_updScrub_same, ← hnext]
    · rw [State.scrubber_updScrub_same]
      exact hstope
    · exact (State.updScrub_keeps ShaftSt.plan (fun _ _ => rfl) (fun _ _ => rfl) i _).trans hplan
  · obtain ⟨hown, hcovers, hstope, hframe, hstopes⟩ := State.scbStop_of_running i hpartner
    exact ⟨_, congrArg Host.Outcome.next (State.scrubFrame_of_noneAgree hscrubs hseams hrun hvote), hown, hcovers, hstope, hframe, hstopes⟩
  · obtain ⟨hown, hpartner, hstope, hframe⟩ := State.scbRestart_of_stopped i hstopped (by rw [hcovers]; decide)
    exact ⟨_, (exec_scrubberRestart_of_open hopen _ _).trans (congrArg Host.Outcome.next (State.scbCtl_one i)), hown, hpartner, hstope, hframe⟩
  · obtain ⟨hgood, hcorrected, hlost⟩ := State.scrubPatrol_of_runs hscrubs hrun hf hrange hw
    refine ⟨congrArg Host.Outcome.next hgood, congrArg Host.Outcome.next hcorrected, fun hnew => ?_, fun hold => ?_⟩
    · refine ⟨_, congrArg Host.Outcome.next hlost, ?_, State.reg_planUncorr f w⟩
      rw [State.sh_planUncorr]
      exact if_neg (by simpa using hnew)
    · refine ⟨_, congrArg Host.Outcome.next hlost, ?_, State.reg_planUncorr f w⟩
      rw [State.sh_planUncorr]
      exact if_pos (by simpa using hold)
  · have hshows : ∀ (plane : BitVec 2) (d : BitVec 1024) (check : BitVec 32), plane ≠ 3 →
        s.readFrame n f.toNat plane.toNat false = s.rbShow n d check false →
        ∃ t : State, exec (.readback n f plane false) s = .next t ∧ t.reg n .CTX_RB_STAT_BUSY = 1 ∧ (t.readbackUs n).reg n .CTX_RB_STAT_BUSY = 0 ∧
          t.reg n .CTX_RB_STAT_VALID = 1 ∧ t.reg n .CTX_RB_STAT_UNCORR = 0 ∧ t.reg n .CTX_RB_CHECK_CHECK = check.toNat ∧
          t.reg n .CTX_RB_STAT_CHECK_OK = (if frameCheck d = check then 1 else 0) ∧
          ∀ j, j < 32 → t.reg n .CTX_RB_DATA_DATA j = (d.extractLsb' (32 * j) 32).toNat := by
      intro plane d check hplane hframe
      have hle : plane.toNat ≤ 2 := by
        have hne : plane.toNat ≠ 3 := fun h => hplane (BitVec.eq_of_toNat_eq h)
        omega
      obtain ⟨hone, hus, hvalid, huncorr, hcheck, hok, hdata⟩ := State.readFrame_good hbusy hle hframe
      refine ⟨_, exec_readback_of_open hopen f hplane false, hone, hus, hvalid, huncorr, hcheck, hok.trans ?_, hdata⟩
      by_cases h : frameCheck d = check <;> simp [h, bit]
    refine ⟨fun hsuspect => hshows 0 _ _ (by decide) ?_, fun hseams hheld => hshows 1 _ _ (by decide) ?_,
      fun hseams => hshows 2 _ _ (by decide) ?_, ?_⟩
    · exact if_neg (by simpa using hsuspect)
    · exact if_neg (by simp [hseams, hheld])
    · exact if_neg (by simp [hseams])
    · obtain ⟨heq, -, -⟩ := State.readback_of_idle hbusy (plane := 0) (by decide) f.toNat true
      obtain ⟨x, check, hframe⟩ := State.readFrame_uncorrectable (s := s) (n := n) f.toNat
      rw [hframe] at heq
      refine ⟨_, (exec_readback_of_open hopen f (by decide) true).trans (congrArg Host.Outcome.next heq), ?_, ?_, ?_, ?_⟩
      · obtain ⟨-, huncorr, -⟩ := (State.rbShow_shows x check true).setBusy 1
        exact huncorr
      · obtain ⟨hvalid, -⟩ := (State.rbShow_shows x check true).setBusy 1
        exact hvalid
      · rw [State.sh_setReg, State.sh_rbShow]
        exact State.mem_suspect_planUncorr _ _
      · rw [State.reg_setReg_field (by decide), State.reg_rbShow _ _ _ (by decide)]
        exact State.reg_planUncorr _ _

end Sys2Proof.Machine
end

section
/-! SUPPORT. Results of CTX commands, preloads and discards (R308, R309, R329). -/

namespace Sys2Proof.Machine

variable {s : State} {n : Shaft}

theorem State.reg_ctxResult {r : Nat} (hr : r < 16) : (s.ctxResult n r).reg n .CTX_CMD_STAT_RESULT = r ∧ (s.ctxResult n r).reg n .CTX_CMD_STAT_BUSY = 0 := by
  refine ⟨?_, State.reg_setReg_same ..⟩
  rw [State.ctxResult, State.reg_setReg_field (by decide), State.reg_setReg_same]
  exact Nat.mod_eq_of_lt hr

theorem State.reg_ctxResult_field (r : Nat) {g : Fld} (hg : g ∉ [.CTX_CMD_STAT_RESULT, .CTX_CMD_STAT_BUSY]) (e : Nat) :
    (s.ctxResult n r).reg n g e = s.reg n g e := by
  simp only [List.mem_cons, List.not_mem_nil, or_false, not_or] at hg
  exact (State.reg_setReg_field hg.2).trans (State.reg_setReg_field hg.1)

theorem State.sh_ctxResult (r : Nat) (m : Shaft) : (s.ctxResult n r).sh m = s.sh m := rfl

theorem State.stope_ctxResult (r j : Nat) : (s.ctxResult n r).stope n j = s.stope n j := rfl

/-- A command while one runs is LOST, and nothing else. -/
theorem State.ctxCmd_of_busy (hbusy : s.reg n .CTX_CMD_STAT_BUSY ≠ 0) (op k c g : Nat) : s.ctxCmd n op k c g = s.setReg n .CTX_CMD_STAT_LOST 1 :=
  if_pos (State.regB_eq_true.mpr hbusy)

/-- With none running each command is taken up. -/
theorem State.ctxCmd_of_idle (hidle : s.reg n .CTX_CMD_STAT_BUSY = 0) (k c g : Nat) : s.ctxCmd n 1 k c g = s.preloadCmd n k c ∧
    s.ctxCmd n 2 k c g = s.discardCmd n k ∧ s.ctxCmd n 3 k c g = s.swapCmd n [k] none ∧ s.ctxCmd n 4 k c g = s.swapCmd n (s.gang n g) (some g) := by
  have hgo : ¬s.regB n .CTX_CMD_STAT_BUSY = true := by rw [State.regB_eq_false.mpr hidle]; decide
  exact ⟨if_neg hgo, if_neg hgo, if_neg hgo, if_neg hgo⟩

theorem State.preloadCmd_of_free {k c : Nat} (hvalid : s.reg n .CTX_SLOT_STATE (8 * k + c) = Slt.VALID) (hrefuses : s.ctxRefuses n = false)
    (hpre : s.preloading n k = false) (hswap : s.inSwap n k = false) : s.preloadCmd n k c =
      ((s.setReg n .CTX_STOPE_SH_STATE Shd.PRELOADING k).setReg n .CTX_CMD_STAT_BUSY 1).updSh n
        (fun h => { h with preloads := Tbl.set none h.preloads k (some c) }) := by
  have hbars : s.preloadBars n k c = none := by simp [State.preloadBars, hvalid, hrefuses, hpre, hswap]
  rw [State.preloadCmd, hbars]

theorem State.preloadCmd_of_invalid {k c : Nat} (hinvalid : s.reg n .CTX_SLOT_STATE (8 * k + c) ≠ Slt.VALID) :
    s.preloadCmd n k c = s.ctxResult n CtxRes.SLOT_INVALID := by
  rw [State.preloadCmd, State.preloadBars, if_pos hinvalid]

/-! ### The end of a preload -/

/-- The state in which a preload that ends takes its frames. -/
def State.preloadOut (s : State) (n : Shaft) (k : Nat) : State := s.updSh n (fun h => { h with preloads := Tbl.set none h.preloads k none })

theorem State.preloading_preloadOut (k : Nat) : (s.preloadOut n k).preloading n k = false := by
  simp [State.preloading, State.preloadOut]

theorem State.stope_preloadOut (k j : Nat) : (s.preloadOut n k).stope n j = s.stope n j := by
  rw [State.preloadOut, State.stope_updSh]
  exact fun _ => rfl

theorem State.planSlot_preloadOut (k c : Nat) : (s.preloadOut n k).planSlot n k c = s.planSlot n k c := by
  rw [State.planSlot, State.preloadOut, State.sh_updSh_same]
  rfl

/-- No suspect frame of the slot: the shadow takes it. -/
theorem State.preloadDone_of_good {k c : Nat} (hpre : Tbl.get none (s.sh n).preloads k = some c)
    (hgood : ∀ a ∈ (s.sh n).suspect, a / 1024 ≠ 8 * k + c) : s.preloadDone n k none = ((s.preloadOut n k).shadowFrom n k c).ctxResult n CtxRes.DONE := by
  have hnone : s.suspectIn n k c = none := by
    have hfind : (s.sh n).suspect.find? (fun a => decide (a / 1024 = frameAddr k c 0 / 1024)) = none := by
      refine List.find?_eq_none.mpr fun a ha => ?_
      have hslot : frameAddr k c 0 / 1024 = 8 * k + c := by rw [frameAddr]; omega
      simpa [hslot] using hgood a ha
    rw [State.suspectIn, hfind]
    rfl
  rw [State.preloadDone, hpre]
  simp only [Option.orElse, hnone]
  rfl

theorem State.preloadDone_of_bad {k c f : Nat} (hpre : Tbl.get none (s.sh n).preloads k = some c) :
    s.preloadDone n k (some f) = ((s.preloadOut n k).preloadFails n k c f).ctxResult n CtxRes.PLAN_UNCORR := by
  rw [State.preloadDone, hpre]
  rfl

theorem State.stope_shadowFrom_same (k c : Nat) : (s.shadowFrom n k c).stope n k = { s.stope n k with shadow := s.planSlot n k c } :=
  s.stope_updStope_same ..

theorem State.stope_shadowFrom_other {k j : Nat} (hj : j ≠ k) (c : Nat) : (s.shadowFrom n k c).stope n j = s.stope n j := s.stope_updStope_other n _ hj

theorem State.reg_shadowFrom (k : Nat) {c : Nat} (hc : c < 8) :
    (s.shadowFrom n k c).reg n .CTX_STOPE_SH_STATE k = 2 ∧ (s.shadowFrom n k c).reg n .CTX_STOPE_SHADOW k = c := by
  constructor
  · simp (disch := decide) only [State.shadowFrom, State.reg_addReg_field, State.reg_setReg_field, State.reg_setReg_same]
    rfl
  · simp (disch := decide) only [State.shadowFrom, State.reg_addReg_field, State.reg_setReg_same]
    exact Nat.mod_eq_of_lt hc

theorem State.preloading_shadowFrom (k c j : Nat) : (s.shadowFrom n k c).preloading n j = s.preloading n j := by
  simp [State.preloading, State.shadowFrom, State.sh_addReg, State.sh_setReg, State.sh_updStope_same]

/-- A preload that met an uncorrectable frame. -/
theorem State.preloadFails_leaves {k c f : Nat} (hf : f < 1024) : (s.preloadFails n k c f).reg n .CTX_STOPE_SH_STATE k = 0 ∧
    f + 1024 * c + 8192 * k ∈ ((s.preloadFails n k c f).sh n).suspect ∧ (s.preloadFails n k c f).preloading n k = s.preloading n k := by
  refine ⟨State.reg_setReg_same .., ?_, ?_⟩
  · have hmem := State.mem_suspect_planUncorr (s := s.free.2) (n := n) (frameAddr k c (f % 1024)) (Config.freeValue s.free.1 % 16)
    rw [State.preloadFails, State.emptyShadow, State.sh_setReg, frameAddr, Nat.mod_eq_of_lt hf]
    rwa [frameAddr, Nat.mod_eq_of_lt hf] at hmem
  · have hpreloads : ((s.preloadFails n k c f).sh n).preloads = (s.sh n).preloads := by
      simp only [State.preloadFails, State.emptyShadow, State.sh_setReg, State.sh_planUncorr]
      rfl
    rw [State.preloading, hpreloads, State.preloading]

end Sys2Proof.Machine
end

section
/-! SUPPORT. Contention (R284, R285): an upset that sets enables sets two at least. -/

namespace Sys2Proof.Machine

variable {s : State} {n : Shaft}

/-- A plane with the enable of drive point `i` of a segment set. -/
def enableSet (seg : BitVec 16) (p : Tbl (BitVec 1024)) (i : Nat) : Tbl (BitVec 1024) :=
  Tbl.upd 0 p (drivePlace seg i).1 (fun y => y ||| ((1 : BitVec 1024) <<< (drivePlace seg i).2))

theorem driveOn_enableSet_same (seg : BitVec 16) (p : Tbl (BitVec 1024)) (i : Nat) : driveOn (enableSet seg p i) seg i = true := by
  have hbit : (drivePlace seg i).2 < 1024 := Nat.mod_lt _ (by decide)
  simp [driveOn, enableSet, hbit]

theorem driveOn_enableSet {seg : BitVec 16} {p : Tbl (BitVec 1024)} {j : Nat} (i : Nat) (h : driveOn p seg j = true) :
    driveOn (enableSet seg p i) seg j = true := by
  rw [driveOn, enableSet]
  by_cases hf : (drivePlace seg j).1 = (drivePlace seg i).1
  · rw [hf, Tbl.get_upd_same, BitVec.getLsbD_or, ← hf]
    exact Bool.or_eq_true_iff.mpr (.inl h)
  · rw [Tbl.get_upd_other _ _ _ hf]
    exact h

/-- After enables are set, the points enabled before and those set are enabled. -/
theorem driveOn_foldl_enableSet (seg : BitVec 16) (l : List Nat) (p : Tbl (BitVec 1024)) :
    (∀ j, driveOn p seg j = true → driveOn (l.foldl (enableSet seg) p) seg j = true) ∧ ∀ j ∈ l, driveOn (l.foldl (enableSet seg) p) seg j = true :=
  foldl_establishes (Q := fun q => ∀ j, driveOn p seg j = true → driveOn q seg j = true) (P := fun j q => driveOn q seg j = true)
    (fun _ i hq j hj => driveOn_enableSet i (hq j hj)) (fun _ _ i _ hj => driveOn_enableSet i hj) (fun _ _ _ => driveOn_enableSet_same ..) l p
    (fun _ hj => hj)

/-- The drive points of a segment that are not enabled. -/
def driveDisabled (p : Tbl (BitVec 1024)) (seg : BitVec 16) : List Nat := (List.range (segPoints seg)).filter (fun i => !driveOn p seg i)

theorem length_driveEnabled_add (p : Tbl (BitVec 1024)) (seg : BitVec 16) :
    (driveEnabled p seg).length + (driveDisabled p seg).length = segPoints seg := by
  rw [driveEnabled, driveDisabled, ← List.length_eq_length_filter_add, List.length_range]

/-- The points an upset sets are the first so many of those not enabled, in an order that begins anywhere. -/
theorem State.upsetPoints_eq (k : Nat) (seg : BitVec 16) : ∃ l : List Nat, l.Perm (driveDisabled (s.stope n k).active seg) ∧
    s.upsetPoints n k seg = l.take (2 - (driveEnabled (s.stope n k).active seg).length) := by
  have hoff : (List.range (segPoints seg)).filter (fun i => !(driveEnabled (s.stope n k).active seg).contains i) =
      driveDisabled (s.stope n k).active seg := by
    refine List.filter_congr fun i hi => ?_
    cases hon : driveOn (s.stope n k).active seg i <;> simp [driveEnabled, hon, List.mem_range.mp hi]
  simp only [State.upsetPoints, hoff]
  exact ⟨_, List.perm_append_comm.trans (by rw [List.take_append_drop]), rfl⟩

/-- They are not enabled, are points of the segment, and make two with those enabled. -/
theorem State.upsetPoints_facts (k : Nat) {seg : BitVec 16} (hpoints : 2 ≤ segPoints seg) :
    (driveEnabled (s.stope n k).active seg ++ s.upsetPoints n k seg).Nodup ∧ (∀ i ∈ s.upsetPoints n k seg, i < segPoints seg) ∧
      2 ≤ (driveEnabled (s.stope n k).active seg ++ s.upsetPoints n k seg).length := by
  obtain ⟨l, hperm, hup⟩ := State.upsetPoints_eq (s := s) (n := n) k seg
  have hlength := length_driveEnabled_add (s.stope n k).active seg
  have hoff : ∀ i ∈ s.upsetPoints n k seg, i < segPoints seg ∧ driveOn (s.stope n k).active seg i = false := fun i hi => by
    rw [hup] at hi
    simpa [driveDisabled] using hperm.mem_iff.mp (List.mem_of_mem_take hi)
  refine ⟨List.nodup_append.mpr ⟨List.nodup_range.filter _, ?_, ?_⟩, fun i hi => (hoff i hi).1, ?_⟩
  · rw [hup]
    exact (hperm.nodup_iff.mpr (List.nodup_range.filter _)).sublist (List.take_sublist ..)
  · rintro i hi j hj rfl
    have hon : driveOn (s.stope n k).active seg i = true := (List.mem_filter.mp hi).2
    rw [(hoff i hj).2] at hon
    exact Bool.false_ne_true hon
  · rw [List.length_append, hup, List.length_take, hperm.length_eq]
    omega

/-- R284: two enables of the segment are set. -/
theorem State.driveEnabled_upset (k : Nat) {seg : BitVec 16} (hpoints : 2 ≤ segPoints seg) :
    2 ≤ (driveEnabled ((s.upsetPoints n k seg).foldl (enableSet seg) (s.stope n k).active) seg).length := by
  obtain ⟨hnodup, hrange, htwo⟩ := State.upsetPoints_facts (s := s) (n := n) k hpoints
  obtain ⟨hkept, hset⟩ := driveOn_foldl_enableSet seg (s.upsetPoints n k seg) (s.stope n k).active
  refine htwo.trans (hnodup.subperm fun i hi => ?_).length_le
  rw [driveEnabled, List.mem_filter, List.mem_range]
  rcases List.mem_append.mp hi with hon | hup
  · rw [driveEnabled, List.mem_filter, List.mem_range] at hon
    exact ⟨hon.1, hkept i hon.2⟩
  · exact ⟨hrange i hup, hset i hup⟩

/-- The stope of a segment that an upset has made contend. -/
def contendedStope (x : Stope) (up : List Nat) (seg : BitVec 16) : Stope :=
  { x with active := up.foldl (enableSet seg) x.active, contended := x.contended ++ [seg] }

/-- R285: the detector turns the segment off, records it and counts it. -/
theorem State.contention_of_new {k : Nat} {seg : BitVec 16} (hk : k < 8) (hseams : s.seamsOut n = false) (hactive : (s.stope n k).active ≠ [])
    (hvalid : segValid seg = true) (hpoints : 2 ≤ segPoints seg) (hnew : seg ∉ (s.stope n k).contended) : s.contention n k seg =
      ((((({ s.keepSegments n k with freeCtr := s.freeCtr + 1 }.updStope n k (fun x => contendedStope x (s.upsetPoints n k seg) seg)).setReg n
        .STP_STAT_CONTENDED 1 k).setReg n .STP_CONT_LOG_SEGMENT seg.toNat k).setReg n .STP_CONT_LOG_VALID 1 k).addReg n
        .STP_STAT_CONTENTIONS k).shEvent n 0x0701 Sev.warning k (detail seg.toNat) := by
  have hgo : ¬(8 ≤ k ∨ s.seamsOut n = true ∨ (s.stope n k).active = [] ∨ (!segValid seg) = true ∨ segPoints seg < 2 ∨
      (s.stope n k).contended.contains seg = true) := by
    simp [hseams, hactive, hvalid, hnew]
    omega
  exact if_neg hgo

/-- A segment turned off is driven by none. -/
theorem Stope.driver_of_contended {x : Stope} {seg : BitVec 16} (h : seg ∈ x.contended) : x.driver seg = none :=
  if_pos (List.contains_iff_mem.mpr h)

theorem State.contention_leaves {k : Nat} {seg : BitVec 16} (hk : k < 8) (hseams : s.seamsOut n = false) (hactive : (s.stope n k).active ≠ [])
    (hvalid : segValid seg = true) (hpoints : 2 ≤ segPoints seg) (hnew : seg ∉ (s.stope n k).contended) : ∃ t, s.contention n k seg = t ∧
      (t.stope n k).contended = (s.stope n k).contended ++ [seg] ∧ t.reg n .STP_STAT_CONTENDED k = 1 ∧ t.reg n .STP_CONT_LOG_VALID k = 1 ∧
      t.reg n .STP_CONT_LOG_SEGMENT k = seg.toNat ∧
      (t.stope n k).active = (s.upsetPoints n k seg).foldl (enableSet seg) (s.stope n k).active ∧ ∀ j, j ≠ k → t.stope n j = s.stope n j := by
  have hkeep : ∀ {α : Type} (proj : Stope → α) (_ : ∀ x v, proj { x with keepers := v } = proj x) (j : Nat),
      proj ((s.keepSegments n k).stope n j) = proj (s.stope n j) := fun proj h j =>
    State.keepSegments_keeps (view := fun a => proj (a.stope n j)) (fun v => s.stope_updStope_keeps proj n k j (fun x => h x v))
  have hafter : ∀ (a : State) (j : Nat), ((((((a.setReg n .STP_STAT_CONTENDED 1 k).setReg n .STP_CONT_LOG_SEGMENT seg.toNat k).setReg n
      .STP_CONT_LOG_VALID 1 k).addReg n .STP_STAT_CONTENTIONS k).shEvent n 0x0701 Sev.warning k (detail seg.toNat)).stope n j) = a.stope n j :=
    fun a j => State.stope_event ..
  refine ⟨_, State.contention_of_new hk hseams hactive hvalid hpoints hnew, ?_, ?_, ?_, ?_, ?_, fun j hj => ?_⟩
  · rw [hafter, State.stope_updStope_same]
    exact congrArg (· ++ [seg]) (hkeep Stope.contended (fun _ _ => rfl) k)
  · simp (disch := decide) only [State.reg_shEvent, State.reg_addReg_field, State.reg_setReg_field, State.reg_setReg_same]
    rfl
  · simp (disch := decide) only [State.reg_shEvent, State.reg_addReg_field, State.reg_setReg_same]
    rfl
  · simp (disch := decide) only [State.reg_shEvent, State.reg_addReg_field, State.reg_setReg_field, State.reg_setReg_same]
    exact Nat.mod_eq_of_lt seg.isLt
  · rw [hafter, State.stope_updStope_same]
    exact congrArg (List.foldl (enableSet seg) · _) (hkeep Stope.active (fun _ _ => rfl) k)
  · rw [hafter, State.stope_updStope_other _ _ _ hj]
    have hkept : (s.keepSegments n k).stope n j = s.stope n j :=
      State.keepSegments_keeps (view := fun a => a.stope n j) (fun v => s.stope_updStope_other n _ hj)
    exact hkept

end Sys2Proof.Machine
end

section
/-! SUPPORT. The start of a swap (R310, R313): its checks, its holds, and what a refusal shows. -/

namespace Sys2Proof.Machine

variable {s : State} {n : Shaft}

/-- Check 1: no preload and no other swap holds the stope. -/
def State.swapFree (s : State) (n : Shaft) (k : Nat) : Prop := s.preloading n k = false ∧ s.inSwap n k = false

/-- Check 2: its shadow holds a context. -/
def State.swapReady (s : State) (n : Shaft) (k : Nat) : Prop := s.shState n k = 2 ∨ s.shState n k = 3

/-- Check 3 fails: its pacer is below the tempo the context asks for. -/
def State.swapSlow (s : State) (n : Shaft) (k : Nat) : Prop :=
  s.reg n .PCE_STOPE_TEMPO (s.pacerOf n k) < ((Tbl.get 0 (s.stope n k).shadow 1022 : BitVec 1024).extractLsb' 0 8).toNat

theorem State.failing_one_eq_none {members : List Nat} : s.failing n members 1 = none ↔ ∀ k ∈ members, s.swapFree n k := by
  rw [State.failing, List.find?_eq_none]
  simp [State.swapFree]

theorem State.failing_two_eq_none {members : List Nat} : s.failing n members 2 = none ↔ ∀ k ∈ members, s.swapReady n k := by
  rw [State.failing, List.find?_eq_none]
  refine forall₂_congr fun k _ => ?_
  change ¬(decide (s.shState n k ≠ 2) && decide (s.shState n k ≠ 3)) = true ↔ s.shState n k = 2 ∨ s.shState n k = 3
  rw [Bool.and_eq_true, decide_eq_true_eq, decide_eq_true_eq]
  omega

theorem State.failing_three_eq_none {members : List Nat} : s.failing n members 3 = none ↔ ∀ k ∈ members, ¬s.swapSlow n k := by
  rw [State.failing, List.find?_eq_none]
  exact forall₂_congr fun k _ => not_congr decide_eq_true_iff

/-- A check that fails for a single member fails at it. -/
theorem State.failing_single {k i : Nat} (h : s.failing n [k] i ≠ none) : s.failing n [k] i = some k := by
  obtain ⟨j, hj⟩ := Option.ne_none_iff_exists'.mp h
  have hmem := List.mem_of_find?_eq_some hj
  rw [hj, List.mem_singleton.mp hmem]

theorem State.swapCheck_of_passes {members : List Nat} (h : ∀ k ∈ members, s.swapFree n k ∧ s.swapReady n k ∧ ¬s.swapSlow n k) :
    s.swapCheck n members = none := by
  rw [State.swapCheck, State.failing_one_eq_none.mpr fun k hk => (h k hk).1, State.failing_two_eq_none.mpr fun k hk => (h k hk).2.1,
    State.failing_three_eq_none.mpr fun k hk => (h k hk).2.2]

/-- The first check that a stope fails gives the RESULT. -/
theorem State.swapCheck_single {k r : Nat} (h : (¬s.swapFree n k ∧ r = 5) ∨ (s.swapFree n k ∧ ¬s.swapReady n k ∧ r = 2) ∨
    (s.swapFree n k ∧ s.swapReady n k ∧ s.swapSlow n k ∧ r = 3)) : s.swapCheck n [k] = some (r, k) := by
  have hone := State.failing_one_eq_none (s := s) (n := n) (members := [k])
  have htwo := State.failing_two_eq_none (s := s) (n := n) (members := [k])
  have hthree := State.failing_three_eq_none (s := s) (n := n) (members := [k])
  simp only [List.mem_singleton, forall_eq] at hone htwo hthree
  rcases h with ⟨hfree, rfl⟩ | ⟨hfree, hready, rfl⟩ | ⟨hfree, hready, hslow, rfl⟩
  · rw [State.swapCheck, State.failing_single (hone.not.mpr hfree)]
    rfl
  · rw [State.swapCheck, hone.mpr hfree, State.failing_single (htwo.not.mpr hready)]
    rfl
  · rw [State.swapCheck, hone.mpr hfree, htwo.mpr hready, State.failing_single (hthree.not.mpr (not_not.mpr hslow))]
    rfl

/-! ### What a start leaves -/

/-- The members of a swap hold. -/
def State.membersHeld (s : State) (n : Shaft) (members : List Nat) : State :=
  members.foldl (fun (a : State) k => a.updStope n k (fun x => { x with swapHold := true })) s

theorem State.stope_membersHeld (j : Nat) (members : List Nat) (s : State) :
    (s.membersHeld n members).stope n j = if j ∈ members then { s.stope n j with swapHold := true } else s.stope n j := by
  unfold State.membersHeld
  induction members generalizing s with
  | nil => simp
  | cons k members ih =>
    rw [List.foldl_cons, ih]
    by_cases hj : j = k
    · subst hj
      simp
    · rw [State.stope_updStope_other _ _ _ hj]
      simp [hj]

theorem State.swaps_membersHeld (members : List Nat) : ((s.membersHeld n members).sh n).swaps = (s.sh n).swaps :=
  foldl_view (view := fun a => (a.sh n).swaps) _ (fun a k => (congrArg ShaftSt.swaps (a.sh_updStope_same n k _)).trans rfl) members s

/-- A swap that passes its checks is under way and holds its members. -/
theorem State.swapCmd_of_passes {members : List Nat} (gang : Option Nat) (hne : members ≠ []) (hrefuses : s.ctxRefuses n = false)
    (h : ∀ k ∈ members, s.swapFree n k ∧ s.swapReady n k ∧ ¬s.swapSlow n k) : ∃ t, s.swapCmd n members gang = t ∧ t.reg n .CTX_CMD_STAT_BUSY = 1 ∧
      (t.sh n).swaps = (s.sh n).swaps ++ [⟨members, gang, false⟩] ∧ ∀ k ∈ members, t.stope n k = { s.stope n k with swapHold := true } := by
  have hstart : s.swapStart n members gang false =
      ((s.membersHeld n members).updSh n (fun h => { h with swaps := h.swaps ++ [⟨members, gang, false⟩] }), none) := by
    rw [State.swapStart, if_neg hne, hrefuses, if_neg Bool.false_ne_true, State.swapCheck_of_passes h]
    rfl
  have hcmd : s.swapCmd n members gang =
      ((s.membersHeld n members).updSh n (fun h => { h with swaps := h.swaps ++ [⟨members, gang, false⟩] })).setReg n .CTX_CMD_STAT_BUSY 1 := by
    rw [State.swapCmd, hstart]
  refine ⟨_, hcmd, State.reg_setReg_same .., ?_, fun k hk => ?_⟩
  · rw [State.sh_setReg, State.sh_updSh_same, State.swaps_membersHeld]
  · have hstope : ∀ a : State, ((a.updSh n (fun h => { h with swaps := h.swaps ++ [⟨members, gang, false⟩] })).setReg n .CTX_CMD_STAT_BUSY 1).stope n k
        = a.stope n k := fun a => by
      rw [State.stope, State.sh_setReg, State.sh_updSh_same, State.stope]
    rw [hstope, State.stope_membersHeld, if_pos hk]

/-- A swap refused at its start changes no plane: it gives its RESULT and is counted. -/
theorem State.swapRefused_shows (r k : Nat) (gang : Option Nat) {x : Nat} (hx : x < 16) :
    ((s.swapRefused n r k gang).ctxResult n x).reg n .CTX_CMD_STAT_RESULT = x ∧ ((s.swapRefused n r k gang).ctxResult n x).shafts = s.shafts ∧
      ((s.swapRefused n r k gang).ctxResult n x).reg n .CTX_STAT_REFUSED = min (s.reg n .CTX_STAT_REFUSED + 1) 65535 := by
  refine ⟨(State.reg_ctxResult hx).1, State.event_shafts .., ?_⟩
  rw [State.reg_ctxResult_field _ (by decide), State.swapRefused, State.reg_shEvent _ n n _ _ _ _ (by decide), State.reg_addReg_same]
  rfl

theorem State.swapCmd_of_fails {k r : Nat} (hrefuses : s.ctxRefuses n = false) (h : s.swapCheck n [k] = some (r, k)) (gang : Option Nat) :
    s.swapCmd n [k] gang = (s.swapRefused n r k gang).ctxResult n r := by
  have hstart : s.swapStart n [k] gang false = (s.swapRefused n r k gang, some r) := by
    rw [State.swapStart, if_neg (List.cons_ne_nil k []), hrefuses, if_neg Bool.false_ne_true, h]
  rw [State.swapCmd, hstart]

theorem State.swapCmd_nil (gang : Option Nat) :
    s.swapCmd n [] gang = (s.swapRefused n CtxRes.EMPTY_GANG 0xFFFF gang).ctxResult n CtxRes.EMPTY_GANG := rfl

end Sys2Proof.Machine
end

section
/-! SUPPORT. The edge of a swap of one stope (R311, R312, R314). -/

namespace Sys2Proof.Machine

variable {s : State} {n : Shaft} {k : Nat}

/-- A member holds no more. -/
theorem State.swapHold_unhold : ((s.unhold n k).stope n k).swapHold = false := by
  rw [State.unhold]
  split
  next => rw [State.stope_updStope_same]
  next h => simpa using h

theorem State.swapHold_swapEnd (gang : Option Nat) (armed : Bool) : ((s.swapEnd n ⟨[k], gang, armed⟩).stope n k).swapHold = false := by
  have hstope : ∀ a : State, (a.updSh n (fun h => { h with swaps := h.swaps.filter (fun x => x != ⟨[k], gang, armed⟩) })).stope n k = a.stope n k :=
    fun a => by rw [State.stope, State.sh_updSh_same, State.stope]
  rw [State.swapEnd, hstope]
  exact State.swapHold_unhold

/-- The end of a swap of stope `k` alone leaves the other stopes. -/
theorem State.stope_swapEnd_other (gang : Option Nat) (armed : Bool) {j : Nat} (hj : j ≠ k) :
    (s.swapEnd n ⟨[k], gang, armed⟩).stope n j = s.stope n j :=
  ((PastSwap.otherStope hj).updSh _).trans ((PastSwap.otherStope hj).unhold (by decide) s)

theorem State.settled_swapEnd (w : Swap) (j : Nat) : ((s.swapEnd n w).stope n j).settled = (s.stope n j).settled :=
  PastSwap.swapEnd (view := fun a => (a.stope n j).settled) (fun _ => PastSwap.settled j) s w (by decide)

/-- A swap refused at its edge: the shadow is EMPTY, and the active plane is what it was. -/
theorem State.swapAbort_leaves {r : Nat} (hr : r < 16) (gang : Option Nat) : ((s.swapAbort n ⟨[k], gang, false⟩ r k).stope n k).active = (s.stope n k).active ∧
    (s.swapAbort n ⟨[k], gang, false⟩ r k).shState n k = 0 ∧ (s.swapAbort n ⟨[k], gang, false⟩ r k).reg n .CTX_CMD_STAT_RESULT = r ∧
    ((s.swapAbort n ⟨[k], gang, false⟩ r k).stope n k).swapHold = false := by
  have habort : s.swapAbort n ⟨[k], gang, false⟩ r k =
    (((s.swapEnd n ⟨[k], gang, false⟩).emptyShadow n k).swapRefused n r k gang).ctxResult n r := rfl
  have hstope : (s.swapAbort n ⟨[k], gang, false⟩ r k).stope n k = (s.swapEnd n ⟨[k], gang, false⟩).stope n k := by
    rw [habort, State.stope_ctxResult]
    exact State.stope_event ..
  refine ⟨?_, ?_, ?_, ?_⟩
  · have hsettled := State.settled_swapEnd (s := s) (n := n) ⟨[k], gang, false⟩ k
    rw [hstope]
    simpa only [Stope.settled] using congrArg Stope.active hsettled
  · rw [habort, State.shState, State.reg_ctxResult_field _ (by decide)]
    simp (disch := decide) only [State.swapRefused, State.reg_shEvent, State.reg_addReg_field]
    exact State.reg_setReg_same ..
  · rw [habort]
    exact (State.reg_ctxResult hr).1
  · rw [hstope]
    exact State.swapHold_swapEnd gang false

/-! ### The planes trade places -/

/-- The stope after its swap, but for what its keepers hold. -/
def Stope.swapped (x : Stope) : Stope :=
  { x with active := x.shadow, shadow := x.active, ff := swapFlops x.ff x.shadow, last := none, swapHold := false, contended := [] }

/-- The fields that a swap of one stope writes. -/
theorem State.swapOne_leaves : ∃ v, (s.swapOne n k).stope n k = Stope.swapped { s.stope n k with keepers := v } ∧
    (∀ j, j ≠ k → (s.swapOne n k).stope n j = s.stope n j) ∧ (s.swapOne n k).shState n k = 3 := by
  have hkeep : ∃ v, (s.keepSegments n k).stope n k = { s.stope n k with keepers := v } := by
    simp only [State.keepSegments]
    split
    · exact ⟨_, State.stope_updStope_same ..⟩
    · exact ⟨_, rfl⟩
  obtain ⟨v, hv⟩ := hkeep
  have hplanes : ∀ j, (s.swapOne n k).stope n j = ((s.keepSegments n k).updStope n k Stope.swapped).stope n j := fun _ => rfl
  refine ⟨v, ?_, fun j hj => ?_, ?_⟩
  · rw [hplanes, State.stope_updStope_same, hv]
  · have hkept : (s.keepSegments n k).stope n j = s.stope n j :=
      State.keepSegments_keeps (view := fun a => a.stope n j) (fun v => s.stope_updStope_other n _ hj)
    rw [hplanes, State.stope_updStope_other _ _ _ hj, hkept]
  · simp (disch := decide) only [State.swapOne, State.shState, State.reg_addReg_field, State.reg_setReg_field, State.reg_setReg_same]
    rfl

/-- The fields that an evaluation of pairing writes. -/
def pairFields : List Fld := [.STP_STAT_PAIRED, .STP_STAT_PAIR_FAULT]

theorem PastSwap.evalPair {α : Type} {view : State → α} {seen : List Fld} (hview : PastSwap view n k seen) (hseen : ∀ f ∈ pairFields, f ∉ seen)
    (s : State) (p : Nat) : view (s.evalPair n p) = view s := by
  have hreg : ∀ (a : State) (f : Fld) (v e : Nat), f ∈ pairFields → view (a.setReg n f v e) = view a :=
    fun a f v e hf => hview.setF a n.val e v (hseen f hf)
  simp only [State.evalPair]
  split
  · exact (hreg _ _ _ _ (by decide)).trans (hreg _ _ _ _ (by decide))
  · refine (hview.event ..).trans ?_
    rw [hreg _ _ _ _ (by decide), hreg _ _ _ _ (by decide), hreg _ _ _ _ (by decide), hreg _ _ _ _ (by decide)]

/-- What pairing writes leaves every stope. -/
theorem State.stope_evalPair (p j : Nat) : (s.evalPair n p).stope n j = s.stope n j := by
  simp only [State.evalPair]
  split
  · rfl
  · exact State.stope_event ..

/-- R311 step 5 for one stope that a command started. -/
theorem State.swapAll_leaves (gang : Option Nat) : ∃ t v, s.swapAll n ⟨[k], gang, false⟩ = t ∧
    t.stope n k = Stope.swapped { (s.swapEnd n ⟨[k], gang, false⟩).stope n k with keepers := v } ∧ (∀ j, j ≠ k → t.stope n j = s.stope n j) ∧
    t.shState n k = 3 ∧ t.reg n .CTX_CMD_STAT_RESULT = 1 ∧ t.reg n .CTX_CMD_STAT_BUSY = 0 := by
  obtain ⟨v, hsame, hother, hstate⟩ := State.swapOne_leaves (s := s.swapEnd n ⟨[k], gang, false⟩) (n := n) (k := k)
  have hstopes : ∀ (l : List Nat) (a : State) (j : Nat), ((l.foldl (fun a p => a.evalPair n p) a).ctxResult n CtxRes.DONE).stope n j = a.stope n j :=
    fun l a j => foldl_view (view := fun a => a.stope n j) _ (fun _ p => State.stope_evalPair p j) l a
  have hshadow : ∀ (l : List Nat) (a : State), ((l.foldl (fun a p => a.evalPair n p) a).ctxResult n CtxRes.DONE).shState n k = a.shState n k :=
    fun l a => (State.reg_ctxResult_field _ (by decide) k).trans (foldl_view (view := fun a => a.shState n k) _
      (fun b p => PastSwap.evalPair (k := k) (PastSwap.getF (f := .CTX_STOPE_SH_STATE) (by decide) n.val k) (by decide) b p) l a)
  refine ⟨_, v, rfl, (hstopes _ _ k).trans hsame, fun j hj => ?_, (hshadow _ _).trans hstate, State.reg_ctxResult (by decide)⟩
  exact (hstopes _ _ j).trans ((hother j hj).trans (State.stope_swapEnd_other gang false hj))

/-! ### The edge -/

/-- The state that check 4 meets. -/
def State.atEdge (s : State) (n : Shaft) (u : Option ShadowUpset) : State :=
  match u with
  | some y => s.upsetShadow n y
  | none => s

theorem State.swapEdge_of_holds {x : Nat} {gang : Option Nat} {members : List Nat} (u : Option ShadowUpset)
    (hswap : (s.sh n).swaps[x]? = some ⟨members, gang, false⟩) (hholds : s.membersHold n ⟨members, gang, false⟩ = true) :
    exec (.swapEdge n ⟨x, u⟩) s = .next ((s.atEdge n u).swapFinish n ⟨members, gang, false⟩).1 := by
  change Host.Outcome.next (match (s.sh n).swaps[x]? with
    | none => s
    | some w => if w.armed || !s.membersHold n w then s else ((s.atEdge n u).swapFinish n w).1) = _
  rw [hswap]
  exact congrArg Host.Outcome.next (if_neg (by simp [hholds]))

theorem State.swapEdge_of_stretched {x : Nat} {gang : Option Nat} {members : List Nat} (u : Option ShadowUpset)
    (hswap : (s.sh n).swaps[x]? = some ⟨members, gang, false⟩) (hholds : s.membersHold n ⟨members, gang, false⟩ = false) :
    exec (.swapEdge n ⟨x, u⟩) s = .next s := by
  change Host.Outcome.next (match (s.sh n).swaps[x]? with
    | none => s
    | some w => if w.armed || !s.membersHold n w then s else ((s.atEdge n u).swapFinish n w).1) = _
  rw [hswap]
  exact congrArg Host.Outcome.next (if_pos (by simp [hholds]))

/-- An upset is one of a shadow plane alone. -/
theorem State.atEdge_keeps {α : Type} (proj : Stope → α) (h : ∀ x p, proj { x with shadow := p } = proj x) (u : Option ShadowUpset) (j : Nat) :
    proj ((s.atEdge n u).stope n j) = proj (s.stope n j) := by
  cases u with
  | none => rfl
  | some y => exact s.stope_updStope_keeps proj n y.stope j (fun x => h x _)

theorem State.reg_atEdge (u : Option ShadowUpset) (g : Fld) (e : Nat) : (s.atEdge n u).reg n g e = s.reg n g e := by
  cases u <;> rfl

theorem State.storedCheck_atEdge (u : Option ShadowUpset) (a : Nat) : (s.atEdge n u).storedCheck n a = s.storedCheck n a := by
  cases u with
  | none => rfl
  | some y => rw [State.storedCheck, State.atEdge, State.upsetShadow, State.sh_updStope_same, State.storedCheck]

/-- Check 4 of one stope: the checks of CONTROL and INIT_MASK of its shadow are those of the slot it came from. -/
theorem State.shadowFails_single_eq_none : s.shadowFails n [k] = none ↔
    frameCheck (Tbl.get 0 (s.stope n k).shadow 1022) = s.storedCheck n (1022 + 1024 * s.reg n .CTX_STOPE_SHADOW k + 8192 * k) ∧
      frameCheck (Tbl.get 0 (s.stope n k).shadow 1023) = s.storedCheck n (1023 + 1024 * s.reg n .CTX_STOPE_SHADOW k + 8192 * k) := by
  rw [State.shadowFails, List.find?_eq_none]
  simp only [List.mem_singleton, forall_eq, Bool.or_eq_true, decide_eq_true_eq, not_or, not_not]
  rfl

theorem State.failing_atEdge (u : Option ShadowUpset) (hready : s.swapReady n k) : (s.atEdge n u).failing n [k] 2 = none :=
  State.failing_two_eq_none.mpr fun j hj => by
    rw [List.mem_singleton.mp hj, State.swapReady, State.shState, State.reg_atEdge]
    exact hready

/-- Check 4 as the edge meets it. -/
theorem State.shadowFails_atEdge (u : Option ShadowUpset) : (s.atEdge n u).shadowFails n [k] = none ↔
    frameCheck (Tbl.get 0 ((s.atEdge n u).stope n k).shadow 1022) = s.storedCheck n (1022 + 1024 * s.reg n .CTX_STOPE_SHADOW k + 8192 * k) ∧
      frameCheck (Tbl.get 0 ((s.atEdge n u).stope n k).shadow 1023) = s.storedCheck n (1023 + 1024 * s.reg n .CTX_STOPE_SHADOW k + 8192 * k) := by
  rw [State.shadowFails_single_eq_none, State.reg_atEdge, State.storedCheck_atEdge, State.storedCheck_atEdge]

theorem State.shadowFails_single {j : Nat} (h : s.shadowFails n [k] = some j) : j = k := List.mem_singleton.mp (List.mem_of_find?_eq_some h)

/-- A stope swapped, from what is settled of it. -/
theorem Stope.swapped_of_settled {x y : Stope} {v : Tbl (Option Bool)} (h : x.settled = y.settled) :
    (Stope.swapped { x with keepers := v }).active = y.shadow ∧ (Stope.swapped { x with keepers := v }).shadow = y.active ∧
      (Stope.swapped { x with keepers := v }).ff = swapFlops y.ff y.shadow ∧ (Stope.swapped { x with keepers := v }).swapHold = false ∧
      (Stope.swapped { x with keepers := v }).last = none := by
  simp only [Stope.settled, Stope.mk.injEq] at h
  obtain ⟨hactive, hshadow, hff, -⟩ := h
  simp only [Stope.swapped, hactive, hshadow, hff, and_self]

theorem State.swapFinish_of_good {w : Swap} (hready : s.failing n w.members 2 = none) (hcheck : s.shadowFails n w.members = none) :
    s.swapFinish n w = (s.swapAll n w, none) := by
  rw [State.swapFinish, hready, hcheck]

theorem State.swapFinish_of_upset {w : Swap} {j : Nat} (hready : s.failing n w.members 2 = none) (hcheck : s.shadowFails n w.members = some j) :
    s.swapFinish n w = (s.swapAbort n w CtxRes.SHADOW_CHECK j, some CtxRes.SHADOW_CHECK) := by
  rw [State.swapFinish, hready, hcheck]

theorem State.swapFinish_of_discarded {w : Swap} {j : Nat} (h : s.failing n w.members 2 = some j) :
    s.swapFinish n w = (s.swapAbort n w CtxRes.NO_SHADOW j, some CtxRes.NO_SHADOW) := by
  rw [State.swapFinish, h]

end Sys2Proof.Machine
end

section
/-! PROOF. O39: preloads, discards, swaps and contention. -/

namespace Sys2Proof.Machine

/-- Commands on one stope. -/
theorem exec_stopeCommands_of_open (s : State) (n : Shaft) (k : BitVec 7) (c : BitVec 3) (hopen : s.Open n.val .CTX) :
    exec (.preload n k c) s = .next (s.ctxCmd n 1 k.toNat c.toNat 0) ∧ exec (.discard n k) s = .next (s.ctxCmd n 2 k.toNat 0 0) ∧
      exec (.swapStope n k) s = .next (s.ctxCmd n 3 k.toNat 0 0) :=
  ⟨congrArg Host.Outcome.next (State.ctxGo_of_open hopen (by decide) k.isLt c.isLt (by decide)),
    congrArg Host.Outcome.next (State.ctxGo_of_open hopen (by decide) k.isLt (by decide) (by decide)),
    congrArg Host.Outcome.next (State.ctxGo_of_open hopen (by decide) k.isLt (by decide) (by decide))⟩

theorem exec_swapGang_of_open {s : State} {n : Shaft} (hopen : s.Open n.val .CTX) (hidle : s.reg n .CTX_CMD_STAT_BUSY = 0) (g : BitVec 4) :
    exec (.swapGang n g) s = .next (s.swapCmd n (s.gang n g.toNat) (some g.toNat)) := by
  obtain ⟨-, -, -, hgang⟩ := State.ctxCmd_of_idle hidle 0 0 g.toNat
  exact congrArg Host.Outcome.next ((State.ctxGo_of_open hopen (by decide) (by decide) (by decide) g.isLt).trans hgang)

/-- Settles O39: each command by what it makes of the state, a swap at its edge by what the end of its hold leaves of its stope. -/
theorem contextCommands : Obligations.ContextCommands := by
  unfold Obligations.ContextCommands
  refine ⟨fun s n k c => ⟨fun hopen => ⟨fun hbusy x hx => ?_, fun hidle hrefuses => ⟨fun hvalid hpre hswap => ?_, fun hinvalid => ?_⟩,
    fun hidle hswap => ?_⟩, fun hpre => ⟨fun hgood => ?_, fun f hf => ?_⟩, fun seg hk hseams hactive hvalid hpoints hnew => ?_⟩,
    fun s n => ⟨fun hopen hidle hrefuses => ⟨fun k => ⟨fun hfree hready hslow => ?_, fun r hr => ?_⟩, fun g => ⟨fun hnil => ?_, fun hne hpasses => ?_⟩⟩,
    fun x k u hswap hk hholds hready => ⟨fun hcheck => ?_, fun hcheck => ?_⟩,
    fun x k u hswap hk => ⟨fun hholds => State.swapEdge_of_stretched u hswap hholds, fun hholds h2 h3 => ?_⟩⟩⟩
  · obtain ⟨hpreload, hdiscard, hswap⟩ := exec_stopeCommands_of_open s n k c hopen
    simp only [List.mem_cons, List.not_mem_nil, or_false] at hx
    rcases hx with rfl | rfl | rfl
    · rw [hpreload, State.ctxCmd_of_busy hbusy]
    · rw [hdiscard, State.ctxCmd_of_busy hbusy]
    · rw [hswap, State.ctxCmd_of_busy hbusy]
  · obtain ⟨hpreload, -, -⟩ := exec_stopeCommands_of_open s n k c hopen
    obtain ⟨hcmd, -⟩ := State.ctxCmd_of_idle hidle k.toNat c.toNat 0
    rw [hpreload, hcmd, State.preloadCmd_of_free hvalid hrefuses hpre hswap]
    rfl
  · obtain ⟨hpreload, -, -⟩ := exec_stopeCommands_of_open s n k c hopen
    obtain ⟨hcmd, -⟩ := State.ctxCmd_of_idle hidle k.toNat c.toNat 0
    rw [hcmd, State.preloadCmd_of_invalid hinvalid] at hpreload
    exact ⟨_, hpreload, (State.reg_ctxResult (by decide)).1, rfl, fun j => State.reg_ctxResult_field _ (by decide) j⟩
  · obtain ⟨-, hdiscard, -⟩ := exec_stopeCommands_of_open s n k c hopen
    have hfree : s.discardCmd n k.toNat = (s.emptyShadow n k.toNat).ctxResult n CtxRes.DONE := if_neg (by simp [hswap])
    obtain ⟨-, hcmd, -⟩ := State.ctxCmd_of_idle hidle k.toNat 0 0
    rw [hcmd, hfree] at hdiscard
    refine ⟨_, hdiscard, ?_, (State.reg_ctxResult (by decide)).1, rfl, fun j hj => ?_⟩
    · exact (State.reg_ctxResult_field _ (by decide) _).trans (State.reg_setReg_same ..)
    · exact (State.reg_ctxResult_field _ (by decide) j).trans (State.reg_setReg_elem hj)
  · obtain ⟨hresult, hbusy⟩ := State.reg_ctxResult (s := (s.preloadOut n k.toNat).shadowFrom n k.toNat c.toNat) (n := n) (r := CtxRes.DONE) (by decide)
    obtain ⟨hstate, hslot⟩ := State.reg_shadowFrom (s := s.preloadOut n k.toNat) (n := n) k.toNat c.isLt
    have hsame : (((s.preloadOut n k.toNat).shadowFrom n k.toNat c.toNat).ctxResult n CtxRes.DONE).stope n k.toNat =
        { s.stope n k.toNat with shadow := s.planSlot n k.toNat c.toNat } := by
      rw [State.stope_ctxResult, State.stope_shadowFrom_same, State.stope_preloadOut, State.planSlot_preloadOut]
    refine ⟨_, congrArg Host.Outcome.next (State.preloadDone_of_good hpre hgood), congrArg Stope.shadow hsame, ?_, ?_, hresult, hbusy, ?_,
      fun j hj => ?_, (congrArg Stope.active hsame).trans rfl⟩
    · exact (State.reg_ctxResult_field _ (by decide) _).trans hstate
    · exact (State.reg_ctxResult_field _ (by decide) _).trans hslot
    · exact (State.preloading_shadowFrom _ _ _).trans (State.preloading_preloadOut _)
    · rw [State.stope_ctxResult, State.stope_shadowFrom_other hj, State.stope_preloadOut]
  · obtain ⟨hstate, hsuspect, hpreloading⟩ := State.preloadFails_leaves (s := s.preloadOut n k.toNat) (n := n) (k := k.toNat) (c := c.toNat) hf
    refine ⟨_, congrArg Host.Outcome.next (State.preloadDone_of_bad hpre), ?_, (State.reg_ctxResult (by decide)).1, ?_, ?_⟩
    · exact (State.reg_ctxResult_field _ (by decide) _).trans hstate
    · rw [State.sh_ctxResult]
      exact hsuspect
    · rw [State.preloading, State.sh_ctxResult, ← State.preloading, hpreloading, State.preloading_preloadOut]
  · obtain ⟨t, ht, hcontended, hflag, hlogged, hsegment, hactive', hothers⟩ :=
      State.contention_leaves hk hseams hactive hvalid hpoints hnew
    refine ⟨t, congrArg Host.Outcome.next ht, hcontended, hflag, hlogged, hsegment, ?_, ?_, hothers⟩
    · rw [hactive']
      exact State.driveEnabled_upset k.toNat hpoints
    · exact Stope.driver_of_contended (by rw [hcontended]; simp)
  · obtain ⟨-, -, hexec⟩ := exec_stopeCommands_of_open s n k 0 hopen
    obtain ⟨-, -, hcmd, -⟩ := State.ctxCmd_of_idle hidle k.toNat 0 0
    rw [hcmd] at hexec
    obtain ⟨t, ht, hbusy, hswaps, hheld⟩ := State.swapCmd_of_passes (members := [k.toNat]) none (List.cons_ne_nil _ []) hrefuses
      (by simpa only [List.mem_singleton, forall_eq] using ⟨hfree, hready, hslow⟩)
    exact ⟨t, hexec.trans (congrArg Host.Outcome.next ht), hbusy, hswaps, hheld _ (List.mem_singleton.mpr rfl)⟩
  · obtain ⟨-, -, hexec⟩ := exec_stopeCommands_of_open s n k 0 hopen
    obtain ⟨-, -, hcmd, -⟩ := State.ctxCmd_of_idle hidle k.toNat 0 0
    rw [hcmd, State.swapCmd_of_fails hrefuses (State.swapCheck_single hr)] at hexec
    have hlt : r < 16 := by omega
    exact ⟨_, hexec, State.swapRefused_shows r _ none hlt⟩
  · have hexec := exec_swapGang_of_open hopen hidle g
    rw [State.gang, hnil, State.swapCmd_nil] at hexec
    obtain ⟨hresult, hshafts, -⟩ := State.swapRefused_shows (s := s) (n := n) CtxRes.EMPTY_GANG 0xFFFF (some g.toNat) (x := CtxRes.EMPTY_GANG) (by decide)
    exact ⟨_, hexec, hresult, hshafts⟩
  · obtain ⟨t, ht, hbusy, hswaps, hheld⟩ := State.swapCmd_of_passes (some g.toNat) hne hrefuses hpasses
    exact ⟨t, (exec_swapGang_of_open hopen hidle g).trans (congrArg Host.Outcome.next ht), hbusy, hswaps, hheld⟩
  · have hedge := State.swapEdge_of_holds u hswap hholds
    rw [State.swapFinish_of_good (w := ⟨[k], none, false⟩) (State.failing_atEdge u hready)
      ((State.shadowFails_atEdge u).mpr hcheck)] at hedge
    obtain ⟨t, v, ht, hsame, hothers, hstate, hresult, hbusy⟩ := State.swapAll_leaves (s := s.atEdge n u) (n := n) (k := k) none
    have hsettled := State.settled_swapEnd (s := s.atEdge n u) (n := n) ⟨[k], none, false⟩ k
    have hactive := State.atEdge_keeps (s := s) (n := n) Stope.active (fun _ _ => rfl) u k
    have hff := State.atEdge_keeps (s := s) (n := n) Stope.ff (fun _ _ => rfl) u k
    obtain ⟨hnew, hold, hflops, hhold, hlast⟩ := Stope.swapped_of_settled (v := v) hsettled
    rw [← hsame] at hnew hold hflops hhold hlast
    rw [hactive] at hold
    rw [hff] at hflops
    exact ⟨t, hedge.trans (congrArg Host.Outcome.next ht), hnew, hold, hflops, hhold, hlast, hstate, hresult, hbusy, hothers⟩
  · obtain ⟨j, hfails⟩ := Option.ne_none_iff_exists'.mp (mt (State.shadowFails_atEdge u).mp hcheck)
    rw [State.shadowFails_single hfails] at hfails
    have hedge := State.swapEdge_of_holds u hswap hholds
    rw [State.swapFinish_of_upset (w := ⟨[k], none, false⟩) (State.failing_atEdge u hready) hfails] at hedge
    obtain ⟨hactive, hstate, hresult, hhold⟩ := State.swapAbort_leaves (s := s.atEdge n u) (n := n) (k := k) (r := CtxRes.SHADOW_CHECK) (by decide) none
    rw [State.atEdge_keeps Stope.active (fun _ _ => rfl)] at hactive
    exact ⟨_, hedge, hactive, hstate, hresult, hhold⟩
  · have hdiscarded : (s.atEdge n u).failing n [k] 2 = some k := by
      refine State.failing_single (mt State.failing_two_eq_none.mp fun hready => ?_)
      have hk' := hready k (List.mem_singleton.mpr rfl)
      rw [State.swapReady, State.shState, State.reg_atEdge] at hk'
      exact hk'.elim h2 h3
    have hedge := State.swapEdge_of_holds u hswap hholds
    rw [State.swapFinish_of_discarded (w := ⟨[k], none, false⟩) hdiscarded] at hedge
    obtain ⟨hactive, -, hresult, hhold⟩ := State.swapAbort_leaves (s := s.atEdge n u) (n := n) (k := k) (r := CtxRes.NO_SHADOW) (by decide) none
    rw [State.atEdge_keeps Stope.active (fun _ _ => rfl)] at hactive
    exact ⟨_, hedge, hactive, hresult, hhold⟩

end Sys2Proof.Machine
end

section
/-! SUPPORT. Commands of IMG.CMD (R387, R400): when one is taken up, refused or lost. -/

namespace Sys2Proof.Machine

variable {s : State}

/-- The word of a command of IMG.CMD. -/
def imgWord (op : Nat) : Word := Reg.make .IMG_CMD [(.IMG_CMD_OP, op), (.IMG_CMD_GO, 1)]

theorem imgWord_facts : ∀ op ∈ [1, 2, 3, 4, 5], (imgWord op).getLsbD 31 = true ∧ Reg.part .IMG_CMD (imgWord op) .IMG_CMD_OP = op ∧
    Reg.reservedIn .IMG_CMD (imgWord op) = false := by decide

/-- A command of IMG.CMD that no gate stops is taken to the image unit. -/
theorem State.imgGo_of_open (hfree : s.CageFree) (hgate : s.gated 8 .IMG = false) (hbusy : s.blockBusy 8 .IMG = false) {op : Nat}
    (hop : op ∈ [1, 2, 3, 4, 5]) : s.cageTurn (fun a => a.imgGo op) = s.imgCmd op := by
  obtain ⟨hgo, hpart, hreserved⟩ := imgWord_facts op hop
  have hblk : (WordAt.reg 8 .IMG_CMD 0).blk = .IMG := rfl
  have hplace : (WordAt.reg 8 .IMG_CMD 0).isGate = false := rfl
  have hopen : s.shut (.reg 8 .IMG_CMD 0) = none := by
    rw [State.shut, hplace, hblk, if_neg Bool.false_ne_true]
    simp [State.windowOut, WordAt.sc, hgate, hbusy]
  have hdenied : State.writeDenied s s (.reg 8 .IMG_CMD 0) (imgWord op) = false := by
    have hdeep : s.changesDeep 8 .IMG_CMD 0 (imgWord op) = false := rfl
    have hro : Reg.readOnly .IMG_CMD 0 = false := rfl
    have hkey : keyWrong .IMG_CMD (imgWord op) = false := rfl
    have hwhen : s.whenBarred .IMG_CMD = false := rfl
    simp [State.writeDenied, State.regBarred, hdeep, hro, hkey, hwhen, hreserved]
  have hwrite : s.cageWrite (.reg 8 .IMG_CMD 0) (imgWord op) =
      if (imgWord op).getLsbD 31 then s.imgCmd (Reg.part .IMG_CMD (imgWord op) .IMG_CMD_OP) else s := rfl
  rw [State.cageTurn_of_free hfree, State.imgGo, State.regWrite_of_open hopen, ← imgWord, hdenied, if_neg Bool.false_ne_true, hwrite, hgo, hpart]
  rfl

/-- The state in which a command acts: DONE, and BUSY until the µs ends. -/
def State.imgTaken (s : State) : State := (s.setDev .IMG_CMD_STAT_RESULT 1).setDev .IMG_CMD_STAT_BUSY 1

theorem State.imgCmd_of_busy (hbusy : s.dev .IMG_CMD_STAT_BUSY ≠ 0) (op : Nat) : s.imgCmd op = s.setDev .IMG_CMD_STAT_LOST 1 :=
  if_pos (State.devB_eq_true.mpr hbusy)

theorem State.imgCmd_of_wrongState (hidle : s.dev .IMG_CMD_STAT_BUSY = 0) {op : Nat} (hallows : s.imgAllows op = false) :
    s.imgCmd op = (s.setDev .IMG_CMD_STAT_RESULT 2).setDev .IMG_CMD_STAT_BUSY 1 := by
  rw [State.imgCmd, State.devB_eq_false.mpr hidle, if_neg Bool.false_ne_true, hallows]
  rfl

/-- Each command that is allowed has its effect. -/
theorem State.imgCmd_of_allowed (hidle : s.dev .IMG_CMD_STAT_BUSY = 0) :
    (s.imgAllows 1 = true → s.imgCmd 1 = s.imgTaken.imgOpen) ∧ (s.imgAllows 2 = true → s.imgCmd 2 = s.imgTaken.imgArm) ∧
    (s.imgAllows 3 = true → s.imgCmd 3 = s.imgTaken.imgActivate) ∧ (s.imgAllows 4 = true → s.imgCmd 4 = s.imgTaken.imgCancel) ∧
    (s.imgAllows 5 = true → s.imgCmd 5 = s.imgTaken.imgConfirm) := by
  have hgo : ∀ {op}, s.imgAllows op = true → ¬s.devB .IMG_CMD_STAT_BUSY = true ∧ ¬(!s.imgAllows op) = true := fun h => by
    rw [State.devB_eq_false.mpr hidle, h]
    decide
  refine ⟨fun h => ?_, fun h => ?_, fun h => ?_, fun h => ?_, fun h => ?_⟩
  all_goals
    rw [State.imgCmd, if_neg (hgo h).1, if_neg (hgo h).2]
    rfl

/-! ### What a command taken up leaves of the state it meets -/

theorem State.dev_imgTaken {f : Fld} (hf : f ∉ [.IMG_CMD_STAT_RESULT, .IMG_CMD_STAT_BUSY]) (e : Nat) : s.imgTaken.dev f e = s.dev f e := by
  simp only [List.mem_cons, List.not_mem_nil, or_false, not_or] at hf
  exact (State.dev_setDev_field hf.2).trans (State.dev_setDev_field hf.1)

theorem State.img_imgTaken : s.imgTaken.img = s.img := State.dev_imgTaken (by decide) 0

theorem State.devB_imgTaken {f : Fld} (hf : f ∉ [.IMG_CMD_STAT_RESULT, .IMG_CMD_STAT_BUSY]) (e : Nat) : s.imgTaken.devB f e = s.devB f e :=
  congrArg (· != 0) (State.dev_imgTaken hf e)

theorem State.stat_imgTaken : s.imgTaken.dev .IMG_CMD_STAT_RESULT = 1 ∧ s.imgTaken.dev .IMG_CMD_STAT_BUSY = 1 :=
  ⟨(State.dev_setDev_field (by decide)).trans (State.dev_setDev_same ..), State.dev_setDev_same ..⟩

theorem State.inactiveB_imgTaken : s.imgTaken.inactiveB = s.inactiveB := by
  have hrunning : s.imgTaken.devB .IMG_SLOTS_RUNNING = s.devB .IMG_SLOTS_RUNNING := State.devB_imgTaken (by decide) 0
  rw [State.inactiveB, hrunning]
  rfl

theorem State.imgWhen_imgTaken : s.imgTaken.imgWhen = s.imgWhen := by
  rw [State.imgWhen, State.dev_imgTaken (by decide), State.dev_imgTaken (by decide), State.imgWhen]

/-- A shaft's states are fields that no command's result touches. -/
theorem State.notReady_imgTaken (g : Image) : s.imgTaken.notReady g = s.notReady g := by
  have hdoze : ∀ n : Shaft, s.imgTaken.doze n = s.doze n := fun n => State.dev_imgTaken (by decide) n.val
  have hthermal : ∀ n : Shaft, s.imgTaken.thermal n = s.thermal n := fun n => State.dev_imgTaken (by decide) n.val
  simp only [State.notReady, hdoze, hthermal]
  rfl

theorem State.activateCause_imgTaken (g : Image) : s.imgTaken.activateCause g = s.activateCause g := by
  rw [State.activateCause, State.imgWhen_imgTaken, State.notReady_imgTaken, State.devB_imgTaken (by decide), State.devB_imgTaken (by decide)]
  rfl

theorem State.newActivation_imgTaken (g : Image) : s.imgTaken.newActivation g = s.newActivation g := by
  rw [State.newActivation, State.inactiveB_imgTaken]
  rfl

/-! ### OPEN, and the end of the µs -/

/-- OPEN forgets, in every shaft, which Plan slots came from the slot that is opened. -/
theorem State.imgOpen_leaves : ∃ F : Shaft → ShaftSt → ShaftSt, s.imgOpen =
    (((({ s with wbuf := [], erased := [], armOpen := false }.setDev .IMG_STREAM_NEXT 0).setDev .IMG_SLOTS_PARTIAL_LIVE 0).setImg Img.OPEN).eachShaft
      (fun n a => a.updSh n (F n))) := ⟨fun _ h => { h with slotSource := h.slotSource.filter (fun e => match e.2 with
      | some x => decide (x.flashB ≠ s.inactiveB)
      | none => true) }, rfl⟩

/-- What shows no shaft, a change of every shaft leaves. -/
theorem State.eachShaft_updSh_view {α : Type} {view : State → α} (hview : ∀ (a : State) (n : Shaft) (f : ShaftSt → ShaftSt), view (a.updSh n f) = view a)
    (F : Shaft → ShaftSt → ShaftSt) (s : State) : view (s.eachShaft (fun n a => a.updSh n (F n))) = view s :=
  foldl_view (view := view) (fun (a : State) n => a.updSh n (F n)) (fun a n => hview a n (F n)) Oct.indices s

/-- BUSY ends with the µs, whatever becomes of a setting (R400). -/
theorem State.busy_imgUs : s.imgUs.dev .IMG_CMD_STAT_BUSY = 0 := by
  have hfirst : (if s.devB .IMG_CMD_STAT_BUSY then s.setDev .IMG_CMD_STAT_BUSY 0 else s).dev .IMG_CMD_STAT_BUSY = 0 := by
    split
    next => exact State.dev_setDev_same ..
    next h => exact State.devB_eq_false.mp (by simpa using h)
  have happend : ∀ (a : State) (r : List Byte), (a.settingAppend r).dev .IMG_CMD_STAT_BUSY = a.dev .IMG_CMD_STAT_BUSY := fun a r => by
    simp only [State.settingAppend]
    split
    · exact State.dev_setDev_field (by decide)
    · exact (State.dev_setDev_field (by decide)).trans (State.dev_setDev_field (by decide))
  have hclear : ∀ a : State, a.settingClear.dev .IMG_CMD_STAT_BUSY = a.dev .IMG_CMD_STAT_BUSY := fun a =>
    (State.dev_setDev_field (by decide)).trans (State.dev_setDev_field (by decide))
  simp only [State.imgUs]
  split
  · exact hfirst
  · split
    · exact (happend _ _).trans ((State.dev_setDev_field (by decide)).trans hfirst)
    · exact (hclear _).trans ((State.dev_setDev_field (by decide)).trans hfirst)

end Sys2Proof.Machine
end

section
/-! SUPPORT. ACTIVATE (R390, R391) and the end of ARM (R389): what each leaves. -/

namespace Sys2Proof.Machine

variable {s : State}

section
variable {α : Type} {view : State → α} {n : Shaft} {seen : List Fld} (hview : Blind view n seen)
include hview

/-- The fields that an aborted test writes. -/
def testFields : List Fld := [.BST_CNT2_SPARES, .HWR_UNIT_ROLE, .CTX_STOPE_SH_STATE, .STP_SPEC_STAINED, .PCE_STOPE_ACTIVE, .PCE_STOPE_RAMPING,
  .PWR_SHAFT_STATE]

variable (hseen : ∀ f ∈ testFields, f ∉ seen) (s : State)
include hseen

theorem Blind.testAborted (r : TestRun) : view (s.testAborted n r) = view s :=
  (hview.event ..).trans ((hview.setF _ 8 0 _ (hseen _ (by decide))).trans (hview.updSh s))

theorem Blind.initStope (k : Nat) : view (s.initStope n k) = view s := by
  have hreg : ∀ (a : State) (f : Fld) (v e : Nat), f ∈ testFields → view (a.setReg n f v e) = view a :=
    fun a f v e hf => hview.setF a n.val e v (hseen f hf)
  refine (hview.updSh _).trans ?_
  rw [hreg _ _ _ _ (by decide), hreg _ _ _ _ (by decide), hreg _ _ _ _ (by decide)]
  exact (hreg _ _ _ _ (by decide)).trans (hview.updSh s)

/-- A unit whose test did not fail is given back. -/
theorem Blind.restoreUnit (r : TestRun) : view (s.restoreUnit n r false) = view s := by
  simp only [State.restoreUnit, Bool.false_eq_true, if_false]
  split
  · cases r.spare <;> rfl
  · exact hview.setF s n.val _ _ (hseen _ (by decide))
  · exact foldl_view _ (fun a k => (hview.updSh _).trans (hview.initStope hseen a k)) _ s
  · rfl
  · rfl

theorem Blind.dozeTry : view (s.dozeTry n) = view s := by
  rw [State.dozeTry]
  split
  · exact (hview.event ..).trans (hview.setF s 8 n.val 1 (hseen _ (by decide)))
  · rfl

theorem Blind.testAbort : view (s.testAbort n) = view s := by
  rw [State.testAbort]
  split
  · rfl
  · exact (hview.dozeTry hseen _).trans ((hview.restoreUnit hseen _ _).trans (hview.testAborted hseen s _))

end

/-- A change of the shafts that a manifest names leaves what each change leaves. -/
theorem State.eachShaft_view {α : Type} {view : State → α} {f : Shaft → State → State} (hf : ∀ a n, view (f n a) = view a) (s : State) :
    view (s.eachShaft f) = view s := foldl_view (fun a n => f n a) hf Oct.indices s

/-! ### Slots that read LOADING (R305) -/

/-- The fields that a slot about to be written shows. -/
def loadFields : List Fld := [.CTX_STOPE_SH_STATE, .CTX_SLOT_STATE]

/-- A view that shows nothing of the activation either. -/
theorem Blind.slotLoading {α : Type} {view : State → α} {n : Shaft} {seen : List Fld} (hview : Blind view n seen) (hseen : ∀ f ∈ loadFields, f ∉ seen)
    (hact : ∀ (a : State) (f : Activation → Activation), view (a.updAct f) = view a) (s : State) (j : Nat) : view (s.slotLoading n j) = view s := by
  have hreg : ∀ (a : State) (f : Fld) (v e : Nat), f ∈ loadFields → view (a.setReg n f v e) = view a :=
    fun a f v e hf => hview.setF a n.val e v (hseen f hf)
  have hdrop : view (s.dropShadow n j) = view s := by
    rw [State.dropShadow]
    split
    · exact hreg _ _ _ _ (by decide)
    · rfl
  exact (hact _ _).trans ((hreg _ _ _ _ (by decide)).trans ((hview.updSh _).trans ((hreg _ _ _ _ (by decide)).trans hdrop)))

theorem State.slotState_setReg (n m : Shaft) (j e v : Nat) : (s.setReg n .CTX_SLOT_STATE v j).reg m .CTX_SLOT_STATE e =
    if m = n ∧ e = j then v % 2 ^ Fld.CTX_SLOT_STATE.desc.width else s.reg m .CTX_SLOT_STATE e := by
  split
  next h =>
    obtain ⟨rfl, rfl⟩ := h
    exact State.reg_setReg_same ..
  next h => exact s.getF_setF_other v (by omega) (by omega) (fun hkey => h ⟨Fin.ext hkey.2.1, hkey.2.2⟩)

theorem State.dropShadow_keeps {α : Type} {view : State → α} (n : Shaft) (j : Nat) (h : view (s.emptyShadow n (j / 8)) = view s) :
    view (s.dropShadow n j) = view s := by
  rw [State.dropShadow]
  split
  · exact h
  · rfl

/-- The slot reads LOADING, and every other slot as before. -/
theorem State.slotState_slotLoading (n m : Shaft) (j e : Nat) : (s.slotLoading n j).reg m .CTX_SLOT_STATE e =
    if m = n ∧ e = j then Slt.LOADING else s.reg m .CTX_SLOT_STATE e := by
  have hempty : ∀ a : State, (a.emptySlot n (j / 8) (j % 8)).reg m .CTX_SLOT_STATE e =
      if m = n ∧ e = j then Slt.EMPTY else a.reg m .CTX_SLOT_STATE e := fun a => by
    have hslot : 8 * (j / 8) + j % 8 = j := Nat.div_add_mod j 8
    have hset := a.slotState_setReg n m (8 * (j / 8) + j % 8) e Slt.EMPTY
    rw [hslot] at hset
    rw [State.emptySlot, State.reg_updSh, hslot, hset]
    rfl
  have hdrop : (s.dropShadow n j).reg m .CTX_SLOT_STATE e = s.reg m .CTX_SLOT_STATE e :=
    State.dropShadow_keeps (view := fun a => a.reg m .CTX_SLOT_STATE e) n j (State.reg_setReg_field (by decide))
  change (((s.dropShadow n j).emptySlot n (j / 8) (j % 8)).setReg n .CTX_SLOT_STATE Slt.LOADING j).reg m .CTX_SLOT_STATE e = _
  rw [State.slotState_setReg, hempty, hdrop]
  by_cases h : m = n ∧ e = j
  · rw [if_pos h, if_pos h]
    rfl
  · rw [if_neg h, if_neg h, if_neg h]

theorem State.act_slotLoading (n : Shaft) (j : Nat) : (s.slotLoading n j).act =
    s.act.map (fun a => { a with plan := a.plan ++ [(n.val, j / 8, j % 8)] }) :=
  congrArg (Option.map _) (State.dropShadow_keeps (view := State.act) n j rfl)

/-- The activation on its way is `a` but for what it has begun to load, and every slot it has begun to write reads LOADING. -/
def State.Loads (s : State) (a : Activation) : Prop :=
  ∃ b, s.act = some b ∧ { b with loading := false, plan := [] } = a ∧
    ∀ e ∈ b.plan, s.reg (shaftOf e.1) .CTX_SLOT_STATE (8 * e.2.1 + e.2.2) = Slt.LOADING

theorem State.Loads.slotLoading {a : Activation} (h : s.Loads a) (n : Shaft) (j : Nat) : (s.slotLoading n j).Loads a := by
  obtain ⟨b, hact, hsame, hplan⟩ := h
  refine ⟨{ b with plan := b.plan ++ [(n.val, j / 8, j % 8)] }, by rw [State.act_slotLoading, hact]; rfl, hsame, fun e he => ?_⟩
  rw [State.slotState_slotLoading]
  split
  next => rfl
  next hother =>
    rcases List.mem_append.mp he with hold | hnew
    · exact hplan e hold
    · rw [List.mem_singleton.mp hnew] at hother
      exact absurd ⟨shaftOf_val n, Nat.div_add_mod j 8⟩ hother

/-- What the mark of a slot keeps, the beginning of staging keeps. -/
theorem State.stageBegin_keeps {P : State → Prop} (hslot : ∀ x n j, P x → P (x.slotLoading n j)) {a : Activation} (hloading : a.loading = false)
    (hmark : P (s.updAct (fun a => { a with loading := true }))) : P (s.stageBegin a) := by
  simp only [State.stageBegin, hloading, Bool.false_eq_true, if_false]
  refine foldl_keeps P _ (fun x e hx => ?_) _ _ hmark
  split
  · exact hx
  · split
    · exact hx
    · exact foldl_keeps P _ (fun y j hy => hslot y _ j hy) _ _ hx

/-! ### ACTIVATE -/

/-- ACTIVATE's steps up to staging: STAGING, the flips armed, and the tests of the named shafts aborted. -/
def State.activated (s : State) (a : Activation) : State :=
  ({ s.setImg Img.STAGING with act := some a }.eachShaft (fun n x => if a.flips n then x.setReg n .HWR_EPOCH_ARMED 1 else x)).eachShaft
    (fun n x => if entsName a.ents n then x.testAbort n else x)

theorem State.imgActivate_of_passes {g : Image} (hg : s.imageIn s.inactiveB = g) (h : s.activateCause g = Icf.NONE) :
    s.imgActivate = s.activated (s.newActivation g) ∨ s.imgActivate = (s.activated (s.newActivation g)).stageBegin (s.newActivation g) := by
  subst hg
  simp only [State.imgActivate, h, ne_eq, not_true, if_false]
  split
  · exact .inl rfl
  · exact .inr rfl

theorem State.imgActivate_of_fails {g : Image} (hg : s.imageIn s.inactiveB = g) (h : s.activateCause g ≠ Icf.NONE) : s.imgActivate =
    (s.imgFail (s.activateCause g) 0 noPart).devEvent 0x0A05 Sev.warning 0xFFFF (failDetail (s.activateCause g) 0 noPart) := by
  subst hg
  exact if_pos h

/-- A view that shows no shaft and neither flips nor tests. -/
theorem State.activated_view {α : Type} {view : State → α} {seen : List Fld} (hview : ∀ n, Blind view n seen) (hseen : ∀ f ∈ testFields, f ∉ seen)
    (hflip : .HWR_EPOCH_ARMED ∉ seen) (a : Activation) : view (s.activated a) = view { s.setImg Img.STAGING with act := some a } := by
  refine (State.eachShaft_view (fun x n => ?_) _).trans (State.eachShaft_view (fun x n => ?_) _)
  · split
    · exact (hview n).testAbort hseen x
    · rfl
  · split
    · exact (hview n).setF x n.val 0 1 hflip
    · rfl

theorem State.armed_setReg (n m : Shaft) : (s.setReg m .HWR_EPOCH_ARMED 1).reg n .HWR_EPOCH_ARMED = if n = m then 1 else s.reg n .HWR_EPOCH_ARMED := by
  split
  next h =>
    subst h
    exact State.reg_setReg_same ..
  next h => exact s.getF_setF_other 1 (by omega) (by omega) (fun hkey => h (Fin.ext hkey.2.1))

theorem mem_indices (n : Shaft) : n ∈ Oct.indices := by revert n; decide

/-- A shaft whose microcode flips is armed. -/
theorem State.armed_activated {a : Activation} {n : Shaft} (h : a.flips n = true) : (s.activated a).reg n .HWR_EPOCH_ARMED = 1 := by
  have htests := State.eachShaft_view (view := fun x => x.reg n .HWR_EPOCH_ARMED) (f := fun m x => if entsName a.ents m then x.testAbort m else x)
    (fun x m => by
      split
      · exact (Blind.getF (n := m) (f := .HWR_EPOCH_ARMED) (by decide) n.val 0).testAbort (by decide) x
      · rfl) ({ s.setImg Img.STAGING with act := some a }.eachShaft (fun m x => if a.flips m then x.setReg m .HWR_EPOCH_ARMED 1 else x))
  obtain ⟨-, hall⟩ := foldl_establishes (Q := fun _ : State => True) (P := fun m x => m = n → x.reg n .HWR_EPOCH_ARMED = 1)
    (f := fun (x : State) m => if a.flips m then x.setReg m .HWR_EPOCH_ARMED 1 else x) (fun _ _ _ => trivial)
    (fun x m m' _ hm hn => by
      split
      · rw [State.armed_setReg, hm hn, ite_self]
      · exact hm hn)
    (fun x m _ hn => by
      subst hn
      rw [if_pos h, State.armed_setReg, if_pos rfl]) Oct.indices { s.setImg Img.STAGING with act := some a } trivial
  exact htests.trans (hall n (mem_indices n) rfl)

/-! ### The whole of ACTIVATE -/

/-- What ACTIVATE leaves when its checks pass. -/
theorem State.imgActivate_leaves {g : Image} (hg : s.imageIn s.inactiveB = g) (h : s.activateCause g = Icf.NONE) :
    s.imgActivate.img = Img.STAGING ∧ s.imgActivate.Loads (s.newActivation g) ∧ s.imgActivate.flash = s.flash ∧
      ∀ n : Shaft, (s.newActivation g).flips n = true → s.imgActivate.reg n .HWR_EPOCH_ARMED = 1 := by
  have himg : (s.activated (s.newActivation g)).img = Img.STAGING :=
    (State.activated_view (view := State.img) (fun n => Blind.getF (f := .IMG_STATE_STATE) (by decide) 8 0) (by decide) (by decide) _).trans
      (s.dev_setDev_same .IMG_STATE_STATE Img.STAGING 0)
  have hact : (s.activated (s.newActivation g)).act = some (s.newActivation g) :=
    State.activated_view (view := State.act) (fun n => Blind.act) (by decide) (by decide) _
  have hflash : (s.activated (s.newActivation g)).flash = s.flash :=
    State.activated_view (view := State.flash) (fun n => Blind.flash) (by decide) (by decide) _
  have harmed := fun n => State.armed_activated (s := s) (a := s.newActivation g) (n := n)
  rcases State.imgActivate_of_passes hg h with heq | heq
  · rw [heq]
    exact ⟨himg, ⟨_, hact, rfl, nofun⟩, hflash, harmed⟩
  · rw [heq]
    have hview : ∀ {α : Type} {view : State → α} {seen : List Fld}, (∀ n, Blind view n seen) → (∀ f ∈ loadFields, f ∉ seen) →
        (∀ (x : State) (f : Activation → Activation), view (x.updAct f) = view x) →
        view ((s.activated (s.newActivation g)).stageBegin (s.newActivation g)) = view (s.activated (s.newActivation g)) :=
      fun {α view seen} hblind hseen hupd => State.stageBegin_keeps (P := fun x => view x = view (s.activated (s.newActivation g)))
        (fun x n j hx => ((hblind n).slotLoading hseen hupd x j).trans hx) rfl (hupd _ _)
    refine ⟨(hview (fun n => Blind.getF (f := .IMG_STATE_STATE) (by decide) 8 0) (by decide) (fun _ _ => rfl)).trans himg, ?_,
      (hview (fun n => Blind.flash) (by decide) (fun _ _ => rfl)).trans hflash, fun n hn => ?_⟩
    · refine State.stageBegin_keeps (P := fun x => x.Loads (s.newActivation g)) (fun x n j hx => hx.slotLoading n j) rfl
        ⟨{ s.newActivation g with loading := true }, ?_, rfl, nofun⟩
      rw [State.updAct, hact]
      rfl
    · exact (hview (fun m => Blind.getF (f := .HWR_EPOCH_ARMED) (by decide) n.val 0) (by decide) (fun _ _ => rfl)).trans (harmed n hn)

theorem State.activateCause_lt (g : Image) : s.activateCause g < 32 := by
  simp only [State.activateCause]
  split_ifs <;> decide

theorem State.dev_imgFail_cause (c d p : Nat) : (s.imgFail c d p).dev .IMG_FAIL_CAUSE = c % 32 := by
  rw [State.imgFail, State.dev_setDev_field (by decide), State.dev_setDev_field (by decide)]
  exact State.dev_setDev_same ..

/-- What ACTIVATE leaves when a check fails. -/
theorem State.imgActivate_refused {g : Image} (hg : s.imageIn s.inactiveB = g) (h : s.activateCause g ≠ Icf.NONE) : s.imgActivate.img = s.img ∧
    s.imgActivate.shafts = s.shafts ∧ s.imgActivate.dev .IMG_FAIL_CAUSE = s.activateCause g ∧ s.imgActivate.act = s.act ∧
    s.imgActivate.flash = s.flash := by
  rw [State.imgActivate_of_fails hg h]
  refine ⟨?_, State.event_shafts .., ?_, State.event_act .., State.event_flash ..⟩
  · refine (State.dev_event _ _ _ _ _ (by decide)).trans ?_
    rw [State.imgFail, State.dev_setDev_field (by decide), State.dev_setDev_field (by decide), State.dev_setDev_field (by decide)]
    rfl
  · refine (State.dev_event _ _ _ _ _ (by decide)).trans (State.dev_imgFail_cause _ _ _ |>.trans ?_)
    exact Nat.mod_eq_of_lt (State.activateCause_lt g)

/-! ### The end of ARM -/

theorem State.imgRefuse_leaves (c d p : Nat) : (s.imgRefuse c d p).img = Img.REFUSED ∧ (s.imgRefuse c d p).dev .IMG_FAIL_CAUSE = c % 32 ∧
    (s.imgRefuse c d p).shafts = s.shafts ∧ (s.imgRefuse c d p).flash = s.flash := by
  refine ⟨?_, ?_, State.event_shafts .., State.event_flash ..⟩
  · exact (State.dev_event _ _ _ _ _ (by decide)).trans (State.dev_setDev_same ..)
  · refine (State.dev_event _ _ _ _ _ (by decide)).trans ((State.dev_setDev_field (by decide)).trans ?_)
    exact State.dev_imgFail_cause ..

/-- Validation ends at once when the image was opened and not streamed to its length (R389). -/
theorem State.armDone_of_incomplete (himg : s.img = Img.VALIDATING) (hwbuf : s.wbuf = []) (hopen : s.armOpen = true)
    (hshort : s.dev .IMG_STREAM_NEXT < max 4096 (s.imageIn s.inactiveB).hdr.length) : s.armDone = s.imgRefuse Icf.INCOMPLETE 0 noPart := by
  rw [State.armDone, if_neg (by simp [himg, hwbuf])]
  exact if_pos ⟨hopen, hshort⟩

/-- Otherwise it is R375's word on the slot. -/
theorem State.armDone_of_complete (himg : s.img = Img.VALIDATING) (hwbuf : s.wbuf = [])
    (hlong : s.armOpen = false ∨ max 4096 (s.imageIn s.inactiveB).hdr.length ≤ s.dev .IMG_STREAM_NEXT) : s.armDone =
      if (s.slotCause s.inactiveB (fun _ => true)).1 ≠ Icf.NONE then
        s.imgRefuse (s.slotCause s.inactiveB (fun _ => true)).1 (s.slotCause s.inactiveB (fun _ => true)).2.1 (s.slotCause s.inactiveB (fun _ => true)).2.2
      else (s.setImg Img.ARMED).devEvent 0x0A02 Sev.info 0xFFFF (detail64 (s.imageIn s.inactiveB).hdr.id) := by
  have hshort : ¬(s.armOpen = true ∧ s.dev .IMG_STREAM_NEXT < max 4096 (s.imageIn s.inactiveB).hdr.length) := by
    rintro ⟨hopen, hlt⟩
    rcases hlong with hshut | hle
    · exact Bool.false_ne_true (hshut.symm.trans hopen)
    · omega
  rw [State.armDone, if_neg (by simp [himg, hwbuf])]
  exact if_neg hshort

end Sys2Proof.Machine
end

section
/-! PROOF. O45: OPEN, ARM, ACTIVATE, CANCEL and CONFIRM. -/

namespace Sys2Proof.Machine

variable {s : State}

/-- What OPEN leaves. -/
theorem State.imgOpen_shows : s.imgOpen.img = Img.OPEN ∧ s.imgOpen.dev .IMG_STREAM_NEXT = 0 ∧ s.imgOpen.dev .IMG_SLOTS_PARTIAL_LIVE = 0 ∧
    s.imgOpen.dev .IMG_CMD_STAT_RESULT = s.dev .IMG_CMD_STAT_RESULT ∧ s.imgOpen.dev .IMG_CMD_STAT_BUSY = s.dev .IMG_CMD_STAT_BUSY ∧
    s.imgOpen.wbuf = [] ∧ s.imgOpen.erased = [] ∧ s.imgOpen.flash = s.flash ∧ s.imgOpen.log = s.log := by
  obtain ⟨F, hopen⟩ := State.imgOpen_leaves (s := s)
  have hview : ∀ {α : Type} {view : State → α}, (∀ (a : State) (n : Shaft) (f : ShaftSt → ShaftSt), view (a.updSh n f) = view a) → view s.imgOpen = _ :=
    fun h => (congrArg _ hopen).trans (State.eachShaft_updSh_view h F _)
  have hdev : ∀ f, s.imgOpen.dev f = _ := fun f => hview (view := fun a => a.dev f) (fun _ _ _ => rfl)
  refine ⟨(hdev _).trans (State.dev_setDev_same ..), (hdev _).trans ?_, (hdev _).trans ?_, (hdev _).trans ?_, (hdev _).trans ?_,
    hview (view := State.wbuf) (fun _ _ _ => rfl), hview (view := State.erased) (fun _ _ _ => rfl), hview (view := State.flash) (fun _ _ _ => rfl),
    hview (view := State.log) (fun _ _ _ => rfl)⟩
  all_goals simp (disch := decide) only [State.setImg, State.dev_setDev_field, State.dev_setDev_same]
  all_goals rfl

/-- The commands of IMG.CMD and their OPs. -/
theorem exec_imgCommands (hfree : s.CageFree) (hgate : s.gated 8 .IMG = false) (hbusy : s.blockBusy 8 .IMG = false) :
    exec .imgOpen s = .next (s.imgCmd 1) ∧ exec .arm s = .next (s.imgCmd 2) ∧ exec .activate s = .next (s.imgCmd 3) ∧
      exec .cancel s = .next (s.imgCmd 4) ∧ exec .confirm s = .next (s.imgCmd 5) := by
  have hgo : ∀ op ∈ [1, 2, 3, 4, 5], (.next (s.cageTurn (fun a => a.imgGo op)) : Out) = .next (s.imgCmd op) := fun op hop =>
    congrArg Host.Outcome.next (State.imgGo_of_open hfree hgate hbusy hop)
  exact ⟨hgo 1 (by decide), hgo 2 (by decide), hgo 3 (by decide), hgo 4 (by decide), hgo 5 (by decide)⟩

/-- Settles O45: a command is taken up, and each acts in the state it is DONE in, of which its checks see what they saw before. -/
theorem imageCommands : Obligations.ImageCommands := by
  unfold Obligations.ImageCommands
  intro s
  refine ⟨fun hfree hgate hbusy => ?commands, fun himg hwbuf => ⟨fun hopen hshort => ?short, fun hlong => ?long⟩⟩
  case commands =>
    obtain ⟨hopen, harm, hactivate, hcancel, hconfirm⟩ := exec_imgCommands hfree hgate hbusy
    refine ⟨fun hlost c hc => ?lost, fun hidle => ⟨fun c op hc hallows => ?wrong, fun himg hprobation => ?opens, fun himg => ?arms, fun himg => ?cancels,
      fun hprobation => ?confirms, fun himg => ⟨fun hnone => ?activates, fun hcause => ?stays⟩⟩⟩
    case lost =>
      simp only [List.mem_cons, List.not_mem_nil, or_false] at hc
      have hdropped := fun op => State.imgCmd_of_busy hlost op
      rcases hc with rfl | rfl | rfl | rfl | rfl
      · rw [hopen, hdropped]
      · rw [harm, hdropped]
      · rw [hactivate, hdropped]
      · rw [hcancel, hdropped]
      · rw [hconfirm, hdropped]
    case wrong =>
      have hwrong := State.imgCmd_of_wrongState hidle hallows
      simp only [List.mem_cons, List.not_mem_nil, or_false, Prod.mk.injEq] at hc
      rcases hc with ⟨rfl, rfl⟩ | ⟨rfl, rfl⟩ | ⟨rfl, rfl⟩ | ⟨rfl, rfl⟩ | ⟨rfl, rfl⟩
      · rw [hopen, hwrong]
      · rw [harm, hwrong]
      · rw [hactivate, hwrong]
      · rw [hcancel, hwrong]
      · rw [hconfirm, hwrong]
    all_goals obtain ⟨hdoOpen, hdoArm, hdoActivate, hdoCancel, hdoConfirm⟩ := State.imgCmd_of_allowed hidle
    case opens =>
      have hallows : s.imgAllows 1 = true := by
        rcases himg with himg | himg | himg <;> simp [State.imgAllows, State.mayOpen, himg, State.devB_eq_false.mpr hprobation]
      obtain ⟨hstate, hnext, hpartial, hresult, hbusy', hwbuf, herased, hflash, hlog⟩ := State.imgOpen_shows (s := s.imgTaken)
      obtain ⟨hdone, hbusyTaken⟩ := State.stat_imgTaken (s := s)
      exact ⟨_, hopen.trans (congrArg Host.Outcome.next (hdoOpen hallows)), hstate, hnext, hpartial, hresult.trans hdone, hbusy'.trans hbusyTaken,
        State.busy_imgUs, hwbuf, herased, hflash, hlog⟩
    case arms =>
      have hallows : s.imgAllows 2 = true := by
        rcases himg with himg | himg | himg <;> simp [State.imgAllows, himg]
      rw [harm, hdoArm hallows, State.imgArm, State.img_imgTaken]
      rfl
    case cancels =>
      have hallows : s.imgAllows 4 = true := by simp [State.imgAllows, himg]
      rw [hcancel, hdoCancel hallows, State.imgCancel, State.img_imgTaken, if_pos himg]
      rfl
    case confirms =>
      have hallows : s.imgAllows 5 = true := State.devB_eq_true.mpr hprobation
      rw [hconfirm, hdoConfirm hallows, State.imgConfirm, State.devB_imgTaken (by decide)]
      rfl
    case activates =>
      have hallows : s.imgAllows 3 = true := by simp [State.imgAllows, himg]
      have hg : s.imgTaken.imageIn s.imgTaken.inactiveB = s.imageIn s.inactiveB := congrArg s.imageIn State.inactiveB_imgTaken
      obtain ⟨hstate, hloads, hflash, harmed⟩ := State.imgActivate_leaves hg ((State.activateCause_imgTaken _).trans hnone)
      rw [State.newActivation_imgTaken] at hloads harmed
      exact ⟨_, hactivate.trans (congrArg Host.Outcome.next (hdoActivate hallows)), hstate, hloads, hflash, harmed⟩
    case stays =>
      have hallows : s.imgAllows 3 = true := by simp [State.imgAllows, himg]
      have hg : s.imgTaken.imageIn s.imgTaken.inactiveB = s.imageIn s.inactiveB := congrArg s.imageIn State.inactiveB_imgTaken
      obtain ⟨hstate, hshafts, hfail, hact, hflash⟩ :=
        State.imgActivate_refused hg (by rw [State.activateCause_imgTaken]; exact hcause)
      exact ⟨_, hactivate.trans (congrArg Host.Outcome.next (hdoActivate hallows)), hstate.trans (State.img_imgTaken.trans himg), hshafts,
        hfail.trans (State.activateCause_imgTaken _), hact, hflash⟩
  case short =>
    obtain ⟨hstate, hfail, hshafts, -⟩ := State.imgRefuse_leaves (s := s) Icf.INCOMPLETE 0 noPart
    exact ⟨_, congrArg Host.Outcome.next (State.armDone_of_incomplete himg hwbuf hopen hshort), hstate, hfail, hshafts⟩
  case long =>
    have hdone := State.armDone_of_complete himg hwbuf hlong
    refine ⟨_, congrArg Host.Outcome.next hdone, ?_⟩
    split
    next hcause =>
      obtain ⟨hstate, hfail, hshafts, hflash⟩ := State.imgRefuse_leaves (s := s) (s.slotCause s.inactiveB (fun _ => true)).1
        (s.slotCause s.inactiveB (fun _ => true)).2.1 (s.slotCause s.inactiveB (fun _ => true)).2.2
      exact ⟨hshafts, hflash, hstate, fun _ => hfail⟩
    next hgood =>
      have hnone := not_not.mp hgood
      refine ⟨State.event_shafts .., State.event_flash .., ?_, fun h => absurd hnone h⟩
      exact (State.dev_event _ _ _ _ _ (by decide)).trans ((s.dev_setDev_same .IMG_STATE_STATE Img.ARMED 0).trans (if_pos hnone).symm)

end Sys2Proof.Machine
end
